-- ==== Sys2Proof/Word.lean ====
section
/-!
DEFINITION. The byte and word types and their plainest arithmetic.
-/
namespace Sys2Proof

/-- A byte of a buffer, ring or packet. -/
abbrev Byte := BitVec 8

/-- A register word (R9). -/
abbrev Word := BitVec 32

end Sys2Proof
end

