-- ==== Sys2Proof/Syntax.lean ====
section
/-!
DEFINITION. The commands of the TX9 block as syntax: packet headers, deal entries, sensor lines and what an event
brings with it, and `Instr`, one constructor per row of the operations-and-events table.
-/
namespace Sys2Proof

/-- The three transports of R68. -/
inductive Transport where
  | pcie | spi | draxa
deriving DecidableEq, Repr

/-- A host endpoint (R68): a PCIe function 0 … 3, a SPI port 0 … 1, or a Draxa controller channel 0 … 127 (R343). -/
structure Endpoint where
  transport : Transport
  number : Nat
deriving DecidableEq, Repr

/-- Where a packet reached the TX9: the submission ring of a slot, or an endpoint's attach mailbox (R73). -/
inductive Via where
  | ring (slot : Fin 8)
  | mailbox (ep : Endpoint)
deriving DecidableEq, Repr

/-- The packet header of R61 as received. OPCODE is the constructor that carries the header;
`crcOk` says whether the CRC field matches the bytes (the doorbell computes it from raw bytes). -/
structure Hdr where
  via : Via
  magic : BitVec 16
  version : BitVec 8
  slotByte : BitVec 8
  seq : BitVec 32
  flags : BitVec 16
  paramLen : Nat
  launch : BitVec 64
  reserved : BitVec 32
  crcOk : Bool
deriving DecidableEq, Repr

/-- A deal entry of R47: its six words. -/
structure Entry where
  w0 : BitVec 32
  w1 : BitVec 32
  w2 : BitVec 32
  w3 : BitVec 32
  w4 : BitVec 32
  w5 : BitVec 32
deriving DecidableEq, Repr

/-- How a sensor line arrived (R105, R316): whole, failing a CRC or ECC check, out of lane alignment, or finding
the requester port's buffer full. -/
inductive LineFault where
  | none | check | alignment | portFull
deriving DecidableEq, Repr

/-- One sensor line: the virtual channel or Draxa sub-channel it came on, its samples, how it arrived, whether a header
ECC correction was made, and whether the line carried the frame end marker (R91, R100, R344). -/
structure Line where
  vc : Nat
  px : List Nat
  fault : LineFault
  eccFixed : Bool
  frameEnd : Bool
deriving DecidableEq, Repr

/-- The parameters of R180, shared by every "as R180" read. -/
structure ReadArgs where
  frame : Nat
  sof : Nat
  latest : Bool
  off : Nat
  len : Nat
deriving DecidableEq, Repr

/-- A magazine's label (R259, R303): its serial number, format time, T, U, SPARE, the serial number of the TX9 that formatted it, the
superblocks of the checkpoint slots, of the journal ring and of the last resort, and storage target mode. -/
structure Label where
  serial : List Byte
  formatted : Nat
  total : Nat
  user : Nat
  spare : Nat
  module : List Byte
  slots : List Nat
  ring : List Nat
  lastResort : Nat
  target : Bool
deriving DecidableEq, Repr

/-- A programmed stripe (R258, R261): the granule and the write sequence that the tags of its pages carry beside the page index, and its
2 MiB. -/
structure Stripe where
  granule : Nat
  seq : Nat
  data : List Byte
deriving DecidableEq, Repr

/-- A checkpoint (R263): its sequence, the first journal page it does not cover, the stripe of each mapped granule, erase counts as
what all superblocks share and what each has beyond, and the retired superblocks. -/
structure Checkpoint where
  seq : Nat
  first : Nat
  map : List (Nat × Nat)
  erasedAll : Nat
  erases : List (Nat × Nat)
  retired : List Nat
deriving DecidableEq, Repr

/-- A stripe of a frame's coded bytes: the frame's number, and which of its stripes (R279, R281). -/
structure FrameStripe where
  frame : Nat
  stripe : Nat
deriving DecidableEq, Repr

/-- How a label copy reads: not at all, without a CRC that matches, or valid (R257, R276). -/
inductive LabelCopy where
  | unreadable
  | invalid
  | valid (l : Label)
deriving DecidableEq, Repr

/-- What a MOUNT reads from a magazine's NAND (R276): both label copies, checkpoint slots A and B where every CRC matches, the pages of
the journal ring by their place, and the stripes by PSN. -/
structure MountFound where
  copy0 : LabelCopy
  copy1 : LabelCopy
  slotA : Option Checkpoint
  slotB : Option Checkpoint
  pages : List (Nat × List Byte)
  stripes : List (Nat × Stripe)
deriving DecidableEq, Repr

/-- One telemetry sample (R415 … R417): rail voltages [mV] and currents [10 mA], the regulators' own current
estimates [10 mA], rails whose test offset did not appear, VIN [mV], bank [10 mV], lid readings [0.1 °C], lid sensors
whose test offset did not appear. -/
structure Telemetry where
  volts : List Nat
  amps : List Int
  estimate : List Int
  stuckRails : List Nat
  vin : Nat
  bank : Nat
  lids : List Int
  stuckLids : List Nat
deriving DecidableEq, Repr

/-- How each step of R456 ended in one start-up, the key store slot whose check failed (R449), the time READY took [ms], and the
VSEL straps of the six banks as t0 finds
them, VSELb_1 in bit 1 and VSELb_0 in bit 0 (R471). -/
structure StartOutcome where
  railsOk : Bool
  activeImageOk : Bool
  previousImageOk : Bool
  keyFault : Option Nat
  memoryOk : Bool
  readyMs : Nat
  straps : List Nat
deriving DecidableEq, Repr

/-- The commands the block takes: one constructor per row of the operations-and-events table:
the packets in its order, then the deal actions and events in its order. A packet row carries its header `h`; an event row carries what the outside world contributes to the event. -/
inductive Instr where
  /-- SYS_IDENTITY (R87). -/
  | sysIdentity (h : Hdr)
  /-- SYS_STATUS (R86). -/
  | sysStatus (h : Hdr)
  /-- REG_READ (R86). -/
  | regRead (h : Hdr) (addr : Nat) (count : Nat)
  /-- REG_WRITE (R86). -/
  | regWrite (h : Hdr) (addr : Nat) (count : Nat) (words : List (BitVec 32))
  /-- REG_MODIFY (R86). -/
  | regModify (h : Hdr) (addr : Nat) (mask : BitVec 32) (value : BitVec 32)
  /-- SYS_RESET (R463). -/
  | sysReset (h : Hdr) (kind : Nat)
  /-- SYS_SHUTDOWN (R464). -/
  | sysShutdown (h : Hdr)
  /-- FW_BEGIN (R86). -/
  | fwBegin (h : Hdr) (len : Nat)
  /-- FW_DATA (R86). -/
  | fwData (h : Hdr) (off : Nat) (data : List Byte)
  /-- FW_COMMIT (R86). -/
  | fwCommit (h : Hdr)
  /-- SYS_SUBSCRIBE (R64). -/
  | sysSubscribe (h : Hdr) (mask : BitVec 32)
  /-- SYS_BOOT_SET (R75). -/
  | sysBootSet (h : Hdr) (transport : Nat) (number : Nat)
  /-- HOST_ATTACH (R74). -/
  | hostAttach (h : Hdr) (lease : Nat) (name : List Byte)
  /-- HOST_DETACH (R88). -/
  | hostDetach (h : Hdr)
  /-- HOST_HEARTBEAT (R82). -/
  | hostHeartbeat (h : Hdr)
  /-- HOST_LIST (R88). -/
  | hostList (h : Hdr)
  /-- LEASE_SET (R82). -/
  | leaseSet (h : Hdr) (slot : Nat) (lease : Nat)
  /-- RES_ASSIGN (R80). -/
  | resAssign (h : Hdr) (target : Nat) (ids : List Nat)
  /-- RES_RELEASE (R80). -/
  | resRelease (h : Hdr) (ids : List Nat)
  /-- RES_QUERY (R88). -/
  | resQuery (h : Hdr) (ids : List Nat)
  /-- PART_SET (R81). -/
  | partSet (h : Hdr) (slot : Nat) (pool : Nat) (clusters : Nat)
  /-- DCK_INFO (R58). -/
  | dckInfo (h : Hdr)
  /-- DCK_SOURCE_SET (R37). -/
  | dckSourceSet (h : Hdr) (src : BitVec 32) (ref : BitVec 32) (ctrl : BitVec 32)
  /-- DCK_STEP (R34). -/
  | dckStep (h : Hdr) (time : Nat)
  /-- DEAL_QUEUE (R51). -/
  | dealQueue (h : Hdr) (entries : List (Nat × Entry))
  /-- DEAL_CANCEL (R55). -/
  | dealCancel (h : Hdr) (port : Nat) (tag : Nat)
  /-- DEAL_PORT_SET (R46). -/
  | dealPortSet (h : Hdr) (port : Nat) (ctrl : BitVec 32)
  /-- TC_SET (R41). -/
  | tcSet (h : Hdr) (cfg : BitVec 32) (anchor : BitVec 32) (time : Nat) (ub : BitVec 32) (jam : Bool)
  /-- DEAL_LIST (R58). -/
  | dealList (h : Hdr) (port : Nat)
  /-- SNS_INFO (R111). -/
  | snsInfo (h : Hdr) (ctx : Nat)
  /-- SNS_PORT_CONFIG (R92). -/
  | snsPortConfig (h : Hdr) (ctx : Nat) (cfg : BitVec 32) (maps : List (BitVec 32)) (sync : BitVec 32)
  /-- SNS_CTX_CONFIG (R92). -/
  | snsCtxConfig (h : Hdr) (ctx : Nat) (cfg : BitVec 32) (geom : BitVec 32) (timing : BitVec 32) (trig : BitVec 32) (src : BitVec 32)
  /-- SNS_CTX_ENABLE (R131). -/
  | snsCtxEnable (h : Hdr) (ctx : Nat)
  /-- SNS_CTX_DISABLE (R132). -/
  | snsCtxDisable (h : Hdr) (ctx : Nat)
  /-- SNS_SCB_CONFIG (R108). -/
  | snsScbConfig (h : Hdr) (bus : Nat) (cfg : BitVec 32)
  /-- SNS_SCB_LIST_LOAD (R109). -/
  | snsScbListLoad (h : Hdr) (bus : Nat) (list : Nat) (ops : List (List Byte))
  /-- SNS_SCB_XFER (R110). -/
  | snsScbXfer (h : Hdr) (bus : Nat) (op : List Byte)
  /-- SNS_SCB_RESULT (R111). -/
  | snsScbResult (h : Hdr) (bus : Nat) (list : Nat)
  /-- PIP_INFO (R142). -/
  | pipInfo (h : Hdr) (ctx : Nat)
  /-- PIP_CTX_CONFIG (R130). -/
  | pipCtxConfig (h : Hdr) (ctx : Nat) (cfg : BitVec 32) (units : Nat)
  /-- PIP_PARAM_SET (R127). -/
  | pipParamSet (h : Hdr) (ctx : Nat) (params : List (BitVec 32))
  /-- PIP_DEFECT_LOAD (R119). -/
  | pipDefectLoad (h : Hdr) (ctx : Nat) (bank : Nat) (first : Nat) (count : Nat) (last : Bool) (entries : List (BitVec 32))
  /-- PIP_SHADE_LOAD (R122). -/
  | pipShadeLoad (h : Hdr) (ctx : Nat) (bank : Nat) (plane : Nat) (first : Nat) (count : Nat) (gains : List Nat)
  /-- PIP_TAP_CONFIG (R126). -/
  | pipTapConfig (h : Hdr) (ctx : Nat) (slots : Nat)
  /-- PIP_INLINE_SET (R139). -/
  | pipInlineSet (h : Hdr) (ctx : Nat)
  /-- PIP_BANK_SWAP (R128). -/
  | pipBankSwap (h : Hdr) (ctx : Nat) (bank : Nat)
  /-- PIP_DROP_LOG (R137). -/
  | pipDropLog (h : Hdr) (ctx : Nat)
  /-- COL_INFO (R167). -/
  | colInfo (h : Hdr) (isOutput : Bool) (index : Nat)
  /-- COL_CTX_CONFIG (R152). -/
  | colCtxConfig (h : Hdr) (ctx : Nat) (calAlloc : Nat) (devSlots : Nat)
  /-- COL_CAL_LOAD (R154). -/
  | colCalLoad (h : Hdr) (ctx : Nat) (bank : Nat) (region : Nat) (first : Nat) (count : Nat) (data : List Nat)
  /-- COL_CAL_SEAL (R154). -/
  | colCalSeal (h : Hdr) (ctx : Nat) (bank : Nat) (crc : BitVec 32)
  /-- COL_CAL_SWAP (R155). -/
  | colCalSwap (h : Hdr) (ctx : Nat) (bank : Nat)
  /-- COL_LOOK_CONFIG (R163). -/
  | colLookConfig (h : Hdr) (out : Nat) (src : Nat) (banks : Nat) (run : Nat)
  /-- COL_LOOK_LOAD (R163). -/
  | colLookLoad (h : Hdr) (out : Nat) (bank : Nat) (part : Nat) (first : Nat) (count : Nat) (data : List Nat)
  /-- COL_LOOK_SEAL (R163). -/
  | colLookSeal (h : Hdr) (out : Nat) (bank : Nat) (crc : BitVec 32)
  /-- COL_LOOK_SWAP (R164). -/
  | colLookSwap (h : Hdr) (out : Nat) (bank : Nat)
  /-- COL_LOOK_PARAM (R159). -/
  | colLookParam (h : Hdr) (out : Nat) (mode : BitVec 32) (mats : List (BitVec 32)) (lo : BitVec 32) (hi : BitVec 32) (tfs : List (BitVec 32))
  /-- STA_INFO (R182). -/
  | staInfo (h : Hdr) (ctx : Nat)
  /-- STA_CTX_CONFIG (R179). -/
  | staCtxConfig (h : Hdr) (ctx : Nat) (en : Nat) (slots : Nat)
  /-- STA_CFG_SET (R175). -/
  | staCfgSet (h : Hdr) (ctx : Nat) (bank : Nat) (values : List (BitVec 32))
  /-- STA_CFG_SWAP (R175). -/
  | staCfgSwap (h : Hdr) (ctx : Nat) (bank : Nat)
  /-- STA_READ (R180). -/
  | staRead (h : Hdr) (ctx : Nat) (rd : ReadArgs)
  /-- STA_DELIVER (R181). -/
  | staDeliver (h : Hdr) (ctx : Nat) (addr : Nat) (slots : Nat)
  /-- ENG_INFO (R203). -/
  | engInfo (h : Hdr) (isKernel : Bool) (id : Nat)
  /-- ENG_KERNEL_CREATE (R190). -/
  | engKernelCreate (h : Hdr) (clusters : List Nat) (len : Nat)
  /-- ENG_KERNEL_DATA (R190). -/
  | engKernelData (h : Hdr) (handle : Nat) (off : Nat) (data : List Byte)
  /-- ENG_KERNEL_SEAL (R190). -/
  | engKernelSeal (h : Hdr) (handle : Nat)
  /-- ENG_INPUT_ATTACH (R193). -/
  | engInputAttach (h : Hdr) (handle : Nat) (input : Nat) (frameKind : Bool) (ctx : Nat) (tap : Nat) (fmt : Nat) (rows : Nat) (granules : Nat)
  /-- ENG_OUTPUT_CONFIG (R199). -/
  | engOutputConfig (h : Hdr) (handle : Nat) (output : Nat) (slots : Nat) (bytes : Nat)
  /-- ENG_KERNEL_START (R192). -/
  | engKernelStart (h : Hdr) (handle : Nat)
  /-- ENG_KERNEL_STOP (R192). -/
  | engKernelStop (h : Hdr) (handle : Nat)
  /-- ENG_KERNEL_FREE (R203). -/
  | engKernelFree (h : Hdr) (handle : Nat)
  /-- ENG_RESULT_READ (R200). -/
  | engResultRead (h : Hdr) (handle : Nat) (output : Nat) (rd : ReadArgs)
  /-- MLS_INFO (R237). -/
  | mlsInfo (h : Hdr) (isStream : Bool) (id : Nat)
  /-- MLS_CTX_CREATE (R231). -/
  | mlsCtxCreate (h : Hdr) (profile : Nat) (src : Nat) (dest : Nat) (index : Nat) (hostMib : Nat) (target : BitVec 32) (ceil : BitVec 32) (rc : BitVec 32) (mp : BitVec 32) (tfp : BitVec 32)
  /-- MLS_CTX_SET (R223). -/
  | mlsCtxSet (h : Hdr) (handle : Nat) (target : BitVec 32) (ceil : BitVec 32) (rc : BitVec 32) (mp : BitVec 32) (tfp : BitVec 32)
  /-- MLS_CTX_DELETE (R237). -/
  | mlsCtxDelete (h : Hdr) (handle : Nat)
  /-- MLS_STREAM_BIND (R235). -/
  | mlsStreamBind (h : Hdr) (stream : Nat) (handle : Nat)
  /-- MLS_STREAM_START (R235). -/
  | mlsStreamStart (h : Hdr) (stream : Nat)
  /-- MLS_STREAM_STOP (R235). -/
  | mlsStreamStop (h : Hdr) (stream : Nat)
  /-- MLS_SWITCH (R235). -/
  | mlsSwitch (h : Hdr) (stream : Nat) (handle : Nat)
  /-- MLS_PLAN_SET (R224). -/
  | mlsPlanSet (h : Hdr) (handle : Nat) (ceiling : Nat) (quants : List Nat)
  /-- MLS_RECORD_READ (R230). -/
  | mlsRecordRead (h : Hdr) (handle : Nat) (rd : ReadArgs)
  /-- MLS_CTX_RUN (R237). -/
  | mlsCtxRun (h : Hdr) (handle : Nat) (start : Bool)
  /-- MLS_DEC_INFO (R253). -/
  | mlsDecInfo (h : Hdr) (handle : Nat)
  /-- MLS_DEC_CREATE (R240). -/
  | mlsDecCreate (h : Hdr) (owner : Nat) (source : Nat) (srcIndex : Nat) (profile : Nat) (cols : Nat) (rows : Nat) (slots : Nat) (ring : Nat) (inMib : Nat) (rate : Nat) (conceal : Nat) (timeout : Nat)
  /-- MLS_DEC_START (R249). -/
  | mlsDecStart (h : Hdr) (handle : Nat)
  /-- MLS_DEC_STOP (R252). -/
  | mlsDecStop (h : Hdr) (handle : Nat)
  /-- MLS_DEC_DELETE (R252). -/
  | mlsDecDelete (h : Hdr) (handle : Nat)
  /-- MLS_DEC_FEED (R241). -/
  | mlsDecFeed (h : Hdr) (handle : Nat) (count : Nat) (tag : Nat) (data : List Byte)
  /-- MLS_DEC_READ (R242). -/
  | mlsDecRead (h : Hdr) (handle : Nat) (rd : ReadArgs)
  /-- MLS_DEC_RECORD_READ (R244). -/
  | mlsDecRecordRead (h : Hdr) (handle : Nat) (rd : ReadArgs)
  /-- MLS_DEC_SET (R255). -/
  | mlsDecSet (h : Hdr) (handle : Nat) (conceal : Nat) (timeout : Nat)
  /-- MED_INFO (R284). -/
  | medInfo (h : Hdr) (isStream : Bool) (index : Nat)
  /-- MED_MAG_FORMAT (R279). -/
  | medMagFormat (h : Hdr) (mag : Nat) (spare : Option Nat)
  /-- MED_MAG_EJECT (R263). -/
  | medMagEject (h : Hdr) (mag : Nat)
  /-- MED_TAKE_PREPARE (R264). -/
  | medTakePrepare (h : Hdr) (stream : Nat) (primary : Nat) (secondary : Nat) (takeId : List Byte) (metadata : List Byte)
  /-- MED_TAKE_START (R265). -/
  | medTakeStart (h : Hdr) (handle : Nat)
  /-- MED_TAKE_STOP (R265). -/
  | medTakeStop (h : Hdr) (handle : Nat)
  /-- MED_TAKE_MARK (R265). -/
  | medTakeMark (h : Hdr) (handle : Nat) (code : Nat)
  /-- MED_TAKE_LIST (R284). -/
  | medTakeList (h : Hdr) (mag : Nat) (first : Nat) (count : Nat)
  /-- MED_TAKE_READ (R284). -/
  | medTakeRead (h : Hdr) (mag : Nat) (entry : Nat) (seq : Nat) (off : Nat) (len : Nat)
  /-- MED_TAKE_DELETE (R284). -/
  | medTakeDelete (h : Hdr) (mag : Nat) (entry : Nat)
  /-- MED_CEIL_SET (R272). -/
  | medCeilSet (h : Hdr) (mag : Nat) (ceil : Nat)
  /-- MED_PLAY (R241). -/
  | medPlay (h : Hdr) (session : Nat) (mag : Nat) (entry : Nat) (first : Nat)
  /-- MED_TASK (R291). -/
  | medTask (h : Hdr) (cmd : BitVec 32) (lba : BitVec 32) (count : BitVec 32) (bufLo : BitVec 32) (bufHi : BitVec 32)
  /-- MED_QUEUE_RESET (R298). -/
  | medQueueReset (h : Hdr) (mag : Nat) (all : Nat)
  /-- MED_CQ_SET (R292). -/
  | medCqSet (h : Hdr) (base : Nat)
  /-- MED_MAG_TARGET (R303). -/
  | medMagTarget (h : Hdr) (mag : Nat) (on : Nat)
  /-- MED_BUF_ALLOC (R304). -/
  | medBufAlloc (h : Hdr) (mib : Nat)
  /-- MEM_INFO (R322). -/
  | memInfo (h : Hdr)
  /-- MEM_PORT_SET (R314). -/
  | memPortSet (h : Hdr) (port : Nat) (cfg : BitVec 32)
  /-- MEM_MARGIN (R312). -/
  | memMargin (h : Hdr) (stack : Nat)
  /-- MEM_MARGIN_READ (R322). -/
  | memMarginRead (h : Hdr) (stack : Nat)
  /-- MEM_TRAIN_READ (R322). -/
  | memTrainRead (h : Hdr) (stack : Nat)
  /-- MEM_ORDER_SET (R319). -/
  | memOrderSet (h : Hdr) (tx5 : Nat)
  /-- MEM_TEST (R310). -/
  | memTest (h : Hdr) (pattern : Nat) (mask : Nat)
  /-- MEM_DIAG_READ (R321). -/
  | memDiagRead (h : Hdr) (retry : Bool) (addr : Nat) (count : Nat) (pc : Nat)
  /-- LNK_INFO (R346). -/
  | lnkInfo (h : Hdr) (kind : Nat) (index : Nat)
  /-- LNK_QUAD_CONFIG (R326). -/
  | lnkQuadConfig (h : Hdr) (quad : Nat) (cfg : BitVec 32) (persist : Nat)
  /-- LNK_DRX_CONFIG (R332). -/
  | lnkDrxConfig (h : Hdr) (link : Nat) (cfg : BitVec 32)
  /-- LNK_ETH_CONFIG (R328). -/
  | lnkEthConfig (h : Hdr) (eth : Nat) (cfg : BitVec 32)
  /-- LNK_MAG_MAP (R345). -/
  | lnkMagMap (h : Hdr) (mag : Nat) (link : Nat)
  /-- LNK_PARTNER_READ (R338). -/
  | lnkPartnerRead (h : Hdr) (link : Nat)
  /-- LNK_PRBS (R331). -/
  | lnkPrbs (h : Hdr) (quad : Nat) (start : Nat) (pattern : Nat)
  /-- LNK_FOM_READ (R330). -/
  | lnkFomRead (h : Hdr) (quad : Nat)
  /-- LNK_LINK_RESET (R346). -/
  | lnkLinkReset (h : Hdr) (link : Nat)
  /-- OUT_INFO (R365). -/
  | outInfo (h : Hdr) (out : Nat)
  /-- OUT_CONFIG (R349). -/
  | outConfig (h : Hdr) (out : Nat) (cfg : BitVec 32) (lat : BitVec 32)
  /-- OUT_START (R356). -/
  | outStart (h : Hdr) (out : Nat)
  /-- OUT_STOP (R365). -/
  | outStop (h : Hdr) (out : Nat)
  /-- OUT_SOURCE_SET (R353). -/
  | outSourceSet (h : Hdr) (out : Nat) (src : BitVec 32)
  /-- OUT_SCALE_SET (R354). -/
  | outScaleSet (h : Hdr) (out : Nat) (crop0 : BitVec 32) (crop1 : BitVec 32) (dest0 : BitVec 32) (dest1 : BitVec 32) (fill : BitVec 32)
  /-- OUT_OVERLAY_SET (R360). -/
  | outOverlaySet (h : Hdr) (out : Nat) (ovl : BitVec 32) (rects : List Nat) (thrs : List Nat)
  /-- OUT_TEXT_SET (R360). -/
  | outTextSet (h : Hdr) (out : Nat) (line : Nat) (text : List Byte)
  /-- OUT_AUDIO_SET (R362). -/
  | outAudioSet (h : Hdr) (out : Nat) (aud : BitVec 32) (map : List Nat)
  /-- OUT_IP_SET (R351). -/
  | outIpSet (h : Hdr) (out : Nat) (settings : List Byte)
  /-- OUT_SDP_READ (R351). -/
  | outSdpRead (h : Hdr) (out : Nat)
  /-- AUD_INFO (R380). -/
  | audInfo (h : Hdr) (port : Nat)
  /-- AUD_CONFIG (R376). -/
  | audConfig (h : Hdr) (port : Nat) (cfg : BitVec 32) (fmt : BitVec 32) (cap : Nat) (play : Nat)
  /-- AUD_MASK_SET (R377). -/
  | audMaskSet (h : Hdr) (port : Nat) (m0 : BitVec 32) (m1 : BitVec 32) (m2 : BitVec 32) (m3 : BitVec 32)
  /-- AUD_START (R375). -/
  | audStart (h : Hdr) (mask : Nat) (time : Nat)
  /-- AUD_STOP (R380). -/
  | audStop (h : Hdr) (mask : Nat)
  /-- AUD_READ (R376). -/
  | audRead (h : Hdr) (port : Nat) (pos : Nat) (len : Nat)
  /-- AUD_WRITE (R376). -/
  | audWrite (h : Hdr) (port : Nat) (count : Nat) (data : List Byte)
  /-- EVF_INFO (R395). -/
  | evfInfo (h : Hdr) (kind : Nat) (index : Nat)
  /-- EVF_CHANNEL_SET (R385). -/
  | evfChannelSet (h : Hdr) (chan : Nat) (consumer : Nat) (spacing : Nat) (ceiling : Nat)
  /-- EVF_ENABLE_SET (R385). -/
  | evfEnableSet (h : Hdr) (chan : Nat) (enable : Nat) (producers : List Nat)
  /-- EVF_CELL_SET (R388). -/
  | evfCellSet (h : Hdr) (cell : Nat) (cfg : BitVec 32) (ins : BitVec 32)
  /-- EVF_PIN_SET (R393). -/
  | evfPinSet (h : Hdr) (pin : Nat) (cfg : BitVec 32)
  /-- EVF_SOURCE_SET (R384). -/
  | evfSourceSet (h : Hdr) (source : Nat)
  /-- EVF_SOURCE_CLEAR (R384). -/
  | evfSourceClear (h : Hdr) (source : Nat)
  /-- EVF_UNQUENCH (R392). -/
  | evfUnquench (h : Hdr) (chan : Nat)
  /-- EVF_STORM_SET (R392). -/
  | evfStormSet (h : Hdr) (period : Nat)
  /-- PTU_INFO (R410). -/
  | ptuInfo (h : Hdr) (kind : Nat) (index : Nat)
  /-- PTU_ENC_CONFIG (R398). -/
  | ptuEncConfig (h : Hdr) (enc : Nat) (cfg : BitVec 32)
  /-- PTU_ENGINE_CONFIG (R402). -/
  | ptuEngineConfig (h : Hdr) (engine : Nat) (cfg : BitVec 32) (manual : BitVec 32)
  /-- PTU_STROBE_CONFIG (R406). -/
  | ptuStrobeConfig (h : Hdr) (strobe : Nat) (cfg : BitVec 32)
  /-- PTU_TABLE_CREATE (R400). -/
  | ptuTableCreate (h : Hdr) (engine : Nat) (cluster : Nat) (entries : Nat) (origin : Int) (feed : Nat) (passes : Nat) (width : Nat) (minInterval : Nat) (rewind : Nat)
  /-- PTU_TABLE_LOAD (R401). -/
  | ptuTableLoad (h : Hdr) (handle : Nat) (first : Nat) (count : Nat) (entries : List Nat)
  /-- PTU_TABLE_SEAL (R401). -/
  | ptuTableSeal (h : Hdr) (handle : Nat) (crc : BitVec 32)
  /-- PTU_TABLE_ARM (R402). -/
  | ptuTableArm (h : Hdr) (handle : Nat)
  /-- PTU_TABLE_DISARM (R403). -/
  | ptuTableDisarm (h : Hdr) (engine : Nat)
  /-- PTU_STROBE_FIRE (R407). -/
  | ptuStrobeFire (h : Hdr) (engine : Nat) (mask : Nat)
  /-- PTU_STROBE_RESET (R406). -/
  | ptuStrobeReset (h : Hdr) (engine : Nat) (mask : Nat)
  /-- PTU_TABLE_FREE (R401). -/
  | ptuTableFree (h : Hdr) (handle : Nat)
  /-- VAL_INFO (R434). -/
  | valInfo (h : Hdr)
  /-- VAL_CONFIG (R418). -/
  | valConfig (h : Hdr) (cfg : BitVec 32)
  /-- VAL_THERMAL_EVAL (R422). -/
  | valThermalEval (h : Hdr)
  /-- VAL_THERMAL_READ (R434). -/
  | valThermalRead (h : Hdr)
  /-- VAL_REPLAN (R429). -/
  | valReplan (h : Hdr)
  /-- VAL_RECORD_READ (R431). -/
  | valRecordRead (h : Hdr) (rd : ReadArgs)
  /-- VAL_MON_CONFIG (R432). -/
  | valMonConfig (h : Hdr) (unit : Nat) (tap : Nat) (shift : Nat) (base : BitVec 32)
  /-- VAL_MON_START (R432). -/
  | valMonStart (h : Hdr) (unit : Nat) (window : Nat)
  /-- VAL_MON_READ (R434). -/
  | valMonRead (h : Hdr) (unit : Nat)
  /-- VAL_SNAPSHOT (R415). -/
  | valSnapshot (h : Hdr)
  /-- INT_INFO (R452). -/
  | intInfo (h : Hdr)
  /-- INT_FAULT_READ (R446). -/
  | intFaultRead (h : Hdr) (rd : ReadArgs)
  /-- INT_CLEAR (R448). -/
  | intClear (h : Hdr) (tallyReset : Nat)
  /-- INT_SAFE_ENTER (R452). -/
  | intSafeEnter (h : Hdr)
  /-- INT_INJECT (R451). -/
  | intInject (h : Hdr) (code : Nat)
  /-- INT_KEY_READ (R449). -/
  | intKeyRead (h : Hdr) (slot : Nat) (certificate : Bool) (rd : ReadArgs)
  /-- INT_ATTEST (R450). -/
  | intAttest (h : Hdr) (nonce : List Byte)
  /-- LEASE_EXPIRY (R83). -/
  | leaseExpiry (slot : Fin 8)
  /-- SQ_TAIL_DOORBELL (R67). -/
  | sqTailDoorbell (slot : Fin 8) (index : BitVec 32) (images : List (List Byte))
  /-- RQ_HEAD_ADVANCE (R67). -/
  | rqHeadAdvance (slot : Fin 8) (index : BitVec 32)
  /-- HELD_REPLY_WRITE (R72). -/
  | heldReplyWrite (slot : Fin 8)
  /-- SPI_STATUS (R69). -/
  | spiStatus (port : Fin 2)
  /-- BAR0_WRITE (R79). -/
  | bar0Write (pf : Fin 4) (addr : Nat) (bytes : Nat) (value : BitVec 32)
  /-- DCK_PUSH (R60). -/
  | dckPush (slot : Fin 8) (value : BitVec 32)
  /-- LOCK_GAINED (R35). -/
  | lockGained (src : Nat) (phase : Int) (freq : Int)
  /-- LOCK_LOST (R37). -/
  | lockLost
  /-- SWITCH_DELAY_EXPIRY (R37). -/
  | switchDelayExpiry
  /-- SOURCE_RETURN (R37). -/
  | sourceReturn (src : Nat)
  /-- XCHK_WINDOW (R39). -/
  | xchkWindow (count : Nat)
  /-- LTC_FRAME_DECODED (R44). -/
  | ltcFrameDecoded (label : BitVec 32) (ub : BitVec 32) (boundary : Nat)
  /-- LTC_LOSS (R44). -/
  | ltcLoss
  /-- JAM_TIMEOUT (R43). -/
  | jamTimeout
  /-- TC_FRAME_BOUNDARY (R60). -/
  | tcFrameBoundary
  /-- DEAL_MISSED (R50). -/
  | dealMissed (port : Fin 96)
  /-- TC_JAM (R43). -/
  | tcJam
  /-- TC_ANCHOR (R54). -/
  | tcAnchor (label : BitVec 32)
  /-- PPS_PULSE (R54). -/
  | ppsPulse (width : BitVec 32)
  /-- WCLK_START (R54). -/
  | wclkStart (rate : BitVec 32)
  /-- WCLK_STOP (R54). -/
  | wclkStop
  /-- FRAME_START (R98). -/
  | frameStart (ctx : Fin 8)
  /-- CONTEXT_ENABLE (R131). -/
  | contextEnable (ctx : Fin 8)
  /-- CONTEXT_DISABLE (R132). -/
  | contextDisable (ctx : Fin 8)
  /-- EXPOSE_START (R96). -/
  | exposeStart (ctx : Fin 8) (exposure : Fin 2)
  /-- EXPOSE_END (R96). -/
  | exposeEnd (ctx : Fin 8) (exposure : Fin 2)
  /-- SCB_RUN (R110). -/
  | scbRun (bus : Fin 32) (list : Fin 16)
  /-- INLINE_SWITCH (R139). -/
  | inlineSwitch (ctx : Fin 8)
  /-- PIPE_TABLE_SWAP (R128). -/
  | pipeTableSwap (ctx : Fin 8) (bank : BitVec 32)
  /-- LOOK_SWAP (R164). -/
  | lookSwap (out : Fin 8) (bank : BitVec 32)
  /-- CAL_SWAP (R155). -/
  | calSwap (ctx : Fin 8) (bank : BitVec 32)
  /-- STATS_CONFIG_SWAP (R175). -/
  | statsConfigSwap (ctx : Fin 8) (bank : BitVec 32)
  /-- KERNEL_START (R192). -/
  | kernelStart (handle : BitVec 32)
  /-- KERNEL_STOP (R192). -/
  | kernelStop (handle : BitVec 32)
  /-- CODEC_SWITCH (R235). -/
  | codecSwitch (stream : Fin 8) (handle : BitVec 32)
  /-- STREAM_START (R235). -/
  | streamStart (stream : Fin 8)
  /-- STREAM_STOP (R235). -/
  | streamStop (stream : Fin 8)
  /-- TAKE_START (R265). -/
  | takeStart (mag : Fin 4) (stream : Fin 8) (handle : BitVec 32)
  /-- TAKE_STOP (R265). -/
  | takeStop (mag : Fin 4) (stream : Fin 8)
  /-- TAKE_MARK (R265). -/
  | takeMark (mag : Fin 4) (stream : Fin 8) (code : BitVec 32)
  /-- MARGIN_MEASURE (R312). -/
  | marginMeasure (stack : Fin 2)
  /-- FOM_SAMPLE (R330). -/
  | fomSample (quad : Fin 24)
  /-- PRBS_START (R331). -/
  | prbsStart (quad : Fin 24) (pattern : BitVec 32)
  /-- PRBS_STOP (R331). -/
  | prbsStop (quad : Fin 24)
  /-- OUT_FRAME_START (R356). -/
  | outFrameStart (out : Fin 8)
  /-- OUT_SOURCE_SWITCH (R353). -/
  | outSourceSwitch (out : Fin 8) (path : Fin 8)
  /-- AUD_CLOCK_START (R373). -/
  | audClockStart (port : Fin 16)
  /-- AUD_DATA_START (R374). -/
  | audDataStart (port : Fin 16)
  /-- AUD_DATA_STOP (R373). -/
  | audDataStop (port : Fin 16)
  /-- AUD_CLOCK_STOP (R373). -/
  | audClockStop (port : Fin 16)
  /-- EVENT_PULSE (R54). -/
  | eventPulse (port : Fin 96)
  /-- CELL_RESET (R388). -/
  | cellReset (cell : Fin 64)
  /-- TABLE_ARM (R402). -/
  | tableArm (engine : Fin 2) (handle : BitVec 32)
  /-- TABLE_DISARM (R403). -/
  | tableDisarm (engine : Fin 2)
  /-- STROBE_FIRE (R407). -/
  | strobeFire (engine : Fin 2) (mask : BitVec 32)
  /-- THERMAL_EVAL (R422). -/
  | thermalEval
  /-- TELEMETRY_SNAPSHOT (R415). -/
  | telemetrySnapshot
  /-- MONITOR_WINDOW (R432). -/
  | monitorWindow (unit : Fin 64) (window : BitVec 32)
  /-- PACKET_EXEC (R56). -/
  | packetExec (slot : Fin 8) (seq : BitVec 32)
  /-- SCB_LIST_END (R110). -/
  | scbListEnd (bus : Fin 32) (nack : Bool) (op : Nat) (data : List Byte)
  /-- SCB_OP_TIMEOUT (R110). -/
  | scbOpTimeout (bus : Fin 32) (op : Nat) (data : List Byte)
  /-- PORT_LOCK (R94). -/
  | portLock (port : Fin 8) (skew : Nat) (lanes : Nat)
  /-- PORT_LOCK_LOST (R94). -/
  | portLockLost (port : Fin 8) (deskew : Bool) (skew : Nat) (lanes : Nat)
  /-- FRAME_START_MARKER (R99). -/
  | frameStartMarker (ctx : Fin 8)
  /-- LINE_ARRIVAL (R105). -/
  | lineArrival (ctx : Fin 8) (line : Line)
  /-- TRAILER (R100). -/
  | trailer (ctx : Fin 8)
  /-- TRAILER_WAIT_EXPIRY (R100). -/
  | trailerWaitExpiry (ctx : Fin 8)
  /-- TRIG_WINDOW_EXPIRY (R107). -/
  | trigWindowExpiry (ctx : Fin 8)
  /-- PIPELINE_ARBITRATION (R134). -/
  | pipelineArbitration
  /-- FRAME_LEAVES_DEMOSAIC (R136). -/
  | frameLeavesDemosaic (ctx : Fin 8)
  /-- KAT_PASS (R141). -/
  | katPass (pipOk : Bool) (colOk : Bool)
  /-- FRAME_LEAVES_COLOUR (R152). -/
  | frameLeavesColour (ctx : Fin 8)
  /-- STATS_PUBLISH (R178). -/
  | statsPublish (ctx : Fin 8)
  /-- RESULT_PUBLISH (R200). -/
  | resultPublish (slot : Fin 32) (output : Fin 4) (input : Fin 4) (frame : Nat) (data : List Byte)
  /-- KERNEL_DONE_WORD (R192). -/
  | kernelDoneWord (slot : Fin 32)
  /-- DRAIN_EXPIRY (R192). -/
  | drainExpiry (slot : Fin 32)
  /-- KERNEL_FAULT (R201). -/
  | kernelFault (slot : Fin 32) (cause : Fin 4) (cluster : Fin 32) (engine : Fin 16) (pc : Nat)
  /-- ENCODE_BOUNDARY (R224). -/
  | encodeBoundary (idx : Fin 64)
  /-- CONTEXT_SPILL (R232). -/
  | contextSpill (idx : Fin 64)
  /-- SLICE_EMIT (R220). -/
  | sliceEmit (idx : Fin 64)
  /-- FRAME_RECORD_PUBLISH (R228). -/
  | frameRecordPublish (idx : Fin 64)
  /-- PLAN_QUEUE (R225). -/
  | planQueue (idx : Fin 64)
  /-- ROUND_TRIP_CHECK (R236). -/
  | roundTripCheck (idx : Fin 64) (ok : Bool)
  /-- KNOWN_ANSWER_SLICE (R439). -/
  | knownAnswerSlice (core : Fin 4) (ok : Bool)
  /-- DEC_FRAME_HEADER (R245). -/
  | decFrameHeader (session : Fin 8)
  /-- DEC_SLOT_FREED (R243). -/
  | decSlotFreed (session : Fin 8)
  /-- DEC_SLICE (R245). -/
  | decSlice (session : Fin 8)
  /-- DEC_FRAME_PUBLISH (R242). -/
  | decFramePublish (session : Fin 8)
  /-- DEC_FRAME_TIMEOUT (R250). -/
  | decFrameTimeout (session : Fin 8)
  /-- MOUNT (R276). -/
  | mount (mag : Fin 4) (found : Option MountFound)
  /-- STRIPE_PROGRAMMED (R270). -/
  | stripeProgrammed (mag : Fin 4) (chan : Bool) (frame : Nat)
  /-- JOURNAL_PAGE_PROGRAMMED (R270). -/
  | journalPageProgrammed (mag : Fin 4)
  /-- PROGRAM_FAILURE (R279). -/
  | programFailure (mag : Fin 4) (superblock : Nat) (erase : Bool) (frame : FrameStripe) (others : Bool)
  /-- READ (R303). -/
  | read (slot : Fin 8) (mag : Fin 4) (tag : Fin 32)
  /-- WRITE (R293). -/
  | write (slot : Fin 8) (mag : Fin 4) (tag : Fin 32) (data : List Byte)
  /-- FLUSH (R296). -/
  | flush (slot : Fin 8) (mag : Fin 4) (tag : Fin 32)
  /-- TRIM (R296). -/
  | trim (slot : Fin 8) (mag : Fin 4) (tag : Fin 32)
  /-- IDENTIFY (R303). -/
  | identify (slot : Fin 8) (mag : Fin 4) (tag : Fin 32)
  /-- POWER_STATE (R301). -/
  | powerState (slot : Fin 8) (mag : Fin 4) (tag : Fin 32)
  /-- TASK_ACCEPT (R289). -/
  | taskAccept (slot : Fin 8)
  /-- TASK_COMPLETE (R292). -/
  | taskComplete (slot : Fin 8) (mag : Fin 4) (tag : Fin 32)
  /-- QUEUE_RESET (R298). -/
  | queueReset (slot : Fin 8) (value : BitVec 32)
  /-- RESET_RECORD (R298). -/
  | resetRecord (slot : Fin 8)
  /-- POWER_STATE_REACHED (R302). -/
  | powerStateReached (mag : Fin 4)
  /-- MARGIN_DONE (R312). -/
  | marginDone (stack : Fin 2) (widths : List Nat)
  /-- PATROL_SCRUB (R309). -/
  | patrolScrub (addr : Nat) (result : Fin 3) (syndrome : Nat)
  /-- HBM_FREEZE (R321). -/
  | hbmFreeze (cause : Fin 4) (port : Fin 32) (addr : Nat) (syndrome : Nat)
  /-- PARITY_REPLAY (R320). -/
  | parityReplay (pc : Fin 64) (failed : Bool)
  /-- TRAINING_COMPLETE (R311): the read and write sweeps of the lanes of stack 0 and of stack 1, and those taken again on spare lanes. -/
  | trainingComplete (ok : Bool) (sweeps0 sweeps1 again0 again1 : List (Nat × Nat))
  /-- ALIGN_FOUND (R335). -/
  | alignFound (link : Fin 32) (lanes : Nat) (skew : Nat)
  /-- DISCOVER_PAGE (R338). -/
  | discoverPage (link : Fin 32) (flags : Nat) (payload : List Byte) (crcOk : Bool)
  /-- ENUMERATION_COMPLETE (R338). -/
  | enumerationComplete (link : Fin 32) (trips : List Nat)
  /-- DISCOVER_REPEAT (R338). -/
  | discoverRepeat (link : Fin 32)
  /-- LINK_RETRY (R335). -/
  | linkRetry (link : Fin 32)
  /-- DRAXA_LINK_LOSS (R340). -/
  | draxaLinkLoss (link : Fin 32)
  /-- DATA_CELL (R344). -/
  | dataCell (link : Fin 32) (channel : Nat) (flags : Nat) (payload : List Byte) (crcOk : Bool)
  /-- FLOW_CELL (R341). -/
  | flowCell (link : Fin 32) (grants : List (BitVec 32)) (crcOk : Bool)
  /-- ECHO (R343). -/
  | echo (link : Fin 32) (reply : Bool) (time : Nat) (turnaround : Nat)
  /-- CPI_SEG (R343). -/
  | cpiSeg (link : Fin 32) (channel : Fin 4) (first : Bool) (last : Bool) (index : Nat) (data : List Byte)
  /-- PCIE_CHANGE (R327). -/
  | pcieChange (up : Bool) (speed : Nat) (width : Nat)
  /-- OUTPUT_SELF_START (R356). -/
  | outputSelfStart (out : Fin 8)
  /-- SCALER_FRAME_COMPLETE (R355). -/
  | scalerFrameComplete (out : Fin 8)
  /-- LATE_LINE (R359). -/
  | lateLine (out : Fin 8) (line : Nat)
  /-- AUDIO_FRAME_SYNC (R371). -/
  | audioFrameSync (port : Fin 16) (samples : List Nat)
  /-- EVIO_INPUT_EDGE (R393). -/
  | evioInputEdge (pin : Fin 256) (high : Bool)
  /-- FABRIC_CYCLE (R388). -/
  | fabricCycle
  /-- FRAME_TRIGGER_TASK (R386). -/
  | frameTriggerTask (ctx : Fin 8)
  /-- TAKE_MARK_TASK (R386). -/
  | takeMarkTask (stream : Fin 8)
  /-- KERNEL_DOORBELL (R386). -/
  | kernelDoorbell (slot : Fin 32)
  /-- EVIO_OUTPUT_TASK (R393). -/
  | evioOutputTask (pin : Fin 256)
  /-- CELL_CLEAR_TASK (R386). -/
  | cellClearTask (cell : Fin 64)
  /-- ENCODER_COUNT_CHANGE (R403). -/
  | encoderCountChange (enc : Fin 8) (up : Bool)
  /-- INDEX_EDGE (R399). -/
  | indexEdge (enc : Fin 8)
  /-- STROBE_READBACK_MISS (R406). -/
  | strobeReadbackMiss (strobe : Fin 32)
  /-- TELEMETRY_SAMPLE (R415). -/
  | telemetrySample (sample : Telemetry)
  /-- VIN_DROP (R418). -/
  | vinDrop (millivolts : Nat)
  /-- POWER_FAIL_DECLARED (R419). -/
  | powerFailDeclared
  /-- VIN_DIP (R418). -/
  | vinDip (millivolts : Nat)
  /-- HOLDUP_WINDOW_END (R419). -/
  | holdupWindowEnd
  /-- BANK_AT_40V (R420). -/
  | bankAt40v (ticks : Nat)
  /-- HOLDUP_READY (R420). -/
  | holdupReady
  /-- CHARGE_TIMEOUT (R420). -/
  | chargeTimeout
  /-- THERMAL_STALE (R425). -/
  | thermalStale
  /-- FLUSH_EVALUATION (R426). -/
  | flushEvaluation
  /-- SHUTDOWN_RAILS_OFF (R428). -/
  | shutdownRailsOff
  /-- AUTO_RESTART (R428). -/
  | autoRestart
  /-- MARGIN_REPLAN (R430). -/
  | marginReplan (slack : List Int) (widths0 : List Nat) (widths1 : List Nat) (centres : List Nat) (failed : List Nat)
  /-- DEFERRED_REPLAN_START (R429). -/
  | deferredReplanStart
  /-- MONITOR_WINDOW_END (R432). -/
  | monitorWindowEnd (unit : Fin 64)
  /-- SAFE_STATE_ENTRY (R442). -/
  | safeStateEntry
  /-- FAULT_RECORD (R446). -/
  | faultRecord (code : Nat) (detail0 : Nat) (detail1 : Nat)
  /-- SAFE_ENTRY_COMPLETE (R442). -/
  | safeEntryComplete
  /-- LOCKSTEP_MISMATCH (R442). -/
  | lockstepMismatch (valtu : Bool) (pair : Nat)
  /-- WATCHDOG_TIMEOUT (R440). -/
  | watchdogTimeout (last : Nat)
  /-- START_UP (R456). -/
  | startUp (outcome : StartOutcome)
  /-- RESET_N_ASSERT (R462). -/
  | resetNAssert
  /-- RESET_N_RELEASE (R462). -/
  | resetNRelease
  /-- RESET_PROPER (R461). -/
  | resetProper
  /-- BYPASS (R477). -/
  | bypass
  /-- IDCODE (R477). -/
  | idcode
  /-- SAMPLE_PRELOAD (R477). -/
  | samplePreload (preload : List Bool)
  /-- EXTEST (R478). -/
  | extest
  /-- EXTEST_PULSE (R478). -/
  | extestPulse
  /-- EXTEST_TRAIN (R478). -/
  | extestTrain
  /-- CLAMP (R478). -/
  | clamp
  /-- HIGHZ (R478). -/
  | highz
  /-- TRST_N_ASSERT (R478). -/
  | trstNAssert
  /-- SOURCE_PRESENT (R35). -/
  | sourcePresent (src : Nat)
  /-- READ_COUNT_ADVANCE (R195). -/
  | readCountAdvance (slot : Fin 32) (input : Fin 4) (count : Nat)
  /-- FRAME_ACQUIRE (R196). -/
  | frameAcquire (slot : Fin 32) (input : Fin 4)
  /-- FRAME_RELEASE (R196). -/
  | frameRelease (slot : Fin 32) (input : Fin 4)
  /-- MEM_TEST_COMPLETE (R310). -/
  | memTestComplete (failing : Nat)
  /-- LINK_SIGNAL_PRESENT (R337). -/
  | linkSignalPresent (link : Fin 32)
  /-- CELL_ALIGNMENT_LOSS (R342). -/
  | cellAlignmentLoss (link : Fin 32) (lane : Nat)
  /-- QUADRATURE_ERROR (R398). -/
  | quadratureError (enc : Fin 8)
  /-- FW_COMMIT_COMPLETE (R86). -/
  | fwCommitComplete (ok : Bool)
  /-- FORMAT_COMPLETE (R279). -/
  | formatComplete (mag : Fin 4) (bad : List Nat)
  /-- VALTU_BOOT (R455). -/
  | valtuBoot
deriving DecidableEq, Repr

end Sys2Proof
end

