-- ==== Sys2Proof/Config.lean ====
section
/-!
DEFINITION. What an implementation fixes and what the spec leaves open: constants without a body, so that nothing can be
proved of their values. A free value drawn during a run is one of these applied to `State.fresh`, which the draw advances.
-/
namespace Sys2Proof.Config

/-- Whether stage `stage` of the line pipeline rounds the exact result num / den up to the next L24 value; the spec gives the
formulas of R117 … R124 and no rounding (log 20). -/
opaque l24Up (stage : Nat) (num : Int) (den : Nat) : Bool

/-- Which of two pairs of equal difference a defect takes its mean from (R120; log 20). -/
opaque defectTie (a b c d : Int) : Bool

/-- Whether a raw tap code exactly halfway between two codes rounds up (R126; log 20). -/
opaque rawHalfUp (num : Int) (den : Nat) : Bool

/-- The gain node of a shading bank that no load has written (R122; log 21). -/
opaque shadeNode (ctx bank plane node : Nat) : BitVec 16

/-- Which of the codes within 4 of the exact formula a transfer function gives (R146; log 20). -/
opaque tfPick (tf : Nat) (num : Int) (den : Nat) : Nat

/-- Whether a statistics figure between two codes is held as the upper one: 1 FOCUS, 2 flicker amplitude (R172, R173; log 20). -/
opaque staUp (measure : Nat) (num : Int) (den : Nat) : Bool

/-- Whether a figure the spec computes but does not round, num / den, is held as the next whole number up: 1 codec load, 2 decoder
load, 3 prefilter sample, 4 hold-up capacitance, 5 frame period of a fault bound, 6 whole milliseconds of an interval, 7 lease time
left (R89, R208, R233, R249, R420, R438, R466; log 20). -/
opaque roundUp (what : Nat) (num : Int) (den : Nat) : Bool

/-- The encoder's choices, which the spec leaves to it: a block's levels in scan order, its floor level, whether a macroblock is
inter and its vector, whether an inter block is coded (R216 … R219; log 45). `seed` is fresh for each slice. -/
opaque levels (seed : Nat) (block : Nat) (q : Nat) (source : List (List Nat)) : List Int
opaque floorLevel (seed : Nat) (block : Nat) (source : List (List Nat)) : BitVec 12
opaque inter (seed : Nat) (macroblock : Nat) : Bool
opaque vector (seed : Nat) (macroblock : Nat) : BitVec 6 × BitVec 6
opaque coded (seed : Nat) (block : Nat) : Bool

/-- X of a slice that has no earlier coding to go by (R225; log 46). -/
opaque firstX (index slice : Nat) : Nat

/-- The share address of a kernel slot's mailbox, 0 input, 1 output (R192; log 113). -/
opaque mailbox (kernel which : Nat) : BitVec 32

/-- The module's serial number (R87), 16 bytes. -/
opaque moduleSerial : List (BitVec 8)

/-- The private key in a slot of the key store, and the random numbers of a signature (R282, R449, R450; log 50). -/
opaque privateKey (slot : Nat) : Nat
opaque signRandom (fresh attempt : Nat) : Nat

/-- Which of the free superblocks of the lowest erase count is written next (R279; log 51). -/
opaque superblockPick (fresh write : Nat) : Nat

/-- Which good superblocks a format gives the roles of its choice, by place among those left (R259; log 51). -/
opaque rolePick (fresh role : Nat) : Nat

/-- Which of the largest free extents, if two are equal, a new run takes (R260; log 52). -/
opaque extentPick (fresh : Nat) : Nat

/-- Whether background relocation moves a stripe on a tick, and which of those that may move (R279; log 116). -/
opaque relocation (fresh : Nat) : Option Nat

/-- The 4 KiB of a stripe that fails its LDPC code in a read, as read: none where the code holds (R261; log 117). `unit` counts the
codewords of the stripe. -/
opaque ldpcFailure (fresh stripe unit : Nat) : Option (List (BitVec 8))

/-- FIRST (0) and LAST (1) of the CLOSE entry of a take without frames (R267; log 53). -/
opaque emptyTake (fresh which : Nat) : Nat

/-- Whether a granule touched by a discarded channel write holds its new contents (R298; log 54). -/
opaque discardKeeps (fresh : Nat) : Bool

/-- Module addresses the spec leaves to the TX9 (R68, R292, R304; log 60): 0 submission ring, 1 reply ring, 2 completion ring,
3 media buffer of a host slot. -/
opaque moduleAddr (what slot : Nat) : Nat

/-- The 4 KiB block of IDENTIFY, whose layout the spec does not give, from its values (R303; log 61). -/
opaque identify (values : List Nat) : List (BitVec 8)

/-- A raw word of frozen HBM3 with its syndrome, and an entry of a captured retry buffer: memory contents and commands on the
stacks' pins, which the spec gives no layout for (R321, R322; log 63). -/
opaque hbmWord (fresh address : Nat) : Nat
opaque retryEntry (fresh pseudoChannel entry : Nat) : Nat

/-- The eye figure of merit of a lane, wrong bits its PRBS checker has counted since the last look, and whether it has matched 64
bits: what the receiver meets on the line (R330, R331; log 65). -/
opaque fom (fresh lane : Nat) : BitVec 8
opaque prbsErrors (fresh lane : Nat) : Nat
opaque prbsLock (fresh lane : Nat) : Bool

/-- What a register shows and no command reports: 0 lanes of a quad receiving, 1 link up and 2 uncorrectable codewords of an
Ethernet interface, 3 pipeline clocks busy, 4 trumps and starvations of a memory port (log 66). -/
opaque lineState (fresh what index : Nat) : Nat

/-- The TX9's turnaround of an echo (R343; log 64). -/
opaque turnaround (fresh : Nat) : BitVec 16

/-- Cells the TX9 grants on a controller channel when its link comes UP: its receive buffer there (R341; log 64). -/
opaque channelCells (link channel : Nat) : BitVec 16

/-- The bytes of a result whose values the spec names without a layout (R62; log 11). -/
opaque resultLayout (opcode : Nat) (values : List Nat) : List (BitVec 8)

/-- A channel of a pixel as the scaler's filter gives it, whose coefficients and rounding the spec leaves open (R354; log 69). -/
opaque scaled (channel width height x y : Nat) (window : List (List Nat)) : Nat

/-- What an overlay draws where the spec gives no shape or colour (R360; log 69): whether a zebra stripe, a rectangle or a text
character covers a pixel and the word it paints; the colour of a false-colour band; the red of the safe-state border. -/
opaque stripe (x y : Nat) : Bool
opaque stripeWord (x y : Nat) : Nat
opaque inText (lines : List (Nat × List (BitVec 8))) (width height x y : Nat) : Bool
opaque textWord (lines : List (Nat × List (BitVec 8))) (width height x y : Nat) : Nat
opaque bandWord (band : Nat) : Nat
opaque borderRed : Nat

/-- The session description the TX9 builds from an output's settings (R351; log 69). -/
opaque sdp (cfg : BitVec 32) (settings : List (BitVec 8)) : List (BitVec 8)

/-- Which of an engine's two sealed tables a task input arms: the task carries no handle (R386, R402; log 74). -/
opaque taskTable (fresh : Nat) : Bool

/-- The deal time a step at first lock sets, which the spec gives no formula for (R34; log 77). -/
opaque stepAtLock (phase : Int) (now : Nat) : BitVec 64

/-- Whether a genlock reference frame starts on a tick, and where its time stamp falls: one tick before, on it, or one after (R36;
log 66). -/
opaque genStart (fresh : Nat) : Option (Fin 3)

/-- What DCK_PHASE_ERR shows of a phase error that its signed 32 bits do not hold (R60; log 77). -/
opaque phaseShown (phase : Int) : BitVec 32

/-- Whether a nonzero GEN_FORMAT is a genlock format code: the spec lists none (R36, R59; log 77). -/
opaque genFormat (code : BitVec 8) : Bool

/-- The temperature of a node of the thermal model, signed in 0.1 °C: the RC network's values are not in the spec (R422; log 82).
It depends on whether the state restarts, the previous node temperatures, the 1 ms steps, the mean powers, the rails' efficiencies
and the lid readings. -/
opaque nodeTemp (node : Nat) (restart : Bool) (previous : List Int) (steps : Nat) (means : List (List Nat)) (efficiency : List Nat)
  (lids : List Int) : BitVec 16

/-- Whether the part is a TX9-4608-E, else a TX9-4608-S (R3, R4). -/
opaque gradeE : Bool

/-- What a re-plan measures beyond what its command carries: the slack of a monitor after its rail moved, a rail's efficiency, the
centre of a byte lane (R430; log 83). -/
opaque slackNow (fresh monitor : Nat) : BitVec 8
opaque efficiency (fresh rail : Nat) : BitVec 8
opaque laneCentre (fresh lane : Nat) : BitVec 6

/-- Which of the two middle steps of an even run of passing steps a lane is trained to (R311; log 124). -/
opaque centreUp (first width : Nat) : Bool

/-- The factory record of margin re-plan (R431). -/
opaque factoryRecord : List (BitVec 8)

/-- The sample of a monitor tap whose quantity no command reports (R433; log 84). -/
opaque tapValue (fresh tap : Nat) : BitVec 32

/-- What a mechanism measures under the fault INT_INJECT sends into it (R451; log 85). -/
opaque injected (fresh item : Nat) : BitVec 16

/-- The version of a firmware image: major, minor, patch (R87); the factory image is the empty list. -/
opaque firmware (image : List (Nat × List (BitVec 8))) : BitVec 24

/-- The key store's certificates (R449) in DER. -/
opaque certificate (slot : Nat) : List (BitVec 8)

/-- The boundary cells that SAMPLE/PRELOAD or EXTEST captures: their order is in the BSDL file, not in the spec (R477; log 88). -/
opaque boundary (fresh : Nat) : Nat

end Sys2Proof.Config
end

