-- ==== Sys2Proof/Machine/RegMap.lean ====
section
/-!
DEFINITION. The register map: one `Reg` per register of the chapters' register sections (R9 … R14, R27, R60, R89, R113,
R144, R169, R184, R205, R239, R255, R286, R306, R324, R348, R367, R382, R397, R412, R436, R454, R466) with its address,
reset value, resource and commit point, and one `Fld` per field, all under the spec's names.
-/
namespace Sys2Proof.Machine

/-- The access codes of R12. -/
inductive Acc where
  | rw | ro | wo | w1c | rc | rws
deriving DecidableEq, Repr

/-- The bits [hi:lo] of a register and their access. -/
structure FieldRow where
  hi : Nat
  lo : Nat
  acc : Acc
deriving DecidableEq, Repr

/-- How the reset value of a register follows from its index: one value, or the rule its chapter gives. -/
inductive ResetRule where
  | const (v : Nat)
  /-- COL_LOOK_MAT: 1.0 on the diagonal (06). -/
  | mat
  /-- MEM_P_CFG: by port (13). -/
  | pcfg
  /-- MEM_P_STAT: BUF by port (13). -/
  | pstat
  /-- LNK_Q_CFG: quads 8 and 9 start as PCIe (14). -/
  | qcfg
  /-- OUT_O_SRC: o in INDEX (15). -/
  | osrc
  /-- PTU_STB_CFG: s in PARTNER (18). -/
  | stb
  /-- VAL_RAIL_SET: the rail's nominal voltage (19). -/
  | rail
  /-- VAL_PDM: the monitor's domain (19). -/
  | pdm
deriving DecidableEq, Repr

/-- The resource a register belongs to (R78 and the chapters), by the register's first index. -/
inductive OwnerRule where
  /-- The resource with this identifier (R77). -/
  | fixed (id : Nat)
  /-- Type of R77, with the register's first index. -/
  | res (type : Nat)
  /-- CPI_ID and CPI_EVT belong to H0 (R78). -/
  | h0
  /-- Deal ports: DP87 … DP94 belong to their slot (R46). -/
  | port
  /-- The registers of a slot. -/
  | slot
  /-- The kernel's first cluster (R205). -/
  | kernel
  /-- The codec context's owner (R231). -/
  | codec
  /-- The decoder session's owner (R240). -/
  | dec
  /-- The lane's quad, the quad of a link's or interface's first lane (R348). -/
  | lane
  | link
  | eth
  /-- The resource R386 names for a task input. -/
  | task
  /-- The strobe's firing engine (R412). -/
  | strobe
deriving DecidableEq, Repr

/-- The commit point of a register's RWS fields (R12, R13). -/
inductive CommitRule where
  | none | tc | ctx | out | codec | dec | aud | engine
deriving DecidableEq, Repr

/-- A register: addresses `base + s1 * i + s2 * j` for `i < n1` and `j < n2`, and `pair`: the low word of a 64-bit
quantity (R11). -/
structure Reg where
  base : Nat
  s1 : Nat
  n1 : Nat
  s2 : Nat
  n2 : Nat
  reset : ResetRule
  owner : OwnerRule
  commit : CommitRule
  pair : Bool
  fields : List FieldRow
deriving DecidableEq, Repr

/-- A field of a register. -/
structure Fld where
  reg : Reg
  hi : Nat
  lo : Nat
deriving DecidableEq, Repr

/-- The address of a register's copy (R9). -/
def Reg.addr (r : Reg) (i j : Nat) : Nat := r.base + r.s1 * i + r.s2 * j

/-- The reset value of a register's copy. -/
def Reg.resetVal (r : Reg) (i j : Nat) : Nat :=
  match r.reset with
  | .const v => v
  | .mat => if j % 4 = 0 then 0x003F0000 else 0
  | .pcfg => if i < 8 then 0x40200801 else if 20 ≤ i then 0x20100801 else 0x400
  | .pstat => if i < 8 then 0x80000000 else if 20 ≤ i then 0x40000000 else 0
  | .qcfg => if i = 8 ∨ i = 9 then 0x202830D4 else 0x002830D4
  | .osrc => i * 0x10000000
  | .stb => 0x0030003C + i * 0x01000000
  | .rail => [750, 750, 750, 750, 850, 1100, 400, 1800, 900, 1200, 1200, 1200, 1800, 3300].getD i 0
  | .pdm => (if i < 16 then 0 else if i < 32 then 1 else if i < 48 then 2 else if i < 56 then 3 else 4) * 0x01000000

/-- The number of bits of a field. -/
def Fld.width (f : Fld) : Nat := f.hi + 1 - f.lo


def Reg.CPI_ID : Reg :=
  ⟨0x00000000, 0x0, 1, 0x0, 1, .const 0x1420100, .h0, .none, false, [⟨31, 24, .ro⟩, ⟨23, 16, .ro⟩, ⟨15, 8, .ro⟩,
    ⟨7, 0, .ro⟩]⟩
def Fld.CPI_ID_GROUP : Fld := ⟨.CPI_ID, 31, 24⟩
def Fld.CPI_ID_STEPPING : Fld := ⟨.CPI_ID, 23, 16⟩
def Fld.CPI_ID_MAP_MAJOR : Fld := ⟨.CPI_ID, 15, 8⟩
def Fld.CPI_ID_MAP_MINOR : Fld := ⟨.CPI_ID, 7, 0⟩
def Reg.DCK_ID : Reg :=
  ⟨0x01000000, 0x0, 1, 0x0, 1, .const 0x3420100, .fixed 0x0F03, .none, false, [⟨31, 24, .ro⟩, ⟨23, 16, .ro⟩, ⟨15,
    8, .ro⟩, ⟨7, 0, .ro⟩]⟩
def Fld.DCK_ID_GROUP : Fld := ⟨.DCK_ID, 31, 24⟩
def Fld.DCK_ID_STEPPING : Fld := ⟨.DCK_ID, 23, 16⟩
def Fld.DCK_ID_MAP_MAJOR : Fld := ⟨.DCK_ID, 15, 8⟩
def Fld.DCK_ID_MAP_MINOR : Fld := ⟨.DCK_ID, 7, 0⟩
def Reg.SNS_ID : Reg :=
  ⟨0x02000000, 0x0, 1, 0x0, 1, .const 0x4420100, .fixed 0x0F04, .none, false, [⟨31, 24, .ro⟩, ⟨23, 16, .ro⟩, ⟨15,
    8, .ro⟩, ⟨7, 0, .ro⟩]⟩
def Fld.SNS_ID_GROUP : Fld := ⟨.SNS_ID, 31, 24⟩
def Fld.SNS_ID_STEPPING : Fld := ⟨.SNS_ID, 23, 16⟩
def Fld.SNS_ID_MAP_MAJOR : Fld := ⟨.SNS_ID, 15, 8⟩
def Fld.SNS_ID_MAP_MINOR : Fld := ⟨.SNS_ID, 7, 0⟩
def Reg.PIP_ID : Reg :=
  ⟨0x03000000, 0x0, 1, 0x0, 1, .const 0x5420100, .fixed 0x0F05, .none, false, [⟨31, 24, .ro⟩, ⟨23, 16, .ro⟩, ⟨15,
    8, .ro⟩, ⟨7, 0, .ro⟩]⟩
def Fld.PIP_ID_GROUP : Fld := ⟨.PIP_ID, 31, 24⟩
def Fld.PIP_ID_STEPPING : Fld := ⟨.PIP_ID, 23, 16⟩
def Fld.PIP_ID_MAP_MAJOR : Fld := ⟨.PIP_ID, 15, 8⟩
def Fld.PIP_ID_MAP_MINOR : Fld := ⟨.PIP_ID, 7, 0⟩
def Reg.COL_ID : Reg :=
  ⟨0x04000000, 0x0, 1, 0x0, 1, .const 0x6420100, .fixed 0x0F06, .none, false, [⟨31, 24, .ro⟩, ⟨23, 16, .ro⟩, ⟨15,
    8, .ro⟩, ⟨7, 0, .ro⟩]⟩
def Fld.COL_ID_GROUP : Fld := ⟨.COL_ID, 31, 24⟩
def Fld.COL_ID_STEPPING : Fld := ⟨.COL_ID, 23, 16⟩
def Fld.COL_ID_MAP_MAJOR : Fld := ⟨.COL_ID, 15, 8⟩
def Fld.COL_ID_MAP_MINOR : Fld := ⟨.COL_ID, 7, 0⟩
def Reg.STA_ID : Reg :=
  ⟨0x05000000, 0x0, 1, 0x0, 1, .const 0x7420100, .fixed 0x0F07, .none, false, [⟨31, 24, .ro⟩, ⟨23, 16, .ro⟩, ⟨15,
    8, .ro⟩, ⟨7, 0, .ro⟩]⟩
def Fld.STA_ID_GROUP : Fld := ⟨.STA_ID, 31, 24⟩
def Fld.STA_ID_STEPPING : Fld := ⟨.STA_ID, 23, 16⟩
def Fld.STA_ID_MAP_MAJOR : Fld := ⟨.STA_ID, 15, 8⟩
def Fld.STA_ID_MAP_MINOR : Fld := ⟨.STA_ID, 7, 0⟩
def Reg.ENG_ID : Reg :=
  ⟨0x06000000, 0x0, 1, 0x0, 1, .const 0x8420100, .fixed 0x0F08, .none, false, [⟨31, 24, .ro⟩, ⟨23, 16, .ro⟩, ⟨15,
    8, .ro⟩, ⟨7, 0, .ro⟩]⟩
def Fld.ENG_ID_GROUP : Fld := ⟨.ENG_ID, 31, 24⟩
def Fld.ENG_ID_STEPPING : Fld := ⟨.ENG_ID, 23, 16⟩
def Fld.ENG_ID_MAP_MAJOR : Fld := ⟨.ENG_ID, 15, 8⟩
def Fld.ENG_ID_MAP_MINOR : Fld := ⟨.ENG_ID, 7, 0⟩
def Reg.MLS_ID : Reg :=
  ⟨0x07000000, 0x0, 1, 0x0, 1, .const 0x9420100, .fixed 0x0F09, .none, false, [⟨31, 24, .ro⟩, ⟨23, 16, .ro⟩, ⟨15,
    8, .ro⟩, ⟨7, 0, .ro⟩]⟩
def Fld.MLS_ID_GROUP : Fld := ⟨.MLS_ID, 31, 24⟩
def Fld.MLS_ID_STEPPING : Fld := ⟨.MLS_ID, 23, 16⟩
def Fld.MLS_ID_MAP_MAJOR : Fld := ⟨.MLS_ID, 15, 8⟩
def Fld.MLS_ID_MAP_MINOR : Fld := ⟨.MLS_ID, 7, 0⟩
def Reg.MED_ID : Reg :=
  ⟨0x08000000, 0x0, 1, 0x0, 1, .const 0xA420100, .fixed 0x0F0A, .none, false, [⟨31, 24, .ro⟩, ⟨23, 16, .ro⟩, ⟨15,
    8, .ro⟩, ⟨7, 0, .ro⟩]⟩
def Fld.MED_ID_GROUP : Fld := ⟨.MED_ID, 31, 24⟩
def Fld.MED_ID_STEPPING : Fld := ⟨.MED_ID, 23, 16⟩
def Fld.MED_ID_MAP_MAJOR : Fld := ⟨.MED_ID, 15, 8⟩
def Fld.MED_ID_MAP_MINOR : Fld := ⟨.MED_ID, 7, 0⟩
def Reg.MEM_ID : Reg :=
  ⟨0x09000000, 0x0, 1, 0x0, 1, .const 0xB420100, .fixed 0x0F0B, .none, false, [⟨31, 24, .ro⟩, ⟨23, 16, .ro⟩, ⟨15,
    8, .ro⟩, ⟨7, 0, .ro⟩]⟩
def Fld.MEM_ID_GROUP : Fld := ⟨.MEM_ID, 31, 24⟩
def Fld.MEM_ID_STEPPING : Fld := ⟨.MEM_ID, 23, 16⟩
def Fld.MEM_ID_MAP_MAJOR : Fld := ⟨.MEM_ID, 15, 8⟩
def Fld.MEM_ID_MAP_MINOR : Fld := ⟨.MEM_ID, 7, 0⟩
def Reg.LNK_ID : Reg :=
  ⟨0x0A000000, 0x0, 1, 0x0, 1, .const 0xC420100, .fixed 0x0F0C, .none, false, [⟨31, 24, .ro⟩, ⟨23, 16, .ro⟩, ⟨15,
    8, .ro⟩, ⟨7, 0, .ro⟩]⟩
def Fld.LNK_ID_GROUP : Fld := ⟨.LNK_ID, 31, 24⟩
def Fld.LNK_ID_STEPPING : Fld := ⟨.LNK_ID, 23, 16⟩
def Fld.LNK_ID_MAP_MAJOR : Fld := ⟨.LNK_ID, 15, 8⟩
def Fld.LNK_ID_MAP_MINOR : Fld := ⟨.LNK_ID, 7, 0⟩
def Reg.OUT_ID : Reg :=
  ⟨0x0B000000, 0x0, 1, 0x0, 1, .const 0xD420100, .fixed 0x0F0D, .none, false, [⟨31, 24, .ro⟩, ⟨23, 16, .ro⟩, ⟨15,
    8, .ro⟩, ⟨7, 0, .ro⟩]⟩
def Fld.OUT_ID_GROUP : Fld := ⟨.OUT_ID, 31, 24⟩
def Fld.OUT_ID_STEPPING : Fld := ⟨.OUT_ID, 23, 16⟩
def Fld.OUT_ID_MAP_MAJOR : Fld := ⟨.OUT_ID, 15, 8⟩
def Fld.OUT_ID_MAP_MINOR : Fld := ⟨.OUT_ID, 7, 0⟩
def Reg.AUD_ID : Reg :=
  ⟨0x0C000000, 0x0, 1, 0x0, 1, .const 0xE420100, .fixed 0x0F0E, .none, false, [⟨31, 24, .ro⟩, ⟨23, 16, .ro⟩, ⟨15,
    8, .ro⟩, ⟨7, 0, .ro⟩]⟩
def Fld.AUD_ID_GROUP : Fld := ⟨.AUD_ID, 31, 24⟩
def Fld.AUD_ID_STEPPING : Fld := ⟨.AUD_ID, 23, 16⟩
def Fld.AUD_ID_MAP_MAJOR : Fld := ⟨.AUD_ID, 15, 8⟩
def Fld.AUD_ID_MAP_MINOR : Fld := ⟨.AUD_ID, 7, 0⟩
def Reg.EVF_ID : Reg :=
  ⟨0x0D000000, 0x0, 1, 0x0, 1, .const 0xF420100, .fixed 0x0F0F, .none, false, [⟨31, 24, .ro⟩, ⟨23, 16, .ro⟩, ⟨15,
    8, .ro⟩, ⟨7, 0, .ro⟩]⟩
def Fld.EVF_ID_GROUP : Fld := ⟨.EVF_ID, 31, 24⟩
def Fld.EVF_ID_STEPPING : Fld := ⟨.EVF_ID, 23, 16⟩
def Fld.EVF_ID_MAP_MAJOR : Fld := ⟨.EVF_ID, 15, 8⟩
def Fld.EVF_ID_MAP_MINOR : Fld := ⟨.EVF_ID, 7, 0⟩
def Reg.PTU_ID : Reg :=
  ⟨0x0E000000, 0x0, 1, 0x0, 1, .const 0x10420100, .fixed 0x0F10, .none, false, [⟨31, 24, .ro⟩, ⟨23, 16, .ro⟩, ⟨15,
    8, .ro⟩, ⟨7, 0, .ro⟩]⟩
def Fld.PTU_ID_GROUP : Fld := ⟨.PTU_ID, 31, 24⟩
def Fld.PTU_ID_STEPPING : Fld := ⟨.PTU_ID, 23, 16⟩
def Fld.PTU_ID_MAP_MAJOR : Fld := ⟨.PTU_ID, 15, 8⟩
def Fld.PTU_ID_MAP_MINOR : Fld := ⟨.PTU_ID, 7, 0⟩
def Reg.VAL_ID : Reg :=
  ⟨0x0F000000, 0x0, 1, 0x0, 1, .const 0x11420100, .fixed 0x0F11, .none, false, [⟨31, 24, .ro⟩, ⟨23, 16, .ro⟩, ⟨15,
    8, .ro⟩, ⟨7, 0, .ro⟩]⟩
def Fld.VAL_ID_GROUP : Fld := ⟨.VAL_ID, 31, 24⟩
def Fld.VAL_ID_STEPPING : Fld := ⟨.VAL_ID, 23, 16⟩
def Fld.VAL_ID_MAP_MAJOR : Fld := ⟨.VAL_ID, 15, 8⟩
def Fld.VAL_ID_MAP_MINOR : Fld := ⟨.VAL_ID, 7, 0⟩
def Reg.DCK_CTRL : Reg :=
  ⟨0x01000004, 0x0, 1, 0x0, 1, .const 0xA04, .fixed 0x0F03, .none, false, [⟨15, 8, .rw⟩, ⟨2, 2, .rw⟩, ⟨1, 1,
    .rw⟩]⟩
def Fld.DCK_CTRL_SLEW_LIMIT : Fld := ⟨.DCK_CTRL, 15, 8⟩
def Fld.DCK_CTRL_AUTO_FALLBACK : Fld := ⟨.DCK_CTRL, 2, 2⟩
def Fld.DCK_CTRL_STEP_ON_LOCK : Fld := ⟨.DCK_CTRL, 1, 1⟩
def Reg.DCK_SRC : Reg :=
  ⟨0x01000008, 0x0, 1, 0x0, 1, .const 0xA0000, .fixed 0x0F03, .none, false, [⟨23, 16, .rw⟩, ⟨15, 12, .rw⟩, ⟨11, 8,
    .rw⟩, ⟨7, 4, .rw⟩, ⟨3, 0, .rw⟩]⟩
def Fld.DCK_SRC_SWITCH_DELAY : Fld := ⟨.DCK_SRC, 23, 16⟩
def Fld.DCK_SRC_PRIO3 : Fld := ⟨.DCK_SRC, 15, 12⟩
def Fld.DCK_SRC_PRIO2 : Fld := ⟨.DCK_SRC, 11, 8⟩
def Fld.DCK_SRC_PRIO1 : Fld := ⟨.DCK_SRC, 7, 4⟩
def Fld.DCK_SRC_PRIO0 : Fld := ⟨.DCK_SRC, 3, 0⟩
def Reg.DCK_STATUS : Reg :=
  ⟨0x0100000C, 0x0, 1, 0x0, 1, .const 0x0, .fixed 0x0F03, .none, false, [⟨9, 9, .ro⟩, ⟨8, 8, .ro⟩, ⟨7, 4, .ro⟩,
    ⟨1, 0, .ro⟩]⟩
def Fld.DCK_STATUS_XCHK_OK : Fld := ⟨.DCK_STATUS, 9, 9⟩
def Fld.DCK_STATUS_LTC_PRESENT : Fld := ⟨.DCK_STATUS, 8, 8⟩
def Fld.DCK_STATUS_ACTIVE_SRC : Fld := ⟨.DCK_STATUS, 7, 4⟩
def Fld.DCK_STATUS_STATE : Fld := ⟨.DCK_STATUS, 1, 0⟩
def Reg.DCK_TIME_LO : Reg := ⟨0x01000010, 0x0, 1, 0x0, 1, .const 0x0, .fixed 0x0F03, .none, true, [⟨31, 0, .ro⟩]⟩
def Fld.DCK_TIME_LO_TIME : Fld := ⟨.DCK_TIME_LO, 31, 0⟩
def Reg.DCK_TIME_HI : Reg := ⟨0x01000014, 0x0, 1, 0x0, 1, .const 0x0, .fixed 0x0F03, .none, false, [⟨31, 0, .ro⟩]⟩
def Fld.DCK_TIME_HI_TIME : Fld := ⟨.DCK_TIME_HI, 31, 0⟩
def Reg.DCK_PHASE_ERR : Reg := ⟨0x01000018, 0x0, 1, 0x0, 1, .const 0x0, .fixed 0x0F03, .none, false, [⟨31, 0, .ro⟩]⟩
def Fld.DCK_PHASE_ERR_PHASE_ERR : Fld := ⟨.DCK_PHASE_ERR, 31, 0⟩
def Reg.DCK_FREQ_ERR : Reg := ⟨0x0100001C, 0x0, 1, 0x0, 1, .const 0x0, .fixed 0x0F03, .none, false, [⟨31, 0, .ro⟩]⟩
def Fld.DCK_FREQ_ERR_FREQ_ERR : Fld := ⟨.DCK_FREQ_ERR, 31, 0⟩
def Reg.DCK_REF_CFG : Reg :=
  ⟨0x01000020, 0x0, 1, 0x0, 1, .const 0x7F000000, .fixed 0x0F03, .none, false, [⟨31, 24, .rw⟩, ⟨19, 16, .rw⟩, ⟨15,
    8, .rw⟩]⟩
def Fld.DCK_REF_CFG_PTP_DOMAIN : Fld := ⟨.DCK_REF_CFG, 31, 24⟩
def Fld.DCK_REF_CFG_PTP_IF : Fld := ⟨.DCK_REF_CFG, 19, 16⟩
def Fld.DCK_REF_CFG_GEN_FORMAT : Fld := ⟨.DCK_REF_CFG, 15, 8⟩
def Reg.DCK_GEN_SOF_LO : Reg := ⟨0x01000028, 0x0, 1, 0x0, 1, .const 0x0, .fixed 0x0F03, .none, true, [⟨31, 0, .ro⟩]⟩
def Fld.DCK_GEN_SOF_LO_SOF : Fld := ⟨.DCK_GEN_SOF_LO, 31, 0⟩
def Reg.DCK_GEN_SOF_HI : Reg := ⟨0x0100002C, 0x0, 1, 0x0, 1, .const 0x0, .fixed 0x0F03, .none, false, [⟨31, 0, .ro⟩]⟩
def Fld.DCK_GEN_SOF_HI_SOF : Fld := ⟨.DCK_GEN_SOF_HI, 31, 0⟩
def Reg.DCK_TC_CFG : Reg :=
  ⟨0x01000030, 0x0, 1, 0x0, 1, .const 0x0, .fixed 0x0F03, .tc, false, [⟨9, 9, .rws⟩, ⟨8, 8, .rws⟩, ⟨5, 5, .rws⟩,
    ⟨4, 4, .rws⟩, ⟨3, 0, .rws⟩]⟩
def Fld.DCK_TC_CFG_LTC_IN_EN : Fld := ⟨.DCK_TC_CFG, 9, 9⟩
def Fld.DCK_TC_CFG_LTC_OUT_EN : Fld := ⟨.DCK_TC_CFG, 8, 8⟩
def Fld.DCK_TC_CFG_DROP_FRAME : Fld := ⟨.DCK_TC_CFG, 5, 5⟩
def Fld.DCK_TC_CFG_PULLDOWN : Fld := ⟨.DCK_TC_CFG, 4, 4⟩
def Fld.DCK_TC_CFG_RATE : Fld := ⟨.DCK_TC_CFG, 3, 0⟩
def Reg.DCK_TC_ANCHOR : Reg := ⟨0x01000034, 0x0, 1, 0x0, 1, .const 0x0, .fixed 0x0F03, .tc, false, [⟨31, 0, .rws⟩]⟩
def Fld.DCK_TC_ANCHOR_ANCHOR : Fld := ⟨.DCK_TC_ANCHOR, 31, 0⟩
def Reg.DCK_TC_ANCHOR_TIME_LO : Reg :=
  ⟨0x01000038, 0x0, 1, 0x0, 1, .const 0x0, .fixed 0x0F03, .tc, true, [⟨31, 0, .rws⟩]⟩
def Fld.DCK_TC_ANCHOR_TIME_LO_TIME : Fld := ⟨.DCK_TC_ANCHOR_TIME_LO, 31, 0⟩
def Reg.DCK_TC_ANCHOR_TIME_HI : Reg :=
  ⟨0x0100003C, 0x0, 1, 0x0, 1, .const 0x0, .fixed 0x0F03, .tc, false, [⟨31, 0, .rws⟩]⟩
def Fld.DCK_TC_ANCHOR_TIME_HI_TIME : Fld := ⟨.DCK_TC_ANCHOR_TIME_HI, 31, 0⟩
def Reg.DCK_LTC_IN : Reg := ⟨0x01000040, 0x0, 1, 0x0, 1, .const 0x0, .fixed 0x0F03, .none, false, [⟨31, 0, .ro⟩]⟩
def Fld.DCK_LTC_IN_LTC_IN : Fld := ⟨.DCK_LTC_IN, 31, 0⟩
def Reg.DCK_LTC_IN_UB : Reg := ⟨0x01000044, 0x0, 1, 0x0, 1, .const 0x0, .fixed 0x0F03, .none, false, [⟨31, 0, .ro⟩]⟩
def Fld.DCK_LTC_IN_UB_LTC_IN_UB : Fld := ⟨.DCK_LTC_IN_UB, 31, 0⟩
def Reg.DCK_LTC_OUT_UB : Reg := ⟨0x01000048, 0x0, 1, 0x0, 1, .const 0x0, .fixed 0x0F03, .tc, false, [⟨31, 0, .rws⟩]⟩
def Fld.DCK_LTC_OUT_UB_LTC_OUT_UB : Fld := ⟨.DCK_LTC_OUT_UB, 31, 0⟩
def Reg.DCK_EVT : Reg :=
  ⟨0x01000050, 0x0, 1, 0x0, 1, .const 0x0, .fixed 0x0F03, .none, false, [⟨6, 6, .w1c⟩, ⟨5, 5, .w1c⟩, ⟨4, 4, .w1c⟩,
    ⟨3, 3, .w1c⟩, ⟨2, 2, .w1c⟩, ⟨1, 1, .w1c⟩, ⟨0, 0, .w1c⟩]⟩
def Fld.DCK_EVT_XCHK_FAIL : Fld := ⟨.DCK_EVT, 6, 6⟩
def Fld.DCK_EVT_LTC_DISCONT : Fld := ⟨.DCK_EVT, 5, 5⟩
def Fld.DCK_EVT_LTC_LOST : Fld := ⟨.DCK_EVT, 4, 4⟩
def Fld.DCK_EVT_STEP : Fld := ⟨.DCK_EVT, 3, 3⟩
def Fld.DCK_EVT_HOLDOVER : Fld := ⟨.DCK_EVT, 2, 2⟩
def Fld.DCK_EVT_LOCK_LOST : Fld := ⟨.DCK_EVT, 1, 1⟩
def Fld.DCK_EVT_LOCK_GAINED : Fld := ⟨.DCK_EVT, 0, 0⟩
def Reg.DCK_PORT_CTRL : Reg :=
  ⟨0x01001000, 0x10, 96, 0x0, 1, .const 0x0, .port, .none, false, [⟨1, 1, .rw⟩, ⟨0, 0, .rw⟩]⟩
def Fld.DCK_PORT_CTRL_MISS_DEFAULT : Fld := ⟨.DCK_PORT_CTRL, 1, 1⟩
def Fld.DCK_PORT_CTRL_PAUSE : Fld := ⟨.DCK_PORT_CTRL, 0, 0⟩
def Reg.DCK_PORT_STAT : Reg :=
  ⟨0x01001004, 0x10, 96, 0x0, 1, .const 0x0, .port, .none, false, [⟨13, 8, .rc⟩, ⟨6, 0, .ro⟩]⟩
def Fld.DCK_PORT_STAT_SLIP_MAX : Fld := ⟨.DCK_PORT_STAT, 13, 8⟩
def Fld.DCK_PORT_STAT_DEPTH : Fld := ⟨.DCK_PORT_STAT, 6, 0⟩
def Reg.DCK_PORT_LATE : Reg := ⟨0x01001008, 0x10, 96, 0x0, 1, .const 0x0, .port, .none, false, [⟨15, 0, .rc⟩]⟩
def Fld.DCK_PORT_LATE_COUNT : Fld := ⟨.DCK_PORT_LATE, 15, 0⟩
def Reg.DCK_PORT_LAUNCH : Reg := ⟨0x0100100C, 0x10, 96, 0x0, 1, .const 0x0, .port, .none, false, [⟨31, 0, .ro⟩]⟩
def Fld.DCK_PORT_LAUNCH_LAUNCH : Fld := ⟨.DCK_PORT_LAUNCH, 31, 0⟩
def Reg.DCK_STAGE : Reg := ⟨0x01002000, 0x4, 6, 0x0, 1, .const 0x0, .fixed 0x0F03, .none, false, [⟨31, 0, .rw⟩]⟩
def Fld.DCK_STAGE_STAGE : Fld := ⟨.DCK_STAGE, 31, 0⟩
def Reg.DCK_PUSH : Reg := ⟨0x01002018, 0x0, 1, 0x0, 1, .const 0x0, .fixed 0x0F03, .none, false, [⟨6, 0, .wo⟩]⟩
def Fld.DCK_PUSH_PORT : Fld := ⟨.DCK_PUSH, 6, 0⟩
def Reg.DCK_PUSH_RESULT : Reg := ⟨0x0100201C, 0x0, 1, 0x0, 1, .const 0x0, .fixed 0x0F03, .none, false, [⟨15, 0, .ro⟩]⟩
def Fld.DCK_PUSH_RESULT_STATUS : Fld := ⟨.DCK_PUSH_RESULT, 15, 0⟩
def Reg.CPI_EVT : Reg :=
  ⟨0x00000004, 0x0, 1, 0x0, 1, .const 0x0, .h0, .none, false, [⟨17, 17, .w1c⟩, ⟨16, 16, .w1c⟩, ⟨15, 8, .w1c⟩, ⟨7,
    0, .w1c⟩]⟩
def Fld.CPI_EVT_BAR_DENIED : Fld := ⟨.CPI_EVT, 17, 17⟩
def Fld.CPI_EVT_ATTACH_REFUSED : Fld := ⟨.CPI_EVT, 16, 16⟩
def Fld.CPI_EVT_RING_ERR : Fld := ⟨.CPI_EVT, 15, 8⟩
def Fld.CPI_EVT_LEASE_EXPIRED : Fld := ⟨.CPI_EVT, 7, 0⟩
def Reg.CPI_BAR_DENIED : Reg :=
  ⟨0x00000008, 0x0, 1, 0x0, 1, .const 0x0, .fixed 0x0F01, .none, false, [⟨31, 30, .ro⟩, ⟨27, 2, .ro⟩]⟩
def Fld.CPI_BAR_DENIED_PF : Fld := ⟨.CPI_BAR_DENIED, 31, 30⟩
def Fld.CPI_BAR_DENIED_ADDR : Fld := ⟨.CPI_BAR_DENIED, 27, 2⟩
def Reg.CPI_SLOT_STATE : Reg :=
  ⟨0x00000100, 0x40, 8, 0x0, 1, .const 0x0, .slot, .none, false, [⟨31, 16, .ro⟩, ⟨15, 8, .ro⟩, ⟨7, 4, .ro⟩, ⟨1, 0,
    .ro⟩]⟩
def Fld.CPI_SLOT_STATE_LEASE_LEFT : Fld := ⟨.CPI_SLOT_STATE, 31, 16⟩
def Fld.CPI_SLOT_STATE_ENDPOINT : Fld := ⟨.CPI_SLOT_STATE, 15, 8⟩
def Fld.CPI_SLOT_STATE_TRANSPORT : Fld := ⟨.CPI_SLOT_STATE, 7, 4⟩
def Fld.CPI_SLOT_STATE_STATE : Fld := ⟨.CPI_SLOT_STATE, 1, 0⟩
def Reg.CPI_SLOT_SQ_BASE_LO : Reg := ⟨0x00000104, 0x40, 8, 0x0, 1, .const 0x0, .slot, .none, true, [⟨31, 12, .rw⟩]⟩
def Fld.CPI_SLOT_SQ_BASE_LO_BASE : Fld := ⟨.CPI_SLOT_SQ_BASE_LO, 31, 12⟩
def Reg.CPI_SLOT_SQ_BASE_HI : Reg := ⟨0x00000108, 0x40, 8, 0x0, 1, .const 0x0, .slot, .none, false, [⟨31, 0, .rw⟩]⟩
def Fld.CPI_SLOT_SQ_BASE_HI_BASE : Fld := ⟨.CPI_SLOT_SQ_BASE_HI, 31, 0⟩
def Reg.CPI_SLOT_RQ_BASE_LO : Reg := ⟨0x0000010C, 0x40, 8, 0x0, 1, .const 0x0, .slot, .none, true, [⟨31, 12, .rw⟩]⟩
def Fld.CPI_SLOT_RQ_BASE_LO_BASE : Fld := ⟨.CPI_SLOT_RQ_BASE_LO, 31, 12⟩
def Reg.CPI_SLOT_RQ_BASE_HI : Reg := ⟨0x00000110, 0x40, 8, 0x0, 1, .const 0x0, .slot, .none, false, [⟨31, 0, .rw⟩]⟩
def Fld.CPI_SLOT_RQ_BASE_HI_BASE : Fld := ⟨.CPI_SLOT_RQ_BASE_HI, 31, 0⟩
def Reg.CPI_SLOT_SQ_TAIL : Reg := ⟨0x00000114, 0x40, 8, 0x0, 1, .const 0x0, .slot, .none, false, [⟨6, 0, .rw⟩]⟩
def Fld.CPI_SLOT_SQ_TAIL_INDEX : Fld := ⟨.CPI_SLOT_SQ_TAIL, 6, 0⟩
def Reg.CPI_SLOT_SQ_HEAD : Reg := ⟨0x00000118, 0x40, 8, 0x0, 1, .const 0x0, .slot, .none, false, [⟨6, 0, .ro⟩]⟩
def Fld.CPI_SLOT_SQ_HEAD_INDEX : Fld := ⟨.CPI_SLOT_SQ_HEAD, 6, 0⟩
def Reg.CPI_SLOT_RQ_TAIL : Reg := ⟨0x0000011C, 0x40, 8, 0x0, 1, .const 0x0, .slot, .none, false, [⟨6, 0, .ro⟩]⟩
def Fld.CPI_SLOT_RQ_TAIL_INDEX : Fld := ⟨.CPI_SLOT_RQ_TAIL, 6, 0⟩
def Reg.CPI_SLOT_RQ_HEAD : Reg := ⟨0x00000120, 0x40, 8, 0x0, 1, .const 0x0, .slot, .none, false, [⟨6, 0, .rw⟩]⟩
def Fld.CPI_SLOT_RQ_HEAD_INDEX : Fld := ⟨.CPI_SLOT_RQ_HEAD, 6, 0⟩
def Reg.CPI_SLOT_STAT : Reg :=
  ⟨0x00000124, 0x40, 8, 0x0, 1, .const 0x0, .slot, .none, false, [⟨31, 24, .ro⟩, ⟨15, 0, .rc⟩]⟩
def Fld.CPI_SLOT_STAT_PENDING : Fld := ⟨.CPI_SLOT_STAT, 31, 24⟩
def Fld.CPI_SLOT_STAT_REFUSED : Fld := ⟨.CPI_SLOT_STAT, 15, 0⟩
def Reg.SNS_EVT : Reg :=
  ⟨0x02000004, 0x0, 1, 0x0, 1, .const 0x0, .fixed 0x0F04, .none, false, [⟨31, 24, .w1c⟩, ⟨23, 16, .w1c⟩, ⟨15, 8,
    .w1c⟩]⟩
def Fld.SNS_EVT_LOCK_LOST : Fld := ⟨.SNS_EVT, 31, 24⟩
def Fld.SNS_EVT_MALFORMED : Fld := ⟨.SNS_EVT, 23, 16⟩
def Fld.SNS_EVT_TRIGGER : Fld := ⟨.SNS_EVT, 15, 8⟩
def Reg.SNS_SCB_EVT : Reg := ⟨0x02000008, 0x0, 1, 0x0, 1, .const 0x0, .fixed 0x0F04, .none, false, [⟨31, 0, .w1c⟩]⟩
def Fld.SNS_SCB_EVT_BUS : Fld := ⟨.SNS_SCB_EVT, 31, 0⟩
def Reg.SNS_PORT_CFG : Reg :=
  ⟨0x02010000, 0x1000, 8, 0x0, 1, .const 0x0, .res 0x01, .none, false, [⟨31, 31, .rw⟩, ⟨26, 24, .rw⟩, ⟨23, 20,
    .rw⟩, ⟨19, 14, .rw⟩, ⟨12, 0, .rw⟩]⟩
def Fld.SNS_PORT_CFG_ENABLE : Fld := ⟨.SNS_PORT_CFG, 31, 31⟩
def Fld.SNS_PORT_CFG_PROTOCOL : Fld := ⟨.SNS_PORT_CFG, 26, 24⟩
def Fld.SNS_PORT_CFG_LINKS : Fld := ⟨.SNS_PORT_CFG, 23, 20⟩
def Fld.SNS_PORT_CFG_LANES_PER_LINK : Fld := ⟨.SNS_PORT_CFG, 19, 14⟩
def Fld.SNS_PORT_CFG_RATE : Fld := ⟨.SNS_PORT_CFG, 12, 0⟩
def Reg.SNS_PORT_STAT : Reg :=
  ⟨0x02010004, 0x1000, 8, 0x0, 1, .const 0x0, .res 0x01, .none, false, [⟨31, 31, .ro⟩, ⟨30, 30, .ro⟩, ⟨15, 8,
    .ro⟩, ⟨6, 0, .ro⟩]⟩
def Fld.SNS_PORT_STAT_LOCKED : Fld := ⟨.SNS_PORT_STAT, 31, 31⟩
def Fld.SNS_PORT_STAT_DESKEW_FAIL : Fld := ⟨.SNS_PORT_STAT, 30, 30⟩
def Fld.SNS_PORT_STAT_MAX_SKEW : Fld := ⟨.SNS_PORT_STAT, 15, 8⟩
def Fld.SNS_PORT_STAT_LANES_LOCKED : Fld := ⟨.SNS_PORT_STAT, 6, 0⟩
def Reg.SNS_PORT_ERR : Reg :=
  ⟨0x02010008, 0x1000, 8, 0x0, 1, .const 0x0, .res 0x01, .none, false, [⟨31, 16, .rc⟩, ⟨15, 0, .rc⟩]⟩
def Fld.SNS_PORT_ERR_CHECK_FAIL : Fld := ⟨.SNS_PORT_ERR, 31, 16⟩
def Fld.SNS_PORT_ERR_ECC_CORR : Fld := ⟨.SNS_PORT_ERR, 15, 0⟩
def Reg.SNS_PORT_SYNC : Reg :=
  ⟨0x0201000C, 0x1000, 8, 0x0, 1, .const 0x809DABB6, .res 0x01, .none, false, [⟨31, 24, .rw⟩, ⟨23, 16, .rw⟩, ⟨15,
    8, .rw⟩, ⟨7, 0, .rw⟩]⟩
def Fld.SNS_PORT_SYNC_SAV_VALID : Fld := ⟨.SNS_PORT_SYNC, 31, 24⟩
def Fld.SNS_PORT_SYNC_EAV_VALID : Fld := ⟨.SNS_PORT_SYNC, 23, 16⟩
def Fld.SNS_PORT_SYNC_SAV_BLANK : Fld := ⟨.SNS_PORT_SYNC, 15, 8⟩
def Fld.SNS_PORT_SYNC_EAV_BLANK : Fld := ⟨.SNS_PORT_SYNC, 7, 0⟩
def Reg.SNS_PORT_MAP : Reg :=
  ⟨0x02010100, 0x1000, 8, 0x4, 16, .const 0x0, .res 0x01, .none, false, [⟨31, 24, .rw⟩, ⟨23, 16, .rw⟩, ⟨15, 8,
    .rw⟩, ⟨7, 0, .rw⟩]⟩
def Fld.SNS_PORT_MAP_LANE3 : Fld := ⟨.SNS_PORT_MAP, 31, 24⟩
def Fld.SNS_PORT_MAP_LANE2 : Fld := ⟨.SNS_PORT_MAP, 23, 16⟩
def Fld.SNS_PORT_MAP_LANE1 : Fld := ⟨.SNS_PORT_MAP, 15, 8⟩
def Fld.SNS_PORT_MAP_LANE0 : Fld := ⟨.SNS_PORT_MAP, 7, 0⟩
def Reg.SNS_CTX_CFG : Reg :=
  ⟨0x02020000, 0x100, 8, 0x0, 1, .const 0x0, .res 0x01, .none, false, [⟨31, 31, .ro⟩, ⟨28, 28, .rw⟩, ⟨27, 27,
    .rw⟩, ⟨26, 26, .rw⟩, ⟨24, 24, .rw⟩, ⟨21, 20, .rw⟩, ⟨15, 8, .rw⟩, ⟨7, 0, .rw⟩]⟩
def Fld.SNS_CTX_CFG_ENABLED : Fld := ⟨.SNS_CTX_CFG, 31, 31⟩
def Fld.SNS_CTX_CFG_SOURCE : Fld := ⟨.SNS_CTX_CFG, 28, 28⟩
def Fld.SNS_CTX_CFG_TRIG_MODE : Fld := ⟨.SNS_CTX_CFG, 27, 27⟩
def Fld.SNS_CTX_CFG_POLICY : Fld := ⟨.SNS_CTX_CFG, 26, 26⟩
def Fld.SNS_CTX_CFG_SUBSTREAMS : Fld := ⟨.SNS_CTX_CFG, 24, 24⟩
def Fld.SNS_CTX_CFG_BIT_DEPTH : Fld := ⟨.SNS_CTX_CFG, 21, 20⟩
def Fld.SNS_CTX_CFG_SUB1_ID : Fld := ⟨.SNS_CTX_CFG, 15, 8⟩
def Fld.SNS_CTX_CFG_SUB0_ID : Fld := ⟨.SNS_CTX_CFG, 7, 0⟩
def Reg.SNS_GEOM : Reg :=
  ⟨0x02020004, 0x100, 8, 0x0, 1, .const 0x40002160, .res 0x01, .ctx, false, [⟨31, 16, .rws⟩, ⟨15, 0, .rws⟩]⟩
def Fld.SNS_GEOM_COLS : Fld := ⟨.SNS_GEOM, 31, 16⟩
def Fld.SNS_GEOM_ROWS : Fld := ⟨.SNS_GEOM, 15, 0⟩
def Reg.SNS_CTX_TIMING : Reg :=
  ⟨0x02020008, 0x100, 8, 0x0, 1, .const 0x3E80464, .res 0x01, .ctx, false, [⟨31, 16, .rws⟩, ⟨15, 10, .rws⟩, ⟨9, 0,
    .rws⟩]⟩
def Fld.SNS_CTX_TIMING_TRIG_WINDOW : Fld := ⟨.SNS_CTX_TIMING, 31, 16⟩
def Fld.SNS_CTX_TIMING_WIDTH : Fld := ⟨.SNS_CTX_TIMING, 15, 10⟩
def Fld.SNS_CTX_TIMING_TRAILER_WAIT : Fld := ⟨.SNS_CTX_TIMING, 9, 0⟩
def Reg.SNS_CTX_TRIG : Reg :=
  ⟨0x0202000C, 0x100, 8, 0x0, 1, .const 0x0, .res 0x01, .ctx, false, [⟨31, 24, .rws⟩, ⟨23, 16, .rws⟩, ⟨15, 8,
    .rws⟩, ⟨4, 4, .rws⟩, ⟨2, 2, .rws⟩, ⟨1, 1, .rws⟩, ⟨0, 0, .rws⟩]⟩
def Fld.SNS_CTX_TRIG_FRAME_PIN : Fld := ⟨.SNS_CTX_TRIG, 31, 24⟩
def Fld.SNS_CTX_TRIG_EXP0_PIN : Fld := ⟨.SNS_CTX_TRIG, 23, 16⟩
def Fld.SNS_CTX_TRIG_EXP1_PIN : Fld := ⟨.SNS_CTX_TRIG, 15, 8⟩
def Fld.SNS_CTX_TRIG_POLARITY : Fld := ⟨.SNS_CTX_TRIG, 4, 4⟩
def Fld.SNS_CTX_TRIG_EXP1_EN : Fld := ⟨.SNS_CTX_TRIG, 2, 2⟩
def Fld.SNS_CTX_TRIG_EXP0_EN : Fld := ⟨.SNS_CTX_TRIG, 1, 1⟩
def Fld.SNS_CTX_TRIG_FRAME_EN : Fld := ⟨.SNS_CTX_TRIG, 0, 0⟩
def Reg.SNS_CTX_SRC : Reg :=
  ⟨0x02020010, 0x100, 8, 0x0, 1, .const 0x0, .res 0x01, .none, false, [⟨31, 22, .ro⟩, ⟨15, 8, .rw⟩, ⟨4, 0, .rw⟩]⟩
def Fld.SNS_CTX_SRC_TRIG_DELAY : Fld := ⟨.SNS_CTX_SRC, 31, 22⟩
def Fld.SNS_CTX_SRC_CHANNEL : Fld := ⟨.SNS_CTX_SRC, 15, 8⟩
def Fld.SNS_CTX_SRC_LINK : Fld := ⟨.SNS_CTX_SRC, 4, 0⟩
def Reg.SNS_CTX_FRAME : Reg := ⟨0x02020014, 0x100, 8, 0x0, 1, .const 0x0, .res 0x01, .none, false, [⟨31, 0, .ro⟩]⟩
def Fld.SNS_CTX_FRAME_FRAME : Fld := ⟨.SNS_CTX_FRAME, 31, 0⟩
def Reg.SNS_CTX_SOF_LO : Reg := ⟨0x02020018, 0x100, 8, 0x0, 1, .const 0x0, .res 0x01, .none, true, [⟨31, 0, .ro⟩]⟩
def Fld.SNS_CTX_SOF_LO_SOF : Fld := ⟨.SNS_CTX_SOF_LO, 31, 0⟩
def Reg.SNS_CTX_SOF_HI : Reg := ⟨0x0202001C, 0x100, 8, 0x0, 1, .const 0x0, .res 0x01, .none, false, [⟨31, 0, .ro⟩]⟩
def Fld.SNS_CTX_SOF_HI_SOF : Fld := ⟨.SNS_CTX_SOF_HI, 31, 0⟩
def Reg.SNS_CTX_STATUS_LO : Reg := ⟨0x02020020, 0x100, 8, 0x0, 1, .const 0x0, .res 0x01, .none, true, [⟨31, 0, .ro⟩]⟩
def Fld.SNS_CTX_STATUS_LO_STATUS : Fld := ⟨.SNS_CTX_STATUS_LO, 31, 0⟩
def Reg.SNS_CTX_STATUS_HI : Reg := ⟨0x02020024, 0x100, 8, 0x0, 1, .const 0x0, .res 0x01, .none, false, [⟨31, 0, .ro⟩]⟩
def Fld.SNS_CTX_STATUS_HI_STATUS : Fld := ⟨.SNS_CTX_STATUS_HI, 31, 0⟩
def Reg.SNS_CTX_CNT0 : Reg :=
  ⟨0x02020028, 0x100, 8, 0x0, 1, .const 0x0, .res 0x01, .none, false, [⟨31, 16, .rc⟩, ⟨15, 0, .rc⟩]⟩
def Fld.SNS_CTX_CNT0_SHORT : Fld := ⟨.SNS_CTX_CNT0, 31, 16⟩
def Fld.SNS_CTX_CNT0_LONG : Fld := ⟨.SNS_CTX_CNT0, 15, 0⟩
def Reg.SNS_CTX_CNT1 : Reg :=
  ⟨0x0202002C, 0x100, 8, 0x0, 1, .const 0x0, .res 0x01, .none, false, [⟨31, 16, .rc⟩, ⟨15, 0, .rc⟩]⟩
def Fld.SNS_CTX_CNT1_REMOVED : Fld := ⟨.SNS_CTX_CNT1, 31, 16⟩
def Fld.SNS_CTX_CNT1_UNTRIGGERED : Fld := ⟨.SNS_CTX_CNT1, 15, 0⟩
def Reg.SNS_CTX_CNT2 : Reg :=
  ⟨0x02020030, 0x100, 8, 0x0, 1, .const 0x0, .res 0x01, .none, false, [⟨31, 16, .rc⟩, ⟨15, 0, .rc⟩]⟩
def Fld.SNS_CTX_CNT2_NO_FRAME : Fld := ⟨.SNS_CTX_CNT2, 31, 16⟩
def Fld.SNS_CTX_CNT2_STRAY_ROWS : Fld := ⟨.SNS_CTX_CNT2, 15, 0⟩
def Reg.SNS_SCB_CFG : Reg :=
  ⟨0x02030000, 0x40, 32, 0x0, 1, .const 0x3E80000, .res 0x0C, .none, false, [⟨31, 16, .rw⟩, ⟨8, 8, .rw⟩, ⟨7, 4,
    .rw⟩, ⟨3, 0, .rw⟩]⟩
def Fld.SNS_SCB_CFG_TIMEOUT : Fld := ⟨.SNS_SCB_CFG, 31, 16⟩
def Fld.SNS_SCB_CFG_SPI_MODE : Fld := ⟨.SNS_SCB_CFG, 8, 8⟩
def Fld.SNS_SCB_CFG_SPEED : Fld := ⟨.SNS_SCB_CFG, 7, 4⟩
def Fld.SNS_SCB_CFG_MODE : Fld := ⟨.SNS_SCB_CFG, 3, 0⟩
def Reg.SNS_SCB_STAT : Reg :=
  ⟨0x02030004, 0x40, 32, 0x0, 1, .const 0x0, .res 0x0C, .none, false, [⟨31, 31, .ro⟩, ⟨30, 30, .ro⟩, ⟨23, 16,
    .ro⟩, ⟨15, 12, .ro⟩, ⟨11, 8, .ro⟩, ⟨7, 0, .rc⟩]⟩
def Fld.SNS_SCB_STAT_RUNNING : Fld := ⟨.SNS_SCB_STAT, 31, 31⟩
def Fld.SNS_SCB_STAT_WAITING : Fld := ⟨.SNS_SCB_STAT, 30, 30⟩
def Fld.SNS_SCB_STAT_ERR_OP : Fld := ⟨.SNS_SCB_STAT, 23, 16⟩
def Fld.SNS_SCB_STAT_ERR_CODE : Fld := ⟨.SNS_SCB_STAT, 15, 12⟩
def Fld.SNS_SCB_STAT_LIST : Fld := ⟨.SNS_SCB_STAT, 11, 8⟩
def Fld.SNS_SCB_STAT_OVERLAP : Fld := ⟨.SNS_SCB_STAT, 7, 0⟩
def Reg.PIP_EVT : Reg :=
  ⟨0x03000004, 0x0, 1, 0x0, 1, .const 0x0, .fixed 0x0F05, .none, false, [⟨31, 24, .w1c⟩, ⟨23, 16, .w1c⟩, ⟨15, 8,
    .w1c⟩, ⟨7, 7, .w1c⟩, ⟨6, 6, .w1c⟩, ⟨5, 5, .w1c⟩, ⟨4, 4, .w1c⟩]⟩
def Fld.PIP_EVT_PAN_DROP : Fld := ⟨.PIP_EVT, 31, 24⟩
def Fld.PIP_EVT_ABANDON : Fld := ⟨.PIP_EVT, 23, 16⟩
def Fld.PIP_EVT_NOT_READY : Fld := ⟨.PIP_EVT, 15, 8⟩
def Fld.PIP_EVT_SWITCH_DONE : Fld := ⟨.PIP_EVT, 7, 7⟩
def Fld.PIP_EVT_SWITCH_REFUSED : Fld := ⟨.PIP_EVT, 6, 6⟩
def Fld.PIP_EVT_KAT_FAIL : Fld := ⟨.PIP_EVT, 5, 5⟩
def Fld.PIP_EVT_PAN_FLOOR_CHANGED : Fld := ⟨.PIP_EVT, 4, 4⟩
def Reg.PIP_INLINE : Reg :=
  ⟨0x03000008, 0x0, 1, 0x0, 1, .const 0x0, .fixed 0x0F05, .none, false, [⟨31, 31, .ro⟩, ⟨30, 28, .ro⟩, ⟨27, 27,
    .ro⟩, ⟨26, 24, .ro⟩, ⟨6, 0, .rc⟩]⟩
def Fld.PIP_INLINE_VALID : Fld := ⟨.PIP_INLINE, 31, 31⟩
def Fld.PIP_INLINE_CONTEXT : Fld := ⟨.PIP_INLINE, 30, 28⟩
def Fld.PIP_INLINE_PENDING : Fld := ⟨.PIP_INLINE, 27, 27⟩
def Fld.PIP_INLINE_PENDING_CTX : Fld := ⟨.PIP_INLINE, 26, 24⟩
def Fld.PIP_INLINE_BACKLOG_PEAK : Fld := ⟨.PIP_INLINE, 6, 0⟩
def Reg.PIP_THROTTLE : Reg := ⟨0x0300000C, 0x0, 1, 0x0, 1, .const 0x0, .fixed 0x0F05, .none, false, [⟨2, 0, .ro⟩]⟩
def Fld.PIP_THROTTLE_PAN_FLOOR : Fld := ⟨.PIP_THROTTLE, 2, 0⟩
def Reg.PIP_LOAD : Reg :=
  ⟨0x03000010, 0x0, 1, 0x0, 1, .const 0x0, .fixed 0x0F05, .none, false, [⟨31, 16, .ro⟩, ⟨15, 0, .ro⟩]⟩
def Fld.PIP_LOAD_BUSY : Fld := ⟨.PIP_LOAD, 31, 16⟩
def Fld.PIP_LOAD_DECLARED : Fld := ⟨.PIP_LOAD, 15, 0⟩
def Reg.PIP_KAT : Reg :=
  ⟨0x03000014, 0x0, 1, 0x0, 1, .const 0x80000000, .fixed 0x0F05, .none, false, [⟨31, 31, .ro⟩, ⟨15, 0, .rc⟩]⟩
def Fld.PIP_KAT_LAST_OK : Fld := ⟨.PIP_KAT, 31, 31⟩
def Fld.PIP_KAT_FAILS : Fld := ⟨.PIP_KAT, 15, 0⟩
def Reg.PIP_CTX_CFG : Reg :=
  ⟨0x03010000, 0x100, 8, 0x0, 1, .const 0x800000, .res 0x01, .none, false, [⟨31, 31, .ro⟩, ⟨30, 30, .rw⟩, ⟨29, 28,
    .rw⟩, ⟨27, 27, .rw⟩, ⟨26, 26, .rw⟩, ⟨25, 22, .rw⟩, ⟨21, 17, .rw⟩, ⟨15, 0, .rw⟩]⟩
def Fld.PIP_CTX_CFG_ENABLED : Fld := ⟨.PIP_CTX_CFG, 31, 31⟩
def Fld.PIP_CTX_CFG_INLINE_OK : Fld := ⟨.PIP_CTX_CFG, 30, 30⟩
def Fld.PIP_CTX_CFG_PAN_PRIO : Fld := ⟨.PIP_CTX_CFG, 29, 28⟩
def Fld.PIP_CTX_CFG_ADMIT_OVER : Fld := ⟨.PIP_CTX_CFG, 27, 27⟩
def Fld.PIP_CTX_CFG_DROP_POLICY : Fld := ⟨.PIP_CTX_CFG, 26, 26⟩
def Fld.PIP_CTX_CFG_IL_DEPTH : Fld := ⟨.PIP_CTX_CFG, 25, 22⟩
def Fld.PIP_CTX_CFG_PAN_SLOTS : Fld := ⟨.PIP_CTX_CFG, 21, 17⟩
def Fld.PIP_CTX_CFG_RATE_DECL : Fld := ⟨.PIP_CTX_CFG, 15, 0⟩
def Reg.PIP_CTX_LB : Reg :=
  ⟨0x03010004, 0x100, 8, 0x0, 1, .const 0x0, .res 0x01, .none, false, [⟨24, 16, .rw⟩, ⟨14, 0, .ro⟩]⟩
def Fld.PIP_CTX_LB_UNITS : Fld := ⟨.PIP_CTX_LB, 24, 16⟩
def Fld.PIP_CTX_LB_COLS_MAX : Fld := ⟨.PIP_CTX_LB, 14, 0⟩
def Reg.PIP_CTX_MODE : Reg :=
  ⟨0x03010008, 0x100, 8, 0x0, 1, .const 0xF, .res 0x01, .ctx, false, [⟨31, 29, .rws⟩, ⟨27, 27, .rws⟩, ⟨3, 3,
    .rws⟩, ⟨2, 2, .rws⟩, ⟨1, 1, .rws⟩, ⟨0, 0, .rws⟩]⟩
def Fld.PIP_CTX_MODE_CFA : Fld := ⟨.PIP_CTX_MODE, 31, 29⟩
def Fld.PIP_CTX_MODE_FUSE_EN : Fld := ⟨.PIP_CTX_MODE, 27, 27⟩
def Fld.PIP_CTX_MODE_STATIC_EN : Fld := ⟨.PIP_CTX_MODE, 3, 3⟩
def Fld.PIP_CTX_MODE_DYN_EN : Fld := ⟨.PIP_CTX_MODE, 2, 2⟩
def Fld.PIP_CTX_MODE_SHADE_EN : Fld := ⟨.PIP_CTX_MODE, 1, 1⟩
def Fld.PIP_CTX_MODE_NR_EN : Fld := ⟨.PIP_CTX_MODE, 0, 0⟩
def Reg.PIP_FUSE : Reg :=
  ⟨0x0301000C, 0x100, 8, 0x0, 1, .const 0x1000E000, .res 0x01, .ctx, false, [⟨31, 16, .rws⟩, ⟨15, 0, .rws⟩]⟩
def Fld.PIP_FUSE_RATIO : Fld := ⟨.PIP_FUSE, 31, 16⟩
def Fld.PIP_FUSE_KNEE : Fld := ⟨.PIP_FUSE, 15, 0⟩
def Reg.PIP_BLACK : Reg :=
  ⟨0x03010010, 0x100, 8, 0x4, 4, .const 0x0, .res 0x01, .ctx, false, [⟨31, 16, .rws⟩, ⟨15, 0, .rws⟩]⟩
def Fld.PIP_BLACK_SUB1 : Fld := ⟨.PIP_BLACK, 31, 16⟩
def Fld.PIP_BLACK_SUB0 : Fld := ⟨.PIP_BLACK, 15, 0⟩
def Reg.PIP_WHITE : Reg :=
  ⟨0x03010020, 0x100, 8, 0x0, 1, .const 0x3FF03FF, .res 0x01, .ctx, false, [⟨31, 16, .rws⟩, ⟨15, 0, .rws⟩]⟩
def Fld.PIP_WHITE_SUB1 : Fld := ⟨.PIP_WHITE, 31, 16⟩
def Fld.PIP_WHITE_SUB0 : Fld := ⟨.PIP_WHITE, 15, 0⟩
def Reg.PIP_DYN : Reg :=
  ⟨0x03010024, 0x100, 8, 0x0, 1, .const 0x4004000, .res 0x01, .ctx, false, [⟨31, 16, .rws⟩, ⟨15, 8, .rws⟩]⟩
def Fld.PIP_DYN_OFS : Fld := ⟨.PIP_DYN, 31, 16⟩
def Fld.PIP_DYN_SLOPE : Fld := ⟨.PIP_DYN, 15, 8⟩
def Reg.PIP_NR : Reg :=
  ⟨0x03010028, 0x100, 8, 0x0, 1, .const 0x100010, .res 0x01, .ctx, false, [⟨31, 16, .rws⟩, ⟨15, 0, .rws⟩]⟩
def Fld.PIP_NR_A : Fld := ⟨.PIP_NR, 31, 16⟩
def Fld.PIP_NR_B : Fld := ⟨.PIP_NR, 15, 0⟩
def Reg.PIP_FILT : Reg :=
  ⟨0x0301002C, 0x100, 8, 0x0, 1, .const 0x10000040, .res 0x01, .ctx, false, [⟨31, 24, .rws⟩, ⟨15, 0, .rws⟩]⟩
def Fld.PIP_FILT_NR_STRENGTH : Fld := ⟨.PIP_FILT, 31, 24⟩
def Fld.PIP_FILT_DMS_EPS : Fld := ⟨.PIP_FILT, 15, 0⟩
def Reg.PIP_TAP : Reg :=
  ⟨0x03010030, 0x100, 8, 0x0, 1, .const 0x100, .res 0x01, .ctx, false, [⟨31, 31, .rws⟩, ⟨30, 28, .rws⟩, ⟨23, 20,
    .ro⟩, ⟨11, 0, .rws⟩]⟩
def Fld.PIP_TAP_RAW_FMT : Fld := ⟨.PIP_TAP, 31, 31⟩
def Fld.PIP_TAP_HEADROOM : Fld := ⟨.PIP_TAP, 30, 28⟩
def Fld.PIP_TAP_RAW_SLOTS : Fld := ⟨.PIP_TAP, 23, 20⟩
def Fld.PIP_TAP_PEDESTAL : Fld := ⟨.PIP_TAP, 11, 0⟩
def Reg.PIP_BANK : Reg :=
  ⟨0x03010034, 0x100, 8, 0x0, 1, .const 0x0, .res 0x01, .none, false, [⟨31, 15, .ro⟩, ⟨5, 4, .ro⟩, ⟨3, 2, .ro⟩,
    ⟨1, 1, .ro⟩, ⟨0, 0, .ro⟩]⟩
def Fld.PIP_BANK_DEFECTS : Fld := ⟨.PIP_BANK, 31, 15⟩
def Fld.PIP_BANK_SHADE_VALID : Fld := ⟨.PIP_BANK, 5, 4⟩
def Fld.PIP_BANK_DEFECT_VALID : Fld := ⟨.PIP_BANK, 3, 2⟩
def Fld.PIP_BANK_PENDING : Fld := ⟨.PIP_BANK, 1, 1⟩
def Fld.PIP_BANK_ACTIVE : Fld := ⟨.PIP_BANK, 0, 0⟩
def Reg.PIP_CTX_PAN : Reg :=
  ⟨0x03010038, 0x100, 8, 0x0, 1, .const 0x0, .res 0x01, .none, false, [⟨31, 27, .ro⟩, ⟨20, 16, .rc⟩]⟩
def Fld.PIP_CTX_PAN_OCCUPIED : Fld := ⟨.PIP_CTX_PAN, 31, 27⟩
def Fld.PIP_CTX_PAN_PEAK : Fld := ⟨.PIP_CTX_PAN, 20, 16⟩
def Reg.PIP_CTX_DROP : Reg :=
  ⟨0x0301003C, 0x100, 8, 0x0, 1, .const 0x0, .res 0x01, .none, false, [⟨31, 16, .rc⟩, ⟨15, 0, .rc⟩]⟩
def Fld.PIP_CTX_DROP_ABANDONED : Fld := ⟨.PIP_CTX_DROP, 31, 16⟩
def Fld.PIP_CTX_DROP_PAN_DROP : Fld := ⟨.PIP_CTX_DROP, 15, 0⟩
def Reg.PIP_CTX_LASTDROP : Reg := ⟨0x03010040, 0x100, 8, 0x0, 1, .const 0x0, .res 0x01, .none, false, [⟨31, 0, .ro⟩]⟩
def Fld.PIP_CTX_LASTDROP_FRAME : Fld := ⟨.PIP_CTX_LASTDROP, 31, 0⟩
def Reg.PIP_CTX_FRAME : Reg := ⟨0x03010044, 0x100, 8, 0x0, 1, .const 0x0, .res 0x01, .none, false, [⟨31, 0, .ro⟩]⟩
def Fld.PIP_CTX_FRAME_FRAME : Fld := ⟨.PIP_CTX_FRAME, 31, 0⟩
def Reg.PIP_CTX_DYN : Reg := ⟨0x03010048, 0x100, 8, 0x0, 1, .const 0x0, .res 0x01, .none, false, [⟨31, 0, .ro⟩]⟩
def Fld.PIP_CTX_DYN_COUNT : Fld := ⟨.PIP_CTX_DYN, 31, 0⟩
def Reg.COL_EVT : Reg :=
  ⟨0x04000004, 0x0, 1, 0x0, 1, .const 0x0, .fixed 0x0F06, .none, false, [⟨31, 24, .w1c⟩, ⟨23, 16, .w1c⟩, ⟨15, 8,
    .w1c⟩, ⟨7, 7, .w1c⟩]⟩
def Fld.COL_EVT_CAL_NOT_READY : Fld := ⟨.COL_EVT, 31, 24⟩
def Fld.COL_EVT_LOOK_NOT_READY : Fld := ⟨.COL_EVT, 23, 16⟩
def Fld.COL_EVT_DEV_SKIP : Fld := ⟨.COL_EVT, 15, 8⟩
def Fld.COL_EVT_KAT_FAIL : Fld := ⟨.COL_EVT, 7, 7⟩
def Reg.COL_KAT : Reg :=
  ⟨0x04000008, 0x0, 1, 0x0, 1, .const 0x80000000, .fixed 0x0F06, .none, false, [⟨31, 31, .ro⟩, ⟨15, 0, .rc⟩]⟩
def Fld.COL_KAT_LAST_OK : Fld := ⟨.COL_KAT, 31, 31⟩
def Fld.COL_KAT_FAILS : Fld := ⟨.COL_KAT, 15, 0⟩
def Reg.COL_UNITS : Reg :=
  ⟨0x0400000C, 0x0, 1, 0x0, 1, .const 0x180, .fixed 0x0F06, .none, false, [⟨24, 16, .ro⟩, ⟨8, 0, .ro⟩]⟩
def Fld.COL_UNITS_USED : Fld := ⟨.COL_UNITS, 24, 16⟩
def Fld.COL_UNITS_FREE : Fld := ⟨.COL_UNITS, 8, 0⟩
def Reg.COL_CTX_CFG : Reg :=
  ⟨0x04010000, 0x100, 8, 0x0, 1, .const 0x0, .res 0x01, .none, false, [⟨31, 31, .ro⟩, ⟨30, 30, .rw⟩, ⟨29, 27,
    .rw⟩]⟩
def Fld.COL_CTX_CFG_ENABLED : Fld := ⟨.COL_CTX_CFG, 31, 31⟩
def Fld.COL_CTX_CFG_CAL_ALLOC : Fld := ⟨.COL_CTX_CFG, 30, 30⟩
def Fld.COL_CTX_CFG_DEV_SLOTS : Fld := ⟨.COL_CTX_CFG, 29, 27⟩
def Reg.COL_CTX_BANK : Reg :=
  ⟨0x04010004, 0x100, 8, 0x0, 1, .const 0x0, .res 0x01, .none, false, [⟨31, 31, .ro⟩, ⟨3, 2, .ro⟩, ⟨1, 1, .ro⟩,
    ⟨0, 0, .ro⟩]⟩
def Fld.COL_CTX_BANK_BYPASS : Fld := ⟨.COL_CTX_BANK, 31, 31⟩
def Fld.COL_CTX_BANK_COMPLETE : Fld := ⟨.COL_CTX_BANK, 3, 2⟩
def Fld.COL_CTX_BANK_PENDING : Fld := ⟨.COL_CTX_BANK, 1, 1⟩
def Fld.COL_CTX_BANK_ACTIVE : Fld := ⟨.COL_CTX_BANK, 0, 0⟩
def Reg.COL_CTX_FRAME : Reg := ⟨0x04010008, 0x100, 8, 0x0, 1, .const 0x0, .res 0x01, .none, false, [⟨31, 0, .ro⟩]⟩
def Fld.COL_CTX_FRAME_FRAME : Fld := ⟨.COL_CTX_FRAME, 31, 0⟩
def Reg.COL_CTX_STAT : Reg :=
  ⟨0x0401000C, 0x100, 8, 0x0, 1, .const 0x0, .res 0x01, .none, false, [⟨31, 28, .ro⟩, ⟨23, 0, .ro⟩]⟩
def Fld.COL_CTX_STAT_WS : Fld := ⟨.COL_CTX_STAT, 31, 28⟩
def Fld.COL_CTX_STAT_CLIPPED : Fld := ⟨.COL_CTX_STAT, 23, 0⟩
def Reg.COL_CTX_DEV : Reg := ⟨0x04010010, 0x100, 8, 0x0, 1, .const 0x0, .res 0x01, .none, false, [⟨31, 16, .rc⟩]⟩
def Fld.COL_CTX_DEV_SKIPPED : Fld := ⟨.COL_CTX_DEV, 31, 16⟩
def Reg.COL_LOOK_CFG : Reg :=
  ⟨0x04020000, 0x100, 8, 0x0, 1, .const 0x0, .res 0x02, .out, false, [⟨31, 31, .rws⟩, ⟨30, 28, .rws⟩, ⟨27, 26,
    .rw⟩]⟩
def Fld.COL_LOOK_CFG_RUN : Fld := ⟨.COL_LOOK_CFG, 31, 31⟩
def Fld.COL_LOOK_CFG_SRC_CTX : Fld := ⟨.COL_LOOK_CFG, 30, 28⟩
def Fld.COL_LOOK_CFG_BANKS : Fld := ⟨.COL_LOOK_CFG, 27, 26⟩
def Reg.COL_LOOK_MODE : Reg :=
  ⟨0x04020004, 0x100, 8, 0x0, 1, .const 0x0, .res 0x02, .out, false, [⟨31, 28, .rws⟩, ⟨25, 25, .rws⟩, ⟨24, 24,
    .rws⟩]⟩
def Fld.COL_LOOK_MODE_TF : Fld := ⟨.COL_LOOK_MODE, 31, 28⟩
def Fld.COL_LOOK_MODE_LUT_EN : Fld := ⟨.COL_LOOK_MODE, 25, 25⟩
def Fld.COL_LOOK_MODE_SHAPER_LOG : Fld := ⟨.COL_LOOK_MODE, 24, 24⟩
def Reg.COL_LOOK_MAT : Reg := ⟨0x04020008, 0x100, 8, 0x4, 9, .mat, .res 0x02, .out, false, [⟨23, 0, .rws⟩]⟩
def Fld.COL_LOOK_MAT_COEFF : Fld := ⟨.COL_LOOK_MAT, 23, 0⟩
def Reg.COL_SHAPER_LO : Reg := ⟨0x0402002C, 0x100, 8, 0x0, 1, .const 0x0, .res 0x02, .out, false, [⟨23, 0, .rws⟩]⟩
def Fld.COL_SHAPER_LO_LO : Fld := ⟨.COL_SHAPER_LO, 23, 0⟩
def Reg.COL_SHAPER_HI : Reg :=
  ⟨0x04020030, 0x100, 8, 0x0, 1, .const 0x3F0000, .res 0x02, .out, false, [⟨23, 0, .rws⟩]⟩
def Fld.COL_SHAPER_HI_HI : Fld := ⟨.COL_SHAPER_HI, 23, 0⟩
def Reg.COL_TF_P : Reg := ⟨0x04020034, 0x100, 8, 0x4, 6, .const 0x0, .res 0x02, .out, false, [⟨23, 0, .rws⟩]⟩
def Fld.COL_TF_P_P : Fld := ⟨.COL_TF_P, 23, 0⟩
def Reg.COL_LOOK_BANK : Reg :=
  ⟨0x0402004C, 0x100, 8, 0x0, 1, .const 0x0, .res 0x02, .none, false, [⟨3, 2, .ro⟩, ⟨1, 1, .ro⟩, ⟨0, 0, .ro⟩]⟩
def Fld.COL_LOOK_BANK_COMPLETE : Fld := ⟨.COL_LOOK_BANK, 3, 2⟩
def Fld.COL_LOOK_BANK_PENDING : Fld := ⟨.COL_LOOK_BANK, 1, 1⟩
def Fld.COL_LOOK_BANK_ACTIVE : Fld := ⟨.COL_LOOK_BANK, 0, 0⟩
def Reg.COL_LOOK_STAT : Reg := ⟨0x04020050, 0x100, 8, 0x0, 1, .const 0x0, .res 0x02, .none, false, [⟨31, 0, .ro⟩]⟩
def Fld.COL_LOOK_STAT_FRAME : Fld := ⟨.COL_LOOK_STAT, 31, 0⟩
def Reg.STA_EVT : Reg := ⟨0x05000004, 0x0, 1, 0x0, 1, .const 0x0, .fixed 0x0F07, .none, false, [⟨7, 0, .w1c⟩]⟩
def Fld.STA_EVT_PUBLISHED : Fld := ⟨.STA_EVT, 7, 0⟩
def Reg.STA_CTX_CFG : Reg :=
  ⟨0x05010000, 0x100, 8, 0x0, 1, .const 0x8, .res 0x01, .none, false, [⟨31, 31, .rw⟩, ⟨9, 9, .ro⟩, ⟨8, 8, .ro⟩,
    ⟨6, 0, .rw⟩]⟩
def Fld.STA_CTX_CFG_EN : Fld := ⟨.STA_CTX_CFG, 31, 31⟩
def Fld.STA_CTX_CFG_PENDING : Fld := ⟨.STA_CTX_CFG, 9, 9⟩
def Fld.STA_CTX_CFG_BANK : Fld := ⟨.STA_CTX_CFG, 8, 8⟩
def Fld.STA_CTX_CFG_SLOTS : Fld := ⟨.STA_CTX_CFG, 6, 0⟩
def Reg.STA_CTX_LAST : Reg := ⟨0x05010004, 0x100, 8, 0x0, 1, .const 0x0, .res 0x01, .none, false, [⟨31, 0, .ro⟩]⟩
def Fld.STA_CTX_LAST_FRAME : Fld := ⟨.STA_CTX_LAST, 31, 0⟩
def Reg.STA_CTX_LAST_SOF_LO : Reg :=
  ⟨0x05010008, 0x100, 8, 0x0, 1, .const 0x0, .res 0x01, .none, true, [⟨31, 0, .ro⟩]⟩
def Fld.STA_CTX_LAST_SOF_LO_SOF : Fld := ⟨.STA_CTX_LAST_SOF_LO, 31, 0⟩
def Reg.STA_CTX_LAST_SOF_HI : Reg :=
  ⟨0x0501000C, 0x100, 8, 0x0, 1, .const 0x0, .res 0x01, .none, false, [⟨31, 0, .ro⟩]⟩
def Fld.STA_CTX_LAST_SOF_HI_SOF : Fld := ⟨.STA_CTX_LAST_SOF_HI, 31, 0⟩
def Reg.STA_HIST_CFG : Reg :=
  ⟨0x05020000, 0x100, 8, 0x40, 2, .const 0x11111111, .res 0x01, .none, false, [⟨28, 24, .rw⟩, ⟨20, 16, .rw⟩, ⟨12,
    8, .rw⟩, ⟨4, 0, .rw⟩]⟩
def Fld.STA_HIST_CFG_H3 : Fld := ⟨.STA_HIST_CFG, 28, 24⟩
def Fld.STA_HIST_CFG_H2 : Fld := ⟨.STA_HIST_CFG, 20, 16⟩
def Fld.STA_HIST_CFG_H1 : Fld := ⟨.STA_HIST_CFG, 12, 8⟩
def Fld.STA_HIST_CFG_H0 : Fld := ⟨.STA_HIST_CFG, 4, 0⟩
def Reg.STA_LUMA : Reg :=
  ⟨0x05020004, 0x100, 8, 0x40, 2, .const 0xDAB704A, .res 0x01, .none, false, [⟨29, 20, .rw⟩, ⟨19, 10, .rw⟩, ⟨9, 0,
    .rw⟩]⟩
def Fld.STA_LUMA_WR : Fld := ⟨.STA_LUMA, 29, 20⟩
def Fld.STA_LUMA_WG : Fld := ⟨.STA_LUMA, 19, 10⟩
def Fld.STA_LUMA_WB : Fld := ⟨.STA_LUMA, 9, 0⟩
def Reg.STA_CLIP : Reg := ⟨0x05020008, 0x100, 8, 0x40, 2, .const 0x1000, .res 0x01, .none, false, [⟨15, 0, .rw⟩]⟩
def Fld.STA_CLIP_LEVEL : Fld := ⟨.STA_CLIP, 15, 0⟩
def Reg.STA_FLICKER : Reg :=
  ⟨0x0502000C, 0x100, 8, 0x40, 2, .const 0x19996478, .res 0x01, .none, false, [⟨31, 16, .rw⟩, ⟨15, 8, .rw⟩, ⟨7, 0,
    .rw⟩]⟩
def Fld.STA_FLICKER_THR : Fld := ⟨.STA_FLICKER, 31, 16⟩
def Fld.STA_FLICKER_F1 : Fld := ⟨.STA_FLICKER, 15, 8⟩
def Fld.STA_FLICKER_F2 : Fld := ⟨.STA_FLICKER, 7, 0⟩
def Reg.STA_FC_THR0 : Reg :=
  ⟨0x05020010, 0x100, 8, 0x40, 2, .const 0x800033, .res 0x01, .none, false, [⟨31, 16, .rw⟩, ⟨15, 0, .rw⟩]⟩
def Fld.STA_FC_THR0_TB : Fld := ⟨.STA_FC_THR0, 31, 16⟩
def Fld.STA_FC_THR0_TA : Fld := ⟨.STA_FC_THR0, 15, 0⟩
def Reg.STA_FC_THR1 : Reg :=
  ⟨0x05020014, 0x100, 8, 0x40, 2, .const 0x2000133, .res 0x01, .none, false, [⟨31, 16, .rw⟩, ⟨15, 0, .rw⟩]⟩
def Fld.STA_FC_THR1_TB : Fld := ⟨.STA_FC_THR1, 31, 16⟩
def Fld.STA_FC_THR1_TA : Fld := ⟨.STA_FC_THR1, 15, 0⟩
def Reg.STA_FC_THR2 : Reg :=
  ⟨0x05020018, 0x100, 8, 0x40, 2, .const 0x7330400, .res 0x01, .none, false, [⟨31, 16, .rw⟩, ⟨15, 0, .rw⟩]⟩
def Fld.STA_FC_THR2_TB : Fld := ⟨.STA_FC_THR2, 31, 16⟩
def Fld.STA_FC_THR2_TA : Fld := ⟨.STA_FC_THR2, 15, 0⟩
def Reg.STA_FC_THR3 : Reg := ⟨0x0502001C, 0x100, 8, 0x40, 2, .const 0xC00, .res 0x01, .none, false, [⟨15, 0, .rw⟩]⟩
def Fld.STA_FC_THR3_TA : Fld := ⟨.STA_FC_THR3, 15, 0⟩
def Reg.ENG_EVT : Reg := ⟨0x06000004, 0x0, 1, 0x0, 1, .const 0x0, .fixed 0x0F08, .none, false, [⟨31, 0, .w1c⟩]⟩
def Fld.ENG_EVT_PUBLISHED : Fld := ⟨.ENG_EVT, 31, 0⟩
def Reg.ENG_EVT2 : Reg :=
  ⟨0x06000008, 0x0, 1, 0x0, 1, .const 0x0, .fixed 0x0F08, .none, false, [⟨3, 3, .w1c⟩, ⟨2, 2, .w1c⟩, ⟨1, 1, .w1c⟩,
    ⟨0, 0, .w1c⟩]⟩
def Fld.ENG_EVT2_PLACEMENT_LOST : Fld := ⟨.ENG_EVT2, 3, 3⟩
def Fld.ENG_EVT2_FAULT : Fld := ⟨.ENG_EVT2, 2, 2⟩
def Fld.ENG_EVT2_NOT_READY : Fld := ⟨.ENG_EVT2, 1, 1⟩
def Fld.ENG_EVT2_CLOCK_CHANGED : Fld := ⟨.ENG_EVT2, 0, 0⟩
def Reg.ENG_USABLE : Reg :=
  ⟨0x0600000C, 0x0, 1, 0x0, 1, .const 0x100200, .fixed 0x0F08, .none, false, [⟨20, 16, .ro⟩, ⟨9, 0, .ro⟩]⟩
def Fld.ENG_USABLE_SPARES_LEFT : Fld := ⟨.ENG_USABLE, 20, 16⟩
def Fld.ENG_USABLE_ENGINES : Fld := ⟨.ENG_USABLE, 9, 0⟩
def Reg.ENG_CLOCK : Reg := ⟨0x06000010, 0x0, 1, 0x0, 1, .const 0x6, .fixed 0x0F08, .none, false, [⟨4, 0, .ro⟩]⟩
def Fld.ENG_CLOCK_DIV : Fld := ⟨.ENG_CLOCK, 4, 0⟩
def Reg.ENG_CL_STAT : Reg :=
  ⟨0x06010000, 0x40, 32, 0x0, 1, .const 0x100018, .res 0x08, .none, false, [⟨31, 31, .ro⟩, ⟨30, 26, .ro⟩, ⟨20, 16,
    .ro⟩, ⟨15, 8, .ro⟩, ⟨4, 0, .ro⟩]⟩
def Fld.ENG_CL_STAT_HELD : Fld := ⟨.ENG_CL_STAT, 31, 31⟩
def Fld.ENG_CL_STAT_KERNEL : Fld := ⟨.ENG_CL_STAT, 30, 26⟩
def Fld.ENG_CL_STAT_USABLE : Fld := ⟨.ENG_CL_STAT, 20, 16⟩
def Fld.ENG_CL_STAT_SUSPECT : Fld := ⟨.ENG_CL_STAT, 15, 8⟩
def Fld.ENG_CL_STAT_GRANULES_FREE : Fld := ⟨.ENG_CL_STAT, 4, 0⟩
def Reg.ENG_K_STATE : Reg :=
  ⟨0x06020000, 0x100, 32, 0x0, 1, .const 0x0, .kernel, .none, false, [⟨31, 24, .ro⟩, ⟨18, 16, .ro⟩]⟩
def Fld.ENG_K_STATE_GENERATION : Fld := ⟨.ENG_K_STATE, 31, 24⟩
def Fld.ENG_K_STATE_STATE : Fld := ⟨.ENG_K_STATE, 18, 16⟩
def Reg.ENG_K_CFG : Reg := ⟨0x06020004, 0x100, 32, 0x0, 1, .const 0x64, .kernel, .none, false, [⟨15, 0, .rw⟩]⟩
def Fld.ENG_K_CFG_DRAIN : Fld := ⟨.ENG_K_CFG, 15, 0⟩
def Reg.ENG_K_FAULT : Reg :=
  ⟨0x06020008, 0x100, 32, 0x0, 1, .const 0x0, .kernel, .none, false, [⟨31, 30, .ro⟩, ⟨29, 25, .ro⟩, ⟨24, 21, .ro⟩,
    ⟨15, 0, .ro⟩]⟩
def Fld.ENG_K_FAULT_CAUSE : Fld := ⟨.ENG_K_FAULT, 31, 30⟩
def Fld.ENG_K_FAULT_CLUSTER : Fld := ⟨.ENG_K_FAULT, 29, 25⟩
def Fld.ENG_K_FAULT_ENGINE : Fld := ⟨.ENG_K_FAULT, 24, 21⟩
def Fld.ENG_K_FAULT_PC : Fld := ⟨.ENG_K_FAULT, 15, 0⟩
def Reg.ENG_K_IN : Reg :=
  ⟨0x06020010, 0x100, 32, 0x4, 4, .const 0x0, .kernel, .none, false, [⟨31, 24, .rc⟩, ⟨23, 16, .rc⟩, ⟨15, 8, .rc⟩,
    ⟨7, 0, .rc⟩]⟩
def Fld.ENG_K_IN_BROKEN : Fld := ⟨.ENG_K_IN, 31, 24⟩
def Fld.ENG_K_IN_MISSED : Fld := ⟨.ENG_K_IN, 23, 16⟩
def Fld.ENG_K_IN_REVOKED : Fld := ⟨.ENG_K_IN, 15, 8⟩
def Fld.ENG_K_IN_ABANDONED : Fld := ⟨.ENG_K_IN, 7, 0⟩
def Reg.ENG_K_OUT : Reg := ⟨0x06020020, 0x100, 32, 0x8, 4, .const 0x0, .kernel, .none, false, [⟨31, 0, .ro⟩]⟩
def Fld.ENG_K_OUT_LAST : Fld := ⟨.ENG_K_OUT, 31, 0⟩
def Reg.ENG_K_REJ : Reg := ⟨0x06020024, 0x100, 32, 0x8, 4, .const 0x0, .kernel, .none, false, [⟨15, 0, .rc⟩]⟩
def Fld.ENG_K_REJ_REJECTED : Fld := ⟨.ENG_K_REJ, 15, 0⟩
def Reg.MLS_EVT : Reg :=
  ⟨0x07000004, 0x0, 1, 0x0, 1, .const 0x0, .fixed 0x0F09, .none, false, [⟨31, 24, .w1c⟩, ⟨23, 16, .w1c⟩, ⟨15, 8,
    .w1c⟩, ⟨7, 7, .w1c⟩, ⟨6, 6, .w1c⟩, ⟨5, 5, .w1c⟩]⟩
def Fld.MLS_EVT_OMIT : Fld := ⟨.MLS_EVT, 31, 24⟩
def Fld.MLS_EVT_FLOOR : Fld := ⟨.MLS_EVT, 23, 16⟩
def Fld.MLS_EVT_PLAN_LATE : Fld := ⟨.MLS_EVT, 15, 8⟩
def Fld.MLS_EVT_RT_FAIL : Fld := ⟨.MLS_EVT, 7, 7⟩
def Fld.MLS_EVT_SPILL : Fld := ⟨.MLS_EVT, 6, 6⟩
def Fld.MLS_EVT_NOT_READY : Fld := ⟨.MLS_EVT, 5, 5⟩
def Reg.MLS_LOAD0 : Reg :=
  ⟨0x07000008, 0x0, 1, 0x0, 1, .const 0x0, .fixed 0x0F09, .none, false, [⟨25, 16, .ro⟩, ⟨9, 0, .ro⟩]⟩
def Fld.MLS_LOAD0_MR : Fld := ⟨.MLS_LOAD0, 25, 16⟩
def Fld.MLS_LOAD0_MX : Fld := ⟨.MLS_LOAD0, 9, 0⟩
def Reg.MLS_LOAD1 : Reg :=
  ⟨0x0700000C, 0x0, 1, 0x0, 1, .const 0x0, .fixed 0x0F09, .none, false, [⟨25, 16, .ro⟩, ⟨9, 0, .ro⟩]⟩
def Fld.MLS_LOAD1_MP : Fld := ⟨.MLS_LOAD1, 25, 16⟩
def Fld.MLS_LOAD1_PREFILTER : Fld := ⟨.MLS_LOAD1, 9, 0⟩
def Reg.MLS_CLOCK : Reg := ⟨0x07000010, 0x0, 1, 0x0, 1, .const 0x8, .fixed 0x0F09, .none, false, [⟨4, 0, .ro⟩]⟩
def Fld.MLS_CLOCK_DIV : Fld := ⟨.MLS_CLOCK, 4, 0⟩
def Reg.MLS_RT : Reg :=
  ⟨0x07000014, 0x0, 1, 0x0, 1, .const 0x80000000, .fixed 0x0F09, .none, false, [⟨31, 31, .ro⟩, ⟨15, 0, .rc⟩]⟩
def Fld.MLS_RT_LAST_OK : Fld := ⟨.MLS_RT, 31, 31⟩
def Fld.MLS_RT_FAILS : Fld := ⟨.MLS_RT, 15, 0⟩
def Reg.MLS_RT_FRAME : Reg := ⟨0x07000018, 0x0, 1, 0x0, 1, .const 0x0, .fixed 0x0F09, .none, false, [⟨31, 0, .ro⟩]⟩
def Fld.MLS_RT_FRAME_FRAME : Fld := ⟨.MLS_RT_FRAME, 31, 0⟩
def Reg.MLS_CTXS : Reg :=
  ⟨0x0700001C, 0x0, 1, 0x0, 1, .const 0x0, .fixed 0x0F09, .none, false, [⟨30, 24, .ro⟩, ⟨22, 16, .ro⟩, ⟨12, 8,
    .ro⟩, ⟨7, 0, .rc⟩]⟩
def Fld.MLS_CTXS_ACTIVE : Fld := ⟨.MLS_CTXS, 30, 24⟩
def Fld.MLS_CTXS_CREATED : Fld := ⟨.MLS_CTXS, 22, 16⟩
def Fld.MLS_CTXS_RESIDENT : Fld := ⟨.MLS_CTXS, 12, 8⟩
def Fld.MLS_CTXS_SPILLS : Fld := ⟨.MLS_CTXS, 7, 0⟩
def Reg.MLS_DEC_EVT : Reg :=
  ⟨0x07000020, 0x0, 1, 0x0, 1, .const 0x0, .fixed 0x0F09, .none, false, [⟨31, 24, .w1c⟩, ⟨23, 16, .w1c⟩, ⟨15, 8,
    .w1c⟩, ⟨7, 7, .w1c⟩]⟩
def Fld.MLS_DEC_EVT_CONCEAL : Fld := ⟨.MLS_DEC_EVT, 31, 24⟩
def Fld.MLS_DEC_EVT_FRAME_LOST : Fld := ⟨.MLS_DEC_EVT, 23, 16⟩
def Fld.MLS_DEC_EVT_PUBLISHED : Fld := ⟨.MLS_DEC_EVT, 15, 8⟩
def Fld.MLS_DEC_EVT_GUARD : Fld := ⟨.MLS_DEC_EVT, 7, 7⟩
def Reg.MLS_DEC_LOAD : Reg := ⟨0x07000024, 0x0, 1, 0x0, 1, .const 0x0, .fixed 0x0F09, .none, false, [⟨9, 0, .ro⟩]⟩
def Fld.MLS_DEC_LOAD_LOAD : Fld := ⟨.MLS_DEC_LOAD, 9, 0⟩
def Reg.MLS_DEC_GUARD : Reg := ⟨0x07000028, 0x0, 1, 0x0, 1, .const 0x0, .fixed 0x0F09, .none, false, [⟨15, 0, .rc⟩]⟩
def Fld.MLS_DEC_GUARD_COUNT : Fld := ⟨.MLS_DEC_GUARD, 15, 0⟩
def Reg.MLS_S_CFG : Reg :=
  ⟨0x07010000, 0x40, 8, 0x0, 1, .const 0x0, .res 0x07, .none, false, [⟨31, 31, .ro⟩, ⟨30, 30, .ro⟩, ⟨29, 29, .ro⟩,
    ⟨28, 28, .ro⟩, ⟨15, 0, .ro⟩]⟩
def Fld.MLS_S_CFG_RUNNING : Fld := ⟨.MLS_S_CFG, 31, 31⟩
def Fld.MLS_S_CFG_START_PENDING : Fld := ⟨.MLS_S_CFG, 30, 30⟩
def Fld.MLS_S_CFG_STOP_PENDING : Fld := ⟨.MLS_S_CFG, 29, 29⟩
def Fld.MLS_S_CFG_SWITCH_PENDING : Fld := ⟨.MLS_S_CFG, 28, 28⟩
def Fld.MLS_S_CFG_HANDLE : Fld := ⟨.MLS_S_CFG, 15, 0⟩
def Reg.MLS_S_LAST : Reg := ⟨0x07010004, 0x40, 8, 0x0, 1, .const 0x0, .res 0x07, .none, false, [⟨31, 0, .ro⟩]⟩
def Fld.MLS_S_LAST_FRAME : Fld := ⟨.MLS_S_LAST, 31, 0⟩
def Reg.MLS_S_LASTOMIT : Reg := ⟨0x07010008, 0x40, 8, 0x0, 1, .const 0x0, .res 0x07, .none, false, [⟨31, 0, .ro⟩]⟩
def Fld.MLS_S_LASTOMIT_FRAME : Fld := ⟨.MLS_S_LASTOMIT, 31, 0⟩
def Reg.MLS_S_OMIT : Reg := ⟨0x0701000C, 0x40, 8, 0x0, 1, .const 0x0, .res 0x07, .none, false, [⟨31, 16, .rc⟩]⟩
def Fld.MLS_S_OMIT_OMITTED : Fld := ⟨.MLS_S_OMIT, 31, 16⟩
def Reg.MLS_S_FLOOR : Reg :=
  ⟨0x07010010, 0x40, 8, 0x0, 1, .const 0x0, .res 0x07, .none, false, [⟨31, 16, .rc⟩, ⟨15, 0, .rc⟩]⟩
def Fld.MLS_S_FLOOR_FLOOR_FRAMES : Fld := ⟨.MLS_S_FLOOR, 31, 16⟩
def Fld.MLS_S_FLOOR_FLOOR_SLICES : Fld := ⟨.MLS_S_FLOOR, 15, 0⟩
def Reg.MLS_S_PLAN : Reg := ⟨0x07010014, 0x40, 8, 0x0, 1, .const 0x0, .res 0x07, .none, false, [⟨31, 16, .rc⟩]⟩
def Fld.MLS_S_PLAN_PLAN_LATE : Fld := ⟨.MLS_S_PLAN, 31, 16⟩
def Reg.MLS_C_CFG : Reg :=
  ⟨0x07020000, 0x40, 64, 0x0, 1, .const 0x0, .codec, .none, false, [⟨31, 24, .ro⟩, ⟨23, 22, .ro⟩, ⟨21, 19, .ro⟩,
    ⟨18, 17, .ro⟩, ⟨16, 14, .ro⟩, ⟨13, 13, .ro⟩, ⟨12, 12, .ro⟩]⟩
def Fld.MLS_C_CFG_GENERATION : Fld := ⟨.MLS_C_CFG, 31, 24⟩
def Fld.MLS_C_CFG_PROFILE : Fld := ⟨.MLS_C_CFG, 23, 22⟩
def Fld.MLS_C_CFG_SOURCE : Fld := ⟨.MLS_C_CFG, 21, 19⟩
def Fld.MLS_C_CFG_DEST_KIND : Fld := ⟨.MLS_C_CFG, 18, 17⟩
def Fld.MLS_C_CFG_DEST_INDEX : Fld := ⟨.MLS_C_CFG, 16, 14⟩
def Fld.MLS_C_CFG_RESIDENT : Fld := ⟨.MLS_C_CFG, 13, 13⟩
def Fld.MLS_C_CFG_ACTIVE : Fld := ⟨.MLS_C_CFG, 12, 12⟩
def Reg.MLS_C_TARGET : Reg := ⟨0x07020004, 0x40, 64, 0x0, 1, .const 0x0, .codec, .codec, false, [⟨31, 0, .rws⟩]⟩
def Fld.MLS_C_TARGET_TARGET : Fld := ⟨.MLS_C_TARGET, 31, 0⟩
def Reg.MLS_C_CEIL : Reg := ⟨0x07020008, 0x40, 64, 0x0, 1, .const 0x0, .codec, .codec, false, [⟨31, 0, .rws⟩]⟩
def Fld.MLS_C_CEIL_CEIL_MAX : Fld := ⟨.MLS_C_CEIL, 31, 0⟩
def Reg.MLS_C_RC : Reg :=
  ⟨0x0702000C, 0x40, 64, 0x0, 1, .const 0x2185F00, .codec, .codec, false, [⟨31, 30, .rws⟩, ⟨27, 24, .rws⟩, ⟨22,
    16, .rws⟩, ⟨14, 8, .rws⟩, ⟨6, 0, .rws⟩]⟩
def Fld.MLS_C_RC_RC_MODE : Fld := ⟨.MLS_C_RC, 31, 30⟩
def Fld.MLS_C_RC_BUCKET_FRAMES : Fld := ⟨.MLS_C_RC, 27, 24⟩
def Fld.MLS_C_RC_Q_INIT : Fld := ⟨.MLS_C_RC, 22, 16⟩
def Fld.MLS_C_RC_Q_MAX : Fld := ⟨.MLS_C_RC, 14, 8⟩
def Fld.MLS_C_RC_Q_MIN : Fld := ⟨.MLS_C_RC, 6, 0⟩
def Reg.MLS_C_MP : Reg :=
  ⟨0x07020010, 0x40, 64, 0x0, 1, .const 0x3000018, .codec, .codec, false, [⟨31, 30, .rws⟩, ⟨27, 24, .rws⟩, ⟨23,
    23, .rws⟩, ⟨7, 0, .rws⟩]⟩
def Fld.MLS_C_MP_SCALE : Fld := ⟨.MLS_C_MP, 31, 30⟩
def Fld.MLS_C_MP_TF : Fld := ⟨.MLS_C_MP, 27, 24⟩
def Fld.MLS_C_MP_MATRIX : Fld := ⟨.MLS_C_MP, 23, 23⟩
def Fld.MLS_C_MP_GOP_LEN : Fld := ⟨.MLS_C_MP, 7, 0⟩
def Reg.MLS_C_TFP : Reg := ⟨0x07020014, 0x40, 64, 0x0, 1, .const 0x0, .codec, .codec, false, [⟨23, 0, .rws⟩]⟩
def Fld.MLS_C_TFP_P0 : Fld := ⟨.MLS_C_TFP, 23, 0⟩
def Reg.MLS_C_BUCKET : Reg := ⟨0x07020018, 0x40, 64, 0x0, 1, .const 0x0, .codec, .none, false, [⟨31, 0, .ro⟩]⟩
def Fld.MLS_C_BUCKET_BUCKET : Fld := ⟨.MLS_C_BUCKET, 31, 0⟩
def Reg.MLS_C_LAST : Reg := ⟨0x0702001C, 0x40, 64, 0x0, 1, .const 0x0, .codec, .none, false, [⟨31, 0, .ro⟩]⟩
def Fld.MLS_C_LAST_FRAME : Fld := ⟨.MLS_C_LAST, 31, 0⟩
def Reg.MLS_C_STAT : Reg :=
  ⟨0x07020020, 0x40, 64, 0x0, 1, .const 0x0, .codec, .none, false, [⟨22, 16, .ro⟩, ⟨7, 0, .ro⟩]⟩
def Fld.MLS_C_STAT_LAST_Q : Fld := ⟨.MLS_C_STAT, 22, 16⟩
def Fld.MLS_C_STAT_FLOOR_SLICES : Fld := ⟨.MLS_C_STAT, 7, 0⟩
def Reg.MLS_D_CFG : Reg :=
  ⟨0x07030000, 0x40, 8, 0x0, 1, .const 0x0, .dec, .dec, false, [⟨31, 31, .ro⟩, ⟨30, 29, .ro⟩, ⟨28, 26, .ro⟩, ⟨25,
    24, .ro⟩, ⟨23, 23, .ro⟩, ⟨22, 22, .rws⟩, ⟨21, 17, .ro⟩, ⟨15, 8, .ro⟩]⟩
def Fld.MLS_D_CFG_RUNNING : Fld := ⟨.MLS_D_CFG, 31, 31⟩
def Fld.MLS_D_CFG_SOURCE : Fld := ⟨.MLS_D_CFG, 30, 29⟩
def Fld.MLS_D_CFG_SOURCE_INDEX : Fld := ⟨.MLS_D_CFG, 28, 26⟩
def Fld.MLS_D_CFG_PROFILE : Fld := ⟨.MLS_D_CFG, 25, 24⟩
def Fld.MLS_D_CFG_RING_MODE : Fld := ⟨.MLS_D_CFG, 23, 23⟩
def Fld.MLS_D_CFG_CONCEAL : Fld := ⟨.MLS_D_CFG, 22, 22⟩
def Fld.MLS_D_CFG_SLOTS : Fld := ⟨.MLS_D_CFG, 21, 17⟩
def Fld.MLS_D_CFG_GENERATION : Fld := ⟨.MLS_D_CFG, 15, 8⟩
def Reg.MLS_D_TIMEOUT : Reg := ⟨0x07030004, 0x40, 8, 0x0, 1, .const 0x64, .dec, .dec, false, [⟨15, 0, .rws⟩]⟩
def Fld.MLS_D_TIMEOUT_FRAME : Fld := ⟨.MLS_D_TIMEOUT, 15, 0⟩
def Reg.MLS_D_LAST : Reg := ⟨0x07030008, 0x40, 8, 0x0, 1, .const 0x0, .dec, .none, false, [⟨31, 0, .ro⟩]⟩
def Fld.MLS_D_LAST_FRAME : Fld := ⟨.MLS_D_LAST, 31, 0⟩
def Reg.MLS_D_CONC : Reg := ⟨0x0703000C, 0x40, 8, 0x0, 1, .const 0x0, .dec, .none, false, [⟨15, 0, .rc⟩]⟩
def Fld.MLS_D_CONC_SLICES : Fld := ⟨.MLS_D_CONC, 15, 0⟩
def Reg.MLS_D_ERR0 : Reg :=
  ⟨0x07030010, 0x40, 8, 0x0, 1, .const 0x0, .dec, .none, false, [⟨31, 24, .rc⟩, ⟨23, 16, .rc⟩, ⟨15, 8, .rc⟩, ⟨7,
    0, .rc⟩]⟩
def Fld.MLS_D_ERR0_CRC : Fld := ⟨.MLS_D_ERR0, 31, 24⟩
def Fld.MLS_D_ERR0_MARKER : Fld := ⟨.MLS_D_ERR0, 23, 16⟩
def Fld.MLS_D_ERR0_SLICE_HDR : Fld := ⟨.MLS_D_ERR0, 15, 8⟩
def Fld.MLS_D_ERR0_SYNTAX : Fld := ⟨.MLS_D_ERR0, 7, 0⟩
def Reg.MLS_D_ERR1 : Reg :=
  ⟨0x07030014, 0x40, 8, 0x0, 1, .const 0x0, .dec, .none, false, [⟨31, 24, .rc⟩, ⟨23, 16, .rc⟩, ⟨15, 8, .rc⟩, ⟨7,
    0, .rc⟩]⟩
def Fld.MLS_D_ERR1_MISSING : Fld := ⟨.MLS_D_ERR1, 31, 24⟩
def Fld.MLS_D_ERR1_REFERENCE : Fld := ⟨.MLS_D_ERR1, 23, 16⟩
def Fld.MLS_D_ERR1_FRAMES_LOST : Fld := ⟨.MLS_D_ERR1, 15, 8⟩
def Fld.MLS_D_ERR1_SKIPPED : Fld := ⟨.MLS_D_ERR1, 7, 0⟩
def Reg.MED_EVT : Reg :=
  ⟨0x08000004, 0x0, 1, 0x0, 1, .const 0x0, .fixed 0x0F0A, .none, false, [⟨31, 28, .w1c⟩, ⟨27, 24, .w1c⟩, ⟨23, 20,
    .w1c⟩, ⟨19, 16, .w1c⟩, ⟨15, 8, .w1c⟩, ⟨7, 7, .w1c⟩]⟩
def Fld.MED_EVT_POOL_LOW : Fld := ⟨.MED_EVT, 31, 28⟩
def Fld.MED_EVT_WORN : Fld := ⟨.MED_EVT, 27, 24⟩
def Fld.MED_EVT_LOST : Fld := ⟨.MED_EVT, 23, 20⟩
def Fld.MED_EVT_AT_RISK : Fld := ⟨.MED_EVT, 19, 16⟩
def Fld.MED_EVT_CLOSED : Fld := ⟨.MED_EVT, 15, 8⟩
def Fld.MED_EVT_NOT_READY : Fld := ⟨.MED_EVT, 7, 7⟩
def Reg.MED_HOLDUP : Reg :=
  ⟨0x08000008, 0x0, 1, 0x0, 1, .const 0x3C, .fixed 0x0F0A, .none, false, [⟨31, 31, .ro⟩, ⟨15, 0, .ro⟩]⟩
def Fld.MED_HOLDUP_HOLDUP_READY : Fld := ⟨.MED_HOLDUP, 31, 31⟩
def Fld.MED_HOLDUP_WINDOW : Fld := ⟨.MED_HOLDUP, 15, 0⟩
def Reg.MED_M_STATE : Reg :=
  ⟨0x08010000, 0x100, 4, 0x0, 1, .const 0x0, .res 0x03, .none, false, [⟨31, 28, .ro⟩, ⟨17, 0, .ro⟩]⟩
def Fld.MED_M_STATE_STATE : Fld := ⟨.MED_M_STATE, 31, 28⟩
def Fld.MED_M_STATE_TOTAL : Fld := ⟨.MED_M_STATE, 17, 0⟩
def Reg.MED_M_POOL : Reg := ⟨0x08010004, 0x100, 4, 0x0, 1, .const 0x0, .res 0x03, .none, false, [⟨17, 0, .ro⟩]⟩
def Fld.MED_M_POOL_POOL : Fld := ⟨.MED_M_POOL, 17, 0⟩
def Reg.MED_M_USER : Reg := ⟨0x08010008, 0x100, 4, 0x0, 1, .const 0x0, .res 0x03, .none, false, [⟨17, 0, .ro⟩]⟩
def Fld.MED_M_USER_U : Fld := ⟨.MED_M_USER, 17, 0⟩
def Reg.MED_M_CEIL : Reg := ⟨0x0801000C, 0x100, 4, 0x0, 1, .const 0x1312D000, .res 0x03, .none, false, [⟨31, 0, .rw⟩]⟩
def Fld.MED_M_CEIL_CEIL : Fld := ⟨.MED_M_CEIL, 31, 0⟩
def Reg.MED_M_CEIL_MAX : Reg :=
  ⟨0x08010010, 0x100, 4, 0x0, 1, .const 0x1312D000, .res 0x03, .none, false, [⟨31, 0, .ro⟩]⟩
def Fld.MED_M_CEIL_MAX_CEIL_MAX : Fld := ⟨.MED_M_CEIL_MAX, 31, 0⟩
def Reg.MED_M_PENDING : Reg := ⟨0x08010014, 0x100, 4, 0x0, 1, .const 0x0, .res 0x03, .none, false, [⟨31, 0, .ro⟩]⟩
def Fld.MED_M_PENDING_PENDING : Fld := ⟨.MED_M_PENDING, 31, 0⟩
def Reg.MED_M_PEAK : Reg := ⟨0x08010018, 0x100, 4, 0x0, 1, .const 0x0, .res 0x03, .none, false, [⟨31, 0, .rc⟩]⟩
def Fld.MED_M_PEAK_PEAK : Fld := ⟨.MED_M_PEAK, 31, 0⟩
def Reg.MED_M_WEAR : Reg :=
  ⟨0x0801001C, 0x100, 4, 0x0, 1, .const 0x0, .res 0x03, .none, false, [⟨31, 16, .ro⟩, ⟨15, 0, .rc⟩]⟩
def Fld.MED_M_WEAR_RETIRED : Fld := ⟨.MED_M_WEAR, 31, 16⟩
def Fld.MED_M_WEAR_PROG_FAIL : Fld := ⟨.MED_M_WEAR, 15, 0⟩
def Reg.MED_M_POWER : Reg :=
  ⟨0x08010020, 0x100, 4, 0x0, 1, .const 0x0, .res 0x03, .none, false, [⟨31, 31, .ro⟩, ⟨30, 30, .ro⟩, ⟨3, 2, .ro⟩,
    ⟨1, 0, .ro⟩]⟩
def Fld.MED_M_POWER_ENTERING : Fld := ⟨.MED_M_POWER, 31, 31⟩
def Fld.MED_M_POWER_TARGET_MODE : Fld := ⟨.MED_M_POWER, 30, 30⟩
def Fld.MED_M_POWER_TARGET : Fld := ⟨.MED_M_POWER, 3, 2⟩
def Fld.MED_M_POWER_STATE : Fld := ⟨.MED_M_POWER, 1, 0⟩
def Reg.MED_M_CH : Reg :=
  ⟨0x08010024, 0x100, 4, 0x0, 1, .const 0x0, .res 0x03, .none, false, [⟨31, 16, .rc⟩, ⟨5, 0, .ro⟩]⟩
def Fld.MED_M_CH_LOST_WRITES : Fld := ⟨.MED_M_CH, 31, 16⟩
def Fld.MED_M_CH_QUEUED : Fld := ⟨.MED_M_CH, 5, 0⟩
def Reg.MED_S_TAKE : Reg :=
  ⟨0x08020000, 0x40, 8, 0x0, 1, .const 0x0, .res 0x07, .none, false, [⟨31, 29, .ro⟩, ⟨28, 28, .ro⟩, ⟨27, 27, .ro⟩,
    ⟨26, 26, .ro⟩, ⟨25, 24, .ro⟩, ⟨23, 22, .ro⟩, ⟨15, 0, .ro⟩]⟩
def Fld.MED_S_TAKE_STATE : Fld := ⟨.MED_S_TAKE, 31, 29⟩
def Fld.MED_S_TAKE_MIRRORED : Fld := ⟨.MED_S_TAKE, 28, 28⟩
def Fld.MED_S_TAKE_AT_RISK : Fld := ⟨.MED_S_TAKE, 27, 27⟩
def Fld.MED_S_TAKE_MIRROR_LOST : Fld := ⟨.MED_S_TAKE, 26, 26⟩
def Fld.MED_S_TAKE_PRIMARY : Fld := ⟨.MED_S_TAKE, 25, 24⟩
def Fld.MED_S_TAKE_SECONDARY : Fld := ⟨.MED_S_TAKE, 23, 22⟩
def Fld.MED_S_TAKE_HANDLE : Fld := ⟨.MED_S_TAKE, 15, 0⟩
def Reg.MED_S_COMMIT : Reg := ⟨0x08020004, 0x40, 8, 0x0, 1, .const 0x0, .res 0x07, .none, false, [⟨31, 0, .ro⟩]⟩
def Fld.MED_S_COMMIT_FRAME : Fld := ⟨.MED_S_COMMIT, 31, 0⟩
def Reg.MED_S_FRAMES : Reg := ⟨0x08020008, 0x40, 8, 0x0, 1, .const 0x0, .res 0x07, .none, false, [⟨31, 0, .ro⟩]⟩
def Fld.MED_S_FRAMES_COUNT : Fld := ⟨.MED_S_FRAMES, 31, 0⟩
def Reg.MED_S_STAT : Reg :=
  ⟨0x0802000C, 0x40, 8, 0x0, 1, .const 0x0, .res 0x07, .none, false, [⟨31, 16, .rc⟩, ⟨15, 0, .rc⟩]⟩
def Fld.MED_S_STAT_STAGING_FULL : Fld := ⟨.MED_S_STAT, 31, 16⟩
def Fld.MED_S_STAT_LOST : Fld := ⟨.MED_S_STAT, 15, 0⟩
def Reg.MED_T_CMD : Reg :=
  ⟨0x08030000, 0x100, 8, 0x0, 1, .const 0x0, .slot, .none, false, [⟨31, 24, .rw⟩, ⟨23, 22, .rw⟩, ⟨21, 21, .rw⟩,
    ⟨20, 16, .rw⟩]⟩
def Fld.MED_T_CMD_OP : Fld := ⟨.MED_T_CMD, 31, 24⟩
def Fld.MED_T_CMD_MAG : Fld := ⟨.MED_T_CMD, 23, 22⟩
def Fld.MED_T_CMD_FLUSH : Fld := ⟨.MED_T_CMD, 21, 21⟩
def Fld.MED_T_CMD_TAG : Fld := ⟨.MED_T_CMD, 20, 16⟩
def Reg.MED_T_LBA : Reg := ⟨0x08030004, 0x100, 8, 0x0, 1, .const 0x0, .slot, .none, false, [⟨31, 0, .rw⟩]⟩
def Fld.MED_T_LBA_LBA : Fld := ⟨.MED_T_LBA, 31, 0⟩
def Reg.MED_T_COUNT : Reg := ⟨0x08030008, 0x100, 8, 0x0, 1, .const 0x0, .slot, .none, false, [⟨31, 0, .rw⟩]⟩
def Fld.MED_T_COUNT_COUNT : Fld := ⟨.MED_T_COUNT, 31, 0⟩
def Reg.MED_T_BUF_LO : Reg := ⟨0x0803000C, 0x100, 8, 0x0, 1, .const 0x0, .slot, .none, true, [⟨31, 0, .rw⟩]⟩
def Fld.MED_T_BUF_LO_BUF : Fld := ⟨.MED_T_BUF_LO, 31, 0⟩
def Reg.MED_T_BUF_HI : Reg := ⟨0x08030010, 0x100, 8, 0x0, 1, .const 0x0, .slot, .none, false, [⟨31, 0, .rw⟩]⟩
def Fld.MED_T_BUF_HI_BUF : Fld := ⟨.MED_T_BUF_HI, 31, 0⟩
def Reg.MED_T_GO : Reg := ⟨0x08030014, 0x100, 8, 0x0, 1, .const 0x0, .slot, .none, false, [⟨0, 0, .wo⟩]⟩
def Fld.MED_T_GO_SUBMIT : Fld := ⟨.MED_T_GO, 0, 0⟩
def Reg.MED_T_RESET : Reg :=
  ⟨0x08030018, 0x100, 8, 0x0, 1, .const 0x0, .slot, .none, false, [⟨4, 4, .wo⟩, ⟨1, 0, .wo⟩]⟩
def Fld.MED_T_RESET_ALL : Fld := ⟨.MED_T_RESET, 4, 4⟩
def Fld.MED_T_RESET_MAG : Fld := ⟨.MED_T_RESET, 1, 0⟩
def Reg.MED_T_STAT : Reg :=
  ⟨0x0803001C, 0x100, 8, 0x0, 1, .const 0x0, .slot, .none, false, [⟨31, 31, .ro⟩, ⟨30, 30, .w1c⟩, ⟨23, 0, .ro⟩]⟩
def Fld.MED_T_STAT_BUSY : Fld := ⟨.MED_T_STAT, 31, 31⟩
def Fld.MED_T_STAT_COLLIDE : Fld := ⟨.MED_T_STAT, 30, 30⟩
def Fld.MED_T_STAT_OUTSTANDING : Fld := ⟨.MED_T_STAT, 23, 0⟩
def Reg.MED_T_ACCEPT_LO : Reg := ⟨0x08030020, 0x100, 8, 0x0, 1, .const 0x0, .slot, .none, true, [⟨31, 0, .ro⟩]⟩
def Fld.MED_T_ACCEPT_LO_ACCEPT : Fld := ⟨.MED_T_ACCEPT_LO, 31, 0⟩
def Reg.MED_T_ACCEPT_HI : Reg := ⟨0x08030024, 0x100, 8, 0x0, 1, .const 0x0, .slot, .none, false, [⟨31, 0, .ro⟩]⟩
def Fld.MED_T_ACCEPT_HI_ACCEPT : Fld := ⟨.MED_T_ACCEPT_HI, 31, 0⟩
def Reg.MED_T_CUT_LO : Reg := ⟨0x08030028, 0x100, 8, 0x0, 1, .const 0x0, .slot, .none, true, [⟨31, 0, .ro⟩]⟩
def Fld.MED_T_CUT_LO_CUT : Fld := ⟨.MED_T_CUT_LO, 31, 0⟩
def Reg.MED_T_CUT_HI : Reg := ⟨0x0803002C, 0x100, 8, 0x0, 1, .const 0x0, .slot, .none, false, [⟨31, 0, .ro⟩]⟩
def Fld.MED_T_CUT_HI_CUT : Fld := ⟨.MED_T_CUT_HI, 31, 0⟩
def Reg.MED_T_CQ_BASE_LO : Reg := ⟨0x08030030, 0x100, 8, 0x0, 1, .const 0x0, .slot, .none, true, [⟨31, 0, .ro⟩]⟩
def Fld.MED_T_CQ_BASE_LO_BASE : Fld := ⟨.MED_T_CQ_BASE_LO, 31, 0⟩
def Reg.MED_T_CQ_BASE_HI : Reg := ⟨0x08030034, 0x100, 8, 0x0, 1, .const 0x0, .slot, .none, false, [⟨31, 0, .ro⟩]⟩
def Fld.MED_T_CQ_BASE_HI_BASE : Fld := ⟨.MED_T_CQ_BASE_HI, 31, 0⟩
def Reg.MED_T_CQ_TAIL : Reg := ⟨0x08030038, 0x100, 8, 0x0, 1, .const 0x0, .slot, .none, false, [⟨8, 0, .ro⟩]⟩
def Fld.MED_T_CQ_TAIL_INDEX : Fld := ⟨.MED_T_CQ_TAIL, 8, 0⟩
def Reg.MED_T_CQ_HEAD : Reg := ⟨0x0803003C, 0x100, 8, 0x0, 1, .const 0x0, .slot, .none, false, [⟨8, 0, .rw⟩]⟩
def Fld.MED_T_CQ_HEAD_INDEX : Fld := ⟨.MED_T_CQ_HEAD, 8, 0⟩
def Reg.MEM_STATUS : Reg :=
  ⟨0x09000004, 0x0, 1, 0x0, 1, .const 0x0, .fixed 0x0F0B, .none, false, [⟨7, 7, .ro⟩, ⟨2, 0, .ro⟩]⟩
def Fld.MEM_STATUS_ORDER : Fld := ⟨.MEM_STATUS, 7, 7⟩
def Fld.MEM_STATUS_PHASE : Fld := ⟨.MEM_STATUS, 2, 0⟩
def Reg.MEM_EVT : Reg :=
  ⟨0x09000008, 0x0, 1, 0x0, 1, .const 0x0, .fixed 0x0F0B, .none, false, [⟨31, 16, .rc⟩, ⟨2, 2, .w1c⟩, ⟨1, 1,
    .w1c⟩, ⟨0, 0, .w1c⟩]⟩
def Fld.MEM_EVT_MARGIN_SKIP : Fld := ⟨.MEM_EVT, 31, 16⟩
def Fld.MEM_EVT_FROZEN : Fld := ⟨.MEM_EVT, 2, 2⟩
def Fld.MEM_EVT_MARGIN_DONE : Fld := ⟨.MEM_EVT, 1, 1⟩
def Fld.MEM_EVT_CORRECTED : Fld := ⟨.MEM_EVT, 0, 0⟩
def Reg.MEM_ECC : Reg :=
  ⟨0x0900000C, 0x0, 1, 0x0, 1, .const 0x0, .fixed 0x0F0B, .none, false, [⟨31, 16, .rc⟩, ⟨15, 8, .rc⟩, ⟨7, 0,
    .rc⟩]⟩
def Fld.MEM_ECC_CORRECTED : Fld := ⟨.MEM_ECC, 31, 16⟩
def Fld.MEM_ECC_SCRUB_CLEARED : Fld := ⟨.MEM_ECC, 15, 8⟩
def Fld.MEM_ECC_UNCORRECTED : Fld := ⟨.MEM_ECC, 7, 0⟩
def Reg.MEM_ERR_CNT : Reg := ⟨0x09000010, 0x0, 1, 0x0, 1, .const 0x0, .fixed 0x0F0B, .none, false, [⟨15, 0, .rc⟩]⟩
def Fld.MEM_ERR_CNT_REPLAYS : Fld := ⟨.MEM_ERR_CNT, 15, 0⟩
def Reg.MEM_ECC_ADDR_LO : Reg := ⟨0x09000014, 0x0, 1, 0x0, 1, .const 0x0, .fixed 0x0F0B, .none, true, [⟨31, 0, .ro⟩]⟩
def Fld.MEM_ECC_ADDR_LO_ADDR : Fld := ⟨.MEM_ECC_ADDR_LO, 31, 0⟩
def Reg.MEM_ECC_ADDR_HI : Reg := ⟨0x09000018, 0x0, 1, 0x0, 1, .const 0x0, .fixed 0x0F0B, .none, false, [⟨31, 0, .ro⟩]⟩
def Fld.MEM_ECC_ADDR_HI_ADDR : Fld := ⟨.MEM_ECC_ADDR_HI, 31, 0⟩
def Reg.MEM_ERR_ADDR_LO : Reg := ⟨0x0900001C, 0x0, 1, 0x0, 1, .const 0x0, .fixed 0x0F0B, .none, true, [⟨31, 0, .ro⟩]⟩
def Fld.MEM_ERR_ADDR_LO_ADDR : Fld := ⟨.MEM_ERR_ADDR_LO, 31, 0⟩
def Reg.MEM_ERR_ADDR_HI : Reg := ⟨0x09000020, 0x0, 1, 0x0, 1, .const 0x0, .fixed 0x0F0B, .none, false, [⟨31, 0, .ro⟩]⟩
def Fld.MEM_ERR_ADDR_HI_ADDR : Fld := ⟨.MEM_ERR_ADDR_HI, 31, 0⟩
def Reg.MEM_ERR_INFO : Reg :=
  ⟨0x09000024, 0x0, 1, 0x0, 1, .const 0x0, .fixed 0x0F0B, .none, false, [⟨31, 30, .ro⟩, ⟨29, 24, .ro⟩, ⟨23, 19,
    .ro⟩, ⟨15, 0, .ro⟩]⟩
def Fld.MEM_ERR_INFO_CAUSE : Fld := ⟨.MEM_ERR_INFO, 31, 30⟩
def Fld.MEM_ERR_INFO_PC : Fld := ⟨.MEM_ERR_INFO, 29, 24⟩
def Fld.MEM_ERR_INFO_PORT : Fld := ⟨.MEM_ERR_INFO, 23, 19⟩
def Fld.MEM_ERR_INFO_SYNDROME : Fld := ⟨.MEM_ERR_INFO, 15, 0⟩
def Reg.MEM_MARGIN : Reg :=
  ⟨0x09000028, 0x0, 1, 0x0, 1, .const 0x0, .fixed 0x0F0B, .none, false, [⟨31, 24, .ro⟩, ⟨23, 16, .ro⟩, ⟨15, 8,
    .ro⟩, ⟨7, 0, .ro⟩]⟩
def Fld.MEM_MARGIN_S1_WIDTH : Fld := ⟨.MEM_MARGIN, 31, 24⟩
def Fld.MEM_MARGIN_S1_LANE : Fld := ⟨.MEM_MARGIN, 23, 16⟩
def Fld.MEM_MARGIN_S0_WIDTH : Fld := ⟨.MEM_MARGIN, 15, 8⟩
def Fld.MEM_MARGIN_S0_LANE : Fld := ⟨.MEM_MARGIN, 7, 0⟩
def Reg.MEM_P_CFG : Reg :=
  ⟨0x09010000, 0x10, 24, 0x0, 1, .pcfg, .fixed 0x0F0B, .none, false, [⟨31, 24, .rw⟩, ⟨23, 16, .rw⟩, ⟨11, 8, .rw⟩,
    ⟨0, 0, .rw⟩]⟩
def Fld.MEM_P_CFG_HIGH : Fld := ⟨.MEM_P_CFG, 31, 24⟩
def Fld.MEM_P_CFG_LOW : Fld := ⟨.MEM_P_CFG, 23, 16⟩
def Fld.MEM_P_CFG_WEIGHT : Fld := ⟨.MEM_P_CFG, 11, 8⟩
def Fld.MEM_P_CFG_TRUMP_EN : Fld := ⟨.MEM_P_CFG, 0, 0⟩
def Reg.MEM_P_STAT : Reg :=
  ⟨0x09010004, 0x10, 24, 0x0, 1, .pstat, .fixed 0x0F0B, .none, false, [⟨31, 24, .ro⟩, ⟨23, 16, .rc⟩, ⟨15, 8, .rc⟩,
    ⟨7, 0, .rc⟩]⟩
def Fld.MEM_P_STAT_BUF : Fld := ⟨.MEM_P_STAT, 31, 24⟩
def Fld.MEM_P_STAT_OVERFLOW : Fld := ⟨.MEM_P_STAT, 23, 16⟩
def Fld.MEM_P_STAT_STARVED : Fld := ⟨.MEM_P_STAT, 15, 8⟩
def Fld.MEM_P_STAT_TRUMPS : Fld := ⟨.MEM_P_STAT, 7, 0⟩
def Reg.LNK_EVT_DOWN : Reg := ⟨0x0A000004, 0x0, 1, 0x0, 1, .const 0x0, .fixed 0x0F0C, .none, false, [⟨31, 0, .w1c⟩]⟩
def Fld.LNK_EVT_DOWN_DOWN : Fld := ⟨.LNK_EVT_DOWN, 31, 0⟩
def Reg.LNK_EVT_ENUM : Reg := ⟨0x0A000008, 0x0, 1, 0x0, 1, .const 0x0, .fixed 0x0F0C, .none, false, [⟨31, 0, .w1c⟩]⟩
def Fld.LNK_EVT_ENUM_ENUM : Fld := ⟨.LNK_EVT_ENUM, 31, 0⟩
def Reg.LNK_EVT2 : Reg :=
  ⟨0x0A00000C, 0x0, 1, 0x0, 1, .const 0x0, .fixed 0x0F0C, .none, false, [⟨3, 3, .w1c⟩, ⟨2, 2, .w1c⟩, ⟨1, 1, .w1c⟩,
    ⟨0, 0, .w1c⟩]⟩
def Fld.LNK_EVT2_PARTNER_REFUSED : Fld := ⟨.LNK_EVT2, 3, 3⟩
def Fld.LNK_EVT2_FOM_LOW : Fld := ⟨.LNK_EVT2, 2, 2⟩
def Fld.LNK_EVT2_NOT_READY : Fld := ⟨.LNK_EVT2, 1, 1⟩
def Fld.LNK_EVT2_PCIE_CHANGE : Fld := ⟨.LNK_EVT2, 0, 0⟩
def Reg.LNK_MAG : Reg :=
  ⟨0x0A000010, 0x0, 1, 0x0, 1, .const 0x0, .fixed 0x0F0C, .none, false, [⟨31, 31, .rw⟩, ⟨28, 24, .rw⟩, ⟨23, 23,
    .rw⟩, ⟨20, 16, .rw⟩, ⟨15, 15, .rw⟩, ⟨12, 8, .rw⟩, ⟨7, 7, .rw⟩, ⟨4, 0, .rw⟩]⟩
def Fld.LNK_MAG_M3_VALID : Fld := ⟨.LNK_MAG, 31, 31⟩
def Fld.LNK_MAG_M3_LINK : Fld := ⟨.LNK_MAG, 28, 24⟩
def Fld.LNK_MAG_M2_VALID : Fld := ⟨.LNK_MAG, 23, 23⟩
def Fld.LNK_MAG_M2_LINK : Fld := ⟨.LNK_MAG, 20, 16⟩
def Fld.LNK_MAG_M1_VALID : Fld := ⟨.LNK_MAG, 15, 15⟩
def Fld.LNK_MAG_M1_LINK : Fld := ⟨.LNK_MAG, 12, 8⟩
def Fld.LNK_MAG_M0_VALID : Fld := ⟨.LNK_MAG, 7, 7⟩
def Fld.LNK_MAG_M0_LINK : Fld := ⟨.LNK_MAG, 4, 0⟩
def Reg.LNK_PCIE_CFG : Reg :=
  ⟨0x0A000014, 0x0, 1, 0x0, 1, .const 0x80000F08, .fixed 0x0F0C, .none, false, [⟨31, 31, .ro⟩, ⟨30, 28, .ro⟩, ⟨11,
    8, .rw⟩, ⟨7, 4, .ro⟩, ⟨3, 0, .rw⟩]⟩
def Fld.LNK_PCIE_CFG_LINK_UP : Fld := ⟨.LNK_PCIE_CFG, 31, 31⟩
def Fld.LNK_PCIE_CFG_SPEED : Fld := ⟨.LNK_PCIE_CFG, 30, 28⟩
def Fld.LNK_PCIE_CFG_PF_EN : Fld := ⟨.LNK_PCIE_CFG, 11, 8⟩
def Fld.LNK_PCIE_CFG_WIDTH_NEG : Fld := ⟨.LNK_PCIE_CFG, 7, 4⟩
def Fld.LNK_PCIE_CFG_WIDTH : Fld := ⟨.LNK_PCIE_CFG, 3, 0⟩
def Reg.LNK_Q_CFG : Reg :=
  ⟨0x0A010000, 0x40, 24, 0x0, 1, .qcfg, .res 0x0B, .none, false, [⟨31, 29, .rw⟩, ⟨28, 28, .rw⟩, ⟨27, 24, .rw⟩,
    ⟨23, 16, .rw⟩, ⟨15, 0, .rw⟩]⟩
def Fld.LNK_Q_CFG_PROTOCOL : Fld := ⟨.LNK_Q_CFG, 31, 29⟩
def Fld.LNK_Q_CFG_PAM4 : Fld := ⟨.LNK_Q_CFG, 28, 28⟩
def Fld.LNK_Q_CFG_PAM4_RATE : Fld := ⟨.LNK_Q_CFG, 27, 24⟩
def Fld.LNK_Q_CFG_FOM_MIN : Fld := ⟨.LNK_Q_CFG, 23, 16⟩
def Fld.LNK_Q_CFG_TEST_RATE : Fld := ⟨.LNK_Q_CFG, 15, 0⟩
def Reg.LNK_Q_STAT : Reg := ⟨0x0A010004, 0x40, 24, 0x0, 1, .const 0x0, .res 0x0B, .none, false, [⟨3, 0, .ro⟩]⟩
def Fld.LNK_Q_STAT_LANE_UP : Fld := ⟨.LNK_Q_STAT, 3, 0⟩
def Reg.LNK_L_PRBS : Reg := ⟨0x0A020000, 0x10, 96, 0x0, 1, .const 0x0, .lane, .none, false, [⟨31, 0, .rc⟩]⟩
def Fld.LNK_L_PRBS_ERRORS : Fld := ⟨.LNK_L_PRBS, 31, 0⟩
def Reg.LNK_L_FOM : Reg :=
  ⟨0x0A020004, 0x10, 96, 0x0, 1, .const 0x0, .lane, .none, false, [⟨31, 31, .ro⟩, ⟨15, 8, .rc⟩, ⟨7, 0, .ro⟩]⟩
def Fld.LNK_L_FOM_PRBS_LOCK : Fld := ⟨.LNK_L_FOM, 31, 31⟩
def Fld.LNK_L_FOM_MIN : Fld := ⟨.LNK_L_FOM, 15, 8⟩
def Fld.LNK_L_FOM_LAST : Fld := ⟨.LNK_L_FOM, 7, 0⟩
def Reg.LNK_D_CFG : Reg :=
  ⟨0x0A030000, 0x40, 32, 0x0, 1, .const 0x0, .link, .none, false, [⟨31, 31, .rw⟩, ⟨12, 8, .rw⟩, ⟨6, 0, .rw⟩]⟩
def Fld.LNK_D_CFG_EN : Fld := ⟨.LNK_D_CFG, 31, 31⟩
def Fld.LNK_D_CFG_LANES : Fld := ⟨.LNK_D_CFG, 12, 8⟩
def Fld.LNK_D_CFG_FIRST_LANE : Fld := ⟨.LNK_D_CFG, 6, 0⟩
def Reg.LNK_D_STAT : Reg :=
  ⟨0x0A030004, 0x40, 32, 0x0, 1, .const 0x0, .link, .none, false, [⟨31, 29, .ro⟩, ⟨28, 26, .ro⟩, ⟨25, 16, .ro⟩,
    ⟨15, 12, .ro⟩, ⟨11, 11, .ro⟩, ⟨4, 0, .ro⟩]⟩
def Fld.LNK_D_STAT_STATE : Fld := ⟨.LNK_D_STAT, 31, 29⟩
def Fld.LNK_D_STAT_PARTNER : Fld := ⟨.LNK_D_STAT, 28, 26⟩
def Fld.LNK_D_STAT_TRIG_DELAY : Fld := ⟨.LNK_D_STAT, 25, 16⟩
def Fld.LNK_D_STAT_CAUSE : Fld := ⟨.LNK_D_STAT, 15, 12⟩
def Fld.LNK_D_STAT_UNBOUND : Fld := ⟨.LNK_D_STAT, 11, 11⟩
def Fld.LNK_D_STAT_SKEW : Fld := ⟨.LNK_D_STAT, 4, 0⟩
def Reg.LNK_D_ERR : Reg :=
  ⟨0x0A030008, 0x40, 32, 0x0, 1, .const 0x0, .link, .none, false, [⟨31, 16, .rc⟩, ⟨15, 8, .rc⟩, ⟨7, 0, .rc⟩]⟩
def Fld.LNK_D_ERR_CRC_FAIL : Fld := ⟨.LNK_D_ERR, 31, 16⟩
def Fld.LNK_D_ERR_REALIGN : Fld := ⟨.LNK_D_ERR, 15, 8⟩
def Fld.LNK_D_ERR_DISCARD : Fld := ⟨.LNK_D_ERR, 7, 0⟩
def Reg.LNK_D_SERIAL : Reg := ⟨0x0A03000C, 0x40, 32, 0x4, 4, .const 0x0, .link, .none, false, [⟨31, 0, .ro⟩]⟩
def Fld.LNK_D_SERIAL_SERIAL : Fld := ⟨.LNK_D_SERIAL, 31, 0⟩
def Reg.LNK_E_CFG : Reg :=
  ⟨0x0A040000, 0x40, 16, 0x0, 1, .const 0x0, .eth, .none, false, [⟨31, 31, .rw⟩, ⟨30, 28, .rw⟩, ⟨27, 27, .rw⟩, ⟨6,
    0, .rw⟩]⟩
def Fld.LNK_E_CFG_EN : Fld := ⟨.LNK_E_CFG, 31, 31⟩
def Fld.LNK_E_CFG_LAYOUT : Fld := ⟨.LNK_E_CFG, 30, 28⟩
def Fld.LNK_E_CFG_FEC_EN : Fld := ⟨.LNK_E_CFG, 27, 27⟩
def Fld.LNK_E_CFG_FIRST_LANE : Fld := ⟨.LNK_E_CFG, 6, 0⟩
def Reg.LNK_E_STAT : Reg :=
  ⟨0x0A040004, 0x40, 16, 0x0, 1, .const 0x0, .eth, .none, false, [⟨31, 31, .ro⟩, ⟨15, 0, .rc⟩]⟩
def Fld.LNK_E_STAT_LINK_UP : Fld := ⟨.LNK_E_STAT, 31, 31⟩
def Fld.LNK_E_STAT_FEC_UNCORR : Fld := ⟨.LNK_E_STAT, 15, 0⟩
def Reg.OUT_EVT : Reg :=
  ⟨0x0B000004, 0x0, 1, 0x0, 1, .const 0x0, .fixed 0x0F0D, .none, false, [⟨31, 24, .w1c⟩, ⟨23, 16, .w1c⟩, ⟨15, 8,
    .w1c⟩, ⟨7, 0, .w1c⟩]⟩
def Fld.OUT_EVT_UNDERRUN : Fld := ⟨.OUT_EVT, 31, 24⟩
def Fld.OUT_EVT_LATE_LINE : Fld := ⟨.OUT_EVT, 23, 16⟩
def Fld.OUT_EVT_START_MISSED : Fld := ⟨.OUT_EVT, 15, 8⟩
def Fld.OUT_EVT_NO_SOURCE : Fld := ⟨.OUT_EVT, 7, 0⟩
def Reg.OUT_O_CFG : Reg :=
  ⟨0x0B010000, 0x100, 8, 0x0, 1, .const 0x3000, .res 0x02, .none, false, [⟨31, 31, .ro⟩, ⟨30, 28, .rw⟩, ⟨27, 24,
    .rw⟩, ⟨23, 21, .rw⟩, ⟨20, 20, .rw⟩, ⟨19, 19, .rw⟩, ⟨18, 18, .rw⟩, ⟨17, 17, .rw⟩, ⟨16, 16, .rw⟩, ⟨15, 8, .rw⟩,
    ⟨6, 0, .rw⟩]⟩
def Fld.OUT_O_CFG_RUN : Fld := ⟨.OUT_O_CFG, 31, 31⟩
def Fld.OUT_O_CFG_KIND : Fld := ⟨.OUT_O_CFG, 30, 28⟩
def Fld.OUT_O_CFG_RATE : Fld := ⟨.OUT_O_CFG, 27, 24⟩
def Fld.OUT_O_CFG_FORMAT : Fld := ⟨.OUT_O_CFG, 23, 21⟩
def Fld.OUT_O_CFG_SAMPLING : Fld := ⟨.OUT_O_CFG, 20, 20⟩
def Fld.OUT_O_CFG_RANGE : Fld := ⟨.OUT_O_CFG, 19, 19⟩
def Fld.OUT_O_CFG_MATRIX : Fld := ⟨.OUT_O_CFG, 18, 18⟩
def Fld.OUT_O_CFG_COMPRESSED : Fld := ⟨.OUT_O_CFG, 17, 17⟩
def Fld.OUT_O_CFG_DUAL_PATH : Fld := ⟨.OUT_O_CFG, 16, 16⟩
def Fld.OUT_O_CFG_HOLD : Fld := ⟨.OUT_O_CFG, 15, 8⟩
def Fld.OUT_O_CFG_PORT : Fld := ⟨.OUT_O_CFG, 6, 0⟩
def Reg.OUT_O_SRC : Reg :=
  ⟨0x0B010004, 0x100, 8, 0x0, 1, .osrc, .res 0x02, .out, false, [⟨31, 31, .rws⟩, ⟨30, 28, .rws⟩]⟩
def Fld.OUT_O_SRC_KIND : Fld := ⟨.OUT_O_SRC, 31, 31⟩
def Fld.OUT_O_SRC_INDEX : Fld := ⟨.OUT_O_SRC, 30, 28⟩
def Reg.OUT_O_CROP0 : Reg :=
  ⟨0x0B010008, 0x100, 8, 0x0, 1, .const 0x0, .res 0x02, .out, false, [⟨31, 16, .rws⟩, ⟨15, 0, .rws⟩]⟩
def Fld.OUT_O_CROP0_X : Fld := ⟨.OUT_O_CROP0, 31, 16⟩
def Fld.OUT_O_CROP0_Y : Fld := ⟨.OUT_O_CROP0, 15, 0⟩
def Reg.OUT_O_CROP1 : Reg :=
  ⟨0x0B01000C, 0x100, 8, 0x0, 1, .const 0x0, .res 0x02, .out, false, [⟨31, 16, .rws⟩, ⟨15, 0, .rws⟩]⟩
def Fld.OUT_O_CROP1_W : Fld := ⟨.OUT_O_CROP1, 31, 16⟩
def Fld.OUT_O_CROP1_H : Fld := ⟨.OUT_O_CROP1, 15, 0⟩
def Reg.OUT_O_DEST0 : Reg :=
  ⟨0x0B010010, 0x100, 8, 0x0, 1, .const 0x0, .res 0x02, .out, false, [⟨31, 16, .rws⟩, ⟨15, 0, .rws⟩]⟩
def Fld.OUT_O_DEST0_X : Fld := ⟨.OUT_O_DEST0, 31, 16⟩
def Fld.OUT_O_DEST0_Y : Fld := ⟨.OUT_O_DEST0, 15, 0⟩
def Reg.OUT_O_DEST1 : Reg :=
  ⟨0x0B010014, 0x100, 8, 0x0, 1, .const 0x0, .res 0x02, .out, false, [⟨31, 16, .rws⟩, ⟨15, 0, .rws⟩]⟩
def Fld.OUT_O_DEST1_W : Fld := ⟨.OUT_O_DEST1, 31, 16⟩
def Fld.OUT_O_DEST1_H : Fld := ⟨.OUT_O_DEST1, 15, 0⟩
def Reg.OUT_O_FILL : Reg :=
  ⟨0x0B010018, 0x100, 8, 0x0, 1, .const 0x4010040, .res 0x02, .out, false, [⟨29, 20, .rws⟩, ⟨19, 10, .rws⟩, ⟨9, 0,
    .rws⟩]⟩
def Fld.OUT_O_FILL_R : Fld := ⟨.OUT_O_FILL, 29, 20⟩
def Fld.OUT_O_FILL_G : Fld := ⟨.OUT_O_FILL, 19, 10⟩
def Fld.OUT_O_FILL_B : Fld := ⟨.OUT_O_FILL, 9, 0⟩
def Reg.OUT_O_OVL : Reg :=
  ⟨0x0B01001C, 0x100, 8, 0x0, 1, .const 0xEB000, .res 0x02, .out, false, [⟨31, 31, .rws⟩, ⟨30, 30, .rws⟩, ⟨29, 29,
    .rws⟩, ⟨28, 28, .rws⟩, ⟨19, 10, .rws⟩]⟩
def Fld.OUT_O_OVL_LINES_EN : Fld := ⟨.OUT_O_OVL, 31, 31⟩
def Fld.OUT_O_OVL_FC_EN : Fld := ⟨.OUT_O_OVL, 30, 30⟩
def Fld.OUT_O_OVL_ZEBRA_EN : Fld := ⟨.OUT_O_OVL, 29, 29⟩
def Fld.OUT_O_OVL_TEXT_EN : Fld := ⟨.OUT_O_OVL, 28, 28⟩
def Fld.OUT_O_OVL_ZEBRA : Fld := ⟨.OUT_O_OVL, 19, 10⟩
def Reg.OUT_O_AUD : Reg :=
  ⟨0x0B010020, 0x100, 8, 0x0, 1, .const 0x0, .res 0x02, .out, false, [⟨31, 31, .rws⟩, ⟨29, 24, .rws⟩, ⟨15, 0,
    .rws⟩]⟩
def Fld.OUT_O_AUD_EN : Fld := ⟨.OUT_O_AUD, 31, 31⟩
def Fld.OUT_O_AUD_CHANNELS : Fld := ⟨.OUT_O_AUD, 29, 24⟩
def Fld.OUT_O_AUD_DELAY : Fld := ⟨.OUT_O_AUD, 15, 0⟩
def Reg.OUT_O_LAT : Reg := ⟨0x0B010024, 0x100, 8, 0x0, 1, .const 0x989680, .res 0x02, .none, false, [⟨31, 0, .rw⟩]⟩
def Fld.OUT_O_LAT_LAT : Fld := ⟨.OUT_O_LAT, 31, 0⟩
def Reg.OUT_O_SHOWN : Reg := ⟨0x0B010028, 0x100, 8, 0x0, 1, .const 0x0, .res 0x02, .none, false, [⟨31, 0, .ro⟩]⟩
def Fld.OUT_O_SHOWN_SHOWN : Fld := ⟨.OUT_O_SHOWN, 31, 0⟩
def Reg.OUT_O_STAT : Reg :=
  ⟨0x0B01002C, 0x100, 8, 0x0, 1, .const 0x0, .res 0x02, .none, false, [⟨31, 16, .rc⟩, ⟨15, 0, .rc⟩]⟩
def Fld.OUT_O_STAT_UNDERRUN : Fld := ⟨.OUT_O_STAT, 31, 16⟩
def Fld.OUT_O_STAT_REPEATS : Fld := ⟨.OUT_O_STAT, 15, 0⟩
def Reg.OUT_O_STAT2 : Reg :=
  ⟨0x0B010030, 0x100, 8, 0x0, 1, .const 0x0, .res 0x02, .none, false, [⟨31, 16, .rc⟩, ⟨15, 8, .rc⟩, ⟨7, 4, .rc⟩,
    ⟨3, 0, .rc⟩]⟩
def Fld.OUT_O_STAT2_SKIPPED : Fld := ⟨.OUT_O_STAT2, 31, 16⟩
def Fld.OUT_O_STAT2_LATE_LINES : Fld := ⟨.OUT_O_STAT2, 15, 8⟩
def Fld.OUT_O_STAT2_EARLY : Fld := ⟨.OUT_O_STAT2, 7, 4⟩
def Fld.OUT_O_STAT2_START_MISSED : Fld := ⟨.OUT_O_STAT2, 3, 0⟩
def Reg.AUD_EVT : Reg :=
  ⟨0x0C000004, 0x0, 1, 0x0, 1, .const 0x0, .fixed 0x0F0E, .none, false, [⟨31, 16, .w1c⟩, ⟨15, 0, .w1c⟩]⟩
def Fld.AUD_EVT_UNDERRUN : Fld := ⟨.AUD_EVT, 31, 16⟩
def Fld.AUD_EVT_NOT_READY : Fld := ⟨.AUD_EVT, 15, 0⟩
def Reg.AUD_P_CFG : Reg :=
  ⟨0x0C010000, 0x100, 16, 0x0, 1, .const 0x20000200, .res 0x04, .none, false, [⟨31, 28, .rw⟩, ⟨27, 27, .rw⟩, ⟨26,
    26, .rw⟩, ⟨25, 25, .rw⟩, ⟨24, 24, .rw⟩, ⟨23, 23, .rw⟩, ⟨22, 20, .rw⟩, ⟨19, 16, .rw⟩, ⟨15, 8, .rw⟩]⟩
def Fld.AUD_P_CFG_RATE : Fld := ⟨.AUD_P_CFG, 31, 28⟩
def Fld.AUD_P_CFG_PACK : Fld := ⟨.AUD_P_CFG, 27, 27⟩
def Fld.AUD_P_CFG_FILL : Fld := ⟨.AUD_P_CFG, 26, 26⟩
def Fld.AUD_P_CFG_FS_STYLE : Fld := ⟨.AUD_P_CFG, 25, 25⟩
def Fld.AUD_P_CFG_FS_POL : Fld := ⟨.AUD_P_CFG, 24, 24⟩
def Fld.AUD_P_CFG_BCLK_EDGE : Fld := ⟨.AUD_P_CFG, 23, 23⟩
def Fld.AUD_P_CFG_MCLK_DIV : Fld := ⟨.AUD_P_CFG, 22, 20⟩
def Fld.AUD_P_CFG_DIR : Fld := ⟨.AUD_P_CFG, 19, 16⟩
def Fld.AUD_P_CFG_LEAD : Fld := ⟨.AUD_P_CFG, 15, 8⟩
def Reg.AUD_P_FMT : Reg :=
  ⟨0x0C010004, 0x100, 16, 0x0, 1, .const 0x22001, .res 0x04, .none, false, [⟨21, 16, .rw⟩, ⟨13, 8, .rw⟩, ⟨4, 0,
    .rw⟩]⟩
def Fld.AUD_P_FMT_SLOTS : Fld := ⟨.AUD_P_FMT, 21, 16⟩
def Fld.AUD_P_FMT_WIDTH : Fld := ⟨.AUD_P_FMT, 13, 8⟩
def Fld.AUD_P_FMT_OFFSET : Fld := ⟨.AUD_P_FMT, 4, 0⟩
def Reg.AUD_P_MASK : Reg := ⟨0x0C010008, 0x100, 16, 0x4, 4, .const 0x3, .res 0x04, .aud, false, [⟨31, 0, .rws⟩]⟩
def Fld.AUD_P_MASK_SLOT : Fld := ⟨.AUD_P_MASK, 31, 0⟩
def Reg.AUD_P_STAT : Reg :=
  ⟨0x0C010018, 0x100, 16, 0x0, 1, .const 0x0, .res 0x04, .none, false, [⟨31, 30, .ro⟩, ⟨15, 0, .rc⟩]⟩
def Fld.AUD_P_STAT_STATE : Fld := ⟨.AUD_P_STAT, 31, 30⟩
def Fld.AUD_P_STAT_UNDERRUN : Fld := ⟨.AUD_P_STAT, 15, 0⟩
def Reg.AUD_P_FILLED : Reg := ⟨0x0C01001C, 0x100, 16, 0x0, 1, .const 0x0, .res 0x04, .none, false, [⟨31, 0, .rc⟩]⟩
def Fld.AUD_P_FILLED_COUNT : Fld := ⟨.AUD_P_FILLED, 31, 0⟩
def Reg.AUD_P_SAMPLE_LO : Reg := ⟨0x0C010020, 0x100, 16, 0x0, 1, .const 0x0, .res 0x04, .none, true, [⟨31, 0, .ro⟩]⟩
def Fld.AUD_P_SAMPLE_LO_SAMPLE : Fld := ⟨.AUD_P_SAMPLE_LO, 31, 0⟩
def Reg.AUD_P_SAMPLE_HI : Reg := ⟨0x0C010024, 0x100, 16, 0x0, 1, .const 0x0, .res 0x04, .none, false, [⟨31, 0, .ro⟩]⟩
def Fld.AUD_P_SAMPLE_HI_SAMPLE : Fld := ⟨.AUD_P_SAMPLE_HI, 31, 0⟩
def Reg.AUD_P_START_LO : Reg := ⟨0x0C010028, 0x100, 16, 0x0, 1, .const 0x0, .res 0x04, .none, true, [⟨31, 0, .ro⟩]⟩
def Fld.AUD_P_START_LO_START : Fld := ⟨.AUD_P_START_LO, 31, 0⟩
def Reg.AUD_P_START_HI : Reg := ⟨0x0C01002C, 0x100, 16, 0x0, 1, .const 0x0, .res 0x04, .none, false, [⟨31, 0, .ro⟩]⟩
def Fld.AUD_P_START_HI_START : Fld := ⟨.AUD_P_START_HI, 31, 0⟩
def Reg.AUD_P_CAP_WR_LO : Reg := ⟨0x0C010030, 0x100, 16, 0x0, 1, .const 0x0, .res 0x04, .none, true, [⟨31, 0, .ro⟩]⟩
def Fld.AUD_P_CAP_WR_LO_CAP_WR : Fld := ⟨.AUD_P_CAP_WR_LO, 31, 0⟩
def Reg.AUD_P_CAP_WR_HI : Reg := ⟨0x0C010034, 0x100, 16, 0x0, 1, .const 0x0, .res 0x04, .none, false, [⟨31, 0, .ro⟩]⟩
def Fld.AUD_P_CAP_WR_HI_CAP_WR : Fld := ⟨.AUD_P_CAP_WR_HI, 31, 0⟩
def Reg.AUD_P_PLAY_RD_LO : Reg := ⟨0x0C010038, 0x100, 16, 0x0, 1, .const 0x0, .res 0x04, .none, true, [⟨31, 0, .ro⟩]⟩
def Fld.AUD_P_PLAY_RD_LO_PLAY_RD : Fld := ⟨.AUD_P_PLAY_RD_LO, 31, 0⟩
def Reg.AUD_P_PLAY_RD_HI : Reg := ⟨0x0C01003C, 0x100, 16, 0x0, 1, .const 0x0, .res 0x04, .none, false, [⟨31, 0, .ro⟩]⟩
def Fld.AUD_P_PLAY_RD_HI_PLAY_RD : Fld := ⟨.AUD_P_PLAY_RD_HI, 31, 0⟩
def Reg.AUD_P_PLAY_WR_LO : Reg := ⟨0x0C010040, 0x100, 16, 0x0, 1, .const 0x0, .res 0x04, .none, true, [⟨31, 0, .ro⟩]⟩
def Fld.AUD_P_PLAY_WR_LO_PLAY_WR : Fld := ⟨.AUD_P_PLAY_WR_LO, 31, 0⟩
def Reg.AUD_P_PLAY_WR_HI : Reg := ⟨0x0C010044, 0x100, 16, 0x0, 1, .const 0x0, .res 0x04, .none, false, [⟨31, 0, .ro⟩]⟩
def Fld.AUD_P_PLAY_WR_HI_PLAY_WR : Fld := ⟨.AUD_P_PLAY_WR_HI, 31, 0⟩
def Reg.AUD_P_RING : Reg :=
  ⟨0x0C010048, 0x100, 16, 0x0, 1, .const 0x0, .res 0x04, .none, false, [⟨31, 16, .ro⟩, ⟨15, 0, .ro⟩]⟩
def Fld.AUD_P_RING_PLAY : Fld := ⟨.AUD_P_RING, 31, 16⟩
def Fld.AUD_P_RING_CAP : Fld := ⟨.AUD_P_RING, 15, 0⟩
def Reg.EVF_EVT : Reg :=
  ⟨0x0D000004, 0x0, 1, 0x0, 1, .const 0x0, .fixed 0x0F0F, .none, false, [⟨5, 5, .w1c⟩, ⟨4, 4, .w1c⟩, ⟨3, 3, .w1c⟩,
    ⟨2, 2, .w1c⟩, ⟨1, 1, .w1c⟩]⟩
def Fld.EVF_EVT_CONFIG_REFUSED : Fld := ⟨.EVF_EVT, 5, 5⟩
def Fld.EVF_EVT_PIN_TAKEN : Fld := ⟨.EVF_EVT, 4, 4⟩
def Fld.EVF_EVT_STORM : Fld := ⟨.EVF_EVT, 3, 3⟩
def Fld.EVF_EVT_OVERRUN : Fld := ⟨.EVF_EVT, 2, 2⟩
def Fld.EVF_EVT_CLOSE : Fld := ⟨.EVF_EVT, 1, 1⟩
def Reg.EVF_LAST : Reg :=
  ⟨0x0D000008, 0x0, 1, 0x0, 1, .const 0x0, .fixed 0x0F0F, .none, false, [⟨24, 16, .ro⟩, ⟨15, 8, .ro⟩, ⟨7, 0,
    .ro⟩]⟩
def Fld.EVF_LAST_OVERRUN_TASK : Fld := ⟨.EVF_LAST, 24, 16⟩
def Fld.EVF_LAST_STORM_CHANNEL : Fld := ⟨.EVF_LAST, 15, 8⟩
def Fld.EVF_LAST_PIN_TAKEN : Fld := ⟨.EVF_LAST, 7, 0⟩
def Reg.EVF_STORM : Reg := ⟨0x0D00000C, 0x0, 1, 0x0, 1, .const 0x493E0, .fixed 0x0F0F, .none, false, [⟨31, 0, .rw⟩]⟩
def Fld.EVF_STORM_PERIOD : Fld := ⟨.EVF_STORM, 31, 0⟩
def Reg.EVF_EN : Reg := ⟨0x0D010000, 0x40, 256, 0x4, 16, .const 0x0, .res 0x05, .none, false, [⟨31, 0, .rw⟩]⟩
def Fld.EVF_EN_EN : Fld := ⟨.EVF_EN, 31, 0⟩
def Reg.EVF_CH_CFG : Reg :=
  ⟨0x0D020000, 0x10, 256, 0x0, 1, .const 0x1FF0000, .res 0x05, .none, false, [⟨31, 31, .ro⟩, ⟨24, 16, .rw⟩, ⟨7, 0,
    .rw⟩]⟩
def Fld.EVF_CH_CFG_QUENCHED : Fld := ⟨.EVF_CH_CFG, 31, 31⟩
def Fld.EVF_CH_CFG_CONSUMER : Fld := ⟨.EVF_CH_CFG, 24, 16⟩
def Fld.EVF_CH_CFG_SPACING : Fld := ⟨.EVF_CH_CFG, 7, 0⟩
def Reg.EVF_CH_CEIL : Reg := ⟨0x0D020004, 0x10, 256, 0x0, 1, .const 0x0, .res 0x05, .none, false, [⟨15, 0, .rw⟩]⟩
def Fld.EVF_CH_CEIL_CEILING : Fld := ⟨.EVF_CH_CEIL, 15, 0⟩
def Reg.EVF_CH_STAT : Reg :=
  ⟨0x0D020008, 0x10, 256, 0x0, 1, .const 0x0, .res 0x05, .none, false, [⟨31, 16, .rc⟩, ⟨15, 0, .rc⟩]⟩
def Fld.EVF_CH_STAT_CLOSE : Fld := ⟨.EVF_CH_STAT, 31, 16⟩
def Fld.EVF_CH_STAT_PEAK : Fld := ⟨.EVF_CH_STAT, 15, 0⟩
def Reg.EVF_T_STAT : Reg :=
  ⟨0x0D030000, 0x4, 384, 0x0, 1, .const 0x0, .task, .none, false, [⟨23, 16, .rc⟩, ⟨1, 0, .ro⟩]⟩
def Fld.EVF_T_STAT_OVERRUN : Fld := ⟨.EVF_T_STAT, 23, 16⟩
def Fld.EVF_T_STAT_PENDING : Fld := ⟨.EVF_T_STAT, 1, 0⟩
def Reg.EVF_CELL_CFG : Reg :=
  ⟨0x0D040000, 0x10, 64, 0x0, 1, .const 0x0, .res 0x0D, .none, false, [⟨31, 16, .rw⟩, ⟨15, 8, .rw⟩, ⟨7, 6, .rw⟩,
    ⟨5, 5, .rw⟩, ⟨3, 0, .rw⟩]⟩
def Fld.EVF_CELL_CFG_TRUTH : Fld := ⟨.EVF_CELL_CFG, 31, 16⟩
def Fld.EVF_CELL_CFG_FILTER : Fld := ⟨.EVF_CELL_CFG, 15, 8⟩
def Fld.EVF_CELL_CFG_FF_MODE : Fld := ⟨.EVF_CELL_CFG, 7, 6⟩
def Fld.EVF_CELL_CFG_OUT_MODE : Fld := ⟨.EVF_CELL_CFG, 5, 5⟩
def Fld.EVF_CELL_CFG_IN_EN : Fld := ⟨.EVF_CELL_CFG, 3, 0⟩
def Reg.EVF_CELL_IN : Reg :=
  ⟨0x0D040004, 0x10, 64, 0x0, 1, .const 0x0, .res 0x0D, .none, false, [⟨31, 24, .rw⟩, ⟨23, 16, .rw⟩, ⟨15, 8, .rw⟩,
    ⟨7, 0, .rw⟩]⟩
def Fld.EVF_CELL_IN_D : Fld := ⟨.EVF_CELL_IN, 31, 24⟩
def Fld.EVF_CELL_IN_C : Fld := ⟨.EVF_CELL_IN, 23, 16⟩
def Fld.EVF_CELL_IN_B : Fld := ⟨.EVF_CELL_IN, 15, 8⟩
def Fld.EVF_CELL_IN_A : Fld := ⟨.EVF_CELL_IN, 7, 0⟩
def Reg.EVF_CELL_STAT : Reg :=
  ⟨0x0D040008, 0x10, 64, 0x0, 1, .const 0x0, .res 0x0D, .none, false, [⟨1, 1, .ro⟩, ⟨0, 0, .ro⟩]⟩
def Fld.EVF_CELL_STAT_Q : Fld := ⟨.EVF_CELL_STAT, 1, 1⟩
def Fld.EVF_CELL_STAT_OUT : Fld := ⟨.EVF_CELL_STAT, 0, 0⟩
def Reg.EVF_PIN : Reg :=
  ⟨0x0D050000, 0x4, 256, 0x0, 1, .const 0x100, .res 0x05, .none, false, [⟨31, 30, .rw⟩, ⟨29, 28, .rw⟩, ⟨27, 26,
    .rw⟩, ⟨25, 25, .ro⟩, ⟨15, 8, .rw⟩, ⟨7, 0, .rw⟩]⟩
def Fld.EVF_PIN_DIR : Fld := ⟨.EVF_PIN, 31, 30⟩
def Fld.EVF_PIN_IN_MODE : Fld := ⟨.EVF_PIN, 29, 28⟩
def Fld.EVF_PIN_OUT_MODE : Fld := ⟨.EVF_PIN, 27, 26⟩
def Fld.EVF_PIN_TAKEN : Fld := ⟨.EVF_PIN, 25, 25⟩
def Fld.EVF_PIN_WIDTH : Fld := ⟨.EVF_PIN, 15, 8⟩
def Fld.EVF_PIN_IN_FILTER : Fld := ⟨.EVF_PIN, 7, 0⟩
def Reg.EVF_SRC : Reg :=
  ⟨0x0D060000, 0x4, 96, 0x0, 1, .const 0x0, .fixed 0x0F0F, .none, false, [⟨31, 31, .ro⟩, ⟨7, 0, .ro⟩]⟩
def Fld.EVF_SRC_VALID : Fld := ⟨.EVF_SRC, 31, 31⟩
def Fld.EVF_SRC_SOURCE : Fld := ⟨.EVF_SRC, 7, 0⟩
def Reg.PTU_EVT : Reg :=
  ⟨0x0E000004, 0x0, 1, 0x0, 1, .const 0x0, .fixed 0x0F10, .none, false, [⟨9, 8, .w1c⟩, ⟨7, 6, .w1c⟩, ⟨5, 4, .w1c⟩,
    ⟨3, 2, .w1c⟩, ⟨1, 1, .w1c⟩, ⟨0, 0, .w1c⟩]⟩
def Fld.PTU_EVT_STROBE_DEAD : Fld := ⟨.PTU_EVT, 9, 8⟩
def Fld.PTU_EVT_TABLE_DONE : Fld := ⟨.PTU_EVT, 7, 6⟩
def Fld.PTU_EVT_REVERSAL : Fld := ⟨.PTU_EVT, 5, 4⟩
def Fld.PTU_EVT_OVERSPEED : Fld := ⟨.PTU_EVT, 3, 2⟩
def Fld.PTU_EVT_NOT_READY : Fld := ⟨.PTU_EVT, 1, 1⟩
def Fld.PTU_EVT_QUAD_ERR : Fld := ⟨.PTU_EVT, 0, 0⟩
def Reg.PTU_ENC_CFG : Reg :=
  ⟨0x0E010000, 0x20, 8, 0x0, 1, .const 0x0, .res 0x0A, .none, false, [⟨9, 9, .rw⟩, ⟨8, 8, .rw⟩, ⟨7, 0, .rw⟩]⟩
def Fld.PTU_ENC_CFG_INDEX_ZERO : Fld := ⟨.PTU_ENC_CFG, 9, 9⟩
def Fld.PTU_ENC_CFG_INVERT : Fld := ⟨.PTU_ENC_CFG, 8, 8⟩
def Fld.PTU_ENC_CFG_FILTER : Fld := ⟨.PTU_ENC_CFG, 7, 0⟩
def Reg.PTU_ENC_COUNT_LO : Reg := ⟨0x0E010004, 0x20, 8, 0x0, 1, .const 0x0, .res 0x0A, .none, true, [⟨31, 0, .ro⟩]⟩
def Fld.PTU_ENC_COUNT_LO_COUNT : Fld := ⟨.PTU_ENC_COUNT_LO, 31, 0⟩
def Reg.PTU_ENC_COUNT_HI : Reg := ⟨0x0E010008, 0x20, 8, 0x0, 1, .const 0x0, .res 0x0A, .none, false, [⟨31, 0, .ro⟩]⟩
def Fld.PTU_ENC_COUNT_HI_COUNT : Fld := ⟨.PTU_ENC_COUNT_HI, 31, 0⟩
def Reg.PTU_ENC_IDX_LO : Reg := ⟨0x0E01000C, 0x20, 8, 0x0, 1, .const 0x0, .res 0x0A, .none, true, [⟨31, 0, .ro⟩]⟩
def Fld.PTU_ENC_IDX_LO_IDX : Fld := ⟨.PTU_ENC_IDX_LO, 31, 0⟩
def Reg.PTU_ENC_IDX_HI : Reg := ⟨0x0E010010, 0x20, 8, 0x0, 1, .const 0x0, .res 0x0A, .none, false, [⟨31, 0, .ro⟩]⟩
def Fld.PTU_ENC_IDX_HI_IDX : Fld := ⟨.PTU_ENC_IDX_HI, 31, 0⟩
def Reg.PTU_ENC_STAT : Reg :=
  ⟨0x0E010014, 0x20, 8, 0x0, 1, .const 0x0, .res 0x0A, .none, false, [⟨31, 16, .rc⟩, ⟨15, 0, .rc⟩]⟩
def Fld.PTU_ENC_STAT_QUAD_ERR : Fld := ⟨.PTU_ENC_STAT, 31, 16⟩
def Fld.PTU_ENC_STAT_INDEX : Fld := ⟨.PTU_ENC_STAT, 15, 0⟩
def Reg.PTU_E_CFG : Reg :=
  ⟨0x0E020000, 0x100, 2, 0x0, 1, .const 0x10, .res 0x09, .engine, false, [⟨30, 28, .rws⟩, ⟨27, 27, .rws⟩, ⟨26, 24,
    .rws⟩, ⟨23, 23, .rws⟩, ⟨15, 0, .rws⟩]⟩
def Fld.PTU_E_CFG_ENC : Fld := ⟨.PTU_E_CFG, 30, 28⟩
def Fld.PTU_E_CFG_DIR : Fld := ⟨.PTU_E_CFG, 27, 27⟩
def Fld.PTU_E_CFG_CTX : Fld := ⟨.PTU_E_CFG, 26, 24⟩
def Fld.PTU_E_CFG_REVERSAL_STOP : Fld := ⟨.PTU_E_CFG, 23, 23⟩
def Fld.PTU_E_CFG_BACKLASH : Fld := ⟨.PTU_E_CFG, 15, 0⟩
def Reg.PTU_E_STATE : Reg :=
  ⟨0x0E020004, 0x100, 2, 0x0, 1, .const 0x0, .res 0x09, .none, false, [⟨31, 30, .ro⟩, ⟨15, 0, .ro⟩]⟩
def Fld.PTU_E_STATE_STATE : Fld := ⟨.PTU_E_STATE, 31, 30⟩
def Fld.PTU_E_STATE_HANDLE : Fld := ⟨.PTU_E_STATE, 15, 0⟩
def Reg.PTU_E_POS_LO : Reg := ⟨0x0E020008, 0x100, 2, 0x0, 1, .const 0x0, .res 0x09, .none, true, [⟨31, 0, .ro⟩]⟩
def Fld.PTU_E_POS_LO_POS : Fld := ⟨.PTU_E_POS_LO, 31, 0⟩
def Reg.PTU_E_POS_HI : Reg := ⟨0x0E02000C, 0x100, 2, 0x0, 1, .const 0x0, .res 0x09, .none, false, [⟨31, 0, .ro⟩]⟩
def Fld.PTU_E_POS_HI_POS : Fld := ⟨.PTU_E_POS_HI, 31, 0⟩
def Reg.PTU_E_HWM_LO : Reg := ⟨0x0E020010, 0x100, 2, 0x0, 1, .const 0x0, .res 0x09, .none, true, [⟨31, 0, .ro⟩]⟩
def Fld.PTU_E_HWM_LO_HWM : Fld := ⟨.PTU_E_HWM_LO, 31, 0⟩
def Reg.PTU_E_HWM_HI : Reg := ⟨0x0E020014, 0x100, 2, 0x0, 1, .const 0x0, .res 0x09, .none, false, [⟨31, 0, .ro⟩]⟩
def Fld.PTU_E_HWM_HI_HWM : Fld := ⟨.PTU_E_HWM_HI, 31, 0⟩
def Reg.PTU_E_PASS : Reg :=
  ⟨0x0E020018, 0x100, 2, 0x0, 1, .const 0x0, .res 0x09, .none, false, [⟨31, 16, .ro⟩, ⟨15, 0, .ro⟩]⟩
def Fld.PTU_E_PASS_PASS : Fld := ⟨.PTU_E_PASS, 31, 16⟩
def Fld.PTU_E_PASS_ENTRY : Fld := ⟨.PTU_E_PASS, 15, 0⟩
def Reg.PTU_E_STAT : Reg :=
  ⟨0x0E02001C, 0x100, 2, 0x0, 1, .const 0x0, .res 0x09, .none, false, [⟨31, 16, .rc⟩, ⟨15, 8, .rc⟩, ⟨7, 0, .rc⟩]⟩
def Fld.PTU_E_STAT_OVERSPEED : Fld := ⟨.PTU_E_STAT, 31, 16⟩
def Fld.PTU_E_STAT_REVERSAL : Fld := ⟨.PTU_E_STAT, 15, 8⟩
def Fld.PTU_E_STAT_PASSED : Fld := ⟨.PTU_E_STAT, 7, 0⟩
def Reg.PTU_E_FIRED : Reg := ⟨0x0E020020, 0x100, 2, 0x0, 1, .const 0x0, .res 0x09, .none, false, [⟨31, 0, .ro⟩]⟩
def Fld.PTU_E_FIRED_COUNT : Fld := ⟨.PTU_E_FIRED, 31, 0⟩
def Reg.PTU_E_OVER_POS_LO : Reg := ⟨0x0E020024, 0x100, 2, 0x0, 1, .const 0x0, .res 0x09, .none, true, [⟨31, 0, .ro⟩]⟩
def Fld.PTU_E_OVER_POS_LO_OVER_POS : Fld := ⟨.PTU_E_OVER_POS_LO, 31, 0⟩
def Reg.PTU_E_OVER_POS_HI : Reg := ⟨0x0E020028, 0x100, 2, 0x0, 1, .const 0x0, .res 0x09, .none, false, [⟨31, 0, .ro⟩]⟩
def Fld.PTU_E_OVER_POS_HI_OVER_POS : Fld := ⟨.PTU_E_OVER_POS_HI, 31, 0⟩
def Reg.PTU_E_MANUAL : Reg :=
  ⟨0x0E02002C, 0x100, 2, 0x0, 1, .const 0x0, .res 0x09, .none, false, [⟨31, 16, .rw⟩, ⟨15, 0, .rw⟩]⟩
def Fld.PTU_E_MANUAL_MASK : Fld := ⟨.PTU_E_MANUAL, 31, 16⟩
def Fld.PTU_E_MANUAL_WIDTH : Fld := ⟨.PTU_E_MANUAL, 15, 0⟩
def Reg.PTU_STB_CFG : Reg :=
  ⟨0x0E030000, 0x10, 32, 0x0, 1, .stb, .strobe, .none, false, [⟨31, 31, .rw⟩, ⟨30, 30, .rw⟩, ⟨29, 29, .rw⟩, ⟨28,
    24, .rw⟩, ⟨23, 20, .rw⟩, ⟨7, 0, .rw⟩]⟩
def Fld.PTU_STB_CFG_FB_EN : Fld := ⟨.PTU_STB_CFG, 31, 31⟩
def Fld.PTU_STB_CFG_POL : Fld := ⟨.PTU_STB_CFG, 30, 30⟩
def Fld.PTU_STB_CFG_FB_POL : Fld := ⟨.PTU_STB_CFG, 29, 29⟩
def Fld.PTU_STB_CFG_PARTNER : Fld := ⟨.PTU_STB_CFG, 28, 24⟩
def Fld.PTU_STB_CFG_FAIL_LIMIT : Fld := ⟨.PTU_STB_CFG, 23, 20⟩
def Fld.PTU_STB_CFG_FB_WINDOW : Fld := ⟨.PTU_STB_CFG, 7, 0⟩
def Reg.PTU_STB_STAT : Reg :=
  ⟨0x0E030004, 0x10, 32, 0x0, 1, .const 0x0, .strobe, .none, false, [⟨31, 31, .ro⟩, ⟨23, 16, .rc⟩, ⟨15, 8, .rc⟩,
    ⟨7, 0, .rc⟩]⟩
def Fld.PTU_STB_STAT_DEAD : Fld := ⟨.PTU_STB_STAT, 31, 31⟩
def Fld.PTU_STB_STAT_DROPPED : Fld := ⟨.PTU_STB_STAT, 23, 16⟩
def Fld.PTU_STB_STAT_FB_MISS : Fld := ⟨.PTU_STB_STAT, 15, 8⟩
def Fld.PTU_STB_STAT_HANDED : Fld := ⟨.PTU_STB_STAT, 7, 0⟩
def Reg.VAL_EVT : Reg :=
  ⟨0x0F000004, 0x0, 1, 0x0, 1, .const 0x0, .fixed 0x0F11, .none, false, [⟨10, 10, .w1c⟩, ⟨9, 9, .w1c⟩, ⟨8, 8,
    .w1c⟩, ⟨7, 7, .w1c⟩, ⟨6, 6, .w1c⟩, ⟨5, 5, .w1c⟩, ⟨4, 4, .w1c⟩, ⟨3, 3, .w1c⟩, ⟨2, 2, .w1c⟩, ⟨1, 1, .w1c⟩, ⟨0,
    0, .w1c⟩]⟩
def Fld.VAL_EVT_LID_IMPLAUSIBLE : Fld := ⟨.VAL_EVT, 10, 10⟩
def Fld.VAL_EVT_REPLAN_DONE : Fld := ⟨.VAL_EVT, 9, 9⟩
def Fld.VAL_EVT_MON_DONE : Fld := ⟨.VAL_EVT, 8, 8⟩
def Fld.VAL_EVT_NOT_READY : Fld := ⟨.VAL_EVT, 7, 7⟩
def Fld.VAL_EVT_MARGIN_EXHAUSTED : Fld := ⟨.VAL_EVT, 6, 6⟩
def Fld.VAL_EVT_RAIL_IMPLAUSIBLE : Fld := ⟨.VAL_EVT, 5, 5⟩
def Fld.VAL_EVT_STALE : Fld := ⟨.VAL_EVT, 4, 4⟩
def Fld.VAL_EVT_LEVEL_CHANGE : Fld := ⟨.VAL_EVT, 3, 3⟩
def Fld.VAL_EVT_HOLDUP_FAIL : Fld := ⟨.VAL_EVT, 2, 2⟩
def Fld.VAL_EVT_VIN_DIP : Fld := ⟨.VAL_EVT, 1, 1⟩
def Fld.VAL_EVT_POWER_FAIL : Fld := ⟨.VAL_EVT, 0, 0⟩
def Reg.VAL_STATUS : Reg :=
  ⟨0x0F000008, 0x0, 1, 0x0, 1, .const 0x0, .fixed 0x0F11, .none, false, [⟨31, 31, .ro⟩, ⟨30, 30, .ro⟩, ⟨29, 29,
    .ro⟩, ⟨28, 28, .ro⟩, ⟨27, 24, .ro⟩, ⟨23, 22, .ro⟩, ⟨17, 14, .ro⟩, ⟨13, 0, .ro⟩]⟩
def Fld.VAL_STATUS_HOLDUP_READY : Fld := ⟨.VAL_STATUS, 31, 31⟩
def Fld.VAL_STATUS_REPLAN_RUNNING : Fld := ⟨.VAL_STATUS, 30, 30⟩
def Fld.VAL_STATUS_REPLAN_DEFERRED : Fld := ⟨.VAL_STATUS, 29, 29⟩
def Fld.VAL_STATUS_STALE : Fld := ⟨.VAL_STATUS, 28, 28⟩
def Fld.VAL_STATUS_STEP : Fld := ⟨.VAL_STATUS, 27, 24⟩
def Fld.VAL_STATUS_LEVEL : Fld := ⟨.VAL_STATUS, 23, 22⟩
def Fld.VAL_STATUS_LID_IMPLAUSIBLE : Fld := ⟨.VAL_STATUS, 17, 14⟩
def Fld.VAL_STATUS_IMPLAUSIBLE : Fld := ⟨.VAL_STATUS, 13, 0⟩
def Reg.VAL_CFG : Reg :=
  ⟨0x0F00000C, 0x0, 1, 0x0, 1, .const 0x1000055, .fixed 0x0F11, .none, false, [⟨24, 24, .rw⟩, ⟨8, 0, .rw⟩]⟩
def Fld.VAL_CFG_AUTO_RESTART : Fld := ⟨.VAL_CFG, 24, 24⟩
def Fld.VAL_CFG_VIN_FAIL : Fld := ⟨.VAL_CFG, 8, 0⟩
def Reg.VAL_VIN : Reg :=
  ⟨0x0F000010, 0x0, 1, 0x0, 1, .const 0x0, .fixed 0x0F11, .none, false, [⟨31, 16, .ro⟩, ⟨15, 0, .rc⟩]⟩
def Fld.VAL_VIN_VIN : Fld := ⟨.VAL_VIN, 31, 16⟩
def Fld.VAL_VIN_DIPS : Fld := ⟨.VAL_VIN, 15, 0⟩
def Reg.VAL_BANK : Reg := ⟨0x0F000014, 0x0, 1, 0x0, 1, .const 0x0, .fixed 0x0F11, .none, false, [⟨15, 0, .ro⟩]⟩
def Fld.VAL_BANK_VOLTS : Fld := ⟨.VAL_BANK, 15, 0⟩
def Reg.VAL_HOLDUP : Reg :=
  ⟨0x0F000018, 0x0, 1, 0x0, 1, .const 0x3C00, .fixed 0x0F11, .none, false, [⟨31, 16, .ro⟩, ⟨15, 8, .ro⟩]⟩
def Fld.VAL_HOLDUP_C_MEAS : Fld := ⟨.VAL_HOLDUP, 31, 16⟩
def Fld.VAL_HOLDUP_W : Fld := ⟨.VAL_HOLDUP, 15, 8⟩
def Reg.VAL_THERM : Reg :=
  ⟨0x0F00001C, 0x0, 1, 0x0, 1, .const 0x0, .fixed 0x0F11, .none, false, [⟨31, 16, .ro⟩, ⟨15, 0, .ro⟩]⟩
def Fld.VAL_THERM_TJ : Fld := ⟨.VAL_THERM, 31, 16⟩
def Fld.VAL_THERM_AGE : Fld := ⟨.VAL_THERM, 15, 0⟩
def Reg.VAL_THERM_TIME_LO : Reg :=
  ⟨0x0F000020, 0x0, 1, 0x0, 1, .const 0x0, .fixed 0x0F11, .none, true, [⟨31, 0, .ro⟩]⟩
def Fld.VAL_THERM_TIME_LO_TIME : Fld := ⟨.VAL_THERM_TIME_LO, 31, 0⟩
def Reg.VAL_THERM_TIME_HI : Reg :=
  ⟨0x0F000024, 0x0, 1, 0x0, 1, .const 0x0, .fixed 0x0F11, .none, false, [⟨31, 0, .ro⟩]⟩
def Fld.VAL_THERM_TIME_HI_TIME : Fld := ⟨.VAL_THERM_TIME_HI, 31, 0⟩
def Reg.VAL_BOOT : Reg :=
  ⟨0x0F000028, 0x0, 1, 0x0, 1, .const 0x0, .fixed 0x0F11, .none, false, [⟨31, 30, .ro⟩, ⟨29, 29, .ro⟩, ⟨28, 27,
    .ro⟩, ⟨26, 26, .ro⟩, ⟨25, 25, .ro⟩, ⟨15, 0, .ro⟩]⟩
def Fld.VAL_BOOT_KIND : Fld := ⟨.VAL_BOOT, 31, 30⟩
def Fld.VAL_BOOT_LIMITED : Fld := ⟨.VAL_BOOT, 29, 29⟩
def Fld.VAL_BOOT_LIMITED_CAUSE : Fld := ⟨.VAL_BOOT, 28, 27⟩
def Fld.VAL_BOOT_IMAGE_FALLBACK : Fld := ⟨.VAL_BOOT, 26, 26⟩
def Fld.VAL_BOOT_RECOVERY : Fld := ⟨.VAL_BOOT, 25, 25⟩
def Fld.VAL_BOOT_STARTS : Fld := ⟨.VAL_BOOT, 15, 0⟩
def Reg.VAL_BOOT_TIME : Reg :=
  ⟨0x0F00002C, 0x0, 1, 0x0, 1, .const 0x0, .fixed 0x0F11, .none, false, [⟨31, 16, .ro⟩, ⟨15, 0, .ro⟩]⟩
def Fld.VAL_BOOT_TIME_HOLDUP_MS : Fld := ⟨.VAL_BOOT_TIME, 31, 16⟩
def Fld.VAL_BOOT_TIME_READY_MS : Fld := ⟨.VAL_BOOT_TIME, 15, 0⟩
def Reg.VAL_RAIL_V : Reg := ⟨0x0F010000, 0x10, 14, 0x0, 1, .const 0x0, .fixed 0x0F11, .none, false, [⟨15, 0, .ro⟩]⟩
def Fld.VAL_RAIL_V_VOLTS : Fld := ⟨.VAL_RAIL_V, 15, 0⟩
def Reg.VAL_RAIL_I : Reg := ⟨0x0F010004, 0x10, 14, 0x0, 1, .const 0x0, .fixed 0x0F11, .none, false, [⟨15, 0, .ro⟩]⟩
def Fld.VAL_RAIL_I_CURRENT : Fld := ⟨.VAL_RAIL_I, 15, 0⟩
def Reg.VAL_RAIL_SET : Reg := ⟨0x0F010008, 0x10, 14, 0x0, 1, .rail, .fixed 0x0F11, .none, false, [⟨15, 0, .ro⟩]⟩
def Fld.VAL_RAIL_SET_MV : Fld := ⟨.VAL_RAIL_SET, 15, 0⟩
def Reg.VAL_RAIL_STAT : Reg :=
  ⟨0x0F01000C, 0x10, 14, 0x0, 1, .const 0x0, .fixed 0x0F11, .none, false, [⟨31, 31, .ro⟩, ⟨30, 28, .ro⟩, ⟨15, 0,
    .rc⟩]⟩
def Fld.VAL_RAIL_STAT_IMPLAUSIBLE : Fld := ⟨.VAL_RAIL_STAT, 31, 31⟩
def Fld.VAL_RAIL_STAT_CAUSE : Fld := ⟨.VAL_RAIL_STAT, 30, 28⟩
def Fld.VAL_RAIL_STAT_FLAGGED : Fld := ⟨.VAL_RAIL_STAT, 15, 0⟩
def Reg.VAL_PDM : Reg :=
  ⟨0x0F020000, 0x4, 64, 0x0, 1, .pdm, .fixed 0x0F11, .none, false, [⟨31, 24, .ro⟩, ⟨15, 8, .ro⟩, ⟨7, 0, .ro⟩]⟩
def Fld.VAL_PDM_DOMAIN : Fld := ⟨.VAL_PDM, 31, 24⟩
def Fld.VAL_PDM_SLACK_REF : Fld := ⟨.VAL_PDM, 15, 8⟩
def Fld.VAL_PDM_SLACK : Fld := ⟨.VAL_PDM, 7, 0⟩
def Reg.VAL_MON_CFG : Reg :=
  ⟨0x0F030000, 0x20, 64, 0x0, 1, .const 0x0, .fixed 0x0F11, .none, false, [⟨31, 31, .ro⟩, ⟨30, 30, .ro⟩, ⟨23, 16,
    .rw⟩, ⟨15, 11, .rw⟩]⟩
def Fld.VAL_MON_CFG_RUNNING : Fld := ⟨.VAL_MON_CFG, 31, 31⟩
def Fld.VAL_MON_CFG_DONE : Fld := ⟨.VAL_MON_CFG, 30, 30⟩
def Fld.VAL_MON_CFG_TAP : Fld := ⟨.VAL_MON_CFG, 23, 16⟩
def Fld.VAL_MON_CFG_SHIFT : Fld := ⟨.VAL_MON_CFG, 15, 11⟩
def Reg.VAL_MON_BASE : Reg := ⟨0x0F030004, 0x20, 64, 0x0, 1, .const 0x0, .fixed 0x0F11, .none, false, [⟨31, 0, .rw⟩]⟩
def Fld.VAL_MON_BASE_BASE : Fld := ⟨.VAL_MON_BASE, 31, 0⟩
def Reg.VAL_MON_MIN : Reg := ⟨0x0F030008, 0x20, 64, 0x0, 1, .const 0x0, .fixed 0x0F11, .none, false, [⟨31, 0, .ro⟩]⟩
def Fld.VAL_MON_MIN_MIN : Fld := ⟨.VAL_MON_MIN, 31, 0⟩
def Reg.VAL_MON_MAX : Reg := ⟨0x0F03000C, 0x20, 64, 0x0, 1, .const 0x0, .fixed 0x0F11, .none, false, [⟨31, 0, .ro⟩]⟩
def Fld.VAL_MON_MAX_MAX : Fld := ⟨.VAL_MON_MAX, 31, 0⟩
def Reg.VAL_MON_CNT : Reg := ⟨0x0F030010, 0x20, 64, 0x0, 1, .const 0x0, .fixed 0x0F11, .none, false, [⟨31, 0, .ro⟩]⟩
def Fld.VAL_MON_CNT_CNT : Fld := ⟨.VAL_MON_CNT, 31, 0⟩
def Reg.VAL_INT_STATUS : Reg :=
  ⟨0x0F080000, 0x0, 1, 0x0, 1, .const 0x10000000, .fixed 0x0F12, .none, false, [⟨31, 31, .ro⟩, ⟨30, 30, .ro⟩, ⟨29,
    29, .ro⟩, ⟨28, 28, .ro⟩, ⟨23, 16, .ro⟩, ⟨15, 0, .ro⟩]⟩
def Fld.VAL_INT_STATUS_SAFE : Fld := ⟨.VAL_INT_STATUS, 31, 31⟩
def Fld.VAL_INT_STATUS_ENTERING : Fld := ⟨.VAL_INT_STATUS, 30, 30⟩
def Fld.VAL_INT_STATUS_RESET_NEEDED : Fld := ⟨.VAL_INT_STATUS, 29, 29⟩
def Fld.VAL_INT_STATUS_KEY_OK : Fld := ⟨.VAL_INT_STATUS, 28, 28⟩
def Fld.VAL_INT_STATUS_LAST_CODE : Fld := ⟨.VAL_INT_STATUS, 23, 16⟩
def Fld.VAL_INT_STATUS_TALLY : Fld := ⟨.VAL_INT_STATUS, 15, 0⟩
def Reg.VAL_INT_EVT : Reg :=
  ⟨0x0F080004, 0x0, 1, 0x0, 1, .const 0x0, .fixed 0x0F12, .none, false, [⟨3, 3, .w1c⟩, ⟨2, 2, .w1c⟩, ⟨1, 1, .w1c⟩,
    ⟨0, 0, .w1c⟩]⟩
def Fld.VAL_INT_EVT_KEY_FAULT : Fld := ⟨.VAL_INT_EVT, 3, 3⟩
def Fld.VAL_INT_EVT_CLEARED : Fld := ⟨.VAL_INT_EVT, 2, 2⟩
def Fld.VAL_INT_EVT_ENTERED : Fld := ⟨.VAL_INT_EVT, 1, 1⟩
def Fld.VAL_INT_EVT_RECORD : Fld := ⟨.VAL_INT_EVT, 0, 0⟩
def Reg.VAL_INT_CAUSE0 : Reg := ⟨0x0F080008, 0x0, 1, 0x0, 1, .const 0x0, .fixed 0x0F12, .none, false, [⟨31, 0, .ro⟩]⟩
def Fld.VAL_INT_CAUSE0_CAUSE : Fld := ⟨.VAL_INT_CAUSE0, 31, 0⟩
def Reg.VAL_INT_CAUSE1 : Reg := ⟨0x0F08000C, 0x0, 1, 0x0, 1, .const 0x0, .fixed 0x0F12, .none, false, [⟨31, 0, .ro⟩]⟩
def Fld.VAL_INT_CAUSE1_CAUSE : Fld := ⟨.VAL_INT_CAUSE1, 31, 0⟩
def Reg.VAL_INT_SEQ : Reg := ⟨0x0F080010, 0x0, 1, 0x0, 1, .const 0x0, .fixed 0x0F12, .none, false, [⟨31, 0, .ro⟩]⟩
def Fld.VAL_INT_SEQ_SEQ : Fld := ⟨.VAL_INT_SEQ, 31, 0⟩
def Reg.VAL_INT_ENTRY_LO : Reg := ⟨0x0F080014, 0x0, 1, 0x0, 1, .const 0x0, .fixed 0x0F12, .none, true, [⟨31, 0, .ro⟩]⟩
def Fld.VAL_INT_ENTRY_LO_ENTRY : Fld := ⟨.VAL_INT_ENTRY_LO, 31, 0⟩
def Reg.VAL_INT_ENTRY_HI : Reg :=
  ⟨0x0F080018, 0x0, 1, 0x0, 1, .const 0x0, .fixed 0x0F12, .none, false, [⟨31, 0, .ro⟩]⟩
def Fld.VAL_INT_ENTRY_HI_ENTRY : Fld := ⟨.VAL_INT_ENTRY_HI, 31, 0⟩

def registers0 : List Reg :=
    [.CPI_ID, .DCK_ID, .SNS_ID, .PIP_ID, .COL_ID, .STA_ID, .ENG_ID, .MLS_ID, .MED_ID, .MEM_ID, .LNK_ID, .OUT_ID,
   .AUD_ID, .EVF_ID, .PTU_ID, .VAL_ID, .DCK_CTRL, .DCK_SRC, .DCK_STATUS, .DCK_TIME_LO, .DCK_TIME_HI, .DCK_PHASE_ERR,
   .DCK_FREQ_ERR, .DCK_REF_CFG, .DCK_GEN_SOF_LO, .DCK_GEN_SOF_HI, .DCK_TC_CFG, .DCK_TC_ANCHOR,
   .DCK_TC_ANCHOR_TIME_LO, .DCK_TC_ANCHOR_TIME_HI, .DCK_LTC_IN, .DCK_LTC_IN_UB, .DCK_LTC_OUT_UB, .DCK_EVT,
   .DCK_PORT_CTRL, .DCK_PORT_STAT, .DCK_PORT_LATE, .DCK_PORT_LAUNCH, .DCK_STAGE, .DCK_PUSH]
def registers1 : List Reg :=
    [.DCK_PUSH_RESULT, .CPI_EVT, .CPI_BAR_DENIED, .CPI_SLOT_STATE, .CPI_SLOT_SQ_BASE_LO, .CPI_SLOT_SQ_BASE_HI,
   .CPI_SLOT_RQ_BASE_LO, .CPI_SLOT_RQ_BASE_HI, .CPI_SLOT_SQ_TAIL, .CPI_SLOT_SQ_HEAD, .CPI_SLOT_RQ_TAIL,
   .CPI_SLOT_RQ_HEAD, .CPI_SLOT_STAT, .SNS_EVT, .SNS_SCB_EVT, .SNS_PORT_CFG, .SNS_PORT_STAT, .SNS_PORT_ERR,
   .SNS_PORT_SYNC, .SNS_PORT_MAP, .SNS_CTX_CFG, .SNS_GEOM, .SNS_CTX_TIMING, .SNS_CTX_TRIG, .SNS_CTX_SRC,
   .SNS_CTX_FRAME, .SNS_CTX_SOF_LO, .SNS_CTX_SOF_HI, .SNS_CTX_STATUS_LO, .SNS_CTX_STATUS_HI, .SNS_CTX_CNT0,
   .SNS_CTX_CNT1, .SNS_CTX_CNT2, .SNS_SCB_CFG, .SNS_SCB_STAT, .PIP_EVT, .PIP_INLINE, .PIP_THROTTLE, .PIP_LOAD,
   .PIP_KAT]
def registers2 : List Reg :=
    [.PIP_CTX_CFG, .PIP_CTX_LB, .PIP_CTX_MODE, .PIP_FUSE, .PIP_BLACK, .PIP_WHITE, .PIP_DYN, .PIP_NR, .PIP_FILT,
   .PIP_TAP, .PIP_BANK, .PIP_CTX_PAN, .PIP_CTX_DROP, .PIP_CTX_LASTDROP, .PIP_CTX_FRAME, .PIP_CTX_DYN, .COL_EVT,
   .COL_KAT, .COL_UNITS, .COL_CTX_CFG, .COL_CTX_BANK, .COL_CTX_FRAME, .COL_CTX_STAT, .COL_CTX_DEV, .COL_LOOK_CFG,
   .COL_LOOK_MODE, .COL_LOOK_MAT, .COL_SHAPER_LO, .COL_SHAPER_HI, .COL_TF_P, .COL_LOOK_BANK, .COL_LOOK_STAT,
   .STA_EVT, .STA_CTX_CFG, .STA_CTX_LAST, .STA_CTX_LAST_SOF_LO, .STA_CTX_LAST_SOF_HI, .STA_HIST_CFG, .STA_LUMA,
   .STA_CLIP]
def registers3 : List Reg :=
    [.STA_FLICKER, .STA_FC_THR0, .STA_FC_THR1, .STA_FC_THR2, .STA_FC_THR3, .ENG_EVT, .ENG_EVT2, .ENG_USABLE,
   .ENG_CLOCK, .ENG_CL_STAT, .ENG_K_STATE, .ENG_K_CFG, .ENG_K_FAULT, .ENG_K_IN, .ENG_K_OUT, .ENG_K_REJ, .MLS_EVT,
   .MLS_LOAD0, .MLS_LOAD1, .MLS_CLOCK, .MLS_RT, .MLS_RT_FRAME, .MLS_CTXS, .MLS_DEC_EVT, .MLS_DEC_LOAD,
   .MLS_DEC_GUARD, .MLS_S_CFG, .MLS_S_LAST, .MLS_S_LASTOMIT, .MLS_S_OMIT, .MLS_S_FLOOR, .MLS_S_PLAN, .MLS_C_CFG,
   .MLS_C_TARGET, .MLS_C_CEIL, .MLS_C_RC, .MLS_C_MP, .MLS_C_TFP, .MLS_C_BUCKET, .MLS_C_LAST]
def registers4 : List Reg :=
    [.MLS_C_STAT, .MLS_D_CFG, .MLS_D_TIMEOUT, .MLS_D_LAST, .MLS_D_CONC, .MLS_D_ERR0, .MLS_D_ERR1, .MED_EVT,
   .MED_HOLDUP, .MED_M_STATE, .MED_M_POOL, .MED_M_USER, .MED_M_CEIL, .MED_M_CEIL_MAX, .MED_M_PENDING, .MED_M_PEAK,
   .MED_M_WEAR, .MED_M_POWER, .MED_M_CH, .MED_S_TAKE, .MED_S_COMMIT, .MED_S_FRAMES, .MED_S_STAT, .MED_T_CMD,
   .MED_T_LBA, .MED_T_COUNT, .MED_T_BUF_LO, .MED_T_BUF_HI, .MED_T_GO, .MED_T_RESET, .MED_T_STAT, .MED_T_ACCEPT_LO,
   .MED_T_ACCEPT_HI, .MED_T_CUT_LO, .MED_T_CUT_HI, .MED_T_CQ_BASE_LO, .MED_T_CQ_BASE_HI, .MED_T_CQ_TAIL,
   .MED_T_CQ_HEAD, .MEM_STATUS]
def registers5 : List Reg :=
    [.MEM_EVT, .MEM_ECC, .MEM_ERR_CNT, .MEM_ECC_ADDR_LO, .MEM_ECC_ADDR_HI, .MEM_ERR_ADDR_LO, .MEM_ERR_ADDR_HI,
   .MEM_ERR_INFO, .MEM_MARGIN, .MEM_P_CFG, .MEM_P_STAT, .LNK_EVT_DOWN, .LNK_EVT_ENUM, .LNK_EVT2, .LNK_MAG,
   .LNK_PCIE_CFG, .LNK_Q_CFG, .LNK_Q_STAT, .LNK_L_PRBS, .LNK_L_FOM, .LNK_D_CFG, .LNK_D_STAT, .LNK_D_ERR,
   .LNK_D_SERIAL, .LNK_E_CFG, .LNK_E_STAT, .OUT_EVT, .OUT_O_CFG, .OUT_O_SRC, .OUT_O_CROP0, .OUT_O_CROP1,
   .OUT_O_DEST0, .OUT_O_DEST1, .OUT_O_FILL, .OUT_O_OVL, .OUT_O_AUD, .OUT_O_LAT, .OUT_O_SHOWN, .OUT_O_STAT,
   .OUT_O_STAT2]
def registers6 : List Reg :=
    [.AUD_EVT, .AUD_P_CFG, .AUD_P_FMT, .AUD_P_MASK, .AUD_P_STAT, .AUD_P_FILLED, .AUD_P_SAMPLE_LO, .AUD_P_SAMPLE_HI,
   .AUD_P_START_LO, .AUD_P_START_HI, .AUD_P_CAP_WR_LO, .AUD_P_CAP_WR_HI, .AUD_P_PLAY_RD_LO, .AUD_P_PLAY_RD_HI,
   .AUD_P_PLAY_WR_LO, .AUD_P_PLAY_WR_HI, .AUD_P_RING, .EVF_EVT, .EVF_LAST, .EVF_STORM, .EVF_EN, .EVF_CH_CFG,
   .EVF_CH_CEIL, .EVF_CH_STAT, .EVF_T_STAT, .EVF_CELL_CFG, .EVF_CELL_IN, .EVF_CELL_STAT, .EVF_PIN, .EVF_SRC,
   .PTU_EVT, .PTU_ENC_CFG, .PTU_ENC_COUNT_LO, .PTU_ENC_COUNT_HI, .PTU_ENC_IDX_LO, .PTU_ENC_IDX_HI, .PTU_ENC_STAT,
   .PTU_E_CFG, .PTU_E_STATE, .PTU_E_POS_LO]
def registers7 : List Reg :=
    [.PTU_E_POS_HI, .PTU_E_HWM_LO, .PTU_E_HWM_HI, .PTU_E_PASS, .PTU_E_STAT, .PTU_E_FIRED, .PTU_E_OVER_POS_LO,
   .PTU_E_OVER_POS_HI, .PTU_E_MANUAL, .PTU_STB_CFG, .PTU_STB_STAT, .VAL_EVT, .VAL_STATUS, .VAL_CFG, .VAL_VIN,
   .VAL_BANK, .VAL_HOLDUP, .VAL_THERM, .VAL_THERM_TIME_LO, .VAL_THERM_TIME_HI, .VAL_BOOT, .VAL_BOOT_TIME,
   .VAL_RAIL_V, .VAL_RAIL_I, .VAL_RAIL_SET, .VAL_RAIL_STAT, .VAL_PDM, .VAL_MON_CFG, .VAL_MON_BASE, .VAL_MON_MIN,
   .VAL_MON_MAX, .VAL_MON_CNT, .VAL_INT_STATUS, .VAL_INT_EVT, .VAL_INT_CAUSE0, .VAL_INT_CAUSE1, .VAL_INT_SEQ,
   .VAL_INT_ENTRY_LO, .VAL_INT_ENTRY_HI]

/-- Every register of the register map. -/
def registers : List Reg :=
  registers0 ++ registers1 ++ registers2 ++ registers3 ++ registers4 ++ registers5 ++ registers6 ++ registers7

end Sys2Proof.Machine
end

