-- ==== Sys2Proof/Machine/Status.lean ====
section
/-!
DEFINITION. The status codes of every opcode group (R84 and the status tables of the chapters).
-/
namespace Sys2Proof.Machine

/-- A status code, by the name its table gives it. -/
inductive Status where
  | DONE
  | ACCEPTED
  | BAD_OPCODE
  | BAD_LENGTH
  | BAD_CRC
  | CPI_BAD_MAGIC
  | CPI_BAD_VERSION
  | CPI_BAD_SLOT
  | CPI_BAD_ADDRESS
  | CPI_BAD_FLAGS
  | CPI_BAD_IMAGE
  | CPI_BAD_PARAM
  | CPI_BAD_RESOURCE
  | CPI_BAD_LEASE
  | CPI_BAD_TARGET
  | DCK_BAD_PORT
  | DCK_BAD_ACTION
  | DCK_BAD_ENTRY
  | DCK_BAD_SOURCE
  | SNS_BAD_PORT_CFG
  | SNS_BAD_LANE_MAP
  | SNS_BAD_GEOMETRY
  | SNS_BAD_LIST
  | SNS_BAD_BUS_MODE
  | SNS_BAD_CONFIG
  | PIP_BAD_CONFIG
  | PIP_BAD_DEFECT_MAP
  | PIP_BAD_SHADING
  | COL_BAD_CONFIG
  | COL_BAD_TABLE
  | COL_BAD_SEAL
  | STA_BAD_CONFIG
  | STA_BAD_RANGE
  | ENG_BAD_IMAGE
  | ENG_BAD_CONFIG
  | ENG_BAD_HANDLE
  | MLS_BAD_CONFIG
  | MLS_BAD_RATE
  | MLS_BAD_PLAN
  | MLS_BAD_HANDLE
  | MLS_DEC_BAD_CONFIG
  | MLS_DEC_BAD_HANDLE
  | MED_BAD_CONFIG
  | MED_BAD_HANDLE
  | MED_BAD_RANGE
  | MED_BAD_TASK
  | MED_BAD_TAG
  | MEM_BAD_CONFIG
  | LNK_BAD_CONFIG
  | LNK_BAD_LANES
  | OUT_BAD_CONFIG
  | OUT_BAD_FORMAT
  | OUT_BAD_SOURCE
  | OUT_BAD_AUDIO
  | AUD_BAD_CONFIG
  | AUD_BAD_FORMAT
  | EVF_BAD_CONFIG
  | EVF_LOOP_COMBINATIONAL
  | PTU_BAD_CONFIG
  | PTU_BAD_TABLE
  | PTU_BAD_SEAL
  | PTU_BAD_HANDLE
  | VAL_BAD_CONFIG
  | VAL_BAD_TAP
  | INT_BAD_CODE
  | NOT_OWNER
  | HOST_TABLE_FULL
  | CONTEXT_LIMIT
  | CPI_MASTER_ONLY
  | CPI_PENDING_FULL
  | CPI_NOT_ATTACHED
  | DCK_QUEUE_FULL
  | PIP_NO_POOL
  | PIP_NO_LINE_BUFFER
  | PIP_NO_PIPE_TIME
  | COL_NO_LINE_BUFFER
  | COL_NO_POOL
  | ENG_NO_CLUSTER
  | ENG_NO_SHARE
  | ENG_NO_STREAM_PORT
  | ENG_NO_POOL
  | ENG_QUOTA
  | MLS_NO_CODEC_TIME
  | MLS_NO_POOL
  | MLS_DEC_NO_SESSION
  | MLS_DEC_NO_POOL
  | MED_NO_TAKE_SLOT
  | MED_DIR_FULL
  | MED_FULL
  | MED_NO_POOL
  | OUT_NO_POOL
  | AUD_NO_POOL
  | EVF_TASK_BUSY
  | EVF_NO_SLOT
  | PTU_NO_TABLE_SLOT
  | PTU_NO_SHARE
  | WRONG_STATE
  | HOLDUP_NOT_READY
  | CPI_RECORDING
  | CPI_ALREADY_ATTACHED
  | DCK_STEP_REFUSED
  | DCK_MISSED
  | DCK_CANCELLED
  | SNS_CTX_ACTIVE
  | SNS_LIST_BUSY
  | PIP_CTX_ACTIVE
  | PIP_BANK_BUSY
  | PIP_BANK_INCOMPLETE
  | COL_BANK_BUSY
  | COL_BANK_INCOMPLETE
  | COL_PATH_ACTIVE
  | COL_CTX_ACTIVE
  | STA_BANK_BUSY
  | STA_NOT_HELD
  | STA_CTX_ACTIVE
  | ENG_KERNEL_RUNNING
  | ENG_NO_RING
  | ENG_NOT_HELD
  | MLS_STREAM_ACTIVE
  | MLS_NO_SOURCE
  | MLS_NOT_HELD
  | MLS_PLAN_FULL
  | MLS_DEC_NOT_HELD
  | MLS_DEC_INPUT_FULL
  | MLS_DEC_ACTIVE
  | MED_NOT_READY
  | MED_READ_ONLY
  | MED_TAKE_ACTIVE
  | MED_STREAM_BUSY
  | MED_READ_ERROR
  | MEDIA_WORN
  | DISCARDED
  | MED_RANGE_BUSY
  | MED_LINK_LOST
  | MED_TARGET_MODE
  | MEM_NOT_IDLE
  | MEM_BUSY
  | MEM_FROZEN
  | LNK_QUAD_BUSY
  | LNK_NOT_TEST
  | OUT_RUNNING
  | AUD_RUNNING
  | AUD_TOO_LATE
  | AUD_NOT_HELD
  | AUD_RING_FULL
  | EVF_PIN_BUSY
  | PTU_TABLE_ARMED
  | VAL_REPLAN_BUSY
  | VAL_MON_BUSY
  | VAL_NOT_HELD
  | INT_CAUSE_ACTIVE
  | INT_ENTERING
  | INT_NOT_HELD
  | INT_KEY_FAULT
  | SAFE_STATE
deriving DecidableEq, Repr

/-- The 16-bit code of a status (R84). -/
def Status.code : Status → Nat
  | .DONE => 0x0000
  | .ACCEPTED => 0x1000
  | .BAD_OPCODE => 0x2001
  | .BAD_LENGTH => 0x2002
  | .BAD_CRC => 0x2003
  | .CPI_BAD_MAGIC => 0x2011
  | .CPI_BAD_VERSION => 0x2012
  | .CPI_BAD_SLOT => 0x2013
  | .CPI_BAD_ADDRESS => 0x2014
  | .CPI_BAD_FLAGS => 0x2015
  | .CPI_BAD_IMAGE => 0x2016
  | .CPI_BAD_PARAM => 0x2017
  | .CPI_BAD_RESOURCE => 0x2021
  | .CPI_BAD_LEASE => 0x2022
  | .CPI_BAD_TARGET => 0x2023
  | .DCK_BAD_PORT => 0x2031
  | .DCK_BAD_ACTION => 0x2032
  | .DCK_BAD_ENTRY => 0x2033
  | .DCK_BAD_SOURCE => 0x2034
  | .SNS_BAD_PORT_CFG => 0x2041
  | .SNS_BAD_LANE_MAP => 0x2042
  | .SNS_BAD_GEOMETRY => 0x2043
  | .SNS_BAD_LIST => 0x2044
  | .SNS_BAD_BUS_MODE => 0x2045
  | .SNS_BAD_CONFIG => 0x2046
  | .PIP_BAD_CONFIG => 0x2051
  | .PIP_BAD_DEFECT_MAP => 0x2052
  | .PIP_BAD_SHADING => 0x2053
  | .COL_BAD_CONFIG => 0x2061
  | .COL_BAD_TABLE => 0x2062
  | .COL_BAD_SEAL => 0x2063
  | .STA_BAD_CONFIG => 0x2071
  | .STA_BAD_RANGE => 0x2072
  | .ENG_BAD_IMAGE => 0x2081
  | .ENG_BAD_CONFIG => 0x2082
  | .ENG_BAD_HANDLE => 0x2083
  | .MLS_BAD_CONFIG => 0x2091
  | .MLS_BAD_RATE => 0x2092
  | .MLS_BAD_PLAN => 0x2093
  | .MLS_BAD_HANDLE => 0x2094
  | .MLS_DEC_BAD_CONFIG => 0x2095
  | .MLS_DEC_BAD_HANDLE => 0x2096
  | .MED_BAD_CONFIG => 0x20A1
  | .MED_BAD_HANDLE => 0x20A2
  | .MED_BAD_RANGE => 0x20A3
  | .MED_BAD_TASK => 0x20A4
  | .MED_BAD_TAG => 0x20A5
  | .MEM_BAD_CONFIG => 0x20B1
  | .LNK_BAD_CONFIG => 0x20C1
  | .LNK_BAD_LANES => 0x20C2
  | .OUT_BAD_CONFIG => 0x20D1
  | .OUT_BAD_FORMAT => 0x20D2
  | .OUT_BAD_SOURCE => 0x20D3
  | .OUT_BAD_AUDIO => 0x20D4
  | .AUD_BAD_CONFIG => 0x20E1
  | .AUD_BAD_FORMAT => 0x20E2
  | .EVF_BAD_CONFIG => 0x20F1
  | .EVF_LOOP_COMBINATIONAL => 0x20F2
  | .PTU_BAD_CONFIG => 0x2101
  | .PTU_BAD_TABLE => 0x2102
  | .PTU_BAD_SEAL => 0x2103
  | .PTU_BAD_HANDLE => 0x2104
  | .VAL_BAD_CONFIG => 0x2111
  | .VAL_BAD_TAP => 0x2112
  | .INT_BAD_CODE => 0x2121
  | .NOT_OWNER => 0x3001
  | .HOST_TABLE_FULL => 0x3002
  | .CONTEXT_LIMIT => 0x3003
  | .CPI_MASTER_ONLY => 0x3011
  | .CPI_PENDING_FULL => 0x3012
  | .CPI_NOT_ATTACHED => 0x3013
  | .DCK_QUEUE_FULL => 0x3031
  | .PIP_NO_POOL => 0x3051
  | .PIP_NO_LINE_BUFFER => 0x3052
  | .PIP_NO_PIPE_TIME => 0x3053
  | .COL_NO_LINE_BUFFER => 0x3061
  | .COL_NO_POOL => 0x3062
  | .ENG_NO_CLUSTER => 0x3081
  | .ENG_NO_SHARE => 0x3082
  | .ENG_NO_STREAM_PORT => 0x3083
  | .ENG_NO_POOL => 0x3084
  | .ENG_QUOTA => 0x3085
  | .MLS_NO_CODEC_TIME => 0x3091
  | .MLS_NO_POOL => 0x3092
  | .MLS_DEC_NO_SESSION => 0x3093
  | .MLS_DEC_NO_POOL => 0x3094
  | .MED_NO_TAKE_SLOT => 0x30A1
  | .MED_DIR_FULL => 0x30A2
  | .MED_FULL => 0x30A3
  | .MED_NO_POOL => 0x30A4
  | .OUT_NO_POOL => 0x30D1
  | .AUD_NO_POOL => 0x30E1
  | .EVF_TASK_BUSY => 0x30F1
  | .EVF_NO_SLOT => 0x30F2
  | .PTU_NO_TABLE_SLOT => 0x3101
  | .PTU_NO_SHARE => 0x3102
  | .WRONG_STATE => 0x4001
  | .HOLDUP_NOT_READY => 0x4002
  | .CPI_RECORDING => 0x4011
  | .CPI_ALREADY_ATTACHED => 0x4021
  | .DCK_STEP_REFUSED => 0x4031
  | .DCK_MISSED => 0x4032
  | .DCK_CANCELLED => 0x4033
  | .SNS_CTX_ACTIVE => 0x4041
  | .SNS_LIST_BUSY => 0x4042
  | .PIP_CTX_ACTIVE => 0x4051
  | .PIP_BANK_BUSY => 0x4052
  | .PIP_BANK_INCOMPLETE => 0x4053
  | .COL_BANK_BUSY => 0x4061
  | .COL_BANK_INCOMPLETE => 0x4062
  | .COL_PATH_ACTIVE => 0x4063
  | .COL_CTX_ACTIVE => 0x4064
  | .STA_BANK_BUSY => 0x4071
  | .STA_NOT_HELD => 0x4072
  | .STA_CTX_ACTIVE => 0x4073
  | .ENG_KERNEL_RUNNING => 0x4081
  | .ENG_NO_RING => 0x4082
  | .ENG_NOT_HELD => 0x4083
  | .MLS_STREAM_ACTIVE => 0x4091
  | .MLS_NO_SOURCE => 0x4092
  | .MLS_NOT_HELD => 0x4093
  | .MLS_PLAN_FULL => 0x4094
  | .MLS_DEC_NOT_HELD => 0x4095
  | .MLS_DEC_INPUT_FULL => 0x4096
  | .MLS_DEC_ACTIVE => 0x4097
  | .MED_NOT_READY => 0x40A1
  | .MED_READ_ONLY => 0x40A2
  | .MED_TAKE_ACTIVE => 0x40A3
  | .MED_STREAM_BUSY => 0x40A4
  | .MED_READ_ERROR => 0x40A5
  | .MEDIA_WORN => 0x40A6
  | .DISCARDED => 0x40A7
  | .MED_RANGE_BUSY => 0x40A8
  | .MED_LINK_LOST => 0x40A9
  | .MED_TARGET_MODE => 0x40AA
  | .MEM_NOT_IDLE => 0x40B1
  | .MEM_BUSY => 0x40B2
  | .MEM_FROZEN => 0x40B3
  | .LNK_QUAD_BUSY => 0x40C1
  | .LNK_NOT_TEST => 0x40C2
  | .OUT_RUNNING => 0x40D1
  | .AUD_RUNNING => 0x40E1
  | .AUD_TOO_LATE => 0x40E2
  | .AUD_NOT_HELD => 0x40E3
  | .AUD_RING_FULL => 0x40E4
  | .EVF_PIN_BUSY => 0x40F1
  | .PTU_TABLE_ARMED => 0x4101
  | .VAL_REPLAN_BUSY => 0x4111
  | .VAL_MON_BUSY => 0x4112
  | .VAL_NOT_HELD => 0x4113
  | .INT_CAUSE_ACTIVE => 0x4121
  | .INT_ENTERING => 0x4122
  | .INT_NOT_HELD => 0x4123
  | .INT_KEY_FAULT => 0x4124
  | .SAFE_STATE => 0x8001

/-- Class 0x1: not a final reply (R63). -/
def Status.isFinal (t : Status) : Bool := t.code / 0x1000 != 1

/-- Classes 0x2, 0x3 and 0x4, which CPI_SLOT_STAT.REFUSED counts (R89). -/
def Status.isRefusal (t : Status) : Bool :=
  let c := t.code / 0x1000
  c == 2 || c == 3 || c == 4

end Sys2Proof.Machine
end

