-- ==== Sys2Proof/Machine/State.lean ====
section
/-!
DEFINITION. The state of the TX9 block as plain data: deal time, the register file, the hosts and their packets, the
deal queues, every unit's memory, the pins, NOR and Valtu flash, the queue of waiting commands, and the state right after reset.
-/
namespace Sys2Proof.Machine

/-- Reasons a step stops with a fault. -/
inductive Fault where
  /-- Raised by PACKET_EXEC when no launched packet of that slot and sequence number waits: R54 says the entry is
  written by the TX9 only, so no sender can bring this about. Safe: the model stops where nothing is described. -/
  | noLaunchedPacket
deriving DecidableEq, Repr

/-- Reasons a command is refused by the model. -/
inductive Refusal where
  /-- Raised by the dispatch for a command whose meaning has not been written. Safe: the model stops. -/
  | notModelled (mnemonic : String)
deriving DecidableEq, Repr

/-- A table of unit entries by index, in rising order of index. -/
abbrev Tab (α : Type) := List (Nat × α)

/-! ### Hosts and packets (03) -/

/-- The body of a reply (R62): none, the named values of the operation's Result column in order, 32-bit words, or bytes. -/
inductive Body where
  | empty
  | values (vs : List Nat)
  | words (ws : List Nat)
  | bytes (bs : List Byte)
deriving DecidableEq, Repr

/-- A reply (R62); `slot` is 0xFF in a mailbox; OPCODE 0x010C and SEQ 0xFFFF_FFFF mark a notice (R64). -/
structure Reply where
  slot : Nat
  seq : BitVec 32
  opcode : Nat
  status : Status
  tick : Nat
  body : Body
deriving DecidableEq, Repr

/-- A completion record of the media command channel (R292). -/
structure CqRecord where
  op : Nat
  mag : Nat
  flush : Bool
  tag : Nat
  status : Status
  forced : Bool
  durable : Bool
  lba : Nat
  count : Nat
  tick : Nat
deriving DecidableEq, Repr

/-- A statistics delivery buffer in host memory (R181): its address, its slots, the count in its header, the slot the next record goes
to, and what has been copied, by host address. -/
structure Delivery where
  ctx : Nat
  addr : Nat
  slots : Nat
  count : Nat
  next : Nat
  copied : List (Nat × List Byte)
deriving DecidableEq, Repr

/-- The host address of a slot: a 64-byte header, then slots of 48 KiB (R181). -/
def Delivery.slotAddr (d : Delivery) (k : Nat) : Nat := d.addr + 64 + k * 49152

/-- A record copied into the next slot, then counted in the header (R181). -/
def Delivery.copy (d : Delivery) (bytes : List Byte) : Delivery :=
  let a := d.slotAddr d.next
  { d with count := (d.count + 1) % 2 ^ 32, next := (d.next + 1) % d.slots
           copied := d.copied.filter (·.1 ≠ a) ++ [(a, bytes)] }

/-- What a host slot holds beside its registers (R64, R66, R74, R81, R82, R292, R304); `msi` says that its rings are signalled by
MSI-X, also where their session has ended (R68); `cqRoom` is the room in the completion ring of a session that has ended (R300); `sqSlots` and `rqSlots` are the bytes last placed in the slots of its submission and
reply rings (R66). -/
structure HostSlot where
  name : List Byte := []
  leaseMs : Nat := 500
  renewed : Nat := 0
  notices : Nat := 0
  poolQuota : Nat := 0
  clusterQuota : Nat := 0
  msi : Bool := false
  sqSlots : Tab (List Byte) := []
  rqSlots : Tab (List Byte) := []
  replies : List Reply := []
  held : List Reply := []
  completions : List CqRecord := []
  cqSet : Bool := false
  cqRoom : Nat := 0
  bufMib : Nat := 0
  deliveries : List Delivery := []
deriving DecidableEq, Repr

/-- What a packet that replied ACCEPTED waits for. -/
inductive WaitKind where
  | shutdown
  | fwCommit
  | ctxDisabled (ctx : Nat)
  | inlineSwitch (ctx : Nat)
  | pipBank (ctx since : Nat)
  | calSwap (ctx since : Nat)
  | lookSwap (out since : Nat)
  | staSwap (ctx since : Nat)
  | scbXfer (bus id : Nat)
  | kernelStopped (slot : Nat)
  | codecStart (idx : Nat)
  | codecStop (idx : Nat)
  | codecSwitch (stream : Nat)
  | decStop (session : Nat)
  | format (mag : Nat)
  | eject (mag : Nat)
  | takeOpen (take : Nat)
  | takeClosed (take : Nat)
  | taskAccept (slot : Nat)
  | margin (stack : Nat)
  | memTest
  | outStop (out : Nat)
  | outSource (out since : Nat)
  | audMask (port since : Nat)
  | audStop (mask : Nat)
  | replan
  | safeEntry
deriving DecidableEq, Repr

/-- A packet that has begun and has no final reply yet (R63, R71, R72): the resources it acts on, its place in the order in which
packets were taken, and whether the session that sent it has ended. -/
structure Waiting where
  via : Via
  seq : BitVec 32
  opcode : Nat
  quiet : Bool
  resources : List Nat
  order : Nat
  ended : Bool
  kind : WaitKind
deriving DecidableEq, Repr

/-- A packet taken from its ring that has not begun (R70, R71): it waits behind FENCE or behind a packet on the same
resource; or, on a deal port, a packet that waits for its launch (R56). `order` is its place in the order in which packets were taken. -/
structure Taken where
  via : Via
  seq : BitVec 32
  opcode : Nat
  fence : Bool
  scheduled : Bool
  resources : List Nat
  accepted : Nat
  order : Nat
  cmd : Instr
deriving DecidableEq, Repr

/-- A firmware image being loaded (R86). -/
structure FwLoad where
  length : Nat
  data : List (Nat × List Byte)
  committing : Bool
deriving DecidableEq, Repr

/-- The control complex beside its registers: `deferred` holds the packets taken and not begun, in the order in which they are to
begin (R70, R71), `resuming` those the tick has put into the queue to begin; `untaken` what is left in a submission ring, in ring order: packets, and images of
packets as bytes (R67, R72), `taking` those the tick has put into the queue to be taken; `launched` the scheduled packets whose entry has
launched; `order` counts the packets taken; `msix` counts the MSI-X messages sent by slot and vector (R68), `spiOut` holds the last STATUS
byte of each SPI port (R69); `mail` is the reply in each endpoint's mailbox and `mailIn` the bytes written into its packet slot (R73). -/
structure Cpi where
  slots : Tab HostSlot := []
  mail : List (Endpoint × Reply) := []
  mailIn : List (Endpoint × List Byte) := []
  owners : Tab Nat := []
  waiting : List Waiting := []
  deferred : List Taken := []
  resuming : List (Via × BitVec 32) := []
  untaken : List (Nat × (Instr ⊕ List Byte)) := []
  taking : List (Via × BitVec 32) := []
  launched : List Taken := []
  order : Nat := 0
  fw : Option FwLoad := none
  shuttingDown : Option Nat := none
  msix : Tab Nat := []
  spiOut : Tab Nat := []
deriving DecidableEq, Repr

/-! ### Deal clock (02) -/

/-- An entry in a deal port queue (R47 … R50): who queued it, its acceptance tick, its next due time if an occurrence
is still to come, the launches left after that one (none: until cancelled), the due time of a missed occurrence that
will fire late, and, on DP87 … DP94, the scheduled packet, and the tick of its last launch. -/
structure QEntry where
  entry : Entry
  host : Nat
  accepted : Nat
  due : Option Nat
  left : Option Nat
  late : Option Nat
  packet : Option Taken
  last : Option Nat := none
deriving DecidableEq, Repr

/-- A frame on LTC_OUT (R41): its label, its user bits, and the tick its first bit edge falls on. -/
structure LtcFrame where
  label : Nat
  userBits : Nat
  start : Nat
deriving DecidableEq, Repr

/-- The deal clock beside its registers: usable sources, the source lost last, when HOLDOVER began, whether a source ever reached LOCKED,
a pending jam's deadline, LTC reception (the tick the count of R44 began, whether the loss is reported, whether a frame was
decoded), the frame on LTC_OUT, the tick from which a changed frame period counts (R60), the end of the pulse on PPS_OUT, WCLK_OUT as
rate and start, and the last tick's launches as tick, port, TAG. -/
structure Dck where
  queues : Tab (List QEntry) := []
  present : List Nat := []
  lost : Nat := 0
  holdoverSince : Option Nat := none
  everLocked : Bool := false
  jam : Option Nat := none
  ltcSince : Nat := 0
  ltcLost : Bool := false
  ltcSeen : Bool := false
  ltcOut : Option LtcFrame := none
  tcBase : Option Nat := none
  ppsHighUntil : Nat := 0
  wclk : Option (Nat × Nat) := none
  launches : List (Nat × Nat × Nat) := []
deriving DecidableEq, Repr

/-! ### Frames: sensor front end, line pipeline, colour, statistics (04 … 07) -/

/-- One row of a frame: its codes, whether it is padding or a replaced line, and its arrival tick. -/
structure Row where
  px : List Nat
  fill : Bool
  tick : Nat
deriving DecidableEq, Repr

/-- The parameters a frame carries from its own boundary (R127, R155, R175): pipeline words in the order MODE, FUSE,
BLACK0 … 3, WHITE, DYN, NR, FILT, TAP; the table, calibration and statistics banks. -/
structure FrameParams where
  words : List (BitVec 32) := []
  bank : Nat := 0
  cal : Option Nat := none
  sta : Nat := 0
deriving DecidableEq, Repr

/-- The values a look path applies to one source frame (R164): output, COL_LOOK_MODE, matrix, shaper ends, transfer-function
parameters and look bank. -/
structure LookUse where
  out : Nat
  mode : Nat
  mat : List Nat
  lo : Nat
  hi : Nat
  tf : List Nat
  bank : Nat
deriving DecidableEq, Repr

/-- A frame between its start marker and the last use of its products (R99 … R107, R134 … R140). `got0` and `got1` count
the real rows accepted per sub-stream, `rows0` and `rows1` hold rows accepted, padded or replaced; `fed` counts the rows the
pipeline has processed; `raw` holds the RAW tap's codes, `shaded` and `rgb` L24 values, `work` the
working-space F24 codes, `clipped` the saturated pixels and `ws` the working-space code; `rawSlot` and `devSlot` say that the frame holds a slot of its context's raw record or developed frame ring, the
indices which slot, the uses naming the codec contexts that have not released it; `looks` the look paths that took its first row, on tick `firstRow`; `encoded` that a codec context has begun it; `recordDue` that its statistics record is not yet published. -/
structure Frame where
  id : Nat
  num : Nat
  sof : Nat
  start : Nat
  cols : Nat
  rows : Nat
  twoSubs : Bool
  params : FrameParams
  timecode : Nat
  userBits : Nat
  untriggered : Bool
  dropped : Bool
  inline : Bool
  slot : Bool
  got0 : Nat := 0
  got1 : Nat := 0
  rows0 : List Row := []
  rows1 : List Row := []
  lastRow : Nat := 0
  excess : Nat := 0
  faults : Nat := 0
  closed : Bool := false
  status : Nat := 0
  fed : Nat := 0
  demosaicked : Bool := false
  coloured : Bool := false
  dyn : Nat := 0
  rawSlot : Bool := false
  rawIndex : Nat := 0
  rawUses : List Nat := []
  devSlot : Bool := false
  devIndex : Nat := 0
  devUses : List Nat := []
  looks : List LookUse := []
  firstRow : Option Nat := none
  encoded : Bool := false
  recordDue : Bool := false
  raw : List (List Nat) := []
  shaded : List (List Int) := []
  rgb : List (List (Int × Int × Int)) := []
  work : List (List (Nat × Nat × Nat)) := []
  clipped : Nat := 0
  ws : Nat := 3
deriving DecidableEq, Repr

/-- A drop record of R137. -/
structure Drop where
  frame : Nat
  sof : Nat
  reason : Nat
deriving DecidableEq, Repr

/-- The run state of a context (R131, R132). -/
inductive CtxRun where
  | disabled | running | stopping | draining
deriving DecidableEq, Repr

/-- A sensor context beside its registers: run state, next frame number, pending trigger latch, frames held oldest
first, drop records newest first, the trigger pins it drives, swaps waiting for its frame boundary as bank and tick
(pipeline, calibration, statistics), whether a calibration bank has become active, and the next frame identity. -/
structure Ctx where
  run : CtxRun := .disabled
  next : Nat := 0
  latch : Option Nat := none
  frames : List Frame := []
  drops : List Drop := []
  framePinUntil : Nat := 0
  exp0 : Bool := false
  exp1 : Bool := false
  pipSwap : List (Nat × Nat) := []
  calSwap : List (Nat × Nat) := []
  staSwap : List (Nat × Nat) := []
  calOn : Bool := false
  serial : Nat := 0
deriving DecidableEq, Repr

/-- A sensor control bus operation queued by SNS_SCB_XFER: an identity and its eight bytes. -/
structure Xfer where
  id : Nat
  op : List Byte
deriving DecidableEq, Repr

/-- A sensor control bus beside its registers (R109, R110); `wire` is what the operations of the last run put on the bus. -/
structure Bus where
  lists : Tab (List (List Byte)) := []
  results : Tab (List Byte × Nat × Nat) := []
  running : Option (Sum Nat Xfer) := none
  waitingList : Option Nat := none
  xfers : List Xfer := []
  nextXfer : Nat := 0
  wire : List (List Byte) := []
deriving DecidableEq, Repr

/-- One pipeline table bank: its defect map and whether LAST arrived, and the written nodes of its four shading
planes (R119, R122, R128). -/
structure PipBank where
  allocated : Bool := false
  defects : List (BitVec 32) := []
  last : Bool := false
  nodes : Tab Nat := []
deriving DecidableEq, Repr

/-- The line pipeline beside its registers: table banks by context × 2 + bank; the known-answer passes due, each with the context and
frame it follows, when the last one ran and what it followed; the context whose rows it processed last and the clocks it was busy in the
second that runs. -/
structure Pip where
  banks : Tab PipBank := []
  katDue : List (Nat × Nat) := []
  lastKat : Nat := 0
  katCtx : Nat := 0
  katFrame : Nat := 0
  lastCtx : Nat := 0
  busy : Nat := 0
deriving DecidableEq, Repr

/-- A calibration or look bank: the entries written by region or part, the others being zero (R153, R163). -/
structure TableBank where
  entries : Tab Nat := []
deriving DecidableEq, Repr

/-- The colour unit beside its registers. -/
structure Col where
  cal : Tab TableBank := []
  look : Tab TableBank := []
deriving DecidableEq, Repr

/-- A published statistics record: frame, SOF and the record's bytes (R176). -/
structure Held where
  frame : Nat
  sof : Nat
  bytes : List Byte
deriving DecidableEq, Repr

structure Sta where
  rings : Tab (List Held) := []
deriving DecidableEq, Repr

/-! ### Engine array (08) -/

/-- A slot of a stream input's row ring (R194): the header's values and the row's samples, filled in when the frame leaves the
demosaic stage. -/
structure RowSlot where
  frame : Nat
  row : Nat
  flags : Nat
  sof : Nat
  status : Nat
  seq : Nat
  data : List Byte
deriving DecidableEq, Repr

/-- A frame as an input delivered it: its identity in the context, number, SOF and, once its trailer has come, status word (R200); of
a FRAME input, with its ring slot, the descriptor in the input's mailbox (R196). -/
structure Delivered where
  id : Nat
  frame : Nat
  sof : Nat
  status : Option Nat
  slot : Option Nat
deriving DecidableEq, Repr

/-- A frame whose rows a stream port is delivering: rows written so far, and whether it is BROKEN (R194, R195). -/
structure StreamFrame where
  id : Nat
  given : Nat
  broken : Bool
deriving DecidableEq, Repr

/-- A kernel input (R193 … R198): STREAM or FRAME, its context, tap (0 RAW … 3 RGB; of a FRAME input 0 raw ring, else
developed ring), format, row slots, granules and stream port. `ring` holds the row slots the kernel has not freed, oldest
first, `streaming` the frames whose rows it delivers, `held` the trailers the port holds; `fresh` counts frames published since the last
acquisition, `newest` the last of them; `acquired` the frame held, `revoked` that its hold was revoked; `delivered` the last 16, newest
first. -/
structure KInput where
  frameKind : Bool
  ctx : Nat
  tap : Nat
  fmt : Nat
  rows : Nat
  granules : Nat
  port : Option Nat
  ring : List RowSlot := []
  seq : Nat := 0
  streaming : List StreamFrame := []
  held : List RowSlot := []
  fresh : Nat := 0
  newest : Option Nat := none
  acquired : Option Nat := none
  revoked : Bool := false
  delivered : List Delivered := []
  abandoned : List Nat := []
deriving DecidableEq, Repr

/-- A kernel output ring and its held results, newest first. -/
structure KOutput where
  slots : Nat
  slotBytes : Nat
  results : List Held := []
deriving DecidableEq, Repr

/-- A publish that waits for its frame's trailer (R100, R200). -/
structure DueResult where
  output : Nat
  input : Nat
  id : Nat
  data : List Byte
deriving DecidableEq, Repr

/-- A kernel slot beside its registers (R188 … R200): `deadline` is the tick its DRAIN time ends, while a stop waits for a
frame boundary or the engines finish; `doorbell` the count in its input mailbox; `due` the results that wait for a trailer. -/
structure Kernel where
  host : Nat := 0
  clusters : List Nat := []
  length : Nat := 0
  image : List (Nat × List Byte) := []
  engines : Nat := 0
  granules : Nat := 0
  inputsMax : Nat := 0
  outputsMax : Nat := 0
  inputs : Tab KInput := []
  outputs : Tab KOutput := []
  deadline : Option Nat := none
  doorbell : Nat := 0
  due : List DueResult := []
deriving DecidableEq, Repr

/-- An engine slot: what the TX9 put into its local store (R185, R189), whether the pair's spare serves it, whether it is lost, whether
its engine is SUSPECT (R201, R202), and, while it executes, the code offset it began at and its scalar registers as they were then
(R192). -/
structure EngSlot where
  store : List Byte := []
  spare : Bool := false
  lost : Bool := false
  suspect : Bool := false
  entry : Option Nat := none
  scalars : List Nat := []
deriving DecidableEq, Repr

/-- The engine array beside its registers: kernels by slot, granules held by firing tables by cluster (R400), cluster pairs
whose spare is used, engine slots by cluster × 16 + slot. What the TX9 writes into a share stands with its writer: row slots and
mailboxes with the kernel's inputs, tables with the position trigger. -/
structure Eng where
  kernels : Tab Kernel := []
  tableGranules : Tab Nat := []
  sparesUsed : List Nat := []
  slots : Tab EngSlot := []
deriving DecidableEq, Repr

/-! ### Mailis codec (09, 10) -/

/-- A rate plan (R224). -/
structure Plan where
  ceiling : Nat
  quants : List Nat
deriving DecidableEq, Repr

/-- One emitted slice: floor flag, quantiser, bytes with header, blocks. -/
structure SliceInfo where
  floor : Bool
  q : Nat
  length : Nat
  blocks : Nat
deriving DecidableEq, Repr

/-- A frame being coded (R220 … R229): its identity in the source context and what its header and record need; the status word
once its trailer has come; whether its bytes are held until then (R220); its plan; its prefilter
parameters; what is emitted so far, the block-rows of the next slice coded already (R210) and the reconstruction so far (R218); the decoder
sessions running on its stream when its header was published, with their runs (R241); the tick of the end marker; the take slots it joins, the staging it reserves, and whether the media controller has it. -/
structure Coding where
  id : Nat
  num : Nat
  sof : Nat
  timecode : Nat
  userBits : Nat
  cols : Nat
  rows : Nat
  codedCols : Nat
  codedRows : Nat
  profile : Nat
  cfa : Nat
  rawFmt : Nat
  headroom : Nat
  pedestal : Nat
  ws : Nat
  status : Option Nat
  hold : Bool
  plan : Plan
  planLate : Bool
  switched : Bool
  iFrame : Bool
  gopPos : Nat
  scale : Nat
  matrix : Nat
  tf : Nat
  p0 : Nat
  slices : List SliceInfo := []
  rowsDone : Nat := 0
  listeners : List (Nat × Nat) := []
  recon : List (List (List Nat)) := []
  used : Nat := 24
  floorMode : Bool := false
  firstFloor : Nat := 0xFF
  bytes : List Byte := []
  ended : Option Nat := none
  takes : List Nat := []
  reserved : Nat := 0
  pended : Bool := false
deriving DecidableEq, Repr

/-- A published frame record (R228): frame, SOF, status word, byte count, end marker's tick, position, profile, slices, the
record with its slice table, the frame unit, and the decoder sessions it goes to (R241). -/
structure FrameRec where
  frame : Nat
  sof : Nat
  status : Nat
  bytes : Nat
  ended : Nat
  offset : Nat
  profile : Nat
  intra : Bool
  slices : List SliceInfo
  raw : List Byte
  unit : List Byte
  listeners : List (Nat × Nat)
deriving DecidableEq, Repr

/-- A codec context beside its registers (R231): the plan queue, the last plan used and the last queued ceiling, X of R225 in
units of 2^−16, the bucket, frames being coded oldest first, the last 64 records newest first, frame ends firmware has not
planned for (none: abandoned) each with the bucket after it, the MP reference picture (R218), pending start and stop of a host-destination context or an output, OMIT_BEFORE due, position in
the GOP, whether no frame of the run is published yet and how many are, SWITCHED due, bytes written since it started, and the identity the next
frame begun must reach. -/
structure Codec where
  hostMib : Nat := 0
  plans : List Plan := []
  lastPlan : Option Plan := none
  lastQueued : Nat := 0
  xs : List Nat := []
  bucket : Int := 0
  coding : List Coding := []
  records : List FrameRec := []
  ends : List (Option FrameRec × Int) := []
  reference : List (List (List Nat)) := []
  startPending : Bool := false
  stopPending : Bool := false
  omitBefore : Bool := false
  gop : Nat := 0
  firstOfRun : Bool := true
  runRecords : Nat := 0
  switchedNext : Bool := false
  position : Nat := 0
  nextId : Nat := 0
deriving DecidableEq, Repr

/-- A published decoded frame (R242 … R244): its planes, its record, and whether a consumer holds its slot. -/
structure Decoded where
  frame : Nat
  tag : Nat
  flags : Nat
  slot : Nat
  held : Bool
  cfa : Nat
  matrix : Nat
  planes : List (List (List Nat))
  record : List Byte
deriving DecidableEq, Repr

/-- A frame being decoded (R245 … R248): header values, whether it lacks its reference, when its header came, its slot, the
last accepted slice index, slices accepted and concealed, the input position of a bad marker already counted, the classes of error met, the FILL code of each plane, its planes. -/
structure Decoding where
  frame : Nat
  tag : Nat
  slices : Nat
  cfa : Nat
  matrix : Nat
  pFrame : Bool
  noRef : Bool
  inherited : Bool
  started : Nat
  slot : Nat
  last : Option Nat := none
  accepted : List Nat := []
  concealed : List Nat := []
  counted : Option Nat := none
  errors : Nat := 0
  fill : List Nat := []
  planes : List (List (List Nat)) := []
deriving DecidableEq, Repr

/-- A decoder session beside its registers (R240 … R252): its owner, coded size, input ring size and declared rate; input bytes
not yet consumed, the tag of each feed by the position it starts at, and the position reached; frame units waiting (STREAM) as
tag, whether an I frame, bytes; the frame in progress; whether it waits for a slot; published frames oldest first, records
newest first, the reference; whether the next P frame has none, whether GAP is due; the take a MAGAZINE session plays as
magazine, entry and next unit; and how often it has started. -/
structure Dec where
  owner : Nat := 0
  cols : Nat := 0
  rows : Nat := 0
  inMib : Nat := 0
  rate : Nat := 0
  input : List Byte := []
  tags : List (Nat × Nat) := []
  taken : Nat := 0
  units : List (Nat × Bool × List Byte) := []
  inFrame : Option Decoding := none
  slotWait : Bool := false
  ring : List Decoded := []
  records : List Held := []
  lastFrame : Option Nat := none
  reference : Option Decoded := none
  refBad : Bool := true
  gapNext : Bool := false
  play : Option (Nat × Nat × Nat) := none
  run : Nat := 0
deriving DecidableEq, Repr

/-- A round-trip check due (R236): context index and frame number; the slice, its quantiser and form, the coded picture it belongs to, its
reference, its bytes as emitted, and the encoder's reconstruction of it by planes. -/
structure RtDue where
  idx : Nat
  frame : Nat
  slice : Nat
  q : Nat
  floor : Bool
  profile : Nat
  cols : Nat
  rows : Nat
  cfa : Nat
  reference : Option (List (List (List Nat)))
  bytes : List Byte
  recon : List (List (List Nat))
deriving DecidableEq, Repr

/-- The codec beside its registers: contexts, the resident ones least recently used first, decoder sessions, the context index
each stream's pending switch names, round-trip checks due, and the tick of each core's last check. -/
structure Mls where
  codecs : Tab Codec := []
  resident : List Nat := []
  decs : Tab Dec := []
  switchTo : Tab Nat := []
  rtDue : List RtDue := []
  kaLast : Tab Nat := []
deriving DecidableEq, Repr

/-! ### Recording and the media command channel (11, 12) -/

/-- A frame of a take whose end marker is written and that is not yet committed on a magazine (R269 … R271): its unit, its
record once published, whether its stripes are programmed, its index entries once formed and handed to the journal, and which of its stripes took the last resort. -/
structure Pend where
  take : Nat
  num : Nat
  sof : Nat
  bytes : Nat
  ended : Nat
  unit : List Byte
  record : Option (List Byte) := none
  programmed : Bool := false
  entry : Option (List Byte) := none
  lastResort : Option Nat := none
deriving DecidableEq, Repr

/-- An entry of the journal (R262): MAP; COMMIT of a directory entry's frame, with the essence bytes and the index entries committed; CLOSE
with the close entry; RETIRE with its cause; ERASE with the erase count. -/
inductive JEntry where
  | map (granule psn : Nat)
  | commit (entry frame essence index : Nat)
  | close (entry : Nat) (record : List Byte)
  | retire (superblock cause : Nat)
  | erase (superblock count : Nat)
deriving DecidableEq, Repr

/-- A directory entry (R260). State: 0 free, 1 recording, 2 closed. Flags: 1 MIRRORED, 2 DURABILITY_AT_RISK, 4 MIRROR_LOST, 8 SIGNED. -/
structure DirEntry where
  takeId : List Byte
  state : Nat
  stream : Nat
  profile : Nat
  flags : Nat
  frames : Nat
  essenceBytes : Nat
  essence : List (Nat × Nat)
  index : List (Nat × Nat)
deriving DecidableEq, Repr

/-- A channel task (R288): `started` once it runs, `onNand` once its writes are committed, `forced` once it must wait for that
(R294), `data` what a READ or IDENTIFY has read, `damaged` where an LDPC code of it failed (R261); once it has come to its end, the status,
DURABLE and COUNT of the record that this tick writes (R292, R298). -/
structure Task where
  host : Nat
  op : Nat
  flush : Bool
  tag : Nat
  lba : Nat
  count : Nat
  buf : Nat
  accepted : Nat := 0
  started : Bool := false
  onNand : Bool := false
  forced : Bool := false
  data : List Byte := []
  damaged : Bool := false
  ending : Option (Status × Bool × Nat) := none
deriving DecidableEq, Repr

/-- Channel data in staging (R293 … R297): its number, the task it belongs to, its first block, its bytes (none: TRIM) and
block count, its completion tick, the granules whose stripes are not yet programmed, and the MAP entries that are not yet in a programmed
page. -/
structure Staged where
  id : Nat
  host : Nat
  tag : Nat
  lba : Nat
  count : Nat
  data : Option (List Byte)
  done : Option Nat := none
  todo : List Nat := []
  left : List (Nat × Nat) := []
deriving DecidableEq, Repr

/-- A magazine beside its registers (R257 … R263). On its NAND: the label, in two identical copies, the programmed stripes by PSN, the
checkpoint slots A and B, the pages of the journal ring by place. In the controller: the serial number DISCOVER gave, the physical
stripe of each mapped granule, erase counts as what all superblocks share and what each has beyond, retired superblocks, the superblock
being filled with its next stripe, the next write sequence, the sequence of the next journal page, directory entries whose
state is not that of their granule; frames pending, journal entries ready and in the page being programmed, pages since the last
checkpoint, the checkpoint's sequence, SPARE of a format under way, an eject under way, the channel's
queue and staging, and the POWER_STATE task entering. -/
structure Mag where
  label : Option Label := none
  stripes : Tab Stripe := []
  slots : Tab Checkpoint := []
  ring : Tab (List Byte) := []
  serial : List Byte := []
  map : Tab Nat := []
  erasedAll : Nat := 0
  erases : Tab Nat := []
  retired : List Nat := []
  filling : Option (Nat × Nat) := none
  writeSeq : Nat := 0
  pageSeq : Nat := 0
  live : Tab DirEntry := []
  pend : List Pend := []
  ready : List JEntry := []
  page : List JEntry := []
  pages : Nat := 0
  checkpoint : Nat := 0
  format : Option Nat := none
  ejecting : Bool := false
  queue : List Task := []
  staged : List Staged := []
  nextStaged : Nat := 0
  powerTask : Option Task := none
deriving DecidableEq, Repr

/-- One side of a take (R278): its magazine and directory entry, whether it still records, its closing reason if it has one
of its own, whether its CLOSE is handed to the journal; frames, first and last frame, chain and essence as
committed; the chain, essence and index bytes as formed, and the index bytes and the journal page as committed; markers not yet placed and all
that are, as 16-byte strings. -/
structure Side where
  mag : Nat
  entry : Nat
  isOpen : Bool := true
  closing : Bool := false
  closed : Bool := false
  reason : Nat := 0
  frames : Nat := 0
  first : Option Nat := none
  last : Nat := 0
  chainDone : List Byte := []
  essenceDone : Nat := 0
  chain : List Byte := []
  essence : Nat := 0
  index : Nat := 0
  indexDone : Nat := 0
  page : Option Nat := none
  marks : List (List Byte) := []
  marked : List Byte := []
deriving DecidableEq, Repr

/-- A take slot (R264). State: 0 FREE, 1 PREPARED, 2 RECORDING, 3 CLOSING, 4 CLOSED; `opened` is the tick of the opening
launch, `header` bytes 4 … 55 of the HEADER entry, `done` the frames committed on every recording side. -/
structure Take where
  gen : Nat := 0
  state : Nat := 0
  stream : Nat := 0
  primary : Nat := 0
  secondary : Option Nat := none
  sides : List Side := []
  takeId : List Byte := []
  metadata : List Byte := []
  atRisk : Bool := false
  mirrorLost : Bool := false
  startPending : Bool := false
  opened : Nat := 0
  header : List Byte := []
  profile : Nat := 0
  reason : Nat := 0
deriving DecidableEq, Repr

/-- A queue reset whose record is not yet written (R298). -/
structure ResetRec where
  host : Nat
  mag : Nat
  cut : Nat
  completed : Nat
  discarded : Nat
deriving DecidableEq, Repr

/-- The media controller beside its registers: magazines, take slots, reset records due, the task each host's register set
holds with BUSY set as magazine and task, the tags of each host's tasks whose record is written, by magazine, and how many sessions have
left tasks behind (R300). -/
structure Med where
  mags : Tab Mag := []
  takes : Tab Take := []
  resets : List ResetRec := []
  loading : Tab (Nat × Task) := []
  recorded : Tab Nat := []
  former : Nat := 0
deriving DecidableEq, Repr

/-! ### Memory, lanes, outputs, audio (13 … 16) -/

/-- What an allocation of the frame-memory pool belongs to (R30, R81); `left` is what ended sessions have left to H0. -/
inductive AllocKey where
  | pan (ctx : Nat)
  | raw (ctx : Nat)
  | dev (ctx : Nat)
  | kernel (slot : Nat)
  | codec (idx : Nat)
  | dec (session : Nat)
  | output (out : Nat)
  | audio (port : Nat)
  | buffer (slot : Nat)
  | left
  | tables (ctx bank : Nat)
deriving DecidableEq, Repr

/-- The memory subsystem beside its registers (R310 … R312): `pool` holds the allocations in bytes, in the order they were made;
read eye widths measured by stack; stacks being measured; the pseudo-channels of a memory test under way; replays in a row that have
failed on each pseudo-channel (R320). -/
structure Mem where
  pool : List (AllocKey × Nat) := []
  widths : Tab (List Nat) := []
  measuring : List Nat := []
  testing : Nat := 0
  replays : Tab Nat := []
deriving DecidableEq, Repr

/-- What training left in NOR (R311): the read and write delay of each of the 256 byte lanes, read and write in turn, as steps + 32;
the read eye widths of each stack; the lanes remapped. -/
structure Trained where
  delays : List Nat := []
  widths0 : List Nat := []
  widths1 : List Nat := []
  repaired : List Nat := []
deriving DecidableEq, Repr

/-- A cell the TX9 sends on a Draxa link (R334). -/
structure TxCell where
  link : Nat
  type : Nat
  channel : Nat
  flags : Nat
  payload : List Byte
deriving DecidableEq, Repr

/-- A Draxa link beside its registers (R337 … R344): the partner's pages, whether it has acknowledged ours, the net round trips
echoed so far; cells granted and sent by channel, modulo 2^24; by controller channel the bytes of a packet so far and the next
segment's index; by video channel the payload of the line so far, its cells, and whether it lost one; the next retry; the count of
cells sent, ALIGN cells apart; by channel the cells of a reply that wait for credit, and the cells granted to the partner with the
channels whose grants no FLOW cell has told yet. -/
structure Link where
  pages : Tab (List Byte) := []
  acked : Bool := false
  echoes : List Nat := []
  granted : Tab Nat := []
  sent : Tab Nat := []
  segments : Tab (List Byte × Nat) := []
  line : Tab (List Byte × Nat × Bool) := []
  retryAt : Nat := 0
  count : Nat := 0
  outgoing : Tab (List TxCell) := []
  grants : Tab Nat := []
  flowDue : List Nat := []
deriving DecidableEq, Repr

/-- The transmitter of a Draxa lane (R333): the last 58 scrambled bits, the newest in bit 0; the last bit on the line and how many bits
up to it are equal; what it put on the line in this tick. -/
structure Lane where
  scrambler : BitVec 58 := 0
  last : Bool := false
  equal : Nat := 0
  line : List Bool := []
deriving DecidableEq, Repr

/-- The lanes beside their registers: links, their lanes' transmitters, cells sent on this tick, lanes whose PRBS checker runs. -/
structure Lnk where
  links : Tab Link := []
  lanes : Tab Lane := []
  tx : List TxCell := []
  checking : List Nat := []
deriving DecidableEq, Repr

/-- A frame in an output buffer (R355): its source (context n, or 8 + decoder session) and identity there, its number and the
time it is due by, whether it is PARTIAL or concealed, whether its last row has reached the scaler, and the buffer's words. -/
structure OutFrame where
  source : Nat
  id : Nat
  frame : Nat
  sof : Nat
  concealed : Bool
  arrived : Bool
  image : List (List Nat)
deriving DecidableEq, Repr

/-- A video output beside its registers (R355 … R363): the last reference point, the three buffers, consecutive reference
points without a new frame, whether it shows NO SOURCE, the late lines of the frame being sent, counted from 1, a stop that waits;
the overlay rectangles, thresholds, text lines, channel map and IP settings; what the frame in progress carries (user data words
of the flag packet, RTP timestamp, whether it is a repeat, the tally of a safe-state border and line); the samples embedded in the
last whole frame by channel; look bank swaps waiting for the reference point as bank and tick; of a compressed output the bytes
sent of the context's output and the packets last sent as FRAME, offset, marker, payload. -/
structure Out where
  lastRef : Option Nat := none
  shown : Option OutFrame := none
  ready : Option OutFrame := none
  writing : Option OutFrame := none
  noNew : Nat := 0
  noSource : Bool := false
  lateLines : List Nat := []
  stopPending : Bool := false
  rects : List Nat := []
  thresholds : List Nat := []
  text : Tab (List Byte) := []
  audioMap : List Nat := []
  ip : List Byte := []
  packet : List Nat := []
  rtp : Nat := 0
  repeated : Bool := false
  safeTally : Option Nat := none
  audio : List (List Nat) := []
  lookSwap : List (Nat × Nat) := []
  sent : Nat := 0
  packets : List (Nat × Nat × Bool × List Byte) := []
deriving DecidableEq, Repr

structure OutUnit where
  outs : Tab Out := []
deriving DecidableEq, Repr

/-- An audio port beside its registers (R371 … R378): the clock's start, frame sync edges since, a pending data start's tick and
pending stops; the capture ring's bytes that are held; playback bytes written and not consumed, by position; the position where the
frame in progress begins; AUD_P_PLAY_WR at the last two edges; the last sample sent and the samples being sent, by line × 32 +
slot; samples captured or sent, newest frame first, with the frame's tick. -/
structure Aud where
  clockStart : Nat := 0
  syncs : Nat := 0
  dataStart : Option Nat := none
  dataStop : Bool := false
  clockStop : Bool := false
  capture : List Byte := []
  playback : Tab Byte := []
  pos : Nat := 0
  limits : Nat × Nat := (0, 0)
  lastSent : Tab Nat := []
  sentNow : Tab Nat := []
  history : List (Nat × Tab Nat) := []
deriving DecidableEq, Repr

structure AudUnit where
  ports : Tab Aud := []
deriving DecidableEq, Repr

/-! ### Event fabric and position trigger (17, 18) -/

/-- An EVIO pin: its level at the ball, and the cycles its pulse has left (R393). -/
structure Pin where
  level : Bool := false
  pulseLeft : Nat := 0
deriving DecidableEq, Repr

/-- A trick cell beside its registers: for how many cycles the look-up value has differed from the filtered value (R388). -/
structure Cell where
  run : Nat := 0
  filtered : Bool := false
deriving DecidableEq, Repr

/-- The event fabric beside its registers (R387 … R393): the current cycle; events emitted since the last cycle, and those of producers the fabric
does not clock one hop on; pins, cells; by channel the cycle of its last delivery and the events delivered in the storm window,
which is counted from deal time 0. -/
structure Evf where
  cycle : Nat := 0
  emitted : List Nat := []
  delayed : List Nat := []
  pins : Tab Pin := []
  cells : Tab Cell := []
  lastDeliver : Tab Nat := []
  windowCount : Tab Nat := []
  window : Nat := 0
deriving DecidableEq, Repr

/-- A firing table (R400, R401): its engine, cluster and parameters, the entries written as 64-bit words, whether it is sealed. -/
structure FireTable where
  live : Bool := false
  gen : Nat := 0
  engine : Nat := 0
  cluster : Nat := 0
  count : Nat := 0
  origin : Int := 0
  feed : Nat := 0
  passes : Nat := 0
  width : Nat := 0
  minInterval : Nat := 0
  rewind : Bool := false
  entries : Tab Nat := []
  sealed : Bool := false
deriving DecidableEq, Repr

/-- A firing engine beside its registers (R402 … R405): the high-water mark, whether a reversal is reported, the tick of the last
position firing since the arm. -/
structure Fire where
  hwm : Int := 0
  reversalOpen : Bool := false
  lastFire : Option Nat := none
deriving DecidableEq, Repr

/-- A strobe beside its registers (R406, R407): the tick its last pulse ends, consecutive misses, and whether that pulse missed its
readback. -/
structure Strobe where
  highUntil : Nat := 0
  misses : Nat := 0
  missed : Bool := false
deriving DecidableEq, Repr

/-- The position trigger unit beside its registers: encoder counts and their index latches, tables by slot, engines, strobes. -/
structure Ptu where
  counts : Tab Int := []
  tables : Tab FireTable := []
  engines : Tab Fire := []
  strobes : Tab Strobe := []
deriving DecidableEq, Repr

/-! ### Valtu, integrity, start-up, NOR and test access (19 … 22) -/

/-- A monitor unit beside its registers (R432): the window's start and end, its bins. -/
structure Monitor where
  starts : Nat := 0
  ends : Nat := 0
  bins : Tab Nat := []
deriving DecidableEq, Repr

/-- Valtu beside its registers (R415 … R432): rails on; the newest sample; by rail and by lid sensor the consecutive samples that fail
the cross-check, and the consecutive plausible ones; the power sums of the millisecond being gathered, in units of 10 µW, how many
samples they hold, and the means of the last 64 ms in µW, newest first; the model's node temperatures and rail powers as last evaluated,
its snapshot's tick, when the throttle step last moved and when staleness next acts; when VIN fell below VIN_FAIL; when POWER_FAIL was
declared or the commit ahead of a reset began, and whether power fail was declared; that the flush is entered on the next tick, with POWER_FAIL launched or not yet; whether the bank stands at 47 V, whether its check has
failed, whether HOLDUP_READY has been set since t0; the trigger of a re-plan that runs or is deferred, whether one has ended since the
start; when a thermal shutdown turns the rails off; READY_MS of the start; monitors; the lowest FOM of each quad since the last re-plan. -/
structure Val where
  railsOn : List Nat := []
  sample : Option Telemetry := none
  crossRail : Tab Nat := []
  goodRail : Tab Nat := []
  crossLid : Tab Nat := []
  goodLid : Tab Nat := []
  sums : List Nat := []
  gathered : Nat := 0
  means : List (List Nat) := []
  nodes : List Int := []
  powers : List Nat := []
  lastEval : Option Nat := none
  lastStep : Option Nat := none
  staleNext : Option Nat := none
  vinLow : Option Nat := none
  powerFail : Option Nat := none
  declared : Bool := false
  flushDue : Option Bool := none
  bankAbove : Bool := false
  bankBad : Bool := false
  holdupSeen : Bool := false
  replanTrigger : Nat := 0
  replanDone : Bool := false
  shutdownAt : Option Nat := none
  monitors : Tab Monitor := []
  fomLow : Tab Nat := []
deriving DecidableEq, Repr

/-- A fault record of R446. -/
structure FaultRec where
  code : Nat
  seq : Nat
  tick : Nat
  suspect : Int
  detail0 : Nat
  detail1 : Nat
  tally : Nat
  reaction : Nat
  flags : Nat
deriving DecidableEq, Repr

/-- The integrity manager beside its registers (R438 … R448): active causes, and those whose mechanism has passed since; detections that
travel to it as code, DETAIL0, DETAIL1, INJECTED; whether a safe-state entry is due, whether a cause was HALTED; the control complex's last heartbeat. -/
structure Integ where
  active : List Nat := []
  passed : List Nat := []
  inbox : List (Nat × Nat × Nat × Bool) := []
  due : Bool := false
  halted : Bool := false
  lastHeartbeat : Nat := 0
deriving DecidableEq, Repr

/-- A re-plan record of R431. -/
structure ReplanRec where
  seq : Nat
  trigger : Nat
  bytes : List Byte
deriving DecidableEq, Repr

/-- What NOR and Valtu flash keep across resets and power loss; `replans` holds the records after the factory record, and `poweredTicks`
counts towards HOURS (R75, R326, R319, R418, R431, R446, R447, R449, R456). -/
structure Store where
  bootEndpoint : Endpoint := ⟨.spi, 0⟩
  quads : Tab (BitVec 32) := []
  links : Tab (BitVec 32) := []
  mags : BitVec 32 := 0
  order : Nat := 0
  valCfg : Option (BitVec 32) := none
  replans : List ReplanRec := []
  nextReplan : Nat := 1
  faults : List FaultRec := []
  nextFault : Nat := 0
  tally : Nat := 0
  starts : Nat := 0
  poweredTicks : Nat := 0
  activeImage : List (Nat × List Byte) := []
  previousImage : List (Nat × List Byte) := []
  trained : Trained := {}
  frozenBefore : Bool := false
  powerFailBefore : Bool := false
deriving DecidableEq, Repr

/-- Where the part stands between power and service (R455 … R464). -/
inductive BootPhase where
  /-- VIN below 7.0 V: nothing runs. -/
  | unpowered
  /-- Valtu runs from its flash; the rails wait for t0. -/
  | valtu
  /-- The reset proper has taken place; the start-up sequence has not run. -/
  | starting
  | ready
  | limited
  /-- The pre-reset commit runs before a reset of the kind given (1 PIN, 2 FULL, 3 MODULE). -/
  | preReset (kind : Nat)
  /-- The rails are off after a shutdown, a flush or a thermal shutdown. -/
  | off
deriving DecidableEq, Repr

/-- Start-up beside its registers: `since` is the count of powered ticks at t0 or the reset (R466), `offAt` the tick READY falls in an
orderly shutdown (R464), `straps` holds the VSEL codes of banks B0 … B5 as the last POWER start found them (R471),
`image` is the firmware image that runs (R456). -/
structure Boot where
  phase : BootPhase := .starting
  endpoint : Endpoint := ⟨.spi, 0⟩
  resetLow : Bool := false
  since : Nat := 0
  offAt : Option Nat := none
  thermalOff : Bool := false
  straps : List Nat := [1, 1, 1, 1, 1, 1]
  image : List (Nat × List Byte) := []
deriving DecidableEq, Repr

/-- The TAP instructions of R477. -/
inductive TapInstr where
  | bypass | idcode | samplePreload | extest | extestPulse | extestTrain | clamp | highz
deriving DecidableEq, Repr

/-- The test access port (R477, R478). -/
structure Tap where
  loaded : TapInstr := .idcode
  dataOut : Nat := 0x109493A7
  preload : List Bool := []
  testLogicReset : Bool := true
deriving DecidableEq, Repr

/-- The module's output pins the spec gives a level to: `highZ` says whether the signal balls are high-impedance, `linksHighZ` those of quads
that carry magazine links, which follow later (R462); `triggers` holds the levels of the EVIO pins that the sensor front end drives
(R96), `strobes` those of the strobe balls that are high (R406). -/
structure Pins where
  ready : Bool := false
  faultN : Bool := true
  pwrFailN : Bool := true
  spi0IrqN : Bool := true
  spi1IrqN : Bool := true
  highZ : Bool := true
  linksHighZ : Bool := true
  triggers : Tab Bool := []
  strobes : Tab Bool := []
deriving DecidableEq, Repr

/-! ### The register file and the whole state -/

/-- The unit whose commit point a shadowed register waits for (R13, R14). -/
inductive CUnit where
  | tc
  | ctx (n : Nat)
  | out (o : Nat)
  | codec (h : Nat)
  | dec (d : Nat)
  | aud (p : Nat)
  | engine (e : Nat)
deriving DecidableEq, Repr

/-- A write waiting in a shadow: its unit, register address, tick of acceptance and value (R12, R13). -/
structure Shadow where
  owner : CUnit
  addr : Nat
  tick : Nat
  value : BitVec 32
deriving DecidableEq, Repr

/-- The state of the TX9. `regs` holds the registers in effect that differ from their reset value, by address in rising
order; `raised` the bits set and the counts added on the tick that ends, by address, while packets of that tick are still to begin (R12);
`fresh` counts the free values drawn so far (the model's own field). -/
structure State where
  dealTime : BitVec 64
  fresh : Nat
  regs : List (Nat × BitVec 32)
  shadows : List Shadow
  latches : List ((Nat × Nat) × BitVec 32)
  lowHalves : List ((Nat × Nat) × BitVec 32)
  raised : List (Nat × Nat)
  cpi : Cpi
  dck : Dck
  ctxs : Tab Ctx
  buses : Tab Bus
  pip : Pip
  col : Col
  sta : Sta
  eng : Eng
  mls : Mls
  med : Med
  mem : Mem
  lnk : Lnk
  out : OutUnit
  aud : AudUnit
  evf : Evf
  ptu : Ptu
  val : Val
  integ : Integ
  store : Store
  boot : Boot
  tap : Tap
  pins : Pins
  pending : List Instr
deriving DecidableEq, Repr

/-- The TX9 right after a reset of kind POWER, before the start-up sequence runs (R456, R457, R460). -/
def State.reset : State where
  dealTime := 0
  fresh := 0
  regs := []
  shadows := []
  latches := []
  lowHalves := []
  raised := []
  cpi := {}
  dck := {}
  ctxs := []
  buses := []
  pip := {}
  col := {}
  sta := {}
  eng := {}
  mls := {}
  med := {}
  mem := {}
  lnk := {}
  out := {}
  aud := {}
  evf := {}
  ptu := {}
  val := {}
  integ := {}
  store := {}
  boot := {}
  tap := {}
  pins := {}
  pending := []

end Sys2Proof.Machine
end

