-- ==== Sys2Proof/Machine/Ops.lean ====
section
/-!
DEFINITION. The named operations over the state: tables, deal time, the register file with its shadows and commit
points (R9 … R14), pool allocations (R30, R81), ownership (R76 … R80), event-fabric pulses and free values.
-/
namespace Sys2Proof.Machine

/-- The outcome of a command. -/
abbrev Out' := Host.Outcome State Fault Refusal

/-! ### Tables -/

/-- The entry of a table at an index. -/
def tget {α : Type} : Tab α → Nat → Option α
  | [], _ => none
  | (k, a) :: t, i => if k = i then some a else tget t i

/-- The entry of a table at an index, `d` where the table lists none. -/
def tgetD {α : Type} (d : α) (t : Tab α) (i : Nat) : α := (tget t i).getD d

/-- A table without the entry at an index. -/
def tdel {α : Type} : Tab α → Nat → Tab α
  | [], _ => []
  | (k, a) :: t, i => if k = i then tdel t i else (k, a) :: tdel t i

/-- A table with an entry at an index, in rising order. -/
def tins {α : Type} (a : α) : Tab α → Nat → Tab α
  | [], i => [(i, a)]
  | (k, b) :: t, i =>
    if i < k then (i, a) :: (k, b) :: t else if k = i then (i, a) :: t else (k, b) :: tins a t i

/-- A table with `a` at an index; writing the default removes the entry. -/
def tput {α : Type} [DecidableEq α] (d : α) (t : Tab α) (i : Nat) (a : α) : Tab α :=
  if a = d then tdel t i else tins a t i

/-- A table changed at one index. -/
def tmod {α : Type} [DecidableEq α] (d : α) (t : Tab α) (i : Nat) (f : α → α) : Tab α :=
  tput d t i (f (tgetD d t i))

/-! ### Unit entries -/

def State.host (s : State) (n : Nat) : HostSlot := tgetD {} s.cpi.slots n
def State.setHost (s : State) (n : Nat) (h : HostSlot) : State :=
  { s with cpi := { s.cpi with slots := tput {} s.cpi.slots n h } }
def State.ctx (s : State) (n : Nat) : Ctx := tgetD {} s.ctxs n
def State.setCtx (s : State) (n : Nat) (c : Ctx) : State := { s with ctxs := tput {} s.ctxs n c }
def State.scb (s : State) (n : Nat) : Bus := tgetD {} s.buses n
def State.setScb (s : State) (n : Nat) (b : Bus) : State := { s with buses := tput {} s.buses n b }
def State.kernel (s : State) (n : Nat) : Option Kernel := tget s.eng.kernels n
def State.setKernel (s : State) (n : Nat) (k : Kernel) : State :=
  { s with eng := { s.eng with kernels := tins k s.eng.kernels n } }
def State.codec (s : State) (n : Nat) : Codec := tgetD {} s.mls.codecs n
def State.setCodec (s : State) (n : Nat) (c : Codec) : State :=
  { s with mls := { s.mls with codecs := tput {} s.mls.codecs n c } }
def State.dec (s : State) (n : Nat) : Dec := tgetD {} s.mls.decs n
def State.setDec (s : State) (n : Nat) (d : Dec) : State :=
  { s with mls := { s.mls with decs := tput {} s.mls.decs n d } }
def State.magz (s : State) (n : Nat) : Mag := tgetD {} s.med.mags n
def State.setMag (s : State) (n : Nat) (m : Mag) : State :=
  { s with med := { s.med with mags := tput {} s.med.mags n m } }
def State.take (s : State) (n : Nat) : Take := tgetD {} s.med.takes n
def State.setTake (s : State) (n : Nat) (t : Take) : State :=
  { s with med := { s.med with takes := tput {} s.med.takes n t } }
def State.link (s : State) (n : Nat) : Link := tgetD {} s.lnk.links n
def State.setLink (s : State) (n : Nat) (l : Link) : State :=
  { s with lnk := { s.lnk with links := tput {} s.lnk.links n l } }
def State.output (s : State) (n : Nat) : Out := tgetD {} s.out.outs n
def State.setOutput (s : State) (n : Nat) (o : Out) : State :=
  { s with out := { s.out with outs := tput {} s.out.outs n o } }
def State.port (s : State) (n : Nat) : Aud := tgetD {} s.aud.ports n
def State.setPort (s : State) (n : Nat) (a : Aud) : State :=
  { s with aud := { s.aud with ports := tput {} s.aud.ports n a } }
def State.queue (s : State) (p : Nat) : List QEntry := tgetD [] s.dck.queues p
def State.setQueue (s : State) (p : Nat) (q : List QEntry) : State :=
  { s with dck := { s.dck with queues := tput [] s.dck.queues p q } }

/-! ### Deal time (R15) -/

/-- Deal time as a count of ticks. -/
def State.now (s : State) : Nat := s.dealTime.toNat

/-- Ticks in one millisecond (R15). -/
def ticksPerMs : Nat := 300000

/-! ### The register file -/

/-- The word stored at an address, if it is not the reset value. -/
def lookReg : List (Nat × BitVec 32) → Nat → Option (BitVec 32)
  | [], _ => none
  | (k, v) :: t, a => if k = a then some v else lookReg t a

/-- The value in effect of a register's copy. -/
def State.rd (s : State) (r : Reg) (i : Nat := 0) (j : Nat := 0) : Nat :=
  ((lookReg s.regs (r.addr i j)).getD (BitVec.ofNat 32 (r.resetVal i j))).toNat

/-- Put a value into effect in a register's copy; the reset value is not listed. -/
def State.wr (s : State) (r : Reg) (v : Nat) (i : Nat := 0) (j : Nat := 0) : State :=
  { s with regs := tput (BitVec.ofNat 32 (r.resetVal i j)) s.regs (r.addr i j) (BitVec.ofNat 32 v) }

/-- Bits [hi:lo] of a word. -/
def bitsOf (v hi lo : Nat) : Nat := v / 2 ^ lo % 2 ^ (hi + 1 - lo)

/-- A word with bits [hi:lo] replaced. -/
def withBits (v hi lo x : Nat) : Nat :=
  v - bitsOf v hi lo * 2 ^ lo + x % 2 ^ (hi + 1 - lo) * 2 ^ lo

/-- The value in effect of a field. -/
def State.get (s : State) (f : Fld) (i : Nat := 0) (j : Nat := 0) : Nat := bitsOf (s.rd f.reg i j) f.hi f.lo

/-- Whether a field in effect is not zero. -/
def State.flag (s : State) (f : Fld) (i : Nat := 0) (j : Nat := 0) : Bool := s.get f i j != 0

/-- Put a value into effect in one field. -/
def State.set (s : State) (f : Fld) (v : Nat) (i : Nat := 0) (j : Nat := 0) : State :=
  s.wr f.reg (withBits (s.rd f.reg i j) f.hi f.lo v) i j

/-- What the TX9 sets at an address on this tick: bits set, or what is added to a count (R12). -/
def State.markRaised (s : State) (a w : Nat) : State := { s with raised := s.raised ++ [(a, w)] }

/-- Set bit `b` of an event field (W1C). -/
def State.raise (s : State) (f : Fld) (b : Nat := 0) (i : Nat := 0) : State :=
  let v := s.get f i
  (if v / 2 ^ b % 2 = 1 then s else s.set f (v + 2 ^ b) i).markRaised (f.reg.addr i 0) (2 ^ (f.lo + b))

/-- Add to a counting field, saturating at its largest value. -/
def State.bump (s : State) (f : Fld) (i : Nat := 0) (k : Nat := 1) (j : Nat := 0) : State :=
  let v := min (s.get f i j + k) (2 ^ f.width - 1)
  (s.set f v i j).markRaised (f.reg.addr i j) ((v - s.get f i j) * 2 ^ f.lo)

/-- The bits set at an address on this tick, and what was added to the counts there. -/
def State.raisedBits (s : State) (a : Nat) : Nat := s.raised.foldl (fun m x => if x.1 = a then m ||| x.2 else m) 0
def State.raisedSum (s : State) (a : Nat) : Nat := s.raised.foldl (fun m x => if x.1 = a then m + x.2 else m) 0

/-- Put the two words of a 64-bit quantity into effect, low word at `lo`. -/
def State.wr64 (s : State) (lo hi : Reg) (v : Nat) (i : Nat := 0) : State :=
  (s.wr lo (v % 2 ^ 32) i).wr hi (v / 2 ^ 32 % 2 ^ 32) i

/-- The 64-bit quantity in two registers (R11). -/
def State.rd64 (s : State) (lo hi : Reg) (i : Nat := 0) : Nat := s.rd lo i + s.rd hi i * 2 ^ 32

/-! ### Shadowed fields (R12 … R14) -/

/-- The mask of the fields of a register with a given access. -/
def Reg.mask (r : Reg) (p : Acc → Bool) : Nat :=
  r.fields.foldl (fun m f => if p f.acc then m + (2 ^ (f.hi + 1 - f.lo) - 1) * 2 ^ f.lo else m) 0

/-- `new` in the bits of `mask`, `old` elsewhere. -/
def mergeBits (old new mask : Nat) : Nat := (old - (old &&& mask)) + (new &&& mask)

/-- The last value written to the shadow of an address. -/
def lastShadow : List Shadow → Nat → Option (BitVec 32)
  | [], _ => none
  | x :: t, a => (lastShadow t a).or (if x.addr = a then some x.value else none)

/-- The shadow copy of a register, which a read returns (R12). -/
def State.shadow (s : State) (r : Reg) (i : Nat := 0) (j : Nat := 0) : Nat :=
  let v := s.rd r i j
  match lastShadow s.shadows (r.addr i j) with
  | some w => mergeBits v w.toNat (r.mask (· = .rws))
  | none => v

/-- A field of the shadow copy. -/
def State.sget (s : State) (f : Fld) (i : Nat := 0) (j : Nat := 0) : Nat := bitsOf (s.shadow f.reg i j) f.hi f.lo

/-- Write the shadow copy of a register (R12, R13). -/
def State.shadowWr (s : State) (u : CUnit) (r : Reg) (v : Nat) (i : Nat := 0) (j : Nat := 0) : State :=
  { s with shadows := s.shadows ++ [⟨u, r.addr i j, s.now, BitVec.ofNat 32 v⟩] }

/-- The register of the map and the indices an address belongs to. -/
def Reg.find (r : Reg) (a : Nat) : Option (Nat × Nat) :=
  if a < r.base then none else
  let d := a - r.base
  if r.s1 = 0 then
    if r.s2 = 0 then (if d = 0 then some (0, 0) else none)
    else if d % r.s2 = 0 ∧ d / r.s2 < r.n2 then some (0, d / r.s2) else none
  else
    let i := d / r.s1
    let e := d % r.s1
    if r.n1 ≤ i then none
    else if r.s2 = 0 then (if e = 0 then some (i, 0) else none)
    else if e % r.s2 = 0 ∧ e / r.s2 < r.n2 then some (i, e / r.s2) else none

/-- The implemented register at an address (R10). -/
def regAtIn : List Reg → Nat → Option (Reg × Nat × Nat)
  | [], _ => none
  | r :: t, a => match r.find a with
    | some (i, j) => some (r, i, j)
    | none => regAtIn t a

def regAt (a : Nat) : Option (Reg × Nat × Nat) := regAtIn registers a

/-- Transfer a shadowed word into effect. -/
def State.applyShadow (s : State) (x : Shadow) : State :=
  match regAt x.addr with
  | some (r, i, j) => s.wr r (mergeBits (s.rd r i j) x.value.toNat (r.mask (· = .rws))) i j
  | none => s

/-- The commit point of a unit: every write of the unit accepted before this tick takes effect, in order (R13). -/
def State.commit (s : State) (u : CUnit) : State :=
  let (due, rest) := s.shadows.partition (fun x => x.owner == u && x.tick < s.now)
  due.foldl State.applyShadow { s with shadows := rest }

/-- The start of a unit that was not running: every write kept for it takes effect (R14). -/
def State.commitAll (s : State) (u : CUnit) : State :=
  let (due, rest) := s.shadows.partition (fun x => x.owner == u)
  due.foldl State.applyShadow { s with shadows := rest }

/-! ### The frame-memory pool (R29, R30, R81) -/

/-- Bytes in a MiB (R8). -/
def mib : Nat := 1048576

/-- The pool: 42,496 MiB (R29). -/
def poolBytes : Nat := 42496 * mib

def State.poolAt (s : State) (k : AllocKey) : Nat := ((s.mem.pool.find? (·.1 == k)).map (·.2)).getD 0

/-- Release the allocation of a key. -/
def State.release (s : State) (k : AllocKey) : State :=
  { s with mem := { s.mem with pool := s.mem.pool.filter (·.1 != k) } }

/-- Make an allocation in place of the one the key has; size 0 releases it (R30). -/
def State.allocate (s : State) (k : AllocKey) (bytes : Nat) : State :=
  let t := s.release k
  if bytes = 0 then t else { t with mem := { t.mem with pool := t.mem.pool ++ [(k, bytes)] } }

def State.poolUsed (s : State) : Nat := (s.mem.pool.map (·.2)).foldl (· + ·) 0

/-! ### Ownership (R76 … R80) -/

/-- The owner mark of a shared resource. -/
def shared : Nat := 0xFF

/-- The owner of a resource: all belong to H0 at start-up (R75). -/
def State.owner (s : State) (id : Nat) : Nat := tgetD 0 s.cpi.owners id

def State.setOwner (s : State) (id n : Nat) : State :=
  { s with cpi := { s.cpi with owners := tput 0 s.cpi.owners id n } }

/-- The resource identifiers of R77: type, and number of indices from 0. -/
def resourceTypes : List (Nat × Nat) :=
  [(1, 8), (2, 8), (3, 4), (4, 16), (5, 256), (6, 87), (7, 8), (8, 32), (9, 2), (10, 8), (11, 24), (12, 32), (13, 64)]

/-- Every identifier of R77. -/
def resources : List Nat :=
  (resourceTypes.flatMap fun (t, n) => (List.range n).map (t * 256 + ·)) ++ [0x065F] ++
  [0x0F01] ++ (List.range 16).map (0x0F03 + ·)

def validResource (id : Nat) : Bool :=
  let i := id % 256
  match id / 256 with
  | 6 => i < 87 || i == 95
  | 15 => i == 1 || (3 ≤ i && i ≤ 0x12)
  | t => (resourceTypes.find? (·.1 == t)).any (fun p => decide (i < p.2))

/-- A resource by type and index. -/
def res (type index : Nat) : Nat := type * 256 + index
/-- The global resource of an opcode group. -/
def globalRes (group : Nat) : Nat := 0x0F00 + group

/-! ### Event-fabric producers, take state, free values -/

/-- A producer emits one event into the fabric (R383), taken up by the next fabric cycle. -/
def State.pulse (s : State) (producer : Nat) : State :=
  { s with evf := { s.evf with emitted := s.evf.emitted ++ [producer] } }

/-- An occurrence of a unit source: the slot mapped to it emits; a source with no slot emits nothing (R384). -/
def State.pulseSource (s : State) (code : Nat) : State :=
  match (List.range 96).find? fun u => s.flag .EVF_SRC_VALID u && s.get .EVF_SRC_SOURCE u == code with
  | some u => s.pulse (416 + u)
  | none => s

/-- A mechanism reports a detection to the integrity manager (R438): FAULT_RECORD follows. -/
def State.report (s : State) (code d0 d1 : Nat) : State :=
  { s with integ := { s.integ with inbox := s.integ.inbox ++ [(code, d0, d1, false)] } }

/-- The passing check of a mechanism whose failure is an active cause (R448). -/
def State.passed (s : State) (code : Nat) : State :=
  if s.integ.active.contains code then { s with integ := { s.integ with passed := (s.integ.passed.filter (· ≠ code)) ++ [code] } } else s

/-- HBM3 is frozen: reads are poisoned and no unit publishes anything built from them (R321). -/
def State.frozen (s : State) : Bool := s.get .MEM_STATUS_PHASE == 4

/-- Whether the balls of a bank are powered: B0 always is (R471). -/
def State.bankOn (s : State) (b : Nat) : Bool := b == 0 || s.boot.straps.getD b 1 != 3

/-- Draw a free value. -/
def State.draw (s : State) : Nat × State := (s.fresh, { s with fresh := s.fresh + 1 })

/-- A signed word of a register. -/
def signed (w v : Nat) : Int := if v < 2 ^ (w - 1) then v else (v : Int) - 2 ^ w

/-- One sample of a monitor unit's tap (R432). -/
def State.monitorSample (s : State) (m : Nat) (v : Int) : State :=
  let n := s.get .VAL_MON_CNT_CNT m
  let lo := signed 32 (s.rd .VAL_MON_MIN m)
  let hi := signed 32 (s.rd .VAL_MON_MAX m)
  let s := if n = 0 ∨ v < lo then s.wr .VAL_MON_MIN (v % 2 ^ 32).toNat m else s
  let s := if n = 0 ∨ hi < v then s.wr .VAL_MON_MAX (v % 2 ^ 32).toNat m else s
  let base := signed 32 (s.rd .VAL_MON_BASE m)
  let bin := if v < base then 0 else min 31 ((v - base).toNat / 2 ^ s.get .VAL_MON_CFG_SHIFT m)
  let k : Monitor := tgetD {} s.val.monitors m
  let k := { k with bins := tput 0 k.bins bin (min (tgetD 0 k.bins bin + 1) (2 ^ 32 - 1)) }
  { s.bump .VAL_MON_CNT_CNT m with val := { s.val with monitors := tput {} s.val.monitors m k } }

/-- A sample of a tap reaches every unit whose window runs on it (R433). -/
def State.tapSample (s : State) (tap : Nat) (v : Int) : State :=
  (s.val.monitors.map (·.1)).foldl (fun s m =>
    if s.flag .VAL_MON_CFG_RUNNING m && s.get .VAL_MON_CFG_TAP m == tap then s.monitorSample m v else s) s

/-- Whether a take is recording on any magazine (R34, R86): RECORDING or CLOSING. -/
def State.recording (s : State) : Bool := s.med.takes.any fun p => p.2.state == 2 || p.2.state == 3

end Sys2Proof.Machine
end

