-- ==== Sys2Proof/Machine/Operands.lean ====
section
/-!
DEFINITION. Operand forms: bytes and words, CRC-32C (R61), the words of a deal entry (R47), generation-counted handles
(R188, R231, R240, R264, R400), timecode labels (R40, R41).
-/
namespace Sys2Proof.Machine

/-! ### Bytes -/

/-- The `n` low bytes of a number, least significant first. -/
def le : Nat → Nat → List Byte
  | 0, _ => []
  | n + 1, v => BitVec.ofNat 8 v :: le n (v / 256)

/-- The number a little-endian byte list spells. -/
def unle : List Byte → Nat
  | [] => 0
  | b :: t => b.toNat + 256 * unle t

/-- `n` bytes at an offset. -/
def slice {α : Type} (l : List α) (off n : Nat) : List α := (l.drop off).take n

/-- A byte list cut or filled with zeros to `n` bytes. -/
def padTo (n : Nat) (l : List Byte) : List Byte := (l ++ List.replicate n 0).take n

/-- The bytes of an ASCII string. -/
def ascii (t : String) : List Byte := t.toList.map fun c => BitVec.ofNat 8 c.toNat

/-- Write bytes over a list of chunks keyed by offset, and read the whole back. -/
def assemble (len : Nat) (chunks : List (Nat × List Byte)) : List Byte :=
  chunks.foldl (fun img (off, d) => (img.take off ++ d ++ img.drop (off + d.length)).take len) (List.replicate len 0)

/-! ### CRC-32C (R61) -/

def crcStep : Nat → Nat → Nat
  | 0, c => c
  | n + 1, c => crcStep n (if c % 2 = 1 then (c / 2) ^^^ 0x82F63B78 else c / 2)

/-- CRC-32C: Castagnoli polynomial, initial value 0xFFFF_FFFF, final complement. -/
def crc32c (bs : List Byte) : Nat :=
  0xFFFFFFFF ^^^ bs.foldl (fun c b => crcStep 8 (c ^^^ b.toNat)) 0xFFFFFFFF

/-! ### Deal entries (R47) -/

end Sys2Proof.Machine

namespace Sys2Proof

open Sys2Proof.Machine (bitsOf)

def Entry.time (e : Entry) : Nat := e.w0.toNat + e.w1.toNat * 2 ^ 32
def Entry.action (e : Entry) : Nat := bitsOf e.w2.toNat 31 24
def Entry.target (e : Entry) : Nat := bitsOf e.w2.toNat 23 16
/-- MISS: false DROP, true FIRE_LATE. -/
def Entry.miss (e : Entry) : Bool := bitsOf e.w2.toNat 15 15 == 1
def Entry.notify (e : Entry) : Bool := bitsOf e.w2.toNat 14 14 == 1
def Entry.reps (e : Entry) : Nat := bitsOf e.w2.toNat 11 0
def Entry.arg (e : Entry) : Nat := e.w3.toNat
def Entry.period (e : Entry) : Nat := e.w4.toNat
def Entry.tag (e : Entry) : Nat := bitsOf e.w5.toNat 15 0
def Entry.reservedOk (e : Entry) : Bool := bitsOf e.w2.toNat 13 12 == 0 && bitsOf e.w5.toNat 31 16 == 0

end Sys2Proof

namespace Sys2Proof.Machine

/-! ### Handles: generation in [15:8], slot in [7:0] -/

def handleOf (gen slot : Nat) : Nat := gen % 256 * 256 + slot
def handleSlot (h : Nat) : Nat := h % 256
def handleGen (h : Nat) : Nat := h / 256 % 256

/-! ### Timecode labels (R40, R41) -/

/-- Nominal frames per second of a RATE code (R41). -/
def tcRate (code : Nat) : Nat := [24, 25, 30, 48, 50, 60].getD code 24

/-- The timecode frame period in ticks (R40): a whole number at every setting of R41. -/
def tcPeriod (code : Nat) (pulldown : Bool) : Nat := (if pulldown then 300300000 else 300000000) / tcRate code

def bcdByte (b : Nat) : Option Nat := if b / 16 < 10 ∧ b % 16 < 10 then some (b / 16 * 10 + b % 16) else none

/-- Hours, minutes, seconds and frames of a BCD label. -/
def labelParts (l : Nat) : Option (Nat × Nat × Nat × Nat) := do
  let h ← bcdByte (bitsOf l 31 24)
  let m ← bcdByte (bitsOf l 23 16)
  let s ← bcdByte (bitsOf l 15 8)
  let f ← bcdByte (bitsOf l 7 0)
  return (h, m, s, f)

/-- PRESUMED: drop-frame numbering of ST 12-1 skips the first 2 labels of a minute at 30, the first 4 at 60, except in
every tenth minute (log 13). -/
def dropCount (rate : Nat) : Nat := rate / 15

/-- Whether a label is valid at a configuration (R41). -/
def labelValid (rate : Nat) (drop : Bool) (l : Nat) : Bool :=
  match labelParts l with
  | none => false
  | some (h, m, s, f) =>
    h < 24 && m < 60 && s < 60 && f < rate && !(drop && s == 0 && f < dropCount rate && m % 10 != 0)

/-- A label as a frame count at a configuration (R40). -/
def labelFrames (rate : Nat) (drop : Bool) (l : Nat) : Nat :=
  match labelParts l with
  | none => 0
  | some (h, m, s, f) =>
    let mins := h * 60 + m
    let n := (mins * 60 + s) * rate + f
    if drop then n - dropCount rate * (mins - mins / 10) else n

def toBcd (n : Nat) : Nat := n / 10 % 10 * 16 + n % 10

/-- A frame count expressed as a label (R40), on the 24-hour day. -/
def framesLabel (rate : Nat) (drop : Bool) (n : Nat) : Nat :=
  let d := dropCount rate
  let n :=
    if drop then
      let per10 := rate * 600 - 9 * d
      let n := n % (per10 * 144)
      let t := n / per10
      let r := n % per10
      let k := if r < d then 0 else (r - d) / (rate * 60 - d)
      n + t * 9 * d + k * d
    else n % (rate * 86400)
  let f := n % rate
  let s := n / rate
  toBcd (s / 3600) * 2 ^ 24 + toBcd (s / 60 % 60) * 2 ^ 16 + toBcd (s % 60) * 2 ^ 8 + toBcd f

/-! ### Lists of numbers -/

/-- A value of a list of words, 0 past its end. -/
def wordAt (ws : List (BitVec 32)) (i : Nat) : Nat := (ws.getD i 0).toNat

/-- The set bits of a mask below `n`. -/
def bitList (n mask : Nat) : List Nat := (List.range n).filter fun k => mask / 2 ^ k % 2 == 1

/-- The least value of a list, `d` where it is empty. -/
def least (d : Nat) : List Nat → Nat
  | [] => d
  | [a] => a
  | a :: t => min a (least d t)

end Sys2Proof.Machine
end

