-- ==== Sys2Proof/Machine/Sha.lean ====
section
/-!
DEFINITION. SHA-256 (R267, R268, R282, R450), as FIPS 180 defines it: digests of frame units, chains, markers and attestations.
-/
namespace Sys2Proof.Machine

/-- The largest number below `r + 2 ^ bits` whose `k`th power is at most `n`, found bit by bit from `r`. -/
def rootFrom (k n : Nat) : Nat → Nat → Nat
  | 0, r => r
  | b + 1, r => rootFrom k n b (if (r + 2 ^ b) ^ k ≤ n then r + 2 ^ b else r)

/-- The first 32 bits of the fraction of the `k`th root of `p`: the root of `p` scaled by 2 ^ 32, without its whole part. -/
def rootFraction (k p : Nat) : BitVec 32 := BitVec.ofNat 32 (rootFrom k (p * 2 ^ (32 * k)) 40 0)

/-- The first 64 primes: all below 312, which is below 18 · 18, so that trial division up to 17 finds them. -/
def shaPrimes : List Nat := (List.range 312).filter fun n => 2 ≤ n ∧ (List.range 18).all fun d => d < 2 || d == n || n % d != 0

/-- The round constants: the fractions of the cube roots of the primes. -/
def shaK : List (BitVec 32) := shaPrimes.map (rootFraction 3)

/-- The initial hash value: the fractions of the square roots of the first eight. -/
def shaInit : List (BitVec 32) := (shaPrimes.take 8).map (rootFraction 2)

/-- The message schedule, newest word first, extended to 64 words. -/
def shaExtend : Nat → List (BitVec 32) → List (BitVec 32)
  | 0, w => w
  | n + 1, w =>
    let g := fun i => w.getD (i - 1) (0 : BitVec 32)
    let s0 := (g 15).rotateRight 7 ^^^ (g 15).rotateRight 18 ^^^ (g 15 >>> 3)
    let s1 := (g 2).rotateRight 17 ^^^ (g 2).rotateRight 19 ^^^ (g 2 >>> 10)
    shaExtend n ((g 16 + s0 + g 7 + s1) :: w)

/-- One round on the working variables a … h. -/
def shaRound (v : List (BitVec 32)) (k w : BitVec 32) : List (BitVec 32) :=
  match v with
  | [a, b, c, d, e, f, g, h] =>
    let t1 := h + (e.rotateRight 6 ^^^ e.rotateRight 11 ^^^ e.rotateRight 25) + ((e &&& f) ^^^ (~~~e &&& g)) + k + w
    let t2 := (a.rotateRight 2 ^^^ a.rotateRight 13 ^^^ a.rotateRight 22) + ((a &&& b) ^^^ (a &&& c) ^^^ (b &&& c))
    [t1 + t2, a, b, c, d + t1, e, f, g]
  | _ => v

/-- A big-endian word of four bytes. -/
def beWord (bs : List Byte) : BitVec 32 := bs.foldl (fun w b => w * 256 + b.setWidth 32) 0

/-- The words of a block, oldest first. -/
def beWords : Nat → List Byte → List (BitVec 32)
  | 0, _ => []
  | n + 1, bs => beWord (bs.take 4) :: beWords n (bs.drop 4)

/-- One 64-byte block. -/
def shaBlock (hash : List (BitVec 32)) (block : List Byte) : List (BitVec 32) :=
  let w := (shaExtend 48 (beWords 16 block).reverse).reverse
  let v := (shaK.zip w).foldl (fun v p => shaRound v p.1 p.2) hash
  (hash.zip v).map fun p => p.1 + p.2

def shaBlocks : Nat → List (BitVec 32) → List Byte → List (BitVec 32)
  | 0, h, _ => h
  | n + 1, h, bs => shaBlocks n (shaBlock h (bs.take 64)) (bs.drop 64)

/-- The message with its padding and length. -/
def shaPad (bs : List Byte) : List Byte :=
  bs ++ [0x80] ++ List.replicate ((119 - bs.length % 64) % 64) 0 ++ (le 8 (bs.length * 8)).reverse

/-- SHA-256 of a byte string. -/
def sha256 (bs : List Byte) : List Byte :=
  let m := shaPad bs
  (shaBlocks (m.length / 64) shaInit m).flatMap fun w => (le 4 w.toNat).reverse

end Sys2Proof.Machine
end

