-- ==== Sys2Proof/Machine/Ecdsa.lean ====
section
/-!
DEFINITION. ECDSA on the curve P-256 (R282, R450; FIPS 186, SP 800-186): the public key of a private key, a signature, its
verification.
-/
namespace Sys2Proof.Machine

/-! ### The field and the curve -/

/-- The prime of the field. -/
def fieldPrime : Nat := 2 ^ 256 - 2 ^ 224 + 2 ^ 192 + 2 ^ 96 - 1

/-- The order of the base point. -/
def groupOrder : Nat := 0xFFFFFFFF00000000FFFFFFFFFFFFFFFFBCE6FAADA7179E84F3B9CAC2FC632551

/-- `b ^ e mod m` for an exponent of at most `bits` bits. -/
def powMod (m b : Nat) : Nat → Nat → Nat
  | 0, _ => 1 % m
  | bits + 1, e =>
    let h := powMod m b bits (e / 2)
    if e % 2 = 1 then h * h % m * b % m else h * h % m

/-- The inverse modulo a prime below 2^256. -/
def invMod (m a : Nat) : Nat := powMod m a 256 (m - 2)

/-- A difference in the field. -/
def fieldSub (a b : Nat) : Nat := (a + fieldPrime - b % fieldPrime) % fieldPrime

/-- A point of the curve; none is the point at infinity. -/
abbrev CurvePoint := Option (Nat × Nat)

def basePoint : CurvePoint := some (
  0x6B17D1F2E12C4247F8BCE6E563A440F277037D812DEB33A0F4A13945D898C296,
  0x4FE342E2FE1A7F9B8EE7EB4A7C0F9E162BCE33576B315ECECBB6406837BF51F5)

/-- The third point on the line of slope `l` through a point at `x`, `y` and one at `x2`, mirrored. -/
def alongSlope (l x y x2 : Nat) : CurvePoint :=
  let x3 := fieldSub (fieldSub (l * l) x) x2
  some (x3, fieldSub (l * fieldSub x x3) y)

def addPoints : CurvePoint → CurvePoint → CurvePoint
  | none, q => q
  | p, none => p
  | some (x1, y1), some (x2, y2) =>
    if x1 ≠ x2 then alongSlope (fieldSub y2 y1 * invMod fieldPrime (fieldSub x2 x1) % fieldPrime) x1 y1 x2
    else if (y1 + y2) % fieldPrime = 0 then none
    else alongSlope (fieldSub (3 * x1 * x1) 3 * invMod fieldPrime (2 * y1) % fieldPrime) x1 y1 x1

/-- A multiple of a point, by a factor of at most `bits` bits. -/
def mulPoint (p : CurvePoint) : Nat → Nat → CurvePoint
  | 0, _ => none
  | bits + 1, k =>
    let h := mulPoint p bits (k / 2)
    if k % 2 = 1 then addPoints (addPoints h h) p else addPoints h h

/-! ### Keys and signatures -/

/-- A number as bytes, the highest first. -/
def bigEndian (n v : Nat) : List Byte := (le n v).reverse

def unBigEndian (bs : List Byte) : Nat := unle bs.reverse

/-- A key or a random number lies in 1 … n − 1. -/
def inGroup (v : Nat) : Nat := v % (groupOrder - 1) + 1

/-- The public key of a slot, as an uncompressed point (R449; the private key is free, log 50). -/
def publicKey (slot : Nat) : List Byte :=
  let p := (mulPoint basePoint 256 (inGroup (Config.privateKey slot))).getD (0, 0)
  4 :: (bigEndian 32 p.1 ++ bigEndian 32 p.2)

/-- r and s of a digest under a private key and a random number. -/
def signWith (d k : Nat) (digest : List Byte) : Nat × Nat :=
  let r := ((mulPoint basePoint 256 k).getD (0, 0)).1 % groupOrder
  (r, invMod groupOrder k * (unBigEndian digest + r * d) % groupOrder)

/-- The first of a run of random numbers whose r and s are not 0. -/
def signTries (d fresh : Nat) (digest : List Byte) : Nat → Nat × Nat
  | 0 => signWith d (inGroup (Config.signRandom fresh 0)) digest
  | n + 1 =>
    let p := signWith d (inGroup (Config.signRandom fresh (n + 1))) digest
    if p.1 = 0 ∨ p.2 = 0 then signTries d fresh digest n else p

/-- The signature made with a key slot over a digest: r, then s, each big-endian (R282, R450). -/
def ecdsaSign (fresh slot : Nat) (digest : List Byte) : List Byte :=
  let p := signTries (inGroup (Config.privateKey slot)) fresh digest 16
  bigEndian 32 p.1 ++ bigEndian 32 p.2

/-- A signature holds for a digest under an uncompressed public key (R282). -/
def ecdsaVerify (key digest signature : List Byte) : Bool :=
  let q : CurvePoint := some (unBigEndian (slice key 1 32), unBigEndian (slice key 33 32))
  let r := unBigEndian (signature.take 32)
  let s := unBigEndian (slice signature 32 32)
  let w := invMod groupOrder s
  let at_ := addPoints (mulPoint basePoint 256 (unBigEndian digest * w % groupOrder)) (mulPoint q 256 (r * w % groupOrder))
  decide (0 < r ∧ r < groupOrder ∧ 0 < s ∧ s < groupOrder) && at_.any fun p => p.1 % groupOrder == r

end Sys2Proof.Machine
end

