-- ==== Sys2Proof/Machine/Mag.lean ====
section
/-!
DEFINITION. A magazine (R258 … R263, R267, R287): stripes and the map, the journal's pages, the directory, runs, essence and index
sequences, index entries and the frame chain.
-/
namespace Sys2Proof.Machine

/-! ### Granules (R258, R260, R287) -/

/-- Bytes in a granule, and in a stripe. -/
def granuleBytes : Nat := 2097152

/-- The PSN of a granule that is not mapped (R262). -/
def unmapped : Nat := 0xFFFFFFFF

/-- The contents of a stripe. -/
def Mag.stripe (m : Mag) (psn : Nat) : List Byte := padTo granuleBytes (((tget m.stripes psn).map (·.data)).getD [])

/-- A granule's contents as last committed; one that no map entry names reads as zeros. -/
def Mag.granule (m : Mag) (g : Nat) : List Byte := ((tget m.map g).map m.stripe).getD (List.replicate granuleBytes 0)

/-- The stripe of a granule once every MAP entry that waits is committed: of the newest of them, else of the map. -/
def Mag.newest (m : Mag) (g : Nat) : Option Nat :=
  (m.page ++ m.ready).foldl (fun r e => match e with
    | .map h p => if h = g then (if p = unmapped then none else some p) else r
    | _ => r) (tget m.map g)

/-- What a granule holds once every MAP entry that waits is committed. -/
def Mag.view (m : Mag) (g : Nat) : List Byte := ((m.newest g).map m.stripe).getD (List.replicate granuleBytes 0)

/-- Bytes of the user space from a position on. -/
def Mag.readAt (m : Mag) (pos n : Nat) : List Byte :=
  slice ((List.range ((pos % granuleBytes + n + granuleBytes - 1) / granuleBytes)).flatMap fun k => m.granule (pos / granuleBytes + k))
    (pos % granuleBytes) n

/-- Bytes put over others from an offset on. -/
def overlay (old : List Byte) (off : Nat) (bs : List Byte) : List Byte := old.take off ++ bs ++ old.drop (off + bs.length)

/-- Where the bytes of a sequence lie: pieces of `(granule, offset, bytes)`, one for each granule the bytes touch. -/
def pieces (at_ : Nat → Option Nat) (off : Nat) (bs : List Byte) : List (Nat × Nat × List Byte) :=
  let first := off / granuleBytes
  (List.range ((off % granuleBytes + bs.length + granuleBytes - 1) / granuleBytes)).filterMap fun k =>
    let lo := if k = 0 then off % granuleBytes else 0
    let skip := if k = 0 then 0 else k * granuleBytes - off % granuleBytes
    (at_ (first + k)).map fun g => (g, lo, (bs.drop skip).take (granuleBytes - lo))

/-! ### Superblocks and stripes (R258, R259, R262, R279) -/

/-- The superblocks a label names, its own two among them (R259). -/
def labelRoles (l : Label) : List Nat := [0, 1] ++ l.slots ++ l.ring ++ [l.lastResort]

/-- Granules that a superblock's stripes hold, or will once every MAP entry that waits is committed. -/
def Mag.valid (m : Mag) (sb : Nat) : List (Nat × Nat) :=
  (m.map ++ (m.page ++ m.ready).filterMap fun e => match e with
    | .map g p => if p = unmapped then none else some (g, p)
    | _ => none).filter fun p => p.2 / 32 == sb

/-- The erase count of a superblock. -/
def Mag.eraseCount (m : Mag) (sb : Nat) : Nat := m.erasedAll + tgetD 0 m.erases sb

/-- Superblocks that may be written next: neither of a role of the label nor retired, and no valid stripe in them. -/
def Mag.freeBlocks (m : Mag) : List Nat :=
  match m.label with
  | none => []
  | some l => (List.range l.total).filter fun b => !(labelRoles l).contains b && !m.retired.contains b && (m.valid b).isEmpty

/-- The free superblock with the lowest erase count (R279); which of several is free (log 51). -/
def Mag.nextBlock (m : Mag) (fresh : Nat) : Option Nat :=
  let low := m.freeBlocks.foldl (fun a b => min a (m.eraseCount b)) (m.eraseCount (m.freeBlocks.headD 0))
  let best := m.freeBlocks.filter fun b => m.eraseCount b == low
  best[Config.superblockPick fresh m.writeSeq % best.length]?

/-- A superblock is taken for writing, erased first if it has been programmed since its last erase (R258, R262). -/
def Mag.fill (m : Mag) (sb : Nat) : Mag :=
  if m.stripes.any fun p => p.1 / 32 == sb then
    let m := { m with stripes := m.stripes.filter (fun p => p.1 / 32 != sb), erases := tmod 0 m.erases sb (· + 1), filling := some (sb, 0) }
    { m with ready := m.ready ++ [.erase sb (m.eraseCount sb)] }
  else { m with filling := some (sb, 0) }

/-- The superblock being filled has a stripe left, or the next one is taken; none where no superblock is free. -/
def Mag.prepare (m : Mag) (fresh : Nat) : Option Mag :=
  if m.filling.any fun f => decide (f.2 < 32) then some m
  else ((({ m with filling := none } : Mag).nextBlock fresh).map m.fill)

/-- A stripe is programmed with a granule's new contents and the next write sequence (R258, R261). -/
def Mag.program (m : Mag) (psn g : Nat) (bs : List Byte) : Mag :=
  { m with stripes := tins ⟨g, m.writeSeq, bs⟩ m.stripes psn, writeSeq := m.writeSeq + 1 }

/-- Bytes of a granule are programmed with the rest of it into the next stripe in index order, and the MAP entry is ready (R262). -/
def Mag.place (fresh : Nat) (m : Mag) (p : Nat × Nat × List Byte) : Option Mag :=
  (m.prepare fresh).bind fun m => m.filling.map fun (sb, i) =>
    let m := (m.program (sb * 32 + i) p.1 (overlay (m.view p.1) p.2.1 p.2.2))
    { m with filling := some (sb, i + 1), ready := m.ready ++ [.map p.1 (sb * 32 + i)] }

/-- A place in the last-resort superblock: its next unprogrammed stripe (R281). -/
def Mag.placeLast (m : Mag) (p : Nat × Nat × List Byte) : Option Mag :=
  m.label.map fun l =>
    let psn := l.lastResort * 32 + (m.stripes.filter fun q => q.1 / 32 == l.lastResort).length
    let m := m.program psn p.1 (overlay (m.view p.1) p.2.1 p.2.2)
    { m with ready := m.ready ++ [.map p.1 psn] }

/-- Each piece in turn, the one of number `last` in the last-resort superblock; none where no superblock is free for one of them. -/
def Mag.placeAll (m : Mag) (fresh : Nat) (last : Option Nat) (ps : List (Nat × Nat × List Byte)) : Option Mag :=
  ps.zipIdx.foldl (fun (a : Option Mag) p => a.bind fun m =>
    if last = some p.2 then m.placeLast p.1 else m.place fresh p.1) (some m)

/-- The effect of a MAP entry on the map (R262). -/
def Mag.setMap (m : Mag) (g p : Nat) : Mag := { m with map := if p = unmapped then tdel m.map g else tins p m.map g }

/-- A granule's bytes are programmed and mapped at once, as at mount, where the checkpoint at its end holds the map (R276). -/
def Mag.store (fresh : Nat) (m : Mag) (p : Nat × Nat × List Byte) : Mag :=
  match (m.place fresh p).bind fun k => k.filling.map (k, ·) with
  | none => m
  | some (k, sb, i) => { k.setMap p.1 (sb * 32 + i - 1) with ready := m.ready }

/-- A stripe of a superblock that is retired or holds some invalid stripes, with no MAP entry waiting for its granule, may be
relocated (R279). -/
def Mag.movable (m : Mag) : List (Nat × Nat) :=
  m.map.filter fun p => m.newest p.1 == some p.2 && m.filling.all (fun f => f.1 != p.2 / 32) &&
    (m.retired.contains (p.2 / 32) || decide ((m.map.filter fun q => q.2 / 32 == p.2 / 32).length < 32))

/-! ### Journal pages (R262) -/

/-- An entry as bytes: 32, and the 1,024 of a close entry after its own. -/
def JEntry.bytes : JEntry → List Byte
  | .map g p => padTo 32 (le 4 1 ++ le 4 g ++ le 4 p)
  | .commit e num essence index => padTo 32 (le 4 2 ++ le 4 e ++ le 4 num ++ le 8 essence ++ le 4 index)
  | .close e r => padTo 32 (le 4 3 ++ le 4 e) ++ padTo 1024 r
  | .retire b cause => padTo 32 (le 4 4 ++ le 4 b ++ le 1 cause)
  | .erase b n => padTo 32 (le 4 5 ++ le 4 b ++ le 4 n)

/-- Bytes of a journal page, and pages of the ring's eight superblocks (R258, R259, R262). -/
def pageBytes : Nat := 65536
def ringPages : Nat := 8192

/-- A page: its header, whose fields before the CRC stand in the rule's order (log 118), and its entries; the CRC is over the page
with zeros in its own place. -/
def journalPage (seq : Nat) (es : List JEntry) : List Byte :=
  let head := padTo 60 (le 2 0x4A50 ++ le 8 seq ++ le 4 es.length)
  let body := padTo (pageBytes - 64) (es.flatMap JEntry.bytes)
  head ++ le 4 (crc32c (head ++ le 4 0 ++ body)) ++ body

def parseEntries : Nat → List Byte → List JEntry
  | 0, _ => []
  | n + 1, bs =>
    let f := fun (off k : Nat) => unle (slice bs off k)
    match f 0 1 with
    | 1 => .map (f 4 4) (f 8 4) :: parseEntries n (bs.drop 32)
    | 2 => .commit (f 4 4) (f 8 4) (f 12 8) (f 20 4) :: parseEntries n (bs.drop 32)
    | 3 => .close (f 4 4) (slice bs 32 1024) :: parseEntries n (bs.drop 1056)
    | 4 => .retire (f 4 4) (f 8 1) :: parseEntries n (bs.drop 32)
    | 5 => .erase (f 4 4) (f 8 4) :: parseEntries n (bs.drop 32)
    | _ => []

/-- The entries of a page of a given sequence whose CRC matches (R276). -/
def parsePage (seq : Nat) (bs : List Byte) : Option (List JEntry) :=
  if unle (slice bs 0 2) = 0x4A50 ∧ unle (slice bs 2 8) = seq ∧ unle (slice bs 60 4) = crc32c (bs.take 60 ++ le 4 0 ++ bs.drop 64) then
    some (parseEntries (unle (slice bs 10 4)) (bs.drop 64))
  else none

/-! ### The take directory (R260) -/

def DirEntry.bytes (d : DirEntry) : List Byte :=
  padTo 32768 (padTo 16 d.takeId ++ le 1 d.state ++ le 1 d.stream ++ le 1 d.profile ++ le 1 d.flags ++ le 4 d.frames ++
    le 8 d.essenceBytes ++ le 2 d.essence.length ++ le 2 d.index.length ++ List.replicate 28 0 ++
    (d.essence ++ d.index).flatMap fun r => le 4 r.1 ++ le 4 r.2)

def parseRuns (n off : Nat) (bs : List Byte) : List (Nat × Nat) :=
  (List.range n).map fun i => (unle (slice bs (off + 8 * i) 4), unle (slice bs (off + 8 * i + 4) 4))

def parseDir (bs : List Byte) : DirEntry :=
  let f := fun (off n : Nat) => unle (slice bs off n)
  let a := min 4088 (f 32 2)
  let b := min (4088 - a) (f 34 2)
  ⟨slice bs 0 16, f 16 1, f 17 1, f 18 1, f 19 1, f 20 4, f 24 8, parseRuns a 64 bs, parseRuns b (64 + 8 * a) bs⟩

/-- Bytes of entry `e`: as the controller holds it where it differs from the directory granules, else as they hold it. -/
def Mag.dirBytes (m : Mag) (e : Nat) : List Byte :=
  match tget m.live e with
  | some d => d.bytes
  | none => m.readAt (e * 32768) 32768

/-- Entry `e` of the directory in granules 0 … 63. -/
def Mag.dir (m : Mag) (e : Nat) : DirEntry := (tget m.live e).getD (parseDir (m.readAt (e * 32768) 32768))

/-- The controller's entry changes; the granule follows once it is programmed. -/
def Mag.putDir (m : Mag) (e : Nat) (d : DirEntry) : Mag := { m with live := tins d m.live e }

/-- Where entry `e` lies among the directory's granules. -/
def DirEntry.piece (d : DirEntry) (e : Nat) : Nat × Nat × List Byte := (e / 64, e % 64 * 32768, d.bytes)

/-- An entry closed by its CLOSE record, bytes 20 … 23 and 97 of it (R260, R267). -/
def closeDir (d : DirEntry) (record : List Byte) : DirEntry :=
  { d with state := 2, flags := unle (slice record 97 1), frames := unle (slice record 20 4) }

/-- The magazine's serial number: its label's, else what DISCOVER gave. -/
def Mag.name (m : Mag) : List Byte := (m.label.map (·.serial)).getD m.serial

/-- A free entry. -/
def freeDir : DirEntry := ⟨List.replicate 16 0, 0, 0, 0, 0, 0, 0, [], []⟩

/-- Entries that hold a take. -/
def Mag.dirUsed (m : Mag) : List Nat := (List.range 4096).filter fun e => (m.dir e).state != 0

/-! ### Runs (R260) -/

/-- The granule that holds granule number `k` of a sequence. -/
def runAt : List (Nat × Nat) → Nat → Option Nat
  | [], _ => none
  | (a, n) :: t, k => if k < n then some (a + k) else runAt t (k - n)

def runGranules (rs : List (Nat × Nat)) : Nat := (rs.map (·.2)).foldl (· + ·) 0

/-- Every granule of a list of runs. -/
def runList (rs : List (Nat × Nat)) : List Nat := rs.flatMap fun r => (List.range r.2).map (r.1 + ·)

/-- A free extent less a run. -/
def cutExtent (r e : Nat × Nat) : List (Nat × Nat) :=
  if r.1 + r.2 ≤ e.1 ∨ e.1 + e.2 ≤ r.1 then [e] else
  (if e.1 < r.1 then [(e.1, r.1 - e.1)] else []) ++
  (if r.1 + r.2 < e.1 + e.2 then [(r.1 + r.2, e.1 + e.2 - (r.1 + r.2))] else [])

/-- The free extents of a magazine of `user` superblocks: what the directory's granules and no take hold. -/
def Mag.freeExtents (m : Mag) (user : Nat) : List (Nat × Nat) :=
  let runs := m.dirUsed.flatMap fun e => (m.dir e).essence ++ (m.dir e).index
  runs.foldl (fun es r => es.flatMap (cutExtent r)) (if 64 < 32 * user then [(64, 32 * user - 64)] else [])

/-- One more granule for a sequence: the next one where it is free, else a new run from the start of the largest free extent (R260); which
of two equal ones is free (log 52). -/
def growOne (fresh : Nat) (runs ex : List (Nat × Nat)) : Option (List (Nat × Nat) × List (Nat × Nat)) :=
  let next := runs.getLast?.filter fun r => ex.any fun e => decide (e.1 ≤ r.1 + r.2 ∧ r.1 + r.2 < e.1 + e.2)
  match next with
  | some r => some (runs.dropLast ++ [(r.1, r.2 + 1)], ex.flatMap (cutExtent (r.1 + r.2, 1)))
  | none =>
    let size := ex.foldl (fun n e => max n e.2) 0
    let best := ex.filter fun e => e.2 == size
    (best[Config.extentPick fresh % best.length]?).map fun e => (runs ++ [(e.1, 1)], ex.flatMap (cutExtent (e.1, 1)))

def grow (fresh : Nat) : Nat → List (Nat × Nat) × List (Nat × Nat) → Option (List (Nat × Nat) × List (Nat × Nat))
  | 0, p => some p
  | n + 1, p => (growOne (fresh + n) p.1 p.2).bind (grow fresh n)

/-- The granules a sequence of `bytes` bytes needs. -/
def granulesFor (bytes : Nat) : Nat := (bytes + granuleBytes - 1) / granuleBytes

/-- Bytes of a sequence. -/
def Mag.readSeq (m : Mag) (runs : List (Nat × Nat)) (off n : Nat) : List Byte :=
  let first := off / granuleBytes
  slice ((List.range ((off % granuleBytes + n + granuleBytes - 1) / granuleBytes)).flatMap fun k =>
    ((runAt runs (first + k)).map m.granule).getD (List.replicate granuleBytes 0)) (off % granuleBytes) n

/-- The codewords of 4 KiB of a list of bytes that begins at `unit` codewords into a granule, where the granule is mapped: as read, and
whether a code of them failed (R261). -/
def Mag.damage (m : Mag) (fresh g unit : Nat) (bs : List Byte) : List Byte × Bool :=
  match tget m.map g with
  | none => (bs, false)
  | some p => (Config.ldpcFailure fresh p unit).elim (bs, false) fun r => (padTo bs.length r, true)

/-- Bytes `off` … of a granule as a reader gets them, codeword by codeword, and whether one failed its LDPC code (R261; log 117). -/
def Mag.readGranule (m : Mag) (fresh g off n : Nat) : List Byte × Bool :=
  let first := off / 4096
  let words := (List.range ((off % 4096 + n + 4095) / 4096)).map fun k => m.damage fresh g (first + k) (slice (m.granule g) ((first + k) * 4096) 4096)
  (slice (words.flatMap (·.1)) (off % 4096) n, words.any (·.2))

/-- Bytes of a sequence as a reader gets them (R261). -/
def Mag.fetch (m : Mag) (fresh : Nat) (runs : List (Nat × Nat)) (off n : Nat) : List Byte × Bool :=
  let parts := (pieces (fun k => some ((runAt runs k).getD unmapped)) off (List.replicate n 0)).map fun p =>
    m.readGranule fresh p.1 p.2.1 p.2.2.length
  (parts.flatMap (·.1), parts.any (·.2))

/-! ### Index entries and the chain (R267, R268, R282) -/

/-- A 1,024-byte index entry with the body of bytes 4 on. -/
def indexEntry (kind : Nat) (body : List Byte) : List Byte :=
  let b := padTo 1020 (le 2 0x4D43 ++ [1] ++ le 1 kind ++ body)
  b ++ le 4 (crc32c b)

def entryKind (e : List Byte) : Nat := unle (slice e 3 1)

/-- Whether an entry carries its MAGIC and VERSION. -/
def entryMade (e : List Byte) : Bool := decide (slice e 0 3 = [0x43, 0x4D, 1])

/-- Index entries of a take, in order. -/
def Mag.indexOf (m : Mag) (d : DirEntry) : List (List Byte) :=
  ((List.range (runGranules d.index * 2048)).map fun i => m.readSeq d.index (i * 1024) 1024).takeWhile entryMade

def Mag.frameEntries (m : Mag) (d : DirEntry) : List (List Byte) := (m.indexOf d).filter fun e => entryKind e == 2

/-- Frame unit `i` of a take as its SOF and bytes as read: for playback a failed LDPC code leaves the damage to the decoder (R241, R261,
R284). -/
def Mag.frameUnit (m : Mag) (fresh e i : Nat) : Option (Nat × List Byte) :=
  let d := m.dir e
  ((m.frameEntries d)[i]?).map fun x =>
    (unle (slice x 8 8), (m.fetch fresh d.essence (unle (slice x 16 8)) (unle (slice x 24 4))).1)

/-- C0 from bytes 4 … 55 of the HEADER entry; Ci from the chain before and the FRAME entry's bytes (R268). -/
def chain0 (header : List Byte) : List Byte := sha256 header
def chainNext (c entry : List Byte) : List Byte := sha256 (c ++ slice entry 4 24 ++ slice entry 32 32 ++ slice entry 96 896)

/-- The FRAME entry of a frame; its CHAIN follows from its own bytes. -/
def frameEntry (c : List Byte) (num sof offset bytes flags : Nat) (unit record : List Byte) : List Byte :=
  let head := le 4 num ++ le 8 sof ++ le 8 offset ++ le 4 bytes ++ le 4 flags ++ sha256 unit
  let tail := padTo 896 record
  let chain := chainNext c (indexEntry 2 (head ++ List.replicate 32 0 ++ tail))
  indexEntry 2 (head ++ chain ++ tail)

/-- The CLOSE entry: signed with the module key over SHA-256 of its bytes 4 … 99 where `key` holds (R267, R282). -/
def closeEntry (fresh : Nat) (key : Bool) (takeId : List Byte) (frames first last : Nat) (chain marks : List Byte) (reason flags : Nat) :
    List Byte :=
  let body := padTo 16 takeId ++ le 4 frames ++ le 4 first ++ le 4 last ++ padTo 32 chain ++ sha256 marks ++ le 1 reason ++
    le 1 (if key then flags ||| 8 else flags) ++ [0, 0]
  let sig := if key then ecdsaSign fresh 0 (sha256 body) else []
  indexEntry 4 (body ++ sig)

/-! ### A reader's verification (R282) -/

/-- The chain over FRAME entries in index order: each unit's digest and each CHAIN hold. -/
def chainHolds (essence : List Byte) : List Byte → List (List Byte) → Option (List Byte)
  | c, [] => some c
  | c, x :: t =>
    let n := chainNext c x
    if sha256 (slice essence (unle (slice x 16 8)) (unle (slice x 24 4))) = slice x 32 32 ∧ n = slice x 64 32 then chainHolds essence n t else none

/-- The procedure by which a reader verifies a take from its essence and index with the recording module's public key. -/
def takeVerifies (key essence : List Byte) (index : List (List Byte)) : Bool :=
  let ofKind := fun k => index.filter fun x => entryKind x == k
  let close := (index.getLast?).getD []
  index.all (fun x => unle (slice x 1020 4) == crc32c (x.take 1020)) && entryKind (index.headD []) == 1 && entryKind close == 4 &&
    chainHolds essence (chain0 (slice (index.headD []) 4 52)) (ofKind 2) == some (slice close 32 32) &&
    slice close 64 32 == sha256 ((ofKind 3).flatMap fun x => slice x 4 16) &&
    ecdsaVerify key (sha256 (slice close 4 96)) (slice close 100 64)

end Sys2Proof.Machine
end

