-- ==== Sys2Proof/Machine/Frac.lean ====
section
/-!
DEFINITION. Exact fractions for the data path's arithmetic, and base-2 logarithm and power in 2^-64 fixed point.
-/
namespace Sys2Proof.Machine

/-- A fraction num / den with den positive, in lowest terms. -/
structure Frac where
  num : Int
  den : Nat
deriving DecidableEq, Repr

/-- num / den in lowest terms; 0 where den is 0. -/
def Frac.mk' (num : Int) (den : Nat) : Frac :=
  if den = 0 then ⟨0, 1⟩ else
  let g := Nat.gcd num.natAbs den
  if g = 0 then ⟨0, 1⟩ else ⟨num / (g : Int), den / g⟩

def Frac.ofInt (n : Int) : Frac := ⟨n, 1⟩
def Frac.zero : Frac := ⟨0, 1⟩
def Frac.one : Frac := ⟨1, 1⟩
def Frac.add (a b : Frac) : Frac := .mk' (a.num * b.den + b.num * a.den) (a.den * b.den)
def Frac.sub (a b : Frac) : Frac := .mk' (a.num * b.den - b.num * a.den) (a.den * b.den)
def Frac.mul (a b : Frac) : Frac := .mk' (a.num * b.num) (a.den * b.den)
/-- a / b; 0 where b is 0. -/
def Frac.div (a b : Frac) : Frac :=
  if b.num = 0 then .zero
  else if 0 < b.num then .mk' (a.num * b.den) (a.den * b.num.natAbs)
  else .mk' (-(a.num * b.den)) (a.den * b.num.natAbs)
def Frac.neg (a : Frac) : Frac := ⟨-a.num, a.den⟩
def Frac.abs (a : Frac) : Frac := ⟨a.num.natAbs, a.den⟩
def Frac.lt (a b : Frac) : Bool := decide (a.num * b.den < b.num * a.den)
def Frac.le (a b : Frac) : Bool := decide (a.num * b.den ≤ b.num * a.den)
def Frac.max (a b : Frac) : Frac := if a.lt b then b else a
def Frac.min (a b : Frac) : Frac := if b.lt a then b else a
def Frac.clamp (lo hi a : Frac) : Frac := (a.max lo).min hi
def Frac.floor (a : Frac) : Int := a.num / a.den
def Frac.isInt (a : Frac) : Bool := a.den == 1
def Frac.sum (l : List Frac) : Frac := l.foldl .add .zero
/-- a × 2^k. -/
def Frac.scale (a : Frac) (k : Int) : Frac :=
  if 0 ≤ k then .mk' (a.num * 2 ^ k.toNat) a.den else .mk' a.num (a.den * 2 ^ (-k).toNat)

/-! ### Logarithm and power (fixed point, 64 fraction bits) -/

/-- `n` further fraction bits of log2 of x / 2^64 in [1, 2), by repeated squaring. -/
def logBits : Nat → Nat → Nat → Nat
  | 0, _, acc => acc
  | n + 1, x, acc =>
    let y := x * x / 2 ^ 64
    if 2 ^ 65 ≤ y then logBits n (y / 2) (acc * 2 + 1) else logBits n y (acc * 2)

/-- log2 of a positive fraction, to about 2^-50; 0 for the rest. -/
def Frac.log2 (a : Frac) : Frac :=
  if a.num ≤ 0 then .zero else
  let n := a.num.toNat
  let e : Int := (Nat.log2 n : Int) - (Nat.log2 a.den : Int)
  let e := if (Frac.scale .one e).le a then e else e - 1
  let m := ((a.scale (-e)).scale 64).floor.toNat
  (Frac.ofInt e).add (.mk' (logBits 64 m 0) (2 ^ 64))

/-- ln 2 in 64 fraction bits. -/
def ln2Fixed : Nat := 0xB17217F7D1CF79AC

def expTerms : Nat → Nat → Nat → Nat → Nat
  | 0, _, _, _ => 0
  | n + 1, x, k, t =>
    let t' := t * x / 2 ^ 64 / k
    t' + expTerms n x (k + 1) t'

/-- 2^a, to about 2^-50 relative. -/
def Frac.exp2 (a : Frac) : Frac :=
  let e := a.floor
  let f := ((a.sub (.ofInt e)).scale 64).floor.toNat
  let x := f * ln2Fixed / 2 ^ 64
  (Frac.mk' ((2 ^ 64 + expTerms 40 x 1 (2 ^ 64) : Nat) : Int) (2 ^ 64)).scale e

/-- a^p for a positive fraction; 0 for the rest. -/
def Frac.pow (a p : Frac) : Frac := if a.num ≤ 0 then .zero else (a.log2.mul p).exp2

end Sys2Proof.Machine
end

