-- ==== Sys2Proof/Machine/Flags.lean ====
section
/-!
DEFINITION. The access codes of R12 as computations on words: what a host read returns and clears, what a host write leaves
in effect and in the shadow, 64-bit pairs with their per-host latches and pending low words (R11).
-/
namespace Sys2Proof.Machine

/-- What a host read of a register's copy returns (R12): WO fields as 0, RWS fields from the shadow; `v` is the value in
effect. -/
def State.readWord (s : State) (r : Reg) (v i j : Nat) : Nat :=
  let shown := match lastShadow s.shadows (r.addr i j) with
    | some w => mergeBits v w.toNat (r.mask (· = .rws))
    | none => v
  shown &&& r.mask (· ≠ .wo)

/-- The word a host write puts into effect at once: RW and WO fields take the value, W1C bits clear but those set on the same
tick, `kept`; others stay (R12). -/
def Reg.written (r : Reg) (old v kept : Nat) : Nat :=
  let m := mergeBits old v (r.mask fun a => a = .rw)
  let clear := m &&& v &&& r.mask (· = .w1c)
  m - (clear - (clear &&& kept))

/-- Write one word of a register that has no rule of its own: RW and W1C fields at once, RWS fields to the shadow of
`u`, or at once where the unit is not running and its chapter says so (`u = none`, R14), in place of a write kept from before. -/
def State.writeWord (s : State) (u : Option CUnit) (r : Reg) (v i j : Nat) : State :=
  let s := s.wr r (r.written (s.rd r i j) v (s.raisedBits (r.addr i j))) i j
  let rws := r.mask (· = .rws)
  if rws = 0 then s else
  match u with
  | some u => s.shadowWr u r v i j
  | none => { s.wr r (mergeBits (s.rd r i j) v rws) i j with shadows := s.shadows.filter fun x => x.addr ≠ r.addr i j }

/-- What the RC fields of a register gained on this tick: a read on it returns them as they stood before, and they keep it (R12). -/
def State.gained (s : State) (r : Reg) (i j : Nat) : Nat := s.raisedSum (r.addr i j) &&& r.mask (· = .rc)

/-- Clear the RC fields of a register after a read (R12). -/
def State.clearRc (s : State) (r : Reg) (i j : Nat) : State :=
  let m := r.mask (· = .rc)
  if m = 0 then s else s.wr r (mergeBits (s.rd r i j) (s.gained r i j) m) i j

/-- An entry of an association list. -/
def alook {α β : Type} [DecidableEq α] : List (α × β) → α → Option β
  | [], _ => none
  | (k, b) :: t, a => if k = a then some b else alook t a

/-- An association list with an entry replaced. -/
def aput {α β : Type} [DecidableEq α] (l : List (α × β)) (a : α) (b : β) : List (α × β) :=
  l.filter (fun p => p.1 ≠ a) ++ [(a, b)]

/-- An association list without an entry. -/
def adel {α β : Type} [DecidableEq α] (l : List (α × β)) (a : α) : List (α × β) := l.filter (fun p => p.1 ≠ a)

end Sys2Proof.Machine
end

