-- ==== Sys2Proof/Machine/DealQueue.lean ====
section
/-!
DEFINITION. Deal port queues (R45, R47 … R51, R55): order of due time, missed occurrences and their policy, the launch of
one entry per tick and port.
-/
namespace Sys2Proof.Machine

/-- The number of deal ports (R45). -/
def dealPorts : Nat := 96

/-- The time that orders an entry in its queue (R48). -/
def QEntry.key (e : QEntry) : Nat := (e.late.or e.due).getD 0

/-- Insert behind every entry due at or before the new one (R48). -/
def insertEntry (e : QEntry) : List QEntry → List QEntry
  | [] => [e]
  | x :: t => if x.key ≤ e.key then x :: insertEntry e t else e :: x :: t

/-- A new entry accepted on a tick: REPEAT 0 with PERIOD nonzero repeats until cancelled (R47). -/
def newEntry (e : Entry) (host now : Nat) (packet : Option Taken) : QEntry :=
  { entry := e, host := host, accepted := now, due := some e.time
    left := if e.period = 0 then some 0 else if e.reps = 0 then none else some e.reps
    late := none, packet := packet }

/-- A deal port's queue with its depth shown in DCK_PORT_STAT (R60). -/
def State.putQueue (s : State) (p : Nat) (q : List QEntry) : State :=
  (s.setQueue p q).set .DCK_PORT_STAT_DEPTH q.length p

/-- Queue an entry (R48). -/
def State.enqueue (s : State) (p : Nat) (e : QEntry) : State := s.putQueue p (insertEntry e (s.queue p))

/-- How many occurrences of an entry are missed by this tick (R49): those due by now and before the acceptance tick
plus 16, or all those due by now where the port is paused. -/
def QEntry.missed (e : QEntry) (paused : Bool) (now : Nat) : Nat :=
  match e.due with
  | none => 0
  | some d =>
    let last := if paused then now else min now (e.accepted + 15)
    if last < d then 0 else
    let n := if e.entry.period = 0 then 1 else (last - d) / e.entry.period + 1
    match e.left with
    | none => n
    | some l => min n (l + 1)

/-- The entry after `n` of its occurrences, launched or missed; none to come where REPEAT is used up. -/
def QEntry.advance (e : QEntry) (n : Nat) : QEntry :=
  match e.due, e.left with
  | some d, none => { e with due := some (d + n * e.entry.period) }
  | some d, some l =>
    if l < n then { e with due := none, left := some 0 } else { e with due := some (d + n * e.entry.period), left := some (l - n) }
  | none, _ => e

/-- The miss policy of an entry: a scheduled packet takes MISS_DEFAULT of its port (R50, R56). -/
def QEntry.fireLate (e : QEntry) (missDefault : Bool) : Bool := if e.packet.isSome then missDefault else e.entry.miss

/-- An entry after `n` missed occurrences, under its policy (R50). -/
def QEntry.afterMiss (e : QEntry) (fireLate : Bool) (n : Nat) : QEntry :=
  let a := e.advance n
  if fireLate then { a with late := e.late.or e.due } else a

/-- An entry still in the queue: an occurrence to come or one to fire late. -/
def QEntry.live (e : QEntry) : Bool := e.due.isSome || e.late.isSome

/-- Apply the miss policy to every missed occurrence of a port: the new state, and the scheduled packets dropped. -/
def State.missPort (s : State) (p : Nat) : State × List Taken :=
  let paused := s.flag .DCK_PORT_CTRL_PAUSE p
  let md := s.flag .DCK_PORT_CTRL_MISS_DEFAULT p
  let step := fun (acc : List QEntry × Nat × List Taken) (e : QEntry) =>
    let n := e.missed paused s.now
    if n = 0 then (insertEntry e acc.1, acc.2) else
    let a := e.afterMiss (e.fireLate md) n
    if a.live then (insertEntry a acc.1, acc.2.1 + n, acc.2.2)
    else (acc.1, acc.2.1 + n, acc.2.2 ++ e.packet.toList)
  let (q, n, dropped) := (s.queue p).foldl step ([], 0, [])
  if n = 0 then (s, []) else ((s.putQueue p q).bump .DCK_PORT_LATE_COUNT p n, dropped)

/-- Launch the first entry of a port whose time has been reached (R48): the entry launched and the queue after it. -/
def launchFrom (now : Nat) : List QEntry → Option (QEntry × List QEntry)
  | [] => none
  | e :: t =>
    if now < e.key then none else
    let a := { (if e.late.isSome then { e with late := none } else e.advance 1) with last := some now }
    some (e, if a.live then insertEntry a t else t)

/-- The launch of one port on this tick: the port's records, its producer where NOTIFY is set, the packet taken for
execution (R48, R55, R56, R60). -/
def State.launchPort (s : State) (p : Nat) : Option (QEntry × State) :=
  if s.flag .DCK_PORT_CTRL_PAUSE p then none else
  match launchFrom s.now (s.queue p) with
  | none => none
  | some (e, q) =>
    let s := (s.putQueue p q).set .DCK_PORT_LAUNCH_LAUNCH s.now p
    let slip : Nat := match e.late, e.due with
      | none, some d => s.now - d
      | _, _ => 0
    let s := s.tapSample (0x80 + p) slip
    let s := if s.get .DCK_PORT_STAT_SLIP_MAX p < slip then s.set .DCK_PORT_STAT_SLIP_MAX (min slip 63) p else s
    let s := { s with dck := { s.dck with
      launches := (s.dck.launches.filter fun l : Nat × Nat × Nat => l.1 == s.now) ++ [(s.now, p, e.entry.tag)] } }
    let s := { s with cpi := { s.cpi with launched := s.cpi.launched ++ e.packet.toList } }
    some (e, if e.entry.notify then s.pulse (256 + p) else s)

end Sys2Proof.Machine
end

