-- ==== Sys2Proof/Machine/Packets.lean ====
section
/-!
DEFINITION. Command packets (R61 … R72): replies and notices, the checks at acceptance, scheduling, the order in which
packets begin, completion of packets that replied ACCEPTED.
-/
namespace Sys2Proof.Machine

/-! ### Rights (R76) -/

/-- The operation classes of R76; `none` is the class "—". -/
inductive Cls where
  | observe | use | configure | assign | none
deriving DecidableEq, Repr

/-- What a right is needed on: a resource of R77, a slot's own registers, a CPI deal port (R46), H0's registers (R78). -/
inductive Target where
  | res (id : Nat)
  | slot (n : Nat)
  | cpiPort (n : Nat)
  | h0
deriving DecidableEq, Repr

/-- A right: the class on the target. -/
structure Right where
  cls : Cls
  on : Target
deriving DecidableEq, Repr

/-- The status of check 10 for one right held by the host in a slot (R65, R76). -/
def State.judge (s : State) (slot : Nat) (r : Right) : Status :=
  match r.cls with
  | .observe => .DONE
  | .none => .DONE
  | .assign => if slot = 0 then .DONE else .CPI_MASTER_ONLY
  | c =>
    let ok : Bool := match r.on with
      | .res id => let o := s.owner id; o == slot || (o == shared && (c == .use || slot == 0))
      | .slot n => n == slot
      | .cpiPort n => n == slot || slot == 0
      | .h0 => slot == 0
    if ok then .DONE else .NOT_OWNER

/-- The first failing status of a list of checks. -/
def firstFail : List Status → Status
  | [] => .DONE
  | a :: t => if a = .DONE then firstFail t else a

/-- A status where a condition fails. -/
def need (ok : Bool) (t : Status) : Status := if ok then .DONE else t

/-- Check 10 over every right an operation needs. -/
def State.judgeAll (s : State) (slot : Nat) (rs : List Right) : Status := firstFail (rs.map (s.judge slot))

/-- The resources a packet acts on (R71): those it uses, configures or assigns. -/
def actsOn (rs : List Right) : List Nat :=
  rs.filterMap fun r => match r.cls, r.on with
    | .observe, _ => none
    | .none, _ => none
    | _, .res id => some id
    | _, _ => none

/-! ### Packet meanings -/

/-- How a packet's execution ends: a DONE reply with its body, an ACCEPTED and a DONE reply on one tick, a refusal that leaves the given state,
a status that comes with a body, an ACCEPTED
reply that waits, or no reply because the session ended with it. -/
inductive Verdict where
  | done (b : Body) (s : State)
  | both (b : Body) (s : State)
  | refuse (t : Status) (s : State)
  | failed (t : Status) (b : Body) (s : State)
  | wait (k : WaitKind) (s : State)

/-- The meaning of a packet beyond its header (R65): checks 7 … 11, the resources it acts on (R71) and
what it does; the slot is the sender's. `length` is PARAM_LEN where the spec fixes it for the opcode (log 102). -/
structure Packet where
  opcode : Nat
  immediate : Bool := false
  length : Option Nat := none
  cls : Cls := .observe
  params : State → Status := fun _ => .DONE
  rights : Nat → State → List Right := fun _ _ => []
  checks : Nat → State → Status := fun _ _ => .DONE
  acts : Nat → State → List Nat := fun n s => actsOn (rights n s)
  run : Via → State → Verdict

/-- The slot of a ring; 0xFF for a mailbox (R61). -/
def slotOf : Via → Nat
  | .ring n => n.val
  | .mailbox _ => 0xFF

/-! ### Packets and replies as bytes (R61, R62) -/

/-- The header of an image and its OPCODE (R61). -/
def imageHdr (via : Via) (b : List Byte) : Hdr × Nat :=
  let f := fun (off n : Nat) => unle (slice b off n)
  let len := f 12 4
  ({ via := via, magic := BitVec.ofNat 16 (f 0 2), version := BitVec.ofNat 8 (f 2 1), slotByte := BitVec.ofNat 8 (f 3 1)
     seq := BitVec.ofNat 32 (f 4 4), flags := BitVec.ofNat 16 (f 10 2), paramLen := len, launch := BitVec.ofNat 64 (f 16 8)
     reserved := BitVec.ofNat 32 (f 24 4), crcOk := f 28 4 == crc32c (slice b 0 28 ++ slice b 32 len) }, f 8 2)

/-- The result body as bytes: whole words, at most 4,096 bytes (R62). The layout of named values is free where the spec gives none
(log 11). -/
def Body.encode (opcode : Nat) (b : Body) : List Byte :=
  let raw := (match b with
    | .empty => []
    | .values vs => Config.resultLayout opcode vs
    | .words ws => ws.flatMap (le 4)
    | .bytes bs => bs).take 4096
  raw ++ List.replicate ((4 - raw.length % 4) % 4) 0

/-- A reply as it stands in its ring slot, its mailbox or the cells of its channel: the 32-byte header of R62, then the body. -/
def Reply.bytes (r : Reply) : List Byte :=
  let body := r.body.encode r.opcode
  let head := le 2 0x5452 ++ le 1 1 ++ le 1 r.slot ++ le 4 r.seq.toNat ++ le 2 r.opcode ++ le 2 r.status.code ++ le 4 body.length ++
    le 8 r.tick ++ le 4 0
  head ++ le 4 (crc32c (head ++ body)) ++ body

/-! ### Replies and notices (R62 … R64, R67, R72) -/

/-- ATTACHED, in CPI_SLOT_STATE (R89). -/
def State.attached (s : State) (n : Nat) : Bool := s.get .CPI_SLOT_STATE_STATE n == 1

/-- TRANSPORT code of a slot's endpoint (R89). -/
def transportCode : Transport → Nat
  | .pcie => 1
  | .spi => 2
  | .draxa => 3

/-- Write a reply into slot `n`'s reply ring, or hold it while the ring is full or others are held (R67, R72). A Draxa host's reply
is sent on its channel and its indices are the TX9's (R68). The reply stands in the ring slot that RQ_TAIL names, modulo 64 (R66). -/
def State.ringReply (s : State) (n vector : Nat) (r : Reply) : State :=
  let h := s.host n
  if 64 ≤ h.replies.length ∨ !h.held.isEmpty then s.setHost n { h with held := h.held ++ [r] } else
  let tail := s.get .CPI_SLOT_RQ_TAIL_INDEX n
  let s := s.set .CPI_SLOT_RQ_TAIL_INDEX (tail + 1) n
  let s := s.setHost n { h with replies := h.replies ++ [r], rqSlots := tput [] h.rqSlots (tail % 64) r.bytes }
  if h.msi then { s with cpi := { s.cpi with msix := tmod 0 s.cpi.msix (n * 4 + vector) (· + 1) } } else s

/-- Write a reply where the packet came from; a mailbox holds one reply (R73). -/
def State.reply (s : State) (via : Via) (seq : BitVec 32) (opcode : Nat) (t : Status) (b : Body) : State :=
  let r : Reply := ⟨slotOf via, seq, opcode, t, s.now, b⟩
  match via with
  | .ring n => s.ringReply n.val 0 r
  | .mailbox e => { s with cpi := { s.cpi with mail := aput s.cpi.mail e r } }

/-- A final reply: DONE is suppressed by QUIET (R63), refusals are counted (R89). -/
def State.finalReply (s : State) (via : Via) (seq : BitVec 32) (opcode : Nat) (quiet : Bool) (t : Status) (b : Body) :
    State :=
  let s := match via with
    | .ring n => if t.isRefusal then s.bump .CPI_SLOT_STAT_REFUSED n.val else s
    | .mailbox _ => s
  if quiet && t == .DONE then s else s.reply via seq opcode t b

/-- The notice causes of R64, one mask bit each in the order R64 names them (DEDUCED, log 8). -/
inductive Cause where
  | leaseExpired | ownership | safeState | slotChange | clockState
deriving DecidableEq, Repr

def Cause.bit : Cause → Nat
  | .leaseExpired => 0
  | .ownership => 1
  | .safeState => 2
  | .slotChange => 3
  | .clockState => 4

/-- Write a notice to every subscribed attached host but `except` (R64). R62 and R64 give a notice no status and say of TICK only what
replies carry: a notice has status DONE and the tick it is written on (DESIGN CHOICE, log 8). -/
def State.notify (s : State) (c : Cause) (detail : Nat) (except : Option Nat := none) : State :=
  (List.range 8).foldl (fun s n =>
    if some n ≠ except && s.attached n && (s.host n).notices / 2 ^ c.bit % 2 == 1 then
      s.ringReply n 1 ⟨n, 0xFFFFFFFF, 0x010C, .DONE, s.now, .values [c.bit, detail]⟩
    else s) s

/-! ### Pending packets (R70 … R72) -/

def sentBy (n : Nat) (via : Via) : Bool := slotOf via == n

/-- Pending packets of a host: begun and waiting, taken and not begun, scheduled (R72). -/
def State.pendingOf (s : State) (n : Nat) : Nat :=
  (s.cpi.waiting.filter fun w => sentBy n w.via && !w.ended).length + (s.cpi.deferred.filter fun d => sentBy n d.via).length +
  (s.cpi.launched.filter fun d => sentBy n d.via).length + (s.queue (87 + n)).length

/-- Whether a packet `e` that has not begun goes behind one that `via` sent and that was accepted on a tick, launched or not: a launched
packet goes ahead of its host's immediate ones (R56), and between hosts the earlier acceptance tick goes first, then the lower slot (R71). -/
def goesBehind (via : Via) (launched : Bool) (accepted : Nat) (e : Taken) : Bool :=
  if e.via = via then launched && (!e.scheduled || decide (accepted < e.accepted))
  else decide (accepted < e.accepted) || (accepted == e.accepted && decide (slotOf via < slotOf e.via))

/-- The packets not begun that go ahead of such a packet, and those behind it. It passes none of its own host's that go ahead of it
(where R56 and R71 ask for a circle, R56 comes first: log 95). -/
def linePlace (via : Via) (launched : Bool) (accepted : Nat) : List Taken → List Taken × List Taken
  | [] => ([], [])
  | e :: t =>
    if goesBehind via launched accepted e && t.all fun x => x.via != via || goesBehind via launched accepted x then ([], e :: t)
    else
      let (a, b) := linePlace via launched accepted t
      (e :: a, b)

/-- A packet joins those that have not begun, at its place. -/
def State.defer (s : State) (d : Taken) : State :=
  let (a, b) := linePlace d.via d.scheduled d.accepted s.cpi.deferred
  { s with cpi := { s.cpi with deferred := a ++ d :: b } }

/-- An earlier packet of its host that has no final reply yet holds up a packet with FENCE (R70). -/
def State.fenced (s : State) (via : Via) (order : Nat) : Bool :=
  s.cpi.waiting.any (fun w => w.via == via && !w.ended && decide (w.order < order)) ||
  (s.cpi.deferred ++ s.cpi.launched).any (fun d => d.via == via && decide (d.order < order)) ||
  (decide (slotOf via < 8) && (s.queue (87 + slotOf via)).any fun e => e.packet.any fun d => decide (d.order < order))

/-- Whether a taken packet may begin: `before` are the packets not begun that go ahead of it. Its host's packets begin in ring order, a
launched one at its launch; FENCE is satisfied; and no packet ahead of it on one of its resources is unfinished (R56, R70, R71). -/
def State.mayBegin (s : State) (before : List Taken) (via : Via) (order : Nat) (launched fence : Bool) (rs : List Nat) : Bool :=
  (launched || !(before.any fun d => d.via == via)) && !(fence && s.fenced via order) &&
  !(s.cpi.waiting.any fun w => w.resources.any (rs.contains ·)) &&
  !(before.any fun d => d.resources.any (rs.contains ·))

/-- Whether a packet that has just been taken may begin at once. -/
def State.mayBeginNow (s : State) (via : Via) (fence : Bool) (rs : List Nat) : Bool :=
  s.mayBegin (linePlace via false s.now s.cpi.deferred).1 via s.cpi.order false fence rs

/-- The deferred packets that may begin now, in their order: the tick puts them at the end of the queue (R70, R71). One that has been put
there stays among them until its command comes, and holds up what goes behind it. -/
def State.unblocked (s : State) : List Taken :=
  ((s.cpi.deferred.foldl (fun (acc : List Taken × List Taken) d =>
    if s.mayBegin acc.1 d.via d.order d.scheduled d.fence d.resources then (acc.1 ++ [d], acc.2 ++ [d]) else (acc.1 ++ [d], acc.2))
    ([], [])).2).filter fun d => !(s.cpi.resuming.contains (d.via, d.seq))

/-- Give every waiting packet of the kinds `p` its final reply (R63). -/
def State.complete (s : State) (p : WaitKind → Bool) (t : Status) (b : Body) : State :=
  let (hit, rest) := s.cpi.waiting.partition fun w => p w.kind
  hit.foldl (fun s w => if w.ended then s else s.finalReply w.via w.seq w.opcode w.quiet t b)
    { s with cpi := { s.cpi with waiting := rest } }

/-! ### Acceptance and execution (R56, R65, R82) -/

def quietOf (h : Hdr) : Bool := h.flags.toNat % 2 == 1
def fenceOf (h : Hdr) : Bool := h.flags.toNat / 2 % 2 == 1

/-- Checks 1 … 6 of R65 on a header. -/
def headerStatus (h : Hdr) (immediate : Bool) : Status :=
  if h.magic ≠ 0x5458 then .CPI_BAD_MAGIC
  else if h.version ≠ 1 then .CPI_BAD_VERSION
  else if h.slotByte.toNat ≠ slotOf h.via then .CPI_BAD_SLOT
  else if 4096 < h.paramLen ∨ h.paramLen % 4 ≠ 0 then .BAD_LENGTH
  else if !h.crcOk then .BAD_CRC
  else if h.flags.toNat / 4 ≠ 0 ∨ h.reserved ≠ 0 ∨ (immediate ∧ h.launch ≠ 0) then .CPI_BAD_FLAGS
  else .DONE

/-- Whether packets of an endpoint are served (R456 … R458, R461): from READY on, for a ring whose slot is attached. In
LIMITED mode only the boot endpoint serves, with cause 3 only where it is a SPI port. -/
def State.serves (s : State) (via : Via) : Bool :=
  let here := match via with
    | .ring n => s.attached n.val
    | .mailbox _ => true
  match s.boot.phase with
  | .ready => here
  | .limited =>
    let h0 := match via with
      | .ring n => n.val == 0
      | .mailbox e => e == s.boot.endpoint
    here && h0 && (s.get .VAL_BOOT_LIMITED_CAUSE != 3 || s.boot.endpoint.transport == .spi)
  | _ => false

/-- Opcodes LIMITED mode accepts, by cause (R458). -/
def State.limitedOk (s : State) (opcode : Nat) : Bool :=
  ([0x0101, 0x0102, 0x0103, 0x0106, 0x0201] : List Nat).contains opcode ||
  (s.get .VAL_BOOT_LIMITED_CAUSE != 3 && decide (0x0108 ≤ opcode ∧ opcode ≤ 0x010A))

/-- Ring counts wrap from 127 to 0 (R67). -/
def ringFill (tail head : Nat) : Nat := (tail + 128 - head) % 128

/-- Packets left in a slot's submission ring (R72). -/
def State.untakenOf (s : State) (n : Nat) : Nat := (s.cpi.untaken.filter fun p => p.1 == n).length

/-- The doorbell a packet command implies where its host has not rung it: SQ_TAIL advances by one; a full ring ignores
it and sets RING_ERR (R67; DESIGN CHOICE, log 9). -/
def State.implyDoorbell (s : State) (n : Nat) : Option State :=
  let tail := s.get .CPI_SLOT_SQ_TAIL_INDEX n
  let fill := ringFill tail (s.get .CPI_SLOT_SQ_HEAD_INDEX n)
  if s.untakenOf n < fill then some s
  else if 64 ≤ fill then none
  else some (s.set .CPI_SLOT_SQ_TAIL_INDEX (tail + 1) n)

/-- Take a packet from its ring: SQ_HEAD advances, and the packet is the next in the order of packets taken (R67, R70). -/
def State.takeFromRing (s : State) (via : Via) : State :=
  match via with
  | .mailbox _ => s
  | .ring n =>
    let t := s.set .CPI_SLOT_SQ_HEAD_INDEX (s.get .CPI_SLOT_SQ_HEAD_INDEX n.val + 1) n.val
    { t with cpi := { t.cpi with order := t.cpi.order + 1 } }

/-- Renew the sender's lease (R82). -/
def State.renew (s : State) (via : Via) : State :=
  match via with
  | .mailbox _ => s
  | .ring n => s.setHost n.val { s.host n.val with renewed := s.now }

/-- Begin executing a packet: rights and state as they stand (checks 10 and 11), then its effect; while an orderly shutdown stands
only Observe operations are served (R464). `accepted` says whether the packet has had its ACCEPTED reply; `order` is its place in the order
of packets taken. -/
def State.begin (s : State) (h : Hdr) (m : Packet) (accepted : Bool) (order : Nat) : State :=
  let n := slotOf h.via
  let acts := m.acts n s
  let final := fun (t : Status) (b : Body) (s : State) => s.finalReply h.via h.seq m.opcode (quietOf h) t b
  let r := s.judgeAll n (m.rights n s)
  if r ≠ .DONE then final r .empty s else
  if s.cpi.shuttingDown.isSome && m.cls ≠ .observe then final .WRONG_STATE .empty s else
  let c := m.checks n s
  if c ≠ .DONE then final c .empty s else
  match m.run h.via s with
  | .done b s => final .DONE b s
  | .both b s => final .DONE b (if accepted then s else s.reply h.via h.seq m.opcode .ACCEPTED .empty)
  | .refuse t s => final t .empty s
  | .failed t b s => final t b s
  | .wait k s =>
    let s := if accepted then s else s.reply h.via h.seq m.opcode .ACCEPTED .empty
    { s with cpi := { s.cpi with
      waiting := s.cpi.waiting ++ [⟨h.via, h.seq, m.opcode, quietOf h, acts, order, false, k⟩] } }

/-- The record of a packet that is taken and has not begun. -/
def takenOf (h : Hdr) (m : Packet) (cmd : Instr) (s : State) : Taken :=
  ⟨h.via, h.seq, m.opcode, fenceOf h, h.launch != 0, m.acts (slotOf h.via) s, s.now, s.cpi.order, cmd⟩

/-- PARAM_LEN is right for the opcode where the spec fixes it (R84). -/
def Packet.fits (m : Packet) (h : Hdr) : Bool := m.length.all (· == h.paramLen)

/-- The entry the TX9 places on DP87 + n for a scheduled packet (R54, R56). -/
def packetEntry (h : Hdr) : Entry :=
  ⟨BitVec.ofNat 32 h.launch.toNat, BitVec.ofNat 32 (h.launch.toNat / 2 ^ 32), 0x80000000, h.seq, 0, 0⟩

/-- Checks 8 and 9 and what follows them: schedule, defer, or begin (R56, R65, R70, R71). -/
def State.accept (s : State) (h : Hdr) (cmd : Instr) (m : Packet) : State :=
  let n := slotOf h.via
  let refuse := fun (t : Status) => s.finalReply h.via h.seq m.opcode (quietOf h) t .empty
  let mail := match h.via with
    | .mailbox _ => true
    | .ring _ => false
  if mail && m.opcode ≠ 0x0101 && m.opcode ≠ 0x0201 then refuse .CPI_NOT_ATTACHED else
  if s.boot.phase == .limited && !s.limitedOk m.opcode then refuse .WRONG_STATE else
  if !m.fits h then refuse .BAD_LENGTH else
  let p := m.params s
  if p ≠ .DONE then refuse p else
  if !mail && decide (64 ≤ s.pendingOf n) then refuse .CPI_PENDING_FULL else
  if h.launch ≠ 0 then
    if 64 ≤ (s.queue (87 + n)).length then refuse .DCK_QUEUE_FULL else
    (s.enqueue (87 + n) (newEntry (packetEntry h) n s.now (some (takenOf h m cmd s)))).reply h.via h.seq m.opcode
      .ACCEPTED (.values [s.now])
  else if s.mayBeginNow h.via (fenceOf h) (m.acts n s) then s.begin h m false s.cpi.order
  else (s.defer (takenOf h m cmd s)).reply h.via h.seq m.opcode .ACCEPTED .empty

/-- Take a packet: checks 1 … 6 on its header, the lease, then its own checks (R65, R82). -/
def State.receive (s : State) (h : Hdr) (cmd : Instr) (m : Packet) : State :=
  let s := s.takeFromRing h.via
  let t := headerStatus h m.immediate
  if t ≠ .DONE then s.finalReply h.via h.seq m.opcode (quietOf h) t .empty
  else (s.renew h.via).accept h cmd m

/-- The first entry left in a slot's ring is the image of the packet with this SEQ and OPCODE, whose command has come (log 64). -/
def State.imageFirst (s : State) (n : Fin 8) (seq : BitVec 32) (opcode : Nat) : Bool :=
  match s.cpi.untaken.find? fun p => p.1 == n.val with
  | some (_, .inr b) => let (h, op) := imageHdr (.ring n) b
    h.seq == seq && op == opcode
  | _ => false

/-- A packet that the ring already holds leaves it. -/
def State.leaveRing (s : State) (n : Nat) (key : Via × BitVec 32) (again : Bool) : State :=
  { s with cpi := { s.cpi with
    taking := s.cpi.taking.erase key
    untaken := if again then s.cpi.untaken else s.cpi.untaken.eraseP fun p => p.1 == n } }

/-- A packet reaches the front of the queue: from its ring or mailbox, or because it may now begin (R65, R70 … R72). -/
def State.deliver (s : State) (h : Hdr) (cmd : Instr) (m : Packet) : State :=
  let key := (h.via, h.seq)
  if s.cpi.resuming.contains key then
    let order := ((s.cpi.deferred.find? fun d => (d.via, d.seq) == key).map (·.order)).getD s.cpi.order
    let s := { s with cpi := { s.cpi with
      resuming := s.cpi.resuming.erase key
      deferred := s.cpi.deferred.eraseP fun d => (d.via, d.seq) == key } }
    s.begin h m true order
  else if !s.serves h.via then s
  else
    match h.via with
    | .mailbox _ => s.receive h cmd m
    | .ring n =>
      let again := s.cpi.taking.contains key
      let held := again || s.imageFirst n h.seq m.opcode
      match (if held then some (s.leaveRing n.val key again) else s.implyDoorbell n.val) with
      | none => s.raise .CPI_EVT_RING_ERR n.val
      | some s =>
        if 64 ≤ (s.host n.val).replies.length then
          let u := if held then (n.val, .inl cmd) :: s.cpi.untaken else s.cpi.untaken ++ [(n.val, .inl cmd)]
          { s with cpi := { s.cpi with untaken := u } }
        else if !held && decide (0 < s.untakenOf n.val) then
          { s with cpi := { s.cpi with untaken := s.cpi.untaken ++ [(n.val, .inl cmd)] } }
        else s.receive h cmd m

/-- A packet command's outcome. -/
def State.packet (s : State) (h : Hdr) (cmd : Instr) (m : Packet) : Out' := .next (s.deliver h cmd m)

end Sys2Proof.Machine
end

