-- ==== Sys2Proof/Machine/Frames.lean ====
section
/-!
DEFINITION. Frames held by a context: rows, pan slots and drops (R129, R133, R136, R137), ring slots (R21, R126, R152), the
context's frame boundary with its bank swaps (R100, R127, R128, R155, R175), and arbitration (R134).
-/
namespace Sys2Proof.Machine

/-! ### Contexts and their frames -/

/-- The context takes markers and rows (R99, R132). -/
def State.running (s : State) (n : Nat) : Bool := (s.ctx n).run == .running || (s.ctx n).run == .stopping

/-- ENABLED of a context: set until its last frame has left the colour unit (R132). -/
def State.enabled (s : State) (n : Nat) : Bool := (s.ctx n).run != .disabled

def State.isInline (s : State) (n : Nat) : Bool := s.flag .PIP_INLINE_VALID && s.get .PIP_INLINE_CONTEXT == n

/-- The open frame: its start marker has arrived and its trailer has not (R132). -/
def Ctx.openFrame (c : Ctx) : Option Frame := c.frames.find? fun f => !f.closed

/-- A frame still to leave the colour unit. -/
def Frame.inFlight (f : Frame) : Bool := !f.coloured

/-- Change the frame with a given identity. -/
def Ctx.modFrame (c : Ctx) (id : Nat) (g : Frame → Frame) : Ctx :=
  { c with frames := c.frames.map fun f => if f.id = id then g f else f }

def Ctx.removeFrame (c : Ctx) (id : Nat) : Ctx := { c with frames := c.frames.filter fun f => f.id ≠ id }

def State.modFrame (s : State) (n id : Nat) (g : Frame → Frame) : State := s.setCtx n ((s.ctx n).modFrame id g)

/-- A frame is kept while it is in flight, holds a ring slot or owes its record. -/
def Frame.needed (f : Frame) : Bool := f.inFlight || f.rawSlot || f.devSlot || f.recordDue

/-- Forget the frames nothing needs any more. -/
def State.forget (s : State) (n : Nat) : State :=
  let c := s.ctx n
  s.setCtx n { c with frames := c.frames.filter Frame.needed }

/-- Real rows of a frame: the smaller of the sub-stream counts (R102). -/
def Frame.got (f : Frame) : Nat := if f.twoSubs then min f.got0 f.got1 else f.got0

/-- Rows of a frame ready for the pipeline. -/
def Frame.ready (f : Frame) : Nat := if f.twoSubs then min f.rows0.length f.rows1.length else f.rows0.length

def Frame.word (f : Frame) (i : Nat) : Nat := wordAt f.params.words i

/-- The CFA code: 0 RGGB … 3 BGGR, 4 MONO (R116). -/
def Frame.cfa (f : Frame) : Nat := bitsOf (f.word 0) 31 29

/-- The black-level code of a CFA channel and sub-stream (R103, R117). -/
def Frame.black (f : Frame) (sub k : Nat) : Nat :=
  if sub = 0 then bitsOf (f.word (2 + k)) 15 0 else bitsOf (f.word (2 + k)) 31 16

/-- CFA channel of a pixel: its place in raster order within the 2 × 2 cell; MONO has the one channel 0. -/
def Frame.channel (f : Frame) (row col : Nat) : Nat := if f.cfa = 4 then 0 else row % 2 * 2 + col % 2

/-- Black-level codes from column `first` on, up to the configured width (R103, R105). -/
def Frame.blackFrom (f : Frame) (sub row first : Nat) : List Nat :=
  (List.range (f.cols - first)).map fun c => f.black sub (f.channel row (first + c))

/-- Padding rows up to the configured height (R103). -/
def Frame.padded (f : Frame) : Frame :=
  let pad := fun (sub : Nat) (rs : List Row) =>
    rs ++ (List.range (f.rows - rs.length)).map fun k => { px := f.blackFrom sub (rs.length + k) 0, fill := true, tick := 0 }
  { f with rows0 := pad 0 f.rows0, rows1 := if f.twoSubs then pad 1 f.rows1 else [] }

/-! ### Partition and pan (R129, R133, R136, R137) -/

/-- COLS_MAX of a partition (R133). -/
def colsMax (units depth subs : Nat) : Nat :=
  let perCol := 72 + depth * 16 * (if subs = 1 then 4 else 2)
  if units = 0 then 0 else min 16384 ((units * 65536 - 65536) / perCol / 16 * 16)

/-- The input depth D of R133 under a PIP_CTX_CFG value. -/
def inputDepth (cfg : Nat) : Nat := if bitsOf cfg 30 30 = 1 then bitsOf cfg 25 22 else 2

/-- Bytes of one pan slot under SNS_GEOM and SUBSTREAMS (R129). -/
def panSlotBytes (geom subs : Nat) : Nat := bitsOf geom 31 16 * bitsOf geom 15 0 * 2 * (if subs = 1 then 2 else 1)

def State.occupied (s : State) (n : Nat) : Nat := ((s.ctx n).frames.filter (·.slot)).length

/-- Show the pan's occupancy (R136). -/
def State.showPan (s : State) (n : Nat) : State :=
  let k := s.occupied n
  let s := s.set .PIP_CTX_PAN_OCCUPIED k n
  if s.get .PIP_CTX_PAN_PEAK n < k then s.set .PIP_CTX_PAN_PEAK k n else s

/-- Append a drop record, keeping the last 32, newest first (R137). -/
def State.dropRecord (s : State) (n : Nat) (f : Frame) (reason : Nat) : State :=
  let c := s.ctx n
  s.setCtx n { c with drops := (⟨f.num, f.sof, reason⟩ :: c.drops).take 32 }

/-- Count and record a pan drop: PAN_FULL 1, SWITCH 2, NO_PAN 3; the context's producer pulses (R136, R137). -/
def State.panDrop (s : State) (n : Nat) (f : Frame) (reason : Nat) : State :=
  let s := (s.bump .PIP_CTX_DROP_PAN_DROP n).set .PIP_CTX_LASTDROP_FRAME f.num n
  ((s.raise .PIP_EVT_PAN_DROP n).dropRecord n f reason).pulseSource (0x10 + n)

/-- A frame in the pan the pipeline has not begun (R136, R139). -/
def Frame.notBegun (f : Frame) : Bool := f.slot && f.fed == 0

/-- A frame whose first row-group has entered the pipeline and whose last has not left the demosaic stage (R139). -/
def Frame.begun (f : Frame) : Bool := decide (0 < f.fed) && !f.demosaicked && !f.coloured

/-! ### Ring slots (R21, R126, R152) -/

/-- Whether frames entering the pipeline now are for a codec context: its destination runs it, no stop is pending, and a
pending switch of its stream names it and no other (R231, R235). -/
def State.receives (s : State) (h : Nat) : Bool :=
  if s.get .MLS_C_CFG_DEST_KIND h = 1 then
    let st := s.get .MLS_C_CFG_DEST_INDEX h
    (s.flag .MLS_S_CFG_RUNNING st || s.flag .MLS_S_CFG_START_PENDING st) && s.get .MLS_S_CFG_STOP_PENDING st == 0 &&
    (match tget s.mls.switchTo st with
      | some x => x == h
      | none => s.flag .MLS_C_CFG_ACTIVE h)
  else s.flag .MLS_C_CFG_ACTIVE h && !(s.codec h).stopPending

/-- Codec contexts that take a source's frames, of MR (raw) or of MX and MP (developed) (R20, R231). -/
def State.codecsOn (s : State) (n : Nat) (raw : Bool) : List Nat :=
  (List.range 64).filter fun h =>
    s.flag .MLS_C_CFG_DEST_KIND h && s.get .MLS_C_CFG_SOURCE h == n && (s.get .MLS_C_CFG_PROFILE h == 0) == raw && s.receives h

/-- Whether a running kernel has a FRAME input on a context's raw or developed ring (R20, R193). -/
def State.kernelOn (s : State) (n : Nat) (raw : Bool) : Bool :=
  s.eng.kernels.any fun (k, e) => s.get .ENG_K_STATE_STATE k == 3 &&
    e.inputs.any fun (_, i) => i.frameKind && i.ctx == n && (i.tap == 0) == raw

/-- A consumer of the context's developed frames is attached (R20, R152). -/
def State.devAttached (s : State) (n : Nat) : Bool := !(s.codecsOn n false).isEmpty || s.kernelOn n false

/-- Kernel inputs that hold a frame acquired (R196). -/
def State.acquired (s : State) (n : Nat) (raw : Bool) (id : Nat) : Bool :=
  s.eng.kernels.any fun (_, e) => e.inputs.any fun (_, i) =>
    i.frameKind && i.ctx == n && (i.tap == 0) == raw && i.acquired == some id

/-- The holds of kernel inputs on a frame are revoked (R197). -/
def State.revoke (s : State) (n : Nat) (raw : Bool) (id : Nat) : State :=
  s.eng.kernels.foldl (fun s (k, e) => e.inputs.foldl (fun s (i, x) =>
    if x.frameKind && x.ctx == n && (x.tap == 0) == raw && x.acquired == some id then
      let s := match s.kernel k with
        | some e => s.setKernel k { e with inputs := tins { x with acquired := none, revoked := true } e.inputs i }
        | none => s
      s.bump .ENG_K_IN_REVOKED k 1 i
    else s) s) s

/-- The slot a ring reuses: the oldest every consumer has released, else the oldest held only by kernel inputs, whose
holds are revoked (R21, R197). -/
def State.reuse (s : State) (n : Nat) (raw : Bool) (held : List Frame) : Option (Frame × State) :=
  let free := held.filter fun f => (if raw then f.rawUses else f.devUses).isEmpty && f.coloured
  match free.find? fun f => !s.acquired n raw f.id with
  | some f => some (f, s)
  | none => free.head?.map fun f => (f, s.revoke n raw f.id)

/-- A frame left out of a ring is omitted by the contexts that would have coded it: streams count it, and their next record
carries OMIT_BEFORE (R221). A stream that has not begun to code counts none (DEDUCED, log 47). -/
def State.omit (s : State) (h num : Nat) : State :=
  let st := s.get .MLS_C_CFG_DEST_INDEX h
  if s.get .MLS_C_CFG_DEST_KIND h = 1 ∧ s.get .MLS_S_CFG_RUNNING st = 0 then s else
  let c := s.codec h
  let s := s.setCodec h { c with omitBefore := true }
  if s.get .MLS_C_CFG_DEST_KIND h = 1 then
    ((s.bump .MLS_S_OMIT_OMITTED st).set .MLS_S_LASTOMIT_FRAME num st).raise .MLS_EVT_OMIT st
  else s

/-- The contexts that receive a frame omit it. -/
def State.omitAll (s : State) (n id : Nat) (raw : Bool) : State :=
  match (s.ctx n).frames.find? (·.id == id) with
  | none => s
  | some f => (s.codecsOn n raw).foldl (fun s h => s.omit h f.num) s

/-- The first of a ring's slots that no frame holds. -/
def freeSlot (slots : Nat) (taken : List Nat) : Nat := ((List.range slots).find? fun i => !taken.contains i).getD 0

/-- Take a slot of the raw record ring for a frame entering the pipeline; where none is free, the frame is left out
(R21, R126). -/
def State.takeRaw (s : State) (n id : Nat) : State :=
  let held := (s.ctx n).frames.filter (·.rawSlot)
  let uses := s.codecsOn n true
  let give := fun (s : State) (i : Nat) => s.modFrame n id fun f => { f with rawSlot := true, rawIndex := i, rawUses := uses }
  let slots := s.get .PIP_TAP_RAW_SLOTS n
  if slots = 0 then s.omitAll n id true
  else if held.length < slots then give s (freeSlot slots (held.map (·.rawIndex)))
  else match s.reuse n true held with
    | some (old, s) => give (s.modFrame n old.id fun f => { f with rawSlot := false }) old.rawIndex
    | none => s.omitAll n id true

/-- Take a slot of the developed frame ring; a frame left out is counted (R152). -/
def State.takeDev (s : State) (n id : Nat) : State :=
  if !s.devAttached n then s else
  let held := (s.ctx n).frames.filter (·.devSlot)
  let uses := s.codecsOn n false
  let give := fun (s : State) (i : Nat) => s.modFrame n id fun f => { f with devSlot := true, devIndex := i, devUses := uses }
  let slots := s.get .COL_CTX_CFG_DEV_SLOTS n
  if slots = 0 then s.omitAll n id false
  else if held.length < slots then give s (freeSlot slots (held.map (·.devIndex)))
  else match s.reuse n false held with
    | some (old, s) => give (s.modFrame n old.id fun f => { f with devSlot := false }) old.devIndex
    | none => ((s.bump .COL_CTX_DEV_SKIPPED n).raise .COL_EVT_DEV_SKIP n).omitAll n id false

/-- A consumer releases a frame of a ring. -/
def State.releaseFrame (s : State) (n id h : Nat) (raw : Bool) : State :=
  s.modFrame n id fun f => if raw then { f with rawUses := f.rawUses.erase h } else { f with devUses := f.devUses.erase h }

/-! ### The frame boundary (R13, R14, R100, R127, R155, R175) -/

/-- The swap that takes effect at a boundary and those that stay: the last accepted before the tick, or the last of all
where the context starts (R14). -/
def dueSwap (l : List (Nat × Nat)) (now : Nat) (all : Bool) : Option Nat × List (Nat × Nat) :=
  let (due, rest) := l.partition fun p => all || decide (p.2 < now)
  (due.getLast?.map (·.1), rest)

/-- A bank that waits to become active: the last swap accepted before this tick, and the last accepted on it; each replaces those before
it (R14). -/
def pendingSwap (l : List (Nat × Nat)) (now bank : Nat) : Bool :=
  let (due, rest) := dueSwap l now false
  due == some bank || rest.getLast?.any (·.1 == bank)

/-- PIP_BANK shows the active bank's defect count and what waits (R144). -/
def State.showPipBank (s : State) (n : Nat) : State :=
  let b := tgetD {} s.pip.banks (n * 2 + s.get .PIP_BANK_ACTIVE n)
  (s.set .PIP_BANK_DEFECTS b.defects.length n).set .PIP_BANK_PENDING (if (s.ctx n).pipSwap.isEmpty then 0 else 1) n

/-- BYPASS reads 1 while the context is enabled without an active bank (R151, R169). -/
def State.showCalBank (s : State) (n : Nat) : State :=
  let s := s.set .COL_CTX_BANK_PENDING (if (s.ctx n).calSwap.isEmpty then 0 else 1) n
  s.set .COL_CTX_BANK_BYPASS (if s.enabled n && !(s.ctx n).calOn then 1 else 0) n

/-- The swaps of a context that are due take effect, with their packets' DONE (R14, R128, R155, R175). -/
def State.swapBanks (s : State) (n : Nat) (all : Bool) : State :=
  let c := s.ctx n
  let (p, prest) := dueSwap c.pipSwap s.now all
  let (k, krest) := dueSwap c.calSwap s.now all
  let (a, arest) := dueSwap c.staSwap s.now all
  let s := s.setCtx n { c with pipSwap := prest, calSwap := krest, staSwap := arest, calOn := c.calOn || k.isSome }
  let s := match p with
    | some b => s.set .PIP_BANK_ACTIVE b n
    | none => s
  let s := match k with
    | some b => s.set .COL_CTX_BANK_ACTIVE b n
    | none => s
  let s := match a with
    | some b => s.set .STA_CTX_CFG_BANK b n
    | none => s
  let s := s.set .STA_CTX_CFG_PENDING (if arest.isEmpty then 0 else 1) n
  let s := (s.showPipBank n).showCalBank n
  let now := s.now
  s.complete (fun w => match w with
    | .pipBank c t => c == n && (all || decide (t < now))
    | .calSwap c t => c == n && (all || decide (t < now))
    | .staSwap c t => c == n && (all || decide (t < now))
    | _ => false) .DONE .empty

/-- The sensor front end takes the pins that the triggers of a port-fed context enable from the fabric (R96, R393). -/
def State.takePins (s : State) (n : Nat) : State :=
  if s.flag .SNS_CTX_CFG_SOURCE n then s else
  let used := (if s.flag .SNS_CTX_TRIG_FRAME_EN n then [s.get .SNS_CTX_TRIG_FRAME_PIN n] else []) ++
    (if s.flag .SNS_CTX_TRIG_EXP0_EN n then [s.get .SNS_CTX_TRIG_EXP0_PIN n] else []) ++
    (if s.flag .SNS_CTX_TRIG_EXP1_EN n then [s.get .SNS_CTX_TRIG_EXP1_PIN n] else [])
  used.foldl (fun s p =>
    if s.get .EVF_PIN_DIR p = 0 then s else
    (((s.set .EVF_PIN_DIR 0 p).set .EVF_PIN_TAKEN 1 p).set .EVF_LAST_PIN_TAKEN p).raise .EVF_EVT_PIN_TAKEN) s

/-- A frame boundary of a running context: shadowed registers and swaps accepted before this tick (R100). -/
def State.boundary (s : State) (n : Nat) : State := ((s.commit (.ctx n)).takePins n).swapBanks n false

/-- The start of a disabled context: everything kept for it takes effect (R14). -/
def State.startBoundary (s : State) (n : Nat) : State := ((s.commitAll (.ctx n)).takePins n).swapBanks n true

/-- The values in effect that a frame beginning now carries (R127, R155, R175). -/
def State.frameParams (s : State) (n : Nat) : FrameParams :=
  { words := [s.rd .PIP_CTX_MODE n, s.rd .PIP_FUSE n, s.rd .PIP_BLACK n 0, s.rd .PIP_BLACK n 1, s.rd .PIP_BLACK n 2,
      s.rd .PIP_BLACK n 3, s.rd .PIP_WHITE n, s.rd .PIP_DYN n, s.rd .PIP_NR n, s.rd .PIP_FILT n,
      s.rd .PIP_TAP n].map (BitVec.ofNat 32)
    bank := s.get .PIP_BANK_ACTIVE n
    cal := if s.flag .COL_CTX_CFG_CAL_ALLOC n && (s.ctx n).calOn then some (s.get .COL_CTX_BANK_ACTIVE n) else none
    sta := s.get .STA_CTX_CFG_BANK n }

/-- A table bank carried by a frame still in the pan, the pipeline or the colour unit (R128, R156). -/
def State.carried (s : State) (n : Nat) (p : FrameParams → Bool) : Bool :=
  (s.ctx n).frames.any fun f => f.inFlight && p f.params

/-! ### Arbitration (R134, R140) -/

/-- What the pipeline may process next for a context: `inline` rows or the next row-group of its pan. -/
structure Candidate where
  ctx : Nat
  frame : Frame
deriving DecidableEq, Repr

/-- The in-line frame with rows waiting: one of a former in-line context first (R134, R139). -/
def State.inlineWaiting (s : State) : Option Candidate :=
  let of_ := fun n => ((s.ctx n).frames.find? fun f => f.inline && !f.demosaicked && decide (f.fed < f.rows)).map (⟨n, ·⟩)
  let cur := s.get .PIP_INLINE_CONTEXT
  let others := ((List.range 8).filter (· ≠ cur)).filterMap of_
  let all := others ++ (of_ cur).toList
  all.find? fun c => decide (c.frame.fed < c.frame.ready)

/-- Rows of the in-line frame in progress already processed: 0 between frames (R134). -/
def State.inlineDone (s : State) : Nat :=
  let n := s.get .PIP_INLINE_CONTEXT
  if !s.flag .PIP_INLINE_VALID then 0 else
  match (s.ctx n).frames.find? fun f => f.inline && decide (0 < f.fed) && decide (f.fed < f.rows) with
  | some f => f.fed
  | none => 0

/-- Rows waiting in the in-line input buffer (R134). -/
def State.inlineRows (s : State) : Nat :=
  (List.range 8).foldl (fun a n => (s.ctx n).frames.foldl (fun a f =>
    if f.inline && !f.demosaicked then a + (f.ready - f.fed) else a) a) 0

/-- The backlog's peak since the last read (R144). -/
def State.noteBacklog (s : State) : State :=
  let k := min s.inlineRows 127
  if s.get .PIP_INLINE_BACKLOG_PEAK < k then s.set .PIP_INLINE_BACKLOG_PEAK k else s

/-- PIP_INLINE as a read finds it: rows that wait now count, though a read has cleared the peak. -/
def State.inlineWord (s : State) : Nat := s.noteBacklog.rd .PIP_INLINE

/-- The next row-group of a context's oldest unfinished pan frame, if it may enter the pipeline (R106, R134, R138): a frame is unfinished
until its last row-group has left the demosaic stage. -/
def State.panCandidate (s : State) (n : Nat) : Option Candidate :=
  match (s.ctx n).frames.find? fun f => f.slot && !f.demosaicked with
  | none => none
  | some f =>
    let group := min 16 (f.rows - f.fed)
    if f.fed < f.rows && f.fed + group ≤ f.ready && (f.closed || s.get .SNS_CTX_CFG_POLICY n == 0) &&
      (decide (0 < f.fed) || decide (s.get .PIP_THROTTLE_PAN_FLOOR ≤ s.get .PIP_CTX_CFG_PAN_PRIO n))
    then some ⟨n, f⟩ else none

/-- The order of R134: highest PAN_PRIO, then earliest SOF, then lowest context. -/
def State.betterPan (s : State) (a b : Candidate) : Bool :=
  let pa := s.get .PIP_CTX_CFG_PAN_PRIO a.ctx
  let pb := s.get .PIP_CTX_CFG_PAN_PRIO b.ctx
  decide (pb < pa) || (pa == pb && (decide (a.frame.sof < b.frame.sof) || (a.frame.sof == b.frame.sof && decide (a.ctx < b.ctx))))

def State.choosePan (s : State) : Option Candidate :=
  ((List.range 8).filterMap s.panCandidate).foldl (fun best c => match best with
    | none => some c
    | some b => if s.betterPan c b then some c else some b) none

/-- `fits` of R134: the rows that can arrive while the row-group runs fit the in-line input buffer. -/
def State.fits (s : State) (g : Candidate) : Bool :=
  if !s.flag .PIP_INLINE_VALID then true else
  let n := s.get .PIP_INLINE_CONTEXT
  let cols := match (s.ctx n).frames.getLast? with
    | some f => f.cols
    | none => s.get .SNS_GEOM_COLS n
  let cost := g.frame.cols + 64
  let need := (cost * 16 + cols - 1) / cols
  decide (need + 1 ≤ s.get .PIP_CTX_CFG_IL_DEPTH n * 16)

/-- Rows of a frame enter the pipeline; the first takes the frame's ring slots (R125, R126, R152). -/
def State.feed (s : State) (c : Candidate) (k : Nat) : State :=
  let s := if c.frame.fed = 0 then (s.takeRaw c.ctx c.frame.id).takeDev c.ctx c.frame.id else s
  s.modFrame c.ctx c.frame.id fun f => { f with fed := f.fed + k }

/-- A context's run ends when the last of its frames has left the colour unit (R132). -/
def State.drained (s : State) (n : Nat) : State :=
  let c := s.ctx n
  if c.run == .draining && !(c.frames.any Frame.inFlight) then
    let s := s.setCtx n { c with run := .disabled }
    let s := (((s.set .SNS_CTX_CFG_ENABLED 0 n).set .PIP_CTX_CFG_ENABLED 0 n).set .COL_CTX_CFG_ENABLED 0 n).showCalBank n
    s.complete (fun w => w == .ctxDisabled n) .DONE .empty
  else s

end Sys2Proof.Machine
end

