-- ==== Sys2Proof/Machine/Pixel.lean ====
section
/-!
DEFINITION. The line pipeline's stages on a whole frame (R114 … R126): black level and fusion, defect correction, lens
shading, raw noise reduction, demosaic, and the raw tap's codes.
-/
namespace Sys2Proof.Machine

/-! ### L24 and neighbourhoods (R115, R116) -/

/-- Saturate at the ends of the L24 range (R115). -/
def satL24 (v : Int) : Int := max (-8388608) (min 8388607 v)

/-- An exact value as L24; where it lies between two L24 values the choice is free (log 20). -/
def toL24 (stage : Nat) (q : Frac) : Int :=
  let x := q.scale 16
  let f := x.floor
  satL24 (if x.isInt then f else if Config.l24Up stage q.num q.den then f + 1 else f)

/-- An L24 code's value. -/
def l24 (v : Int) : Frac := .mk' v 65536

/-- An index past a frame edge mirrored about the edge row or column (R115). -/
def mirror (n : Nat) (i : Int) : Nat :=
  let a := i.natAbs
  if a < n then a else 2 * (n - 1) - a

/-- The value of an image at mirrored coordinates. -/
def pix {α : Type} (d : α) (rows cols : Nat) (img : List (List α)) (r c : Int) : α :=
  (img.getD (mirror rows r) []).getD (mirror cols c) d

/-- An image computed per pixel. -/
def mapImage {α β : Type} (img : List (List α)) (f : Nat → Nat → α → β) : List (List β) :=
  img.zipIdx.map fun (row, r) => row.zipIdx.map fun (v, c) => f r c v

/-- Same-channel distance: 2 in a Bayer mosaic, 1 in MONO (R116). -/
def Frame.pitch (f : Frame) : Int := if f.cfa = 4 then 1 else 2

/-! ### Black level and fusion (R117, R118) -/

/-- A sub-stream sample as a fraction of its white level. -/
def Frame.level (f : Frame) (sub r c code : Nat) : Frac :=
  let b := f.black sub (f.channel r c)
  let w := if sub = 0 then bitsOf (f.word 6) 15 0 else bitsOf (f.word 6) 31 16
  Frac.div (.ofInt ((code : Int) - b)) (.ofInt ((w : Int) - b))

def Frame.fuse (f : Frame) (l0 l1 : Frac) : Frac :=
  let knee := Frac.mk' (bitsOf (f.word 1) 15 0) 65536
  let a := Frac.clamp .zero .one ((l0.sub knee).div (Frac.one.sub knee))
  let l1 := (Frac.mk' (bitsOf (f.word 1) 31 16) 256).mul l1
  ((Frac.one.sub a).mul l0).add (a.mul l1)

/-- The L24 mosaic after black level and fusion. -/
def Frame.fused (f : Frame) : List (List Int) :=
  let fuseEn := bitsOf (f.word 0) 27 27 = 1
  mapImage (f.rows0.map (·.px)) fun r c v =>
    let l0 := f.level 0 r c v
    if fuseEn then
      let v1 := (((f.rows1.map (·.px)).getD r []).getD c 0)
      toL24 1 (f.fuse l0 (f.level 1 r c v1))
    else toL24 1 l0

/-! ### Defect correction (R119 … R121) -/

/-- The pixels a defect map names in a frame (R119). -/
def Frame.mapped (f : Frame) (map : List (BitVec 32)) : List (Nat × Nat) :=
  let p := f.pitch.toNat
  (map.flatMap fun w =>
    let e := w.toNat
    let r := bitsOf e 29 16
    let c := bitsOf e 13 0
    match bitsOf e 31 30 with
    | 1 => [(r, c), (r, c + p)]
    | 2 => [(r, c), (r + p, c)]
    | _ => [(r, c)]).filter fun (r, c) => r < f.rows && c < f.cols

/-- The mean of L24 values. -/
def meanL24 (l : List Int) : Frac := .mk' (l.foldl (· + ·) 0) (65536 * l.length)

/-- The replacement value of R120 at a pixel. -/
def Frame.replaced (f : Frame) (img : List (List Int)) (bad : Nat → Nat → Bool) (r c : Nat) : Int :=
  let p := f.pitch
  let at_ := fun (dr dc : Int) =>
    let r' := mirror f.rows (r + dr)
    let c' := mirror f.cols (c + dc)
    if bad r' c' then none else some ((img.getD r' []).getD c' 0)
  let mean := fun (l : List Int) => toL24 2 (meanL24 l)
  match at_ 0 (-p), at_ 0 p, at_ (-p) 0, at_ p 0 with
  | some w, some e, some n, some s =>
    let dh := (w - e).natAbs
    let dv := (n - s).natAbs
    if dh < dv then mean [w, e]
    else if dv < dh then mean [n, s]
    else if Config.defectTie w e n s then mean [w, e] else mean [n, s]
  | some w, some e, _, _ => mean [w, e]
  | _, _, some n, some s => mean [n, s]
  | w, e, n, s =>
    let l := [w, e, n, s, at_ (-p) (-p), at_ (-p) p, at_ p (-p), at_ p p].filterMap fun x => x
    if l.isEmpty then 0 else mean l

/-- A dynamic defect (R121), judged on the values before replacement. -/
def Frame.dynBad (f : Frame) (img : List (List Int)) (r c : Nat) (v : Int) : Bool :=
  let p := f.pitch
  let g := fun (dr dc : Int) => pix 0 f.rows f.cols img (r + dr) (c + dc)
  let l := [g (-p) (-p), g (-p) 0, g (-p) p, g 0 (-p), g 0 p, g p (-p), g p 0, g p p]
  let nmax := l.foldl max (l.headD 0)
  let nmin := l.foldl min (l.headD 0)
  let t := (Frac.mk' (bitsOf (f.word 7) 31 16) 65536).add
    ((Frac.mk' (bitsOf (f.word 7) 15 8) 256).mul ((meanL24 l).max .zero))
  ((l24 nmax).add t).lt (l24 v) || (l24 v).lt ((l24 nmin).sub t)

/-- The mosaic at the RAW tap and the number of dynamic corrections (R120, R121, R125). -/
def Frame.corrected (f : Frame) (map : List (BitVec 32)) (img : List (List Int)) : List (List Int) × Nat :=
  let marks := f.mapped map
  let bad := fun r c => marks.contains (r, c)
  let staticEn := bitsOf (f.word 0) 3 3 = 1
  let dynEn := bitsOf (f.word 0) 2 2 = 1
  let out := mapImage img fun r c v =>
    if bad r c then (if staticEn then f.replaced img bad r c else v, 0)
    else if dynEn && f.dynBad img r c v then (f.replaced img bad r c, 1)
    else (v, 0)
  (out.map fun row => row.map (·.1), (out.flatMap fun row => row.map (·.2)).foldl (· + ·) 0)

/-! ### Lens shading (R122) -/

/-- The gain node of a plane, free where no load wrote it (log 21). -/
def State.shadeNode (s : State) (n bank plane node : Nat) : Nat :=
  match tget (tgetD {} s.pip.banks (n * 2 + bank)).nodes (plane * 8385 + node) with
  | some v => v
  | none => (Config.shadeNode n bank plane node).toNat

/-- The gain at a pixel: bilinear between the four surrounding nodes. -/
def State.shadeGain (s : State) (n : Nat) (f : Frame) (r c : Nat) : Frac :=
  let plane := f.channel r c
  let gx := Frac.mk' (c * 128) (f.cols - 1)
  let gy := Frac.mk' (r * 64) (f.rows - 1)
  let i := min gx.floor.toNat 127
  let j := min gy.floor.toNat 63
  let fx := gx.sub (.ofInt i)
  let fy := gy.sub (.ofInt j)
  let g := fun (di dj : Nat) => Frac.mk' (s.shadeNode n f.params.bank plane ((j + dj) * 129 + (i + di))) 4096
  let top := ((Frac.one.sub fx).mul (g 0 0)).add (fx.mul (g 1 0))
  let bot := ((Frac.one.sub fx).mul (g 0 1)).add (fx.mul (g 1 1))
  ((Frac.one.sub fy).mul top).add (fy.mul bot)

/-- The mosaic at the SHADED tap. -/
def State.shade (s : State) (n : Nat) (f : Frame) (img : List (List Int)) : List (List Int) :=
  if bitsOf (f.word 0) 1 1 = 0 then img else
  mapImage img fun r c v => toL24 3 ((l24 v).mul (s.shadeGain n f r c))

/-! ### Raw noise reduction (R123) -/

/-- The mosaic at the DENOISED tap. Where the variance is 0, only equal samples have weight (the centre has w = 1). -/
def Frame.denoise (f : Frame) (img : List (List Int)) : List (List Int) :=
  let strength := bitsOf (f.word 9) 31 24
  if bitsOf (f.word 0) 0 0 = 0 ∨ strength = 0 then img else
  let p := f.pitch
  mapImage img fun r c v =>
    let lv := l24 v
    let sigma2 := (Frac.mk' (bitsOf (f.word 8) 31 16) (2 ^ 24)).add
      ((Frac.mk' (bitsOf (f.word 8) 15 0) (2 ^ 20)).mul (lv.max .zero))
    let hs := (Frac.mk' strength 16).mul sigma2
    let terms := ([-2, -1, 0, 1, 2] : List Int).flatMap fun dr => ([-2, -1, 0, 1, 2] : List Int).map fun dc =>
      let lk := l24 (pix 0 f.rows f.cols img (r + p * dr) (c + p * dc))
      let d := lk.sub lv
      let w := if d.num = 0 then .one else if hs.num = 0 then .zero else (Frac.one.sub ((d.mul d).div hs)).max .zero
      let s : Int := match max dr.natAbs dc.natAbs with
        | 0 => 4
        | 1 => 2
        | _ => 1
      let sw := (Frac.ofInt s).mul w
      (sw.mul lk, sw)
    toL24 4 ((Frac.sum (terms.map (·.1))).div (.sum (terms.map (·.2))))

/-! ### Edge-aware demosaic (R124) -/

/-- The colour at a place of the mosaic: 0 red, 1 green, 2 blue. -/
def Frame.colourAt (f : Frame) (r c : Nat) : Nat :=
  (([[0, 1, 1, 2], [1, 0, 2, 1], [1, 2, 0, 1], [2, 1, 1, 0]] : List (List Nat)).getD f.cfa []).getD
    (r % 2 * 2 + c % 2) 1

/-- 1 / (eps + d)². -/
def edgeWeight (eps d : Frac) : Frac :=
  let e := eps.add d
  Frac.one.div (e.mul e)

/-- Green at every place. -/
def Frame.greens (f : Frame) (img : List (List Int)) : List (List Int) :=
  let eps := Frac.mk' (bitsOf (f.word 9) 15 0) 65536
  mapImage img fun r c v =>
    if f.colourAt r c = 1 then v else
    let g := fun (dr dc : Int) => l24 (pix 0 f.rows f.cols img (r + dr) (c + dc))
    let side := fun (a b cc dd : Frac) =>
      let lap := (((l24 v).mul (.ofInt 2)).sub cc).sub dd
      (((a.add b).div (.ofInt 2)).add (lap.div (.ofInt 4)), (a.sub b).abs.add lap.abs)
    let (gh, dh) := side (g 0 (-1)) (g 0 1) (g 0 (-2)) (g 0 2)
    let (gv, dv) := side (g (-1) 0) (g 1 0) (g (-2) 0) (g 2 0)
    let wh := edgeWeight eps dh
    let wv := edgeWeight eps dv
    toL24 5 (((wh.mul gh).add (wv.mul gv)).div (wh.add wv))

/-- Camera RGB at the RGB tap: MONO copies the sample (R116). -/
def Frame.demosaic (f : Frame) (img : List (List Int)) : List (List (Int × Int × Int)) :=
  if f.cfa = 4 then img.map fun row => row.map fun v => (v, v, v) else
  let eps := Frac.mk' (bitsOf (f.word 9) 15 0) 65536
  let gs := f.greens img
  let diff := fun (r c : Int) => (l24 (pix 0 f.rows f.cols img r c)).sub (l24 (pix 0 f.rows f.cols gs r c))
  mapImage img fun r c v =>
    let g := (gs.getD r []).getD c 0
    let lg := l24 g
    let pair := fun (a b : Frac) => (a.add b).div (.ofInt 2)
    let along := fun (vertical : Bool) =>
      toL24 6 (lg.add (if vertical then pair (diff (r - 1) c) (diff (r + 1) c) else pair (diff r (c - 1)) (diff r (c + 1))))
    let diag :=
      let a := diff (r - 1) (c - 1)
      let b := diff (r + 1) (c + 1)
      let d := diff (r - 1) (c + 1)
      let e := diff (r + 1) (c - 1)
      let w1 := edgeWeight eps (a.sub b).abs
      let w2 := edgeWeight eps (d.sub e).abs
      toL24 6 (lg.add (((w1.mul (pair a b)).add (w2.mul (pair d e))).div (w1.add w2)))
    match f.colourAt r c with
    | 0 => (v, g, diag)
    | 2 => (diag, g, v)
    | _ =>
      let redInRow := f.colourAt r (c + 1) == 0
      (along (!redInRow), g, along redInRow)

/-! ### The raw tap's codes (R126) -/

/-- round(q); a half is free (log 20). -/
def roundRaw (q : Frac) : Int :=
  let h := q.add (.mk' 1 2)
  if h.isInt && !Config.rawHalfUp q.num q.den then h.floor - 1 else h.floor

def clamp16 (v : Int) : Nat := (max 0 (min 65535 v)).toNat

/-- LIN16: PEDESTAL + L × (65,535 − PEDESTAL) / 2^HEADROOM. -/
def lin16 (pedestal headroom : Nat) (v : Int) : Nat :=
  clamp16 (pedestal + roundRaw (((l24 v).mul (.ofInt (65535 - (pedestal : Int)))).div (.ofInt (2 ^ headroom))))

/-- LOG16: 3,072 × (log2(max(L, 0) + 2^−12) + 12), exactly rounded: with m = 2^16 L + 16 the value is
3,072 × log2(m) − 12,288. -/
def log16 (v : Int) : Nat :=
  let m := (max v 0).toNat + 16
  min 65535 ((Nat.log2 (m ^ 6144) + 1 - 24576) / 2)

/-- The raw record ring's codes of a frame. -/
def Frame.rawCodes (f : Frame) (img : List (List Int)) : List (List Nat) :=
  let t := f.word 10
  img.map fun row => row.map fun v => if bitsOf t 31 31 = 1 then log16 v else lin16 (bitsOf t 11 0) (bitsOf t 30 28) v

/-- Every stage of the line pipeline on a complete frame: the frame with its taps and its dynamic correction count. -/
def State.develop (s : State) (n : Nat) (f : Frame) : Frame :=
  let map := (tgetD {} s.pip.banks (n * 2 + f.params.bank)).defects
  let (cor, dyn) := f.corrected map f.fused
  let shaded := s.shade n f cor
  { f with dyn := dyn, raw := f.rawCodes cor, shaded := shaded, rgb := f.demosaic (f.denoise shaded) }

end Sys2Proof.Machine
end

