-- ==== Sys2Proof/Machine/Colour.lean ====
section
/-!
DEFINITION. Number formats and the colour chain: F24 and FP16 (R145, R146), index, blend, reconstruction, illuminant and
observer stages (R147 … R151), calibration bank contents (R153), look paths (R159 … R162).
-/
namespace Sys2Proof.Machine

/-! ### F24 (R145) -/

/-- The value of an F24 code. -/
def f24 (c : Nat) : Frac :=
  let e : Nat := c / 2 ^ 16 % 128
  if e = 0 then .zero else
  let k : Nat := 65536 + c % 65536
  let m := (Frac.ofInt k).scale ((e : Int) - 79)
  if c / 2 ^ 23 % 2 = 1 then m.neg else m

/-- The largest F24 magnitude code. -/
def f24Max : Nat := 127 * 2 ^ 16 + 65535

/-- floor(log2 q) of a positive fraction. -/
def floorLog2 (q : Frac) : Int :=
  let e : Int := (Nat.log2 q.num.toNat : Int) - (Nat.log2 q.den : Int)
  if (Frac.scale .one e).le q then e else e - 1

/-- The largest F24 magnitude code at or below a magnitude and whether it is exact; none below 2^−62. -/
def f24Floor (q : Frac) : Option (Nat × Bool) :=
  if q.num ≤ 0 then none else
  let e := floorLog2 q
  if e < -62 then none else
  let m := (q.scale (16 - e)).sub (.ofInt 65536)
  some (((e + 63).toNat) * 2 ^ 16 + m.floor.toNat, m.isInt)

/-- An exact value as F24, to nearest with ties to even, and whether it saturated (R145). A stage's result is this of the stage's exact
result, which also lies within the one unit in the last place of R146 (DEDUCED, log 20); an exact zero takes sign 0. -/
def toF24 (q : Frac) : Nat × Bool :=
  let sign := if q.num < 0 then 2 ^ 23 else 0
  match f24Floor q.abs with
  | none => (sign, false)
  | some (lo, exact) =>
    let code :=
      if exact then lo else
      let mid := ((f24 lo).add (f24 (lo + 1))).div (.ofInt 2)
      if lo ≥ f24Max then lo + 1
      else if q.abs.lt mid then lo
      else if mid.lt q.abs then lo + 1
      else if lo % 2 = 0 then lo else lo + 1
    if f24Max < code then (sign + f24Max, true) else (sign + code, false)

/-! ### FP16 (R146) -/

/-- Round to nearest integer, ties to even. -/
def rne (q : Frac) : Int :=
  let f := q.floor
  let d := (q.sub (.ofInt f)).scale 1
  if d.lt .one then f else if Frac.one.lt d then f + 1 else if f % 2 = 0 then f else f + 1

/-- A value as binary16: nearest, ties to even, subnormals kept, saturating at ±65,504; whether it saturated. -/
def toFp16 (q : Frac) : Nat × Bool :=
  let sign := if q.num < 0 then 2 ^ 15 else 0
  let a := q.abs
  if a.num = 0 then (sign, false) else
  let e := max (floorLog2 a) (-14)
  let m := (rne (a.scale (10 - e))).toNat
  let code := (e + 14).toNat * 1024 + m
  if 0x7BFF < code then (sign + 0x7BFF, true) else (sign + code, false)

/-- An F24 code as binary16: a zero keeps its sign. -/
def f24ToFp16 (c : Nat) : Nat × Bool :=
  let h := toFp16 (f24 c).abs
  (h.1 + c / 2 ^ 23 % 2 * 2 ^ 15, h.2)

/-- The value of a finite binary16 code. -/
def fp16 (c : Nat) : Frac :=
  let e : Nat := c / 1024 % 32
  let m := c % 1024
  let k : Nat := 1024 + m
  let v := if e = 0 then (Frac.ofInt m).scale (-24) else (Frac.ofInt k).scale ((e : Int) - 25)
  if c / 2 ^ 15 % 2 = 1 then v.neg else v

/-! ### A calibration bank's image (R153) -/

/-- A node of the index LUT, a basis word, a parameter word. -/
def TableBank.node (b : TableBank) (i : Nat) : Nat := tgetD 0 b.entries i
def TableBank.basis (b : TableBank) (i : Nat) : Nat := tgetD 0 b.entries (100000 + i)
def TableBank.param (b : TableBank) (i : Nat) : Nat := tgetD 0 b.entries (200000 + i)

/-- The bank's bytes in region order. -/
def TableBank.calImage (b : TableBank) : List Byte :=
  (List.range 35937).flatMap (fun i => le 2 (b.node i)) ++ (List.range 3072).flatMap (fun i => le 4 (b.basis i)) ++
  (List.range 128).flatMap (fun i => le 4 (b.param i))

/-- A byte as a signed number. -/
def signed8 (b : Nat) : Int := if 128 ≤ b then (b : Int) - 256 else b

def TableBank.ws (b : TableBank) : Nat := bitsOf (b.param 0) 31 24
def TableBank.lvlLo (b : TableBank) : Int := signed8 (bitsOf (b.param 0) 15 8)
def TableBank.lvlHi (b : TableBank) : Int := signed8 (bitsOf (b.param 0) 7 0)

/-- Decimal digits as a fraction. -/
def dec10 (n : Int) : Frac := .mk' n 10000000000

/-- XYZ to ACES AP0 and AP1 as published by the Academy (PRESUMED, log 23). -/
def xyzToAp0 : List Frac :=
  [dec10 10498110175, dec10 0, dec10 (-974845), dec10 (-4959030231), dec10 13733130458, dec10 982400361,
    dec10 0, dec10 0, dec10 9912520182]
def xyzToAp1 : List Frac :=
  [dec10 16410233797, dec10 (-3248032942), dec10 (-2364246952), dec10 (-6636628587), dec10 16153315917,
    dec10 167563477, dec10 117218943, dec10 (-82844420), dec10 9883948585]

/-- T of R150 by the bank's working-space code. -/
def TableBank.target (b : TableBank) (i j : Nat) : Frac :=
  match b.ws with
  | 0 => f24 (toF24 (xyzToAp0.getD (i * 3 + j) .zero)).1
  | 1 => f24 (toF24 (xyzToAp1.getD (i * 3 + j) .zero)).1
  | _ => f24 (b.param (66 + i * 3 + j))

/-- The single observer-and-target matrix T × O, formed at seal (R150, R154). -/
def TableBank.observer (b : TableBank) (i k : Nat) : Frac :=
  f24 (toF24 (.sum ((List.range 3).map fun j => (b.target i j).mul (f24 (b.param (18 + j * 16 + k)))))).1

/-- |det U| (R154). -/
def TableBank.detU (b : TableBank) : Frac :=
  let u := fun i j => f24 (b.param (66 + i * 3 + j))
  let m := fun a c d e => ((u 1 a).mul (u 2 c)).sub ((u 1 d).mul (u 2 e))
  ((((u 0 0).mul (m 1 2 2 1)).sub ((u 0 1).mul (m 0 2 2 0))).add ((u 0 2).mul (m 0 1 1 0))).abs

/-- The validation of a seal (R154). -/
def TableBank.calValid (b : TableBank) : Bool :=
  let sets := bitsOf (b.param 0) 23 16
  (1 ≤ sets && sets ≤ 64) && decide (b.ws ≤ 2) &&
  (decide (-24 ≤ b.lvlLo) && decide (b.lvlLo ≤ 6)) && (decide (-23 ≤ b.lvlHi) && decide (b.lvlHi ≤ 7)) &&
  decide (b.lvlLo < b.lvlHi) && b.param 1 ≤ 1 &&
  ((List.range 16).all fun i => (Frac.zero).le (f24 (b.param (2 + i)))) &&
  ((List.range 53).all fun i => b.param (75 + i) == 0) &&
  ((List.range 35937).all fun i => decide (b.node i / 1024 < sets)) &&
  (b.ws != 2 || (Frac.scale .one (-20)).le b.detU)

/-! ### The per-context chain (R147 … R151) -/

/-- round_half_down of a value ≥ 0. -/
def roundHalfDown (q : Frac) : Nat :=
  let h := q.sub (.mk' 1 2)
  ((if h.isInt then h.floor else h.floor + 1)).toNat

/-- The index stage: basis set and exact weight (R148). -/
def TableBank.index (b : TableBank) (r g bl : Frac) : Nat × Frac :=
  let r := r.max .zero
  let g := g.max .zero
  let bl := bl.max .zero
  let s := (r.add g).add bl
  let third := Frac.mk' 1 3
  let (u, v, l) := if s.lt (Frac.scale .one (-24)) then (third, third, .zero) else
    (r.div s, bl.div s,
      Frac.clamp .zero .one ((((s.div (.ofInt 3)).log2).sub (.ofInt b.lvlLo)).div (.ofInt (b.lvlHi - b.lvlLo))))
  let sc := fun (q : Frac) => q.mul (.ofInt 32)
  let (pu, pv, pl) := (sc u, sc v, sc l)
  let node := fun x y z => b.node ((z * 33 + y) * 33 + x)
  let k := node (roundHalfDown pu) (roundHalfDown pv) (roundHalfDown pl) / 1024
  let iu := min pu.floor.toNat 31
  let iv := min pv.floor.toNat 31
  let il := min pl.floor.toNat 31
  let wt := fun (bit : Nat) (f : Frac) => if bit = 1 then f else Frac.one.sub f
  let corners := ([0, 1] : List Nat).flatMap fun a => ([0, 1] : List Nat).flatMap fun c => ([0, 1] : List Nat).map fun d =>
    let n := node (iu + a) (iv + c) (il + d)
    if n / 1024 = k then
      (((wt a (pu.sub (.ofInt iu))).mul (wt c (pv.sub (.ofInt iv)))).mul (wt d (pl.sub (.ofInt il)))).mul
        (.mk' (n % 1024) 1023)
    else .zero
  (k, .sum corners)

/-- Working-space RGB of one pixel under a complete bank, and whether any result saturated (R147 … R150). -/
def TableBank.pixel (b : TableBank) (rgb : Int × Int × Int) : (Nat × Nat × Nat) × Bool :=
  let cam := [rgb.1, rgb.2.1, rgb.2.2].map fun v => f24 (toF24 (l24 v)).1
  let c := fun j => cam.getD j .zero
  let (k, w) := b.index (c 0) (c 1) (c 2)
  let w := f24 (toF24 w).1
  let mat := fun i j =>
    let b0 := f24 (b.basis (i * 3 + j))
    if k = 0 then (b.basis (i * 3 + j), false) else
    toF24 (b0.add (w.mul ((f24 (b.basis (k * 48 + i * 3 + j))).sub b0)))
  let bands := (List.range 16).map fun i =>
    let ms := (List.range 3).map fun j => mat i j
    let e := toF24 (.sum (ms.zipIdx.map fun (m, j) => (f24 m.1).mul (c j)))
    let ev := if b.param 1 = 1 then (f24 e.1).max .zero else f24 e.1
    let p := toF24 (ev.mul (f24 (b.param (2 + i))))
    (f24 p.1, ms.any (·.2) || e.2 || p.2)
  let out := (List.range 3).map fun i =>
    toF24 (.sum (bands.zipIdx.map fun (p, k) => (b.observer i k).mul p.1))
  let g := fun i => (out.getD i (0, false)).1
  ((g 0, g 1, g 2), bands.any (·.2) || out.any (·.2))

/-- A developed pixel: three FP16 codes and whether any saturated (R146). -/
def developedPixel (p : Nat × Nat × Nat) : (Nat × Nat × Nat) × Bool :=
  let a := f24ToFp16 p.1
  let b := f24ToFp16 p.2.1
  let c := f24ToFp16 p.2.2
  ((a.1, b.1, c.1), a.2 || b.2 || c.2)

/-- A frame through the colour unit: working-space image, code and clipping count (R146 … R151). -/
def State.colour (s : State) (n : Nat) (f : Frame) : Frame :=
  let bank := f.params.cal.map fun b => tgetD {} s.col.cal (n * 2 + b)
  let img := f.rgb.map fun row => row.map fun p => match bank with
    | some b => b.pixel p
    | none =>
      let g := fun v => (toF24 (l24 v)).1
      ((g p.1, g p.2.1, g p.2.2), false)
  let clipped := (img.flatMap fun row => row.filter fun p => p.2 || (developedPixel p.1).2).length
  { f with work := img.map fun row => row.map (·.1), clipped := min clipped 0xFFFFFF,
           ws := (bank.map TableBank.ws).getD 3 }

/-- The developed frame's FP16 image (R146, R152). -/
def Frame.developed (f : Frame) : List (List (Nat × Nat × Nat)) :=
  f.work.map fun row => row.map fun p => (developedPixel p).1

/-! ### Look paths (R159 … R163) -/

/-- A shaper entry; a look node's three FP16 values. -/
def TableBank.shaper (b : TableBank) (c i : Nat) : Nat := tgetD 0 b.entries (c * 4096 + i)
def TableBank.lookNode (b : TableBank) (i : Nat) : Nat := tgetD 0 b.entries (12288 + i)

/-- A look bank's bytes (R163). -/
def TableBank.lookImage (b : TableBank) : List Byte :=
  (List.range 12288).flatMap (fun i => le 2 (tgetD 0 b.entries i)) ++
  (List.range 274625).flatMap (fun i => le 6 (b.lookNode i))

/-- No node encodes infinity or NaN (R163). -/
def TableBank.lookValid (b : TableBank) : Bool :=
  b.entries.all fun (i, v) => decide (i < 12288) || ((List.range 3).all fun c => bitsOf (v / 2 ^ (16 * c)) 14 10 != 31)

/-- The values a look path uses for a frame (R164). -/
structure LookParams where
  mode : Nat
  mat : List Nat
  lo : Nat
  hi : Nat
  tf : List Nat
  bank : TableBank
deriving DecidableEq, Repr

/-- The shaper's input mapping (R160). -/
def LookParams.shapeIn (p : LookParams) (log : Bool) (x : Frac) : Frac :=
  let lo := f24 p.lo
  let hi := f24 p.hi
  if log then
    if x.num ≤ 0 then .zero else
    let v := x.log2.max lo
    Frac.clamp .zero .one ((v.sub lo).div (hi.sub lo))
  else Frac.clamp .zero .one ((x.sub lo).div (hi.sub lo))

/-- The shaper table of a channel, interpolated (R160). -/
def LookParams.shape (p : LookParams) (c : Nat) (x : Frac) : Frac :=
  let q := x.mul (.ofInt 4095)
  let i := min q.floor.toNat 4095
  let f := q.sub (.ofInt i)
  let a := Frac.ofInt (p.bank.shaper c i)
  let b := Frac.ofInt (p.bank.shaper c (min (i + 1) 4095))
  (a.add (f.mul (b.sub a))).div (.ofInt 65535)

/-- Tetrahedral interpolation of one channel (R161). -/
def LookParams.tetra (p : LookParams) (y : List Frac) (ch : Nat) : Frac :=
  let q := y.map fun v => v.mul (.ofInt 64)
  let i := q.map fun v => min v.floor.toNat 63
  let f := fun c => (q.getD c .zero).sub (.ofInt (i.getD c 0))
  let at_ := fun (d : Nat × Nat × Nat) =>
    let n := p.bank.lookNode (((i.getD 2 0 + d.2.2) * 65 + (i.getD 1 0 + d.2.1)) * 65 + (i.getD 0 0 + d.1))
    fp16 (n / 2 ^ (16 * ch) % 65536)
  let order := if (f 1).le (f 0) then
      if (f 2).le (f 1) then [0, 1, 2] else if (f 2).le (f 0) then [0, 2, 1] else [2, 0, 1]
    else if (f 2).le (f 0) then [1, 0, 2] else if (f 2).le (f 1) then [1, 2, 0] else [2, 1, 0]
  let bump := fun (d : Nat × Nat × Nat) (c : Nat) => match c with
    | 0 => (1, d.2.1, d.2.2)
    | 1 => (d.1, 1, d.2.2)
    | _ => (d.1, d.2.1, 1)
  (order.foldl (fun (acc : Frac × (Nat × Nat × Nat)) c =>
    let d := bump acc.2 c
    (acc.1.add ((f c).mul ((at_ d).sub (at_ acc.2))), d)) (at_ (0, 0, 0), (0, 0, 0))).1

/-- The transfer function of R162 on one channel, 0 … 1. -/
def LookParams.transfer (p : LookParams) (v : Frac) : Frac :=
  let pr := fun k => f24 (p.tf.getD k 0)
  let unit := Frac.clamp .zero .one
  let gamma := fun (alpha beta : Frac) (x : Frac) =>
    if x.lt beta then (Frac.mk' 45 10).mul x else (alpha.mul (x.pow (.mk' 45 100))).sub (alpha.sub .one)
  unit <| match bitsOf p.mode 31 28 with
  | 1 =>
    let white := if (pr 0).num = 0 then Frac.ofInt 203 else pr 0
    let l := unit ((v.mul white).div (.ofInt 10000))
    let lm := l.pow (.mk' 2610 16384)
    ((((Frac.mk' 3424 4096).add ((Frac.mk' 2413 128).mul lm)).div (Frac.one.add ((Frac.mk' 2392 128).mul lm)))).pow
      (.mk' 2523 32)
  | 2 =>
    let k := if (pr 0).num = 0 then Frac.mk' 265 1000 else pr 0
    let e := unit (v.mul k)
    if e.le (.mk' 1 12) then ((Frac.ofInt 3).mul e).pow (.mk' 1 2)
    else
      let a := Frac.mk' 17883277 100000000
      let x := ((Frac.ofInt 12).mul e).sub (.mk' 28466892 100000000)
      (a.mul (x.log2.mul (.mk' ln2Fixed (2 ^ 64)))).add (.mk' 55991073 100000000)
  | 3 => gamma (.mk' 1099 1000) (.mk' 18 1000) (unit v)
  | 4 => gamma (.mk' 10993 10000) (.mk' 181 10000) (unit v)
  | 5 =>
    if (pr 3).le v then ((pr 0).mul ((v.add (pr 1)).log2)).add (pr 2) else ((pr 4).mul v).add (pr 5)
  | _ => v

/-- A transfer function's result as an unsigned 0.16 code: one of the codes within 4 of the exact formula (R146; log 20). -/
def tfCode (tf : Nat) (t : Frac) : Nat :=
  let exact := t.scale 16
  let lo := (-((exact.sub (.ofInt 4)).neg.floor)).toNat
  let hi := min 65535 (exact.add (.ofInt 4)).floor.toNat
  lo + Config.tfPick tf t.num t.den % (hi - lo + 1)

/-- One pixel of a look path as three unsigned 0.16 codes (R159). -/
def LookParams.pixel (p : LookParams) (q : Nat × Nat × Nat) : Nat × Nat × Nat :=
  let src := [f24 q.1, f24 q.2.1, f24 q.2.2]
  let x := (List.range 3).map fun i =>
    f24 (toF24 (.sum ((List.range 3).map fun j => (f24 (p.mat.getD (i * 3 + j) 0)).mul (src.getD j .zero)))).1
  let v := if bitsOf p.mode 25 25 = 1 then
      let y := x.zipIdx.map fun (a, c) => p.shape c (p.shapeIn (bitsOf p.mode 24 24 == 1) a)
      (List.range 3).map fun c => f24 (toF24 (p.tetra y c)).1
    else x
  let code := fun c => tfCode (bitsOf p.mode 31 28) (p.transfer (v.getD c .zero))
  (code 0, code 1, code 2)

end Sys2Proof.Machine
end

