-- ==== Sys2Proof/Machine/Owners.lean ====
section
/-!
DEFINITION. Which resource a register, an allocation, a link or an event source belongs to (R78, R81, R205, R231, R240, R332,
R348, R384, R386, R412), line-buffer units (R133, R157), pool and quota judgement (R30, R81).
-/
namespace Sys2Proof.Machine

/-- The resource of a kernel slot: its first cluster (R205). -/
def State.kernelRes (s : State) (k : Nat) : Nat :=
  res 8 (((s.kernel k).bind (·.clusters.head?)).getD 0)

/-- The owner resource of a codec context: its destination, or its source context where the destination is the host (R231). -/
def State.codecRes (s : State) (h : Nat) : Nat :=
  match s.get .MLS_C_CFG_DEST_KIND h with
  | 1 => res 7 (s.get .MLS_C_CFG_DEST_INDEX h)
  | 2 => res 2 (s.get .MLS_C_CFG_DEST_INDEX h)
  | _ => res 1 (s.get .MLS_C_CFG_SOURCE h)

/-- The owner resource of a decoder session (R240). -/
def State.decRes (s : State) (d : Nat) : Nat := (s.dec d).owner

/-- The quad of a Draxa link's first lane (R332). -/
def State.linkRes (s : State) (k : Nat) : Nat := res 11 (s.get .LNK_D_CFG_FIRST_LANE k / 4)

/-- The quad of an Ethernet interface's first lane (R348). -/
def State.ethRes (s : State) (i : Nat) : Nat := res 11 (s.get .LNK_E_CFG_FIRST_LANE i / 4)

/-- The resource of a task input (R386). -/
def State.taskRes (s : State) (t : Nat) : Nat :=
  if t < 256 then res 5 t
  else if t < 264 then res 1 (t - 256)
  else if t < 272 then res 7 (t - 264)
  else if t < 304 then s.kernelRes (t - 272)
  else if t < 310 then res 9 ((t - 304) % 2)
  else if t < 320 then globalRes 0x11
  else res 13 (t - 320)

/-- What a register's copy belongs to (R78). -/
def State.regTarget (s : State) (r : Reg) (i : Nat) : Target :=
  match r.owner with
  | .fixed id => .res id
  | .res t => .res (res t i)
  | .h0 => .h0
  | .port => if 87 ≤ i ∧ i < 95 then .cpiPort (i - 87) else .res (res 6 i)
  | .slot => .slot i
  | .kernel => .res (s.kernelRes i)
  | .codec => .res (s.codecRes i)
  | .dec => .res (s.decRes i)
  | .lane => .res (res 11 (i / 4))
  | .link => .res (s.linkRes i)
  | .eth => .res (s.ethRes i)
  | .task => .res (s.taskRes i)
  | .strobe => .res (res 9 (i / 16))

/-- A deal port as the target of a right (R46). -/
def portTarget (p : Nat) : Target := if 87 ≤ p ∧ p < 95 then .cpiPort (p - 87) else .res (res 6 p)

/-! ### Pool quotas (R30, R81) -/

/-- The host an allocation is charged to: the owner of its resource; H0 for a shared one (R81). -/
def State.chargedTo (s : State) (k : AllocKey) : Nat :=
  let o := match k with
    | .pan c => s.owner (res 1 c)
    | .raw c => s.owner (res 1 c)
    | .dev c => s.owner (res 1 c)
    | .kernel k => s.owner (s.kernelRes k)
    | .codec h => s.owner (s.codecRes h)
    | .dec d => s.owner (s.decRes d)
    | .output o => s.owner (res 2 o)
    | .audio p => s.owner (res 4 p)
    | .buffer n => n
    | .left => 0
    | .tables c _ => s.owner (res 1 c)
  if o = shared then 0 else o

/-- The media buffer of a slot passes to H0 with its charge (R81; log 123). -/
def State.passBuffer (s : State) (n : Nat) : State :=
  let size := fun k => ((s.mem.pool.filter fun p => p.1 == k).map (·.2)).foldl (· + ·) 0
  if size (.buffer n) = 0 then s else (s.release (.buffer n)).allocate .left (size .left + size (.buffer n))

/-- Whether a new allocation, in place of the key's own, fits the pool and the quota of the host charged (R30, R81);
`host` is the host that will own the resource. -/
def State.poolFits (s : State) (k : AllocKey) (host bytes : Nat) : Bool :=
  let t := s.release k
  let held := ((t.mem.pool.filter fun p => t.chargedTo p.1 == host).map (·.2)).foldl (· + ·) 0
  bytes == 0 || (decide (t.poolUsed + bytes ≤ poolBytes) &&
    (host == 0 || decide (held + bytes ≤ (s.host host).poolQuota * mib)))

/-- The host charged for allocations of a resource. -/
def State.payer (s : State) (id : Nat) : Nat := if s.owner id = shared then 0 else s.owner id

/-! ### Line-buffer units (R133, R157) -/

/-- Units held by pipeline partitions. -/
def State.partitionUnits (s : State) : Nat :=
  ((List.range 8).map fun n => s.get .PIP_CTX_LB_UNITS n).foldl (· + ·) 0

/-- Units held by the colour unit: 3 per context with calibration banks, 26 per look bank (R157). -/
def State.colourUnits (s : State) : Nat :=
  ((List.range 8).map fun n => s.get .COL_CTX_CFG_CAL_ALLOC n * 3 + s.get .COL_LOOK_CFG_BANKS n * 26).foldl (· + ·) 0

def State.unitsFree (s : State) : Nat := 384 - (s.partitionUnits + s.colourUnits)

/-- COL_UNITS shows what is held and free (R157). -/
def State.showUnits (s : State) : State :=
  (s.set .COL_UNITS_USED s.colourUnits).set .COL_UNITS_FREE s.unitsFree

end Sys2Proof.Machine
end

