-- ==== Sys2Proof/Machine/Pip.lean ====
section
/-!
DEFINITION. The line pipeline's commands (05): configuration and admission, parameters, table banks, the raw tap's ring, the
in-line role, arbitration, the end of a frame's pass through the pipeline, known-answer passes.
-/
namespace Sys2Proof.Machine

/-- Configure on a context. -/
def cfgCtx (n : Nat) : Nat → State → List Right := fun _ _ => [⟨.configure, .res (res 1 n)⟩]



/-! ### Configuration (R129, R130, R133, R143) -/

/-- The declared load of a context [pixel/s × 100] under the geometry in effect (R130). -/
def State.declared (s : State) (n : Nat) : Nat :=
  s.get .SNS_GEOM_COLS n * s.get .SNS_GEOM_ROWS n * s.get .PIP_CTX_CFG_RATE_DECL n

def State.declaredLoad (s : State) : Nat := ((List.range 8).map s.declared).foldl (· + ·) 0

/-- Field ranges of PIP_CTX_CFG and UNITS (R144). -/
def pipRanges (cfg units : Nat) : Bool :=
  let slots := bitsOf cfg 21 17
  let depth := bitsOf cfg 25 22
  (slots == 0 || (2 ≤ slots && slots ≤ 16)) && (2 ≤ depth && depth ≤ 8) && bitsOf cfg 15 0 != 0 && units ≤ 384

/-- The bytes of a context's pan under a configuration (R129). -/
def State.panBytes (s : State) (n cfg : Nat) : Nat :=
  bitsOf cfg 21 17 * panSlotBytes (s.shadow .SNS_GEOM n) (s.get .SNS_CTX_CFG_SUBSTREAMS n)

/-- The configuration in effect: registers, units, COLS_MAX, pan allocation, declared load. -/
def State.applyPip (s : State) (n cfg units : Nat) : State :=
  let s := s.writeWord none .PIP_CTX_CFG cfg n 0
  let s := s.set .PIP_CTX_LB_UNITS units n
  let s := s.set .PIP_CTX_LB_COLS_MAX (colsMax units (inputDepth cfg) (s.get .SNS_CTX_CFG_SUBSTREAMS n)) n
  let s := s.allocate (.pan n) (s.panBytes n cfg)
  let s := if units = 0 then
      let s := (s.release (.tables n 0)).release (.tables n 1)
      let s := { s with pip := { s.pip with banks := tdel (tdel s.pip.banks (n * 2)) (n * 2 + 1) } }
      ((s.set .PIP_BANK_DEFECT_VALID 0 n).set .PIP_BANK_SHADE_VALID 0 n).showPipBank n
    else s
  (s.set .PIP_LOAD_DECLARED (min 65535 (s.declaredLoad / 100 / 10000000))).showUnits

/-- The checks of PIP_CTX_CONFIG and of the register writes that act as it (R130, R131, R133, R143, R144). -/
def State.pipStatus (s : State) (n cfg units : Nat) : Status :=
  let sub := s.get .SNS_CTX_CFG_SUBSTREAMS n
  let after := s.set .PIP_CTX_CFG_RATE_DECL (bitsOf cfg 15 0) n
  if s.enabled n then .PIP_CTX_ACTIVE
  else if units ≠ 0 ∧ colsMax units (inputDepth cfg) sub < s.sget .SNS_GEOM_COLS n then .PIP_BAD_CONFIG
  else if s.unitsFree + s.get .PIP_CTX_LB_UNITS n < units then .PIP_NO_LINE_BUFFER
  else if bitsOf cfg 27 27 = 0 ∧ 19200000000 * 100 < after.declaredLoad then .PIP_NO_PIPE_TIME
  else if !s.poolFits (.pan n) (s.payer (res 1 n)) (s.panBytes n cfg) then .PIP_NO_POOL
  else .DONE

def pktPipCtxConfig (ctx : Nat) (cfg : BitVec 32) (units : Nat) : Packet where
  opcode := 0x0502
  cls := .configure
  params := fun _ => need (decide (ctx < 8) && pipRanges cfg.toNat units) .PIP_BAD_CONFIG
  rights := cfgCtx ctx
  checks := fun _ s => s.pipStatus ctx cfg.toNat units
  run := fun _ s =>
    let s := s.applyPip ctx cfg.toNat units
    .done (.values [s.get .PIP_CTX_LB_COLS_MAX ctx,
      panSlotBytes (s.shadow .SNS_GEOM ctx) (s.get .SNS_CTX_CFG_SUBSTREAMS ctx)]) s

/-- PIP_INFO: the context's registers, PIP_INLINE, PIP_LOAD and the pan's occupancy (R142). -/
def pktPipInfo (ctx : Nat) : Packet where
  opcode := 0x0501
  params := fun _ => need (decide (ctx < 8)) .PIP_BAD_CONFIG
  run := fun _ s => .done (.values
    [s.rd .PIP_CTX_CFG ctx, s.rd .PIP_CTX_LB ctx, s.shadow .PIP_CTX_MODE ctx, s.shadow .PIP_FUSE ctx,
      s.shadow .PIP_BLACK ctx 0, s.shadow .PIP_BLACK ctx 1, s.shadow .PIP_BLACK ctx 2, s.shadow .PIP_BLACK ctx 3,
      s.shadow .PIP_WHITE ctx, s.shadow .PIP_DYN ctx, s.shadow .PIP_NR ctx, s.shadow .PIP_FILT ctx,
      s.shadow .PIP_TAP ctx, s.rd .PIP_BANK ctx, s.rd .PIP_CTX_PAN ctx, s.rd .PIP_CTX_DROP ctx,
      s.rd .PIP_CTX_LASTDROP ctx, s.rd .PIP_CTX_FRAME ctx, s.rd .PIP_CTX_DYN ctx,
      s.inlineWord, s.rd .PIP_LOAD, s.occupied ctx]) s

/-! ### Parameters (R116 … R118, R127) -/

/-- The shadowed registers of a context in the order PIP_PARAM_SET carries them. -/
def pipParamRegs : List (Reg × Nat) :=
  [(.PIP_CTX_MODE, 0), (.PIP_FUSE, 0), (.PIP_BLACK, 0), (.PIP_BLACK, 1), (.PIP_BLACK, 2), (.PIP_BLACK, 3),
    (.PIP_WHITE, 0), (.PIP_DYN, 0), (.PIP_NR, 0), (.PIP_FILT, 0), (.PIP_TAP, 0)]

/-- Ranges of the parameters a context's shadows hold (R116 … R118, R144). -/
def State.pipParamsOk (s : State) (n : Nat) : Bool :=
  let black := fun k => s.shadow .PIP_BLACK n k
  decide (s.sget .PIP_CTX_MODE_CFA n ≤ 4) &&
  decide (0x100 ≤ s.sget .PIP_FUSE_RATIO n) && decide (s.sget .PIP_FUSE_RATIO n ≤ 0x7FFF) &&
  decide (1 ≤ s.sget .PIP_FILT_DMS_EPS n) &&
  ((List.range 4).all fun k => decide (bitsOf (black k) 15 0 < bitsOf (s.shadow .PIP_WHITE n) 15 0) &&
    decide (bitsOf (black k) 31 16 < bitsOf (s.shadow .PIP_WHITE n) 31 16)) &&
  (s.sget .PIP_CTX_MODE_FUSE_EN n == 0 || s.get .SNS_CTX_CFG_SUBSTREAMS n == 1)

/-- Every parameter written to its shadow. -/
def State.pipParams (s : State) (n : Nat) (ws : List (BitVec 32)) : State :=
  (pipParamRegs.zip ws).foldl (fun s ((r, j), w) => s.writeWord (some (.ctx n)) r w.toNat n j) s

def pktPipParamSet (ctx : Nat) (ws : List (BitVec 32)) : Packet where
  opcode := 0x0503
  cls := .configure
  params := fun s =>
    if ws.length ≠ 11 then .BAD_LENGTH
    else if 8 ≤ ctx then .PIP_BAD_CONFIG
    else need ((s.pipParams ctx ws).pipParamsOk ctx) .PIP_BAD_CONFIG
  rights := cfgCtx ctx
  run := fun _ s => .done .empty (s.pipParams ctx ws)

/-! ### Table banks (R119, R122, R128) -/

def State.pipBank (s : State) (n b : Nat) : PipBank := tgetD {} s.pip.banks (n * 2 + b)

def State.putPipBank (s : State) (n b : Nat) (k : PipBank) : State :=
  let s := { s with pip := { s.pip with banks := tput {} s.pip.banks (n * 2 + b) k } }
  let v := s.get .PIP_BANK_DEFECT_VALID n
  let w := s.get .PIP_BANK_SHADE_VALID n
  let put := fun (v : Nat) (on : Bool) => withBits v b b (if on then 1 else 0)
  ((s.set .PIP_BANK_DEFECT_VALID (put v k.last) n).set .PIP_BANK_SHADE_VALID (put w (k.nodes.length == 33540)) n).showPipBank n

def PipBank.complete (k : PipBank) : Bool := k.last && k.nodes.length == 33540

/-- A bank that may not be loaded: active, pending, or carried by a frame in the pan or the pipeline (R128). -/
def State.pipBankBusy (s : State) (n b : Nat) : Bool :=
  s.get .PIP_BANK_ACTIVE n == b || pendingSwap (s.ctx n).pipSwap s.now b ||
  (s.ctx n).frames.any fun f => (f.slot || f.inline) && !f.demosaicked && f.params.bank == b

/-- Bytes of a bank in the pool: the largest defect map and four planes (R119, R122). -/
def pipBankBytes : Nat := 65536 * 4 + 67080

/-- The checks of a load, which allocates its bank the first time (R30, R128). -/
def State.loadStatus (s : State) (n b : Nat) : Status :=
  if s.pipBankBusy n b then .PIP_BANK_BUSY
  else if s.poolAt (.tables n b) = 0 ∧ !s.poolFits (.tables n b) (s.payer (res 1 n)) pipBankBytes then .PIP_NO_POOL
  else .DONE

def State.allocBank (s : State) (n b : Nat) : State :=
  if s.poolAt (.tables n b) = 0 then s.allocate (.tables n b) pipBankBytes else s

/-- ROW and COL of a defect entry as one order. -/
def defectKey (e : BitVec 32) : Nat := bitsOf e.toNat 29 16 * 2 ^ 14 + bitsOf e.toNat 13 0

def risingFrom : Option Nat → List Nat → Bool
  | _, [] => true
  | none, a :: t => risingFrom (some a) t
  | some p, a :: t => decide (p < a) && risingFrom (some a) t

/-- The map a load leaves: entries before `first` stay, later ones are replaced (DESIGN CHOICE, log 22). -/
def defectMap (old : List (BitVec 32)) (first : Nat) (new : List (BitVec 32)) : List (BitVec 32) := old.take first ++ new

def pktPipDefectLoad (ctx bank first count : Nat) (last : Bool) (entries : List (BitVec 32)) : Packet where
  opcode := 0x0504
  cls := .configure
  params := fun s =>
    let old := (s.pipBank ctx bank).defects
    if entries.length ≠ count then .BAD_LENGTH
    else if 8 ≤ ctx ∨ 2 ≤ bank ∨ 1000 < count then .PIP_BAD_CONFIG
    else if old.length < first ∨ 65536 < first + count ∨ (entries.any fun e => bitsOf e.toNat 31 30 == 3) ∨
      !risingFrom none ((defectMap old first entries).map defectKey) then .PIP_BAD_DEFECT_MAP
    else .DONE
  rights := cfgCtx ctx
  checks := fun _ s => s.loadStatus ctx bank
  run := fun _ s =>
    let s := s.allocBank ctx bank
    let k := s.pipBank ctx bank
    .done .empty (s.putPipBank ctx bank { k with allocated := true, defects := defectMap k.defects first entries, last := last })

def pktPipShadeLoad (ctx bank plane first count : Nat) (gains : List Nat) : Packet where
  opcode := 0x0505
  cls := .configure
  params := fun _ =>
    if gains.length ≠ count then .BAD_LENGTH
    else if 8 ≤ ctx ∨ 2 ≤ bank ∨ 4 ≤ plane ∨ count = 0 ∨ 2000 < count then .PIP_BAD_CONFIG
    else if 8385 < first + count ∨ gains.any (fun g => g == 0 || decide (65535 < g)) then .PIP_BAD_SHADING
    else .DONE
  rights := cfgCtx ctx
  checks := fun _ s => s.loadStatus ctx bank
  run := fun _ s =>
    let s := s.allocBank ctx bank
    let k := s.pipBank ctx bank
    let nodes := if k.nodes.length = 33540 then [] else k.nodes
    let nodes := gains.zipIdx.foldl (fun t (g, i) => tins g t (plane * 8385 + first + i)) nodes
    .done .empty (s.putPipBank ctx bank { k with allocated := true, nodes := nodes })

def pktPipBankSwap (ctx bank : Nat) : Packet where
  opcode := 0x0508
  cls := .configure
  params := fun _ => need (decide (ctx < 8) && decide (bank < 2)) .PIP_BAD_CONFIG
  rights := cfgCtx ctx
  checks := fun _ s => need (s.pipBank ctx bank).complete .PIP_BANK_INCOMPLETE
  run := fun _ s =>
    let c := s.ctx ctx
    .wait (.pipBank ctx s.now) ((s.setCtx ctx { c with pipSwap := c.pipSwap ++ [(bank, s.now)] }).showPipBank ctx)

/-- PIPE_TABLE_SWAP: an incomplete bank has no effect and sets NOT_READY (R128). -/
def evPipeTableSwap (ctx : Fin 8) (bank : BitVec 32) (s : State) : Out' :=
  let n := ctx.val
  let b := bank.toNat
  .next (if b < 2 ∧ (s.pipBank n b).complete then
    let c := s.ctx n
    (s.setCtx n { c with pipSwap := c.pipSwap ++ [(b, s.now)] }).showPipBank n
  else s.raise .PIP_EVT_NOT_READY n)

/-! ### The raw record ring (R126) -/

/-- Bytes of a raw record ring. -/
def State.rawBytes (s : State) (n slots : Nat) : Nat := s.sget .SNS_GEOM_COLS n * s.sget .SNS_GEOM_ROWS n * 2 * slots

def pktPipTapConfig (ctx slots : Nat) : Packet where
  opcode := 0x0506
  cls := .configure
  params := fun _ => need (decide (ctx < 8) && (slots == 0 || (2 ≤ slots && slots ≤ 4))) .PIP_BAD_CONFIG
  rights := cfgCtx ctx
  checks := fun _ s =>
    if s.enabled ctx then .PIP_CTX_ACTIVE
    else need (s.poolFits (.raw ctx) (s.payer (res 1 ctx)) (s.rawBytes ctx slots)) .PIP_NO_POOL
  run := fun _ s =>
    let s := (s.allocate (.raw ctx) (s.rawBytes ctx slots)).set .PIP_TAP_RAW_SLOTS slots ctx
    let c := s.ctx ctx
    let s := s.setCtx ctx { c with frames := c.frames.map fun f => { f with rawSlot := false } }
    .done .empty (s.forget ctx)

/-! ### The in-line role (R139) -/

/-- A pending switch is cancelled; a PIP_INLINE_SET that waits for it gets WRONG_STATE. -/
def State.cancelSwitch (s : State) : State :=
  (s.set .PIP_INLINE_PENDING 0).complete (fun w => match w with
    | .inlineSwitch _ => true
    | _ => false) .WRONG_STATE .empty

/-- How a switch to a context ends: refused, done at once, or pending. -/
inductive SwitchResult where
  | refused | done | pending
deriving DecidableEq, Repr

def State.inlineSwitch (s : State) (n : Nat) : SwitchResult × State :=
  if !s.enabled n || s.get .PIP_CTX_CFG_INLINE_OK n == 0 then (.refused, s.raise .PIP_EVT_SWITCH_REFUSED)
  else if s.isInline n then (.done, s.cancelSwitch.raise .PIP_EVT_SWITCH_DONE)
  else (.pending, (s.cancelSwitch.set .PIP_INLINE_PENDING 1).set .PIP_INLINE_PENDING_CTX n)

def evInlineSwitch (ctx : Fin 8) (s : State) : Out' := .next (s.inlineSwitch ctx.val).2

def pktPipInlineSet (ctx : Nat) : Packet where
  opcode := 0x0507
  cls := .configure
  params := fun _ => need (decide (ctx < 8)) .PIP_BAD_CONFIG
  rights := fun _ _ => [⟨.configure, .res (globalRes 5)⟩]
  run := fun _ s => match s.inlineSwitch ctx with
    | (.refused, s) => .refuse .WRONG_STATE s
    | (.done, s) => .done .empty s
    | (.pending, s) => .wait (.inlineSwitch ctx) s

/-- PIP_DROP_LOG: the last 32 drop records, newest first, of 16 bytes each (R137). -/
def pktPipDropLog (ctx : Nat) : Packet where
  opcode := 0x0509
  params := fun _ => need (decide (ctx < 8)) .PIP_BAD_CONFIG
  run := fun _ s => .done (.bytes ((s.ctx ctx).drops.flatMap fun d => le 4 d.frame ++ le 8 d.sof ++ le 4 d.reason)) s

/-! ### Arbitration and the end of the pipeline (R134, R136, R141) -/

/-- The end of a known-answer pass (R141, R166): a mismatch is counted, flagged and reported as code 0x07 or 0x08 with the
context and frame it followed. Without a pass due there is none. -/
def evKatPass (pipOk colOk : Bool) (s : State) : Out' :=
  match s.pip.katDue with
  | [] => .next s
  | (n, frame) :: rest =>
  let s := { s with pip := { s.pip with
    katDue := rest, lastKat := s.now, katCtx := n, katFrame := frame, busy := s.pip.busy + 320 } }
  let s := (s.set .PIP_KAT_LAST_OK (if pipOk then 1 else 0)).set .COL_KAT_LAST_OK (if colOk then 1 else 0)
  let s := if pipOk then s.passed 0x07 else ((s.bump .PIP_KAT_FAILS).raise .PIP_EVT_KAT_FAIL).report 0x07 n frame
  .next (if colOk then s.passed 0x08 else ((s.bump .COL_KAT_FAILS).raise .COL_EVT_KAT_FAIL).report 0x08 n frame)

end Sys2Proof.Machine
end

