-- ==== Sys2Proof/Machine/Sta.lean ====
section
/-!
DEFINITION. Frame statistics (07): measures of a frame, the record of R176, configuration banks, publication, reading held
records, delivery.
-/
namespace Sys2Proof.Machine

/-! ### Reading held records (R180, shared by the "as R180" reads) -/

/-- Find the held record a read names: the newest with LATEST, else by frame and SOF (0: any); newest first. -/
def findHeld (l : List Held) (rd : ReadArgs) : Option Held :=
  if rd.latest then l.head? else l.find? fun h => h.frame == rd.frame && (rd.sof == 0 || h.sof == rd.sof)

/-- Offset and length multiples of 4, length 4 … 4,080, within the record (R180). -/
def rangeOk (rd : ReadArgs) (size : Nat) : Bool :=
  rd.off % 4 == 0 && rd.len % 4 == 0 && decide (4 ≤ rd.len) && decide (rd.len ≤ 4080) && decide (rd.off + rd.len ≤ size)

/-- Bytes as read from HBM3: zeros while it is frozen (R321). -/
def State.fromHbm (s : State) (b : List Byte) : List Byte := if s.frozen then b.map fun _ => 0 else b

/-- The 16-byte prefix and the bytes requested (R180). -/
def State.heldBytes (s : State) (h : Held) (rd : ReadArgs) : List Byte :=
  le 4 h.frame ++ le 4 0 ++ le 8 h.sof ++ s.fromHbm (slice h.bytes rd.off rd.len)

/-! ### Fixed-point cosine and square root -/

/-- 2π in 64 fraction bits. -/
def twoPiFixed : Nat := 0x6487ED5110B4611A6

/-- Terms of a Taylor series with alternating signs: `t` the term so far, `k` the next factor. -/
def waveTerms : Nat → Nat → Nat → Nat → Bool → Int
  | 0, _, _, _, _ => 0
  | n + 1, x, k, t, pos => (if pos then (t : Int) else -t) + waveTerms n x (k + 2) (t * x / 2 ^ 64 * x / 2 ^ 64 / (k * (k + 1))) (!pos)

/-- cos and sin of a number of turns given in 64 fraction bits. -/
def cosSin (turn : Nat) : Int × Int :=
  let x := turn % 2 ^ 64 * twoPiFixed / 2 ^ 64
  (waveTerms 40 x 1 (2 ^ 64) true, waveTerms 40 x 2 x true)

/-- The integer square root by bits. -/
def isqrtBits : Nat → Nat → Nat → Nat
  | 0, _, r => r
  | n + 1, v, r => if (r + 2 ^ n) * (r + 2 ^ n) ≤ v then isqrtBits n v (r + 2 ^ n) else isqrtBits n v r

/-! ### Measures (R170 … R174) -/

/-- The bank of a frame's context that it is measured with. -/
def State.staReg (s : State) (r : Reg) (n : Nat) (f : Frame) : Nat := s.rd r n f.params.sta

/-- Luma with STA_LUMA's weights (R170). -/
def lumaOf (w : Nat) (p : Int × Int × Int) : Frac :=
  .mk' ((bitsOf w 29 20 : Int) * p.1 + (bitsOf w 19 10 : Int) * p.2.1 + (bitsOf w 9 0 : Int) * p.2.2) (1024 * 65536)

/-- The histogram bin of a source value (R171). -/
def histBin (log : Bool) (x : Frac) : Nat :=
  let v := if log then
      if x.le (Frac.scale .one (-12)) then 0 else (((x.log2).add (.ofInt 12)).mul (.ofInt 16)).floor
    else (x.mul (.ofInt 256)).floor
  (max 0 (min 255 v)).toNat

/-- A histogram's source value of a pixel (R170). -/
def histSource (h w : Nat) (p : Int × Int × Int) : Frac :=
  match h % 16 with
  | 0 => l24 p.1
  | 1 => l24 p.2.1
  | 2 => l24 p.2.2
  | 3 => lumaOf w p
  | _ => l24 (max p.1 (max p.2.1 p.2.2))

/-- How often each of `n` values occurs. -/
def countsOf (n : Nat) (l : List Nat) : List Nat :=
  (List.range n).map fun k => (l.filter (· == k)).length

/-- The 16 bytes of zone z (R172, R176). -/
def State.zone (s : State) (n : Nat) (f : Frame) (z : Nat) : List Byte :=
  let places := ((List.range f.rows).filter fun r => r * 36 / f.rows == z / 64).flatMap fun r =>
    ((List.range f.cols).filter fun c => c * 64 / f.cols == z % 64).map fun c => (r, c)
  let px := places.map fun (r, c) => (f.rgb.getD r []).getD c (0, 0, 0)
  let mean := fun (g : Int × Int × Int → Int) => (toFp16 (meanL24 (px.map g))).1
  let level := Frac.mk' (bitsOf (s.staReg .STA_CLIP n f) 15 0) 4096
  let clipped := (px.filter fun p => level.le (l24 (max p.1 (max p.2.1 p.2.2)))).length
  let g := fun (r : Nat) (c : Int) => (l24 (pix 0 f.rows f.cols f.shaded r c)).clamp .zero .one
  let focus := Frac.sum ((places.filter fun (r, c) => f.cfa == 4 || f.colourAt r c == 1).map fun (r, c) =>
    ((((g r c).mul (.ofInt 2)).sub (g r (c - 2))).sub (g r (c + 2))).abs)
  let q := focus.scale 12
  let fv := if q.isInt then q.floor else if Config.staUp 1 q.num q.den then q.floor + 1 else q.floor
  le 2 (mean (·.1)) ++ le 2 (mean (·.2.1)) ++ le 2 (mean (·.2.2)) ++ le 2 (min clipped 65535) ++
    le 4 (min fv.toNat 0xFFFFFFFF) ++ le 4 0

/-- A row-group's mean Y as its FP16 entry, none where it holds padding or a replaced line (R173). -/
def State.profileEntry (s : State) (n : Nat) (f : Frame) (j : Nat) : Option Nat :=
  let rows := slice f.rgb (j * 16) 16
  if (slice f.rows0 (j * 16) 16).any (·.fill) || (slice f.rows1 (j * 16) 16).any (·.fill) then none else
  let ys := rows.flatMap fun row => row.map (lumaOf (s.staReg .STA_LUMA n f))
  some (toFp16 ((Frac.sum ys).div (.ofInt ys.length))).1

/-- A figure as a whole number: itself where it is one, to the precision of the model's cosine and root, else one of its neighbours
(R173; log 20). -/
def wholeNear (measure : Nat) (q : Frac) : Nat :=
  let near := (q.add (.mk' 1 2)).floor
  if (q.sub (.ofInt near)).abs.lt (Frac.scale .one (-24)) then near.toNat
  else (if Config.staUp measure q.num q.den then q.floor + 1 else q.floor).toNat

/-- The flicker amplitude at a frequency as unsigned 0.16, from the row-groups' profile entries (R173). -/
def flickerAmp (f : Frame) (entries : List (Nat × Frac)) (hz : Nat) : Nat :=
  let n := entries.length
  let m := (Frac.sum (entries.map (·.2))).div (.ofInt n)
  if n < 8 || m.le (Frac.scale .one (-16)) then 0 else
  let terms := entries.map fun (j, p) =>
    let t := (((f.rows0.getD (j * 16) ⟨[], false, f.sof⟩).tick : Int) - f.sof).toNat
    let (c, sn) := cosSin (hz * t * 2 ^ 64 / 300000000)
    let v := (p.scale 24).floor
    (v * c, v * sn)
  let re := (terms.map (·.1)).foldl (· + ·) 0
  let im := (terms.map (·.2)).foldl (· + ·) 0
  let mag := isqrtBits 120 (re * re + im * im).toNat 0
  let a := ((Frac.mk' (2 * mag) (2 ^ 88)).div ((Frac.ofInt n).mul m)).scale 16
  min (wholeNear 2 a) 0xFFFF

/-- The false-colour thresholds T0 … T6 of a bank (R174). -/
def State.fcThresholds (s : State) (n b : Nat) : List Nat :=
  let w := fun r => s.rd r n b
  [bitsOf (w .STA_FC_THR0) 15 0, bitsOf (w .STA_FC_THR0) 31 16, bitsOf (w .STA_FC_THR1) 15 0, bitsOf (w .STA_FC_THR1) 31 16,
    bitsOf (w .STA_FC_THR2) 15 0, bitsOf (w .STA_FC_THR2) 31 16, bitsOf (w .STA_FC_THR3) 15 0]

/-- The record of a frame (R176). -/
def State.record (s : State) (n : Nat) (f : Frame) : List Byte :=
  let w := s.staReg .STA_LUMA n f
  let px := f.rgb.flatMap fun row => row
  let hcfg := s.staReg .STA_HIST_CFG n f
  let hist := (List.range 4).flatMap fun h =>
    let c := bitsOf hcfg (h * 8 + 4) (h * 8)
    (countsOf 256 (px.map fun p => histBin (c / 16 % 2 == 1) (histSource c w p))).flatMap (le 4)
  let groups := (f.rows + 15) / 16
  let prof := (List.range groups).map fun j => s.profileEntry n f j
  let included := prof.zipIdx.filterMap fun (e, j) => e.map fun v => (j, fp16 v)
  let profile := (List.range 768).flatMap fun j => le 2 ((prof.getD j none).getD 0)
  let fl := s.staReg .STA_FLICKER n f
  let a1 := flickerAmp f included (bitsOf fl 15 8)
  let a2 := flickerAmp f included (bitsOf fl 7 0)
  let thr := bitsOf fl 31 16
  let ts := (s.fcThresholds n f.params.sta).map fun t : Nat => Frac.mk' (t : Int) 4096
  let bands := (countsOf 8 (px.map fun p => (ts.filter fun t => t.le (lumaOf w p)).length)).flatMap (le 4)
  let flags := included.length * 2 ^ 16 + f.params.sta * 8 + (if thr ≤ a2 then 4 else 0) + (if thr ≤ a1 then 2 else 0) +
    f.status / 2 ^ 60 % 2
  let head := le 2 0x5341 ++ [1, BitVec.ofNat 8 n] ++ le 4 f.num ++ le 8 f.sof ++ le 8 f.status ++ le 4 flags ++
    le 4 (a1 * 2 ^ 16 + a2) ++ le 4 (f.cols * 2 ^ 16 + f.rows) ++ le 4 0 ++ le 8 s.now ++ List.replicate 12 0
  let body := hist ++ (List.range 2304).flatMap (fun z => s.zone n f z) ++ profile ++ bands
  head ++ le 4 (crc32c (head ++ body)) ++ body

/-! ### Publication (R178, R179, R181) -/

/-- Publish a record: the ring, where one publication takes one slot (R179), STA_CTX_LAST and its SOF, PUBLISHED, the producer, and delivery to hosts. -/
def State.publishRecord (s : State) (n : Nat) (f : Frame) : State :=
  let h : Held := ⟨f.num, f.sof, s.record n f⟩
  let held := tgetD [] s.sta.rings n
  let ring := (h :: held).take (max (s.get .STA_CTX_CFG_SLOTS n) held.length)
  let s := { s with sta := { s.sta with rings := tput [] s.sta.rings n ring } }
  let s := (s.set .STA_CTX_LAST_FRAME f.num n).wr64 .STA_CTX_LAST_SOF_LO .STA_CTX_LAST_SOF_HI f.sof n
  let s := (s.raise .STA_EVT_PUBLISHED n).pulseSource (0x18 + n)
  (List.range 8).foldl (fun s k =>
    let hs := s.host k
    s.setHost k { hs with deliveries := hs.deliveries.map fun d =>
      if d.ctx = n then d.copy h.bytes else d }) s

/-- STATS_PUBLISH: the oldest record of a context that is due, in frame-number order (R178). -/
def evStatsPublish (ctx : Fin 8) (s : State) : Out' :=
  let n := ctx.val
  .next <| match (s.ctx n).frames.find? (·.recordDue) with
  | none => s
  | some f =>
    if !f.coloured || s.frozen then s else
    ((s.publishRecord n f).modFrame n f.id fun f => { f with recordDue := false }).forget n

/-! ### Packets (R182) -/

def pktStaInfo (ctx : Nat) : Packet where
  opcode := 0x0701
  params := fun _ => need (decide (ctx < 8)) .STA_BAD_CONFIG
  run := fun _ s => .done (.values [s.rd .STA_CTX_CFG ctx, s.rd .STA_CTX_LAST ctx, s.rd .STA_CTX_LAST_SOF_LO ctx,
    s.rd .STA_CTX_LAST_SOF_HI ctx, s.get .STA_CTX_CFG_BANK ctx, s.get .STA_CTX_CFG_PENDING ctx]) s

/-- SLOTS may change only while the context is disabled (R179, R183). -/
def State.staCtxStatus (s : State) (n slots : Nat) : Status :=
  need (!(s.enabled n && slots != s.get .STA_CTX_CFG_SLOTS n)) .STA_CTX_ACTIVE

/-- EN and SLOTS written; the records held stay (R179). -/
def State.applyStaCtx (s : State) (n en slots : Nat) : State :=
  (s.set .STA_CTX_CFG_EN en n).set .STA_CTX_CFG_SLOTS slots n

def pktStaCtxConfig (ctx en slots : Nat) : Packet where
  opcode := 0x0702
  cls := .configure
  params := fun _ => need (decide (ctx < 8) && decide (en < 2) && decide (2 ≤ slots) && decide (slots ≤ 64)) .STA_BAD_CONFIG
  rights := cfgCtx ctx
  checks := fun _ s => s.staCtxStatus ctx slots
  run := fun _ s => .done .empty (s.applyStaCtx ctx en slots)

/-- The registers of a bank in the order of their offsets (R184). -/
def staBankRegs : List Reg :=
  [.STA_HIST_CFG, .STA_LUMA, .STA_CLIP, .STA_FLICKER, .STA_FC_THR0, .STA_FC_THR1, .STA_FC_THR2, .STA_FC_THR3]

/-- Ranges of a bank's registers (R171, R174, R175). -/
def State.staBankOk (s : State) (n b : Nat) : Bool :=
  let h := s.rd .STA_HIST_CFG n b
  let l := s.rd .STA_LUMA n b
  let fl := s.rd .STA_FLICKER n b
  ((List.range 4).all fun k => decide (bitsOf h (k * 8 + 3) (k * 8) ≤ 4)) &&
  bitsOf l 29 20 + bitsOf l 19 10 + bitsOf l 9 0 == 1024 &&
  decide (1 ≤ bitsOf fl 15 8) && decide (1 ≤ bitsOf fl 7 0) && risingFrom none (s.fcThresholds n b)

def State.staBankWrite (s : State) (n b : Nat) (ws : List (BitVec 32)) : State :=
  (staBankRegs.zip ws).foldl (fun s (r, w) => s.writeWord none r w.toNat n b) s

/-- A bank in use: active, pending, or carried by a frame not yet published (R175). -/
def State.staBankBusy (s : State) (n b : Nat) : Bool :=
  s.get .STA_CTX_CFG_BANK n == b || pendingSwap (s.ctx n).staSwap s.now b ||
  (s.ctx n).frames.any fun f => (f.inFlight || f.recordDue) && f.params.sta == b

def pktStaCfgSet (ctx bank : Nat) (ws : List (BitVec 32)) : Packet where
  opcode := 0x0703
  cls := .configure
  params := fun s =>
    if ws.length ≠ 8 then .BAD_LENGTH
    else need (decide (ctx < 8) && decide (bank < 2) && (s.staBankWrite ctx bank ws).staBankOk ctx bank) .STA_BAD_CONFIG
  rights := cfgCtx ctx
  checks := fun _ s => need (!s.staBankBusy ctx bank) .STA_BANK_BUSY
  run := fun _ s => .done .empty (s.staBankWrite ctx bank ws)

/-- A swap of the statistics configuration waits for the context's frame boundary (R175). -/
def State.staSwapTo (s : State) (n b : Nat) : State :=
  let c := s.ctx n
  (s.setCtx n { c with staSwap := c.staSwap ++ [(b, s.now)] }).set .STA_CTX_CFG_PENDING 1 n

def pktStaCfgSwap (ctx bank : Nat) : Packet where
  opcode := 0x0704
  cls := .configure
  params := fun _ => need (decide (ctx < 8) && decide (bank < 2)) .STA_BAD_CONFIG
  rights := cfgCtx ctx
  run := fun _ s => .wait (.staSwap ctx s.now) (s.staSwapTo ctx bank)

/-- STATS_CONFIG_SWAP: a bank is always complete (R175); an ARG naming no bank has no effect. -/
def evStatsConfigSwap (ctx : Fin 8) (bank : BitVec 32) (s : State) : Out' :=
  .next (if bank.toNat < 2 then s.staSwapTo ctx.val bank.toNat else s)

def pktStaRead (ctx : Nat) (rd : ReadArgs) : Packet where
  opcode := 0x0705
  params := fun _ => if 8 ≤ ctx then .STA_BAD_CONFIG else need (rangeOk rd 42592) .STA_BAD_RANGE
  checks := fun _ s => need (findHeld (tgetD [] s.sta.rings ctx) rd).isSome .STA_NOT_HELD
  run := fun _ s => match findHeld (tgetD [] s.sta.rings ctx) rd with
    | some h => .done (.bytes (s.heldBytes h rd)) s
    | none => .refuse .STA_NOT_HELD s

/-- STA_DELIVER: a PCIe host's buffer receives the context's records; a count of 0 stops delivery (R181). -/
def pktStaDeliver (ctx addr slots : Nat) : Packet where
  opcode := 0x0706
  params := fun _ => need (decide (ctx < 8) && (slots == 0 || (decide (2 ≤ slots) && decide (slots ≤ 64)))) .STA_BAD_CONFIG
  checks := fun n s => need (s.get .CPI_SLOT_STATE_TRANSPORT n == 1) .STA_BAD_CONFIG
  run := fun via s =>
    let n := slotOf via
    let h := s.host n
    let rest := h.deliveries.filter (·.ctx ≠ ctx)
    .done .empty (s.setHost n { h with deliveries := if slots = 0 then rest else rest ++ [⟨ctx, addr, slots, 0, 0, []⟩] })

end Sys2Proof.Machine
end

