-- ==== Sys2Proof/Machine/Bits.lean ====
section
/-!
DEFINITION. The Mailis bitstream (R207, R211 … R219): bits and Rice codes, headers, escapes, CRC-16, slice geometry, blocks and
macroblocks read and written, reconstruction.
-/
namespace Sys2Proof.Machine

/-! ### Bits and bytes -/

/-- The `n` low bits of a value, most significant first. -/
def bitsBE : Nat → Nat → List Bool
  | 0, _ => []
  | n + 1, v => (v / 2 ^ n % 2 == 1) :: bitsBE n v

/-- The value a bit list spells, most significant first. -/
def ofBits (l : List Bool) : Nat := l.foldl (fun a b => a * 2 + (if b then 1 else 0)) 0

/-- Read `n` bits. -/
def readBits (n : Nat) (l : List Bool) : Option (Nat × List Bool) :=
  if l.length < n then none else some (ofBits (l.take n), l.drop n)

/-- Groups of `k` elements; the fuel is the list's length. -/
def groupsOf {α : Type} (k : Nat) : Nat → List α → List (List α)
  | 0, _ => []
  | n + 1, l => if l.isEmpty then [] else l.take k :: groupsOf k n (l.drop k)

def byteBits (bs : List Byte) : List Bool := bs.flatMap fun b => bitsBE 8 b.toNat

/-- Header bits in groups of 7, bit 7 of every byte 1 (R212). -/
def headerBytes (bits : List Bool) : List Byte := (groupsOf 7 bits.length bits).map fun g => BitVec.ofNat 8 (128 + ofBits g)

/-- The bits of header bytes; none where a byte has bit 7 clear (R212, R245). -/
def headerBits (bs : List Byte) : Option (List Bool) :=
  if bs.all fun b => 128 ≤ b.toNat then some (bs.flatMap fun b => bitsBE 7 b.toNat) else none

/-- Fields of given widths, in order. -/
def packFields (fs : List (Nat × Nat)) : List Bool := fs.flatMap fun (w, v) => bitsBE w v
def unpackFields : List Nat → List Bool → List Nat
  | [], _ => []
  | w :: t, l => ofBits (l.take w) :: unpackFields t (l.drop w)

/-- Insert escapes in a payload (R211); `z` counts the zero bytes just written. -/
def escapeFrom : Nat → List Byte → List Byte
  | _, [] => []
  | z, b :: t =>
    let z' := fun (z : Nat) => if b = 0 then z + 1 else 0
    if 2 ≤ z ∧ b.toNat ≤ 3 then 3 :: b :: escapeFrom (if b = 0 then 1 else 0) t else b :: escapeFrom (z' z) t

def escape (l : List Byte) : List Byte := escapeFrom 0 l

/-- Remove every 0x03 that follows two 0x00 bytes (R211). -/
def unescapeFrom : Nat → List Byte → List Byte
  | _, [] => []
  | z, b :: t => if 2 ≤ z ∧ b = 3 then unescapeFrom 0 t else b :: unescapeFrom (if b = 0 then z + 1 else 0) t

def unescape (l : List Byte) : List Byte := unescapeFrom 0 l

/-- CRC-16, polynomial 0x1021, initial value 0xFFFF (R214). -/
def crc16Step : Nat → Nat → Nat
  | 0, c => c
  | n + 1, c => crc16Step n (if 0x8000 ≤ c then (c * 2 % 65536) ^^^ 0x1021 else c * 2)

def crc16 (bs : List Byte) : Nat := bs.foldl (fun c b => crc16Step 8 (c ^^^ (b.toNat * 256))) 0xFFFF

/-- The three markers: 0xF0 frame header, 0xF1 slice, 0xF2 end (R211). -/
def marker (b : Byte) : List Byte := [0, 0, 1, b]

/-! ### Rice codes (R216) -/

def zigzag (v : Int) : Nat := if 0 ≤ v then (2 * v).toNat else (-2 * v - 1).toNat
def unzigzag (u : Nat) : Int := if u % 2 = 0 then (u / 2 : Nat) else -((u + 1) / 2 : Nat)

def bitLength (u : Nat) : Nat := if u = 0 then 0 else Nat.log2 u + 1

def riceBits (k : Nat) (v : Int) : List Bool :=
  let u := zigzag v
  let q := u / 2 ^ k
  if 20 ≤ q then List.replicate 20 true ++ bitsBE 32 u else List.replicate q true ++ [false] ++ bitsBE k u

/-- The leading one bits of a list, at most 20, and what follows them. -/
def leadingOnes : Nat → List Bool → Nat × List Bool
  | n + 1, true :: t => let (c, r) := leadingOnes n t; (c + 1, r)
  | _, l => (0, l)

def readRice (k : Nat) (l : List Bool) : Option (Int × List Bool) := do
  let (q, r) := leadingOnes 20 l
  if q = 20 then
    let (u, r) ← readBits 32 r
    return (unzigzag u, r)
  else
    let (_, r) ← readBits 1 r
    let (x, r) ← readBits k r
    return (unzigzag (q * 2 ^ k + x), r)

/-- The parameter after a value (R216). -/
def adapt (k : Nat) (v : Int) : Nat := min 15 ((3 * k + (bitLength (zigzag v) - 1) + 2) / 4)

/-! ### Geometry (R206, R215) -/

/-- A coded picture: profile 0 MR, 1 MX, 2 MP; coded size; CFA code. -/
structure Geo where
  profile : Nat
  cols : Nat
  rows : Nat
  cfa : Nat
deriving DecidableEq, Repr

def ceilDiv (a b : Nat) : Nat := (a + b - 1) / b

def Geo.slices (g : Geo) : Nat := ceilDiv g.rows 128
def Geo.sliceRows (g : Geo) (s : Nat) : Nat := min 128 (g.rows - 128 * s)
def Geo.planeCount (g : Geo) : Nat := if g.profile = 0 then (if g.cfa = 4 then 1 else 4) else 3

/-- What a plane's dimensions are divided by. -/
def Geo.sub (g : Geo) (plane : Nat) : Nat :=
  if g.profile = 0 then (if g.cfa = 4 then 1 else 2) else if g.profile = 2 ∧ 0 < plane then 2 else 1

def Geo.planeCols (g : Geo) (p : Nat) : Nat := g.cols / g.sub p
def Geo.planeRows (g : Geo) (p : Nat) : Nat := g.rows / g.sub p

/-- The blocks of slice `s` in coding order as plane, block row within the slice, block column (R215). -/
def Geo.blocks (g : Geo) (s : Nat) : List (Nat × Nat × Nat) :=
  let rows := g.sliceRows s
  if g.profile = 2 then
    (List.range (ceilDiv rows 16)).flatMap fun my => (List.range (ceilDiv g.cols 16)).flatMap fun mx =>
      [(0, 2 * my, 2 * mx), (0, 2 * my, 2 * mx + 1), (0, 2 * my + 1, 2 * mx), (0, 2 * my + 1, 2 * mx + 1), (1, my, mx), (2, my, mx)]
  else
    (List.range (ceilDiv (rows / g.sub 0) 8)).flatMap fun br => (List.range g.planeCount).flatMap fun p =>
      (List.range (ceilDiv (g.planeCols p) 8)).map fun bx => (p, br, bx)

def Geo.blockCount (g : Geo) (s : Nat) : Nat := (g.blocks s).length

/-- The exact size of a floor slice (R219). -/
def Geo.floorSize (g : Geo) (s : Nat) : Nat := 16 + 2 * g.blockCount s

/-- The frame floor size FF (R219). -/
def Geo.frameFloor (g : Geo) : Nat := 24 + ((List.range g.slices).map g.floorSize).foldl (· + ·) 0 + 4

/-- Level shift and largest sample (R206, R218). -/
def Geo.shift (g : Geo) : Int := if g.profile = 2 then 512 else 32768
def Geo.maxSample (g : Geo) : Int := if g.profile = 2 then 1023 else 65535

/-- The first row of slice `s` in a plane. -/
def Geo.sliceTop (g : Geo) (s p : Nat) : Nat := 128 * s / g.sub p

/-! ### Reconstruction (R218) -/

/-- 32-bit two's-complement arithmetic. -/
def wrap32 (v : Int) : Int := (BitVec.ofInt 32 v).toInt

/-- D(q) = round(16 × 2^(q/8)). -/
def quantStep (q : Nat) : Nat :=
  let r := fun v => isqrtBits 72 v 0
  (r (r (r (2 ^ (40 + q)))) + 1) / 2

def dequant (q : Nat) (v : Int) : Int :=
  let m := wrap32 (wrap32 ((v.natAbs : Int) * quantStep q) + 8) / 16
  max (-1048576) (min 1048575 (if v < 0 then -m else m))

/-- Magnitudes of 128 × cos(m π / 16), m = 0 … 8. -/
def cosTable (m : Nat) : Int := ([128, 126, 118, 106, 91, 71, 49, 25, 0] : List Int).getD m 0

/-- C[k][n] (R218). -/
def dctC (k n : Nat) : Int :=
  if k = 0 then 91 else
  let m := (2 * n + 1) * k % 32
  let m := if 16 < m then 32 - m else m
  if m ≤ 8 then cosTable m else -(cosTable (16 - m))

/-- Sum of products over 0 … 7, rounded by 8 bits. -/
def sum8 (f : Nat → Int) : Int := wrap32 (((List.range 8).map f).foldl (fun a b => wrap32 (a + b)) 0 + 128) / 256

/-- The 8 × 8 residual of a block's coefficients. -/
def idct (y : List (List Int)) : List (List Int) :=
  let at_ := fun (m : List (List Int)) (r c : Nat) => (m.getD r []).getD c 0
  let t := (List.range 8).map fun n => (List.range 8).map fun v => sum8 fun k => wrap32 (dctC k n * at_ y k v)
  (List.range 8).map fun n => (List.range 8).map fun m => sum8 fun v => wrap32 (at_ t n v * dctC v m)

/-- The scan: (v, u) of each position, by diagonals (R216). -/
def scan : List (Nat × Nat) :=
  (List.range 15).flatMap fun d =>
    let on := (List.range (d + 1)).filterMap fun u => if u < 8 ∧ d - u < 8 then some (d - u, u) else none
    if d % 2 = 1 then on.reverse else on

/-- The coefficient matrix of scan-ordered values. -/
def unscan (l : List Int) : List (List Int) :=
  let e := scan.zip l
  (List.range 8).map fun v => (List.range 8).map fun u => (alook e (v, u)).getD 0

/-- A block's samples from its coefficients and prediction (none: intra). -/
def Geo.samples (g : Geo) (y : List (List Int)) (pred : Option (List (List Nat))) : List (List Nat) :=
  (idct y).zipIdx.map fun (row, r) => row.zipIdx.map fun (x, c) =>
    let base : Int := match pred with
      | none => g.shift
      | some p => ((p.getD r []).getD c 0 : Nat)
    (max 0 (min g.maxSample (x + base))).toNat

/-! ### Blocks read (R216, R217) -/

/-- Adaptive parameters and the DC predictor of each plane. -/
structure BlockState where
  kd : Nat := 4
  ka : Nat := 2
  preds : List Int := [0, 0, 0, 0]
deriving DecidableEq, Repr

def readLevels : Nat → Nat → List Bool → Option (List Int × Nat × List Bool)
  | 0, k, l => some ([], k, l)
  | n + 1, k, l => do
    let (v, l) ← readRice k l
    let (vs, k, l) ← readLevels n (adapt k v) l
    return (v :: vs, k, l)

/-- A block's scan-ordered levels. -/
def readBlock (st : BlockState) (intra : Bool) (plane : Nat) (l : List Bool) : Option (List Int × BlockState × List Bool) := do
  let (last, l) ← readBits 7 l
  if 64 < last then none
  else if intra then
    let pred := st.preds.getD plane 0
    if last = 0 then return ([pred], st, l)
    else
      let (d, l) ← readRice st.kd l
      let dc := wrap32 (pred + d)
      let (vs, ka, l) ← readLevels (last - 1) st.ka l
      return (dc :: vs, { kd := adapt st.kd d, ka := ka, preds := st.preds.set plane dc }, l)
  else
    let (vs, ka, l) ← readLevels last st.ka l
    return (vs, { st with ka := ka }, l)

/-- One decoded block: plane, block row within the slice, block column, samples. -/
abbrev Block := Nat × Nat × Nat × List (List Nat)

def Geo.intraBlock (g : Geo) (q : Nat) (at_ : Nat × Nat × Nat) (lv : List Int) : Block :=
  (at_.1, at_.2.1, at_.2.2, g.samples (unscan (lv.map (dequant q))) none)

/-- Intra blocks in order. -/
def Geo.readIntra (g : Geo) (q : Nat) : List (Nat × Nat × Nat) → BlockState → List Bool →
    Option (List Block × BlockState × List Bool)
  | [], st, l => some ([], st, l)
  | b :: t, st, l => do
    let (lv, st, l) ← readBlock st true b.1 l
    let (bs, st, l) ← g.readIntra q t st l
    return (g.intraBlock q b lv :: bs, st, l)

/-- A plane: its rows. -/
abbrev Plane := List (List Nat)

/-- The nearest sample of a plane. -/
def nearest (p : Plane) (rows cols : Nat) (y x : Int) : Nat :=
  (p.getD (max 0 (min y (rows - 1 : Int))).toNat []).getD (max 0 (min x (cols - 1 : Int))).toNat 0

/-- The prediction of a block by a vector (R217). -/
def Geo.predict (g : Geo) (ref : List Plane) (s : Nat) (b : Nat × Nat × Nat) (mv : Int × Int) : List (List Nat) :=
  let p := b.1
  let k : Int := if p = 0 then 2 else 1
  (List.range 8).map fun r => (List.range 8).map fun c =>
    nearest (ref.getD p []) (g.planeRows p) (g.planeCols p) ((g.sliceTop s p + b.2.1 * 8 + r : Nat) + k * mv.2)
      ((b.2.2 * 8 + c : Nat) + k * mv.1)

/-- Inter blocks: a block whose CBP bit is 0 has no residual. -/
def Geo.readInter (g : Geo) (q s : Nat) (ref : List Plane) (mv : Int × Int) :
    List (Nat × Nat × Nat) → List Bool → BlockState → List Bool → Option (List Block × BlockState × List Bool)
  | b :: t, c :: cbp, st, l => do
    let (lv, st, l) ← if c then readBlock st false b.1 l else some ([], st, l)
    let (bs, st, l) ← g.readInter q s ref mv t cbp st l
    return ((b.1, b.2.1, b.2.2, g.samples (unscan (lv.map (dequant q))) (some (g.predict ref s b mv))) :: bs, st, l)
  | _, _, st, l => some ([], st, l)

/-- Macroblocks of a P frame's slice; a vector component outside −32 … 31 is a syntax error (R217, R245). -/
def Geo.readMacroblocks (g : Geo) (q s : Nat) (ref : List Plane) :
    List (List (Nat × Nat × Nat)) → Int × Int → BlockState → List Bool → Option (List Block × List Bool)
  | [], _, _, l => some ([], l)
  | mb :: t, pmv, st, l => do
    let (inter, l) ← readBits 1 l
    if inter = 0 then
      let (bs, st, l) ← g.readIntra q mb st l
      let (rest, l) ← g.readMacroblocks q s ref t pmv st l
      return (bs ++ rest, l)
    else
      let (dx, l) ← readRice 1 l
      let (dy, l) ← readRice 1 l
      let mv := (pmv.1 + dx, pmv.2 + dy)
      if mv.1 < -32 ∨ 31 < mv.1 ∨ mv.2 < -32 ∨ 31 < mv.2 then none
      else
        let (cbp, l) ← readBits 6 l
        let (bs, st, l) ← g.readInter q s ref mv mb (bitsBE 6 cbp) st l
        let (rest, l) ← g.readMacroblocks q s ref t mv st l
        return (bs ++ rest, l)

/-- End padding: a 1 bit, then zeros to the byte boundary (R216). -/
def paddingOk (l : List Bool) : Bool := decide (l.length ≤ 8) && l.head? == some true && (l.drop 1).all (!·)

/-- The blocks of a normal slice's payload; none is a SYNTAX error (R245). -/
def Geo.readSlice (g : Geo) (s q : Nat) (ref : Option (List Plane)) (payload : List Byte) : Option (List Block) := do
  let bits := byteBits (unescape payload)
  let order := g.blocks s
  let (bs, l) ← match ref with
    | some r => g.readMacroblocks q s r (groupsOf 6 order.length order) (0, 0) {} bits
    | none => (g.readIntra q order {} bits).map fun (bs, _, l) => (bs, l)
  if paddingOk l then some bs else none

/-- A floor block's level (R219). -/
def floorLevel (hi lo : Byte) : Option Int :=
  if hi.toNat / 16 = 8 then
    let v := hi.toNat % 16 * 256 + lo.toNat
    some (if 2048 ≤ v then (v : Int) - 4096 else v)
  else none

/-- The blocks of a floor slice (R219). -/
def Geo.readFloor (g : Geo) : List (Nat × Nat × Nat) → List Byte → Option (List Block)
  | [], [] => some []
  | b :: t, hi :: lo :: l => do
    let v ← floorLevel hi lo
    let rest ← g.readFloor t l
    return (b.1, b.2.1, b.2.2, g.samples (unscan [v * 128]) none) :: rest
  | _, _ => none

/-- The rows of slice `s` in a plane from its blocks. -/
def Geo.sliceRowsOf (g : Geo) (s p : Nat) (bs : List Block) : Plane :=
  let mine := bs.filter fun b => b.1 == p
  (List.range (g.sliceRows s / g.sub p)).map fun r =>
    ((mine.filter fun b => b.2.1 == r / 8).flatMap fun b => b.2.2.2.getD (r % 8) []).take (g.planeCols p)

/-- A picture with the rows of slice `s` replaced. -/
def Geo.putSlice (g : Geo) (pic : List Plane) (s : Nat) (rows : List Plane) : List Plane :=
  pic.zipIdx.map fun (pl, p) =>
    let top := g.sliceTop s p
    let new := rows.getD p []
    pl.take top ++ new ++ pl.drop (top + new.length)

/-! ### Blocks written -/

def levelsBits : Nat → List Int → List Bool × Nat
  | k, [] => ([], k)
  | k, v :: t => let (b, k') := levelsBits (adapt k v) t; (riceBits k v ++ b, k')

/-- An intra block's bits from its scan-ordered levels; an empty list is LAST 0. -/
def intraBits (st : BlockState) (plane : Nat) (lv : List Int) : List Bool × BlockState :=
  match lv.take 64 with
  | [] => (bitsBE 7 0, st)
  | dc :: t =>
    let d := dc - st.preds.getD plane 0
    let (b, ka) := levelsBits st.ka t
    (bitsBE 7 (t.length + 1) ++ riceBits st.kd d ++ b, { kd := adapt st.kd d, ka := ka, preds := st.preds.set plane dc })

def interBits (st : BlockState) (lv : List Int) : List Bool × BlockState :=
  let lv := lv.take 64
  let (b, ka) := levelsBits st.ka lv
  (bitsBE 7 lv.length ++ b, { st with ka := ka })

/-- Bits to payload bytes with the end padding (R216). -/
def payloadBytes (bits : List Bool) : List Byte :=
  let l := bits ++ [true]
  let l := l ++ List.replicate ((8 - l.length % 8) % 8) false
  (groupsOf 8 l.length l).map fun g => BitVec.ofNat 8 (ofBits g)

/-- A slice with its marker and header (R214). -/
def sliceBytes (index : Nat) (floor : Bool) (q rows frame : Nat) (payload : List Byte) : List Byte :=
  marker 0xF1 ++ headerBytes (packFields [(7, index), (1, if floor then 1 else 0), (7, q), (8, rows - 1), (24, payload.length),
    (16, frame % 65536), (16, crc16 payload), (5, 0)]) ++ payload

/-- The values of a frame header (R213). -/
structure FrameHeader where
  version : Nat
  profile : Nat
  frame : Nat
  cols : Nat
  rows : Nat
  codedCols : Nat
  codedRows : Nat
  cfa : Nat
  rawFmt : Nat
  headroom : Nat
  pedestal : Nat
  ws : Nat
  pFrame : Nat
  gopPos : Nat
  slices : Nat
  matrix : Nat
  reserved : Nat
deriving DecidableEq, Repr

def frameHeaderWidths : List Nat := [4, 2, 32, 15, 14, 15, 14, 3, 1, 3, 12, 4, 1, 8, 7, 1, 4]

def FrameHeader.values (h : FrameHeader) : List Nat :=
  [h.version, h.profile, h.frame, h.cols, h.rows, h.codedCols, h.codedRows, h.cfa, h.rawFmt, h.headroom, h.pedestal, h.ws,
    h.pFrame, h.gopPos, h.slices, h.matrix, h.reserved]

def FrameHeader.bytes (h : FrameHeader) : List Byte :=
  marker 0xF0 ++ headerBytes (packFields (frameHeaderWidths.zip h.values))

def FrameHeader.ofBits (l : List Bool) : FrameHeader :=
  match unpackFields frameHeaderWidths l with
  | [a, b, c, d, e, f, g, h, i, j, k, m, n, o, p, q, r] => ⟨a, b, c, d, e, f, g, h, i, j, k, m, n, o, p, q, r⟩
  | _ => ⟨0, 0, 0, 0, 0, 0, 0, 0, 0, 0, 0, 0, 0, 0, 0, 0, 0⟩

/-! ### Ordered FP16 (R207) -/

def orderedCode (h : Nat) : Nat := if h < 0x8000 then 0x8000 + min h 0x7BFF else 0x7FFF - min (h - 0x8000) 0x7BFF
def orderedFp16 (c : Nat) : Nat := if 0x8000 ≤ c then min (c - 0x8000) 0x7BFF else 0x8000 + min (0x7FFF - c) 0x7BFF

end Sys2Proof.Machine
end

