-- ==== Sys2Proof/Machine/Eng.lean ====
section
/-!
DEFINITION. The engine array (08): kernels and their images, stream and frame inputs, results, faults. The engines' own
instructions are outside the spec; what a kernel does reaches the block as its publish word, DONE word and faults.
-/
namespace Sys2Proof.Machine

/-! ### Handles and kernels (R188, R191) -/

/-- The kernel slot a current handle names (R188). -/
def State.kernelOf (s : State) (h : Nat) : Option Nat :=
  let k := handleSlot h
  if h < 65536 ∧ (s.kernel k).isSome ∧ s.get .ENG_K_STATE_GENERATION k = handleGen h then some k else none

/-- The state of a kernel slot (R191). -/
def State.kState (s : State) (k : Nat) : Nat := s.get .ENG_K_STATE_STATE k

def State.modKernel (s : State) (k : Nat) (g : Kernel → Kernel) : State :=
  match s.kernel k with
  | some e => s.setKernel k (g e)
  | none => s

def State.modInput (s : State) (k i : Nat) (g : KInput → KInput) : State :=
  s.modKernel k fun e => match tget e.inputs i with
    | some x => { e with inputs := tins (g x) e.inputs i }
    | none => e

/-- Configure on all of a kernel's clusters (R188). -/
def kernelRights (h : Nat) : Nat → State → List Right := fun _ s =>
  match (s.kernelOf h).bind s.kernel with
  | some e => e.clusters.map fun c => ⟨.configure, .res (res 8 c)⟩
  | none => []

/-- The handle check that precedes a kernel operation's rights. -/
def handleOk (h : Nat) (s : State) : Status := need (s.kernelOf h).isSome .ENG_BAD_HANDLE

/-! ### Engine slots (R185, R189, R192) -/

def State.engSlot (s : State) (c j : Nat) : EngSlot := tgetD {} s.eng.slots (c * 16 + j)

def State.modEngSlot (s : State) (c j : Nat) (g : EngSlot → EngSlot) : State :=
  { s with eng := { s.eng with slots := tput {} s.eng.slots (c * 16 + j) (g (s.engSlot c j)) } }

/-- The engine slots a kernel occupies, with the engine's number within the kernel: in each cluster of its placement the first slots that
are not lost (DESIGN CHOICE, log 113). -/
def State.kernelSlots (s : State) (e : Kernel) : List ((Nat × Nat) × Nat) :=
  (e.clusters.flatMap fun c =>
    (((List.range 16).filter fun j => !(s.engSlot c j).lost).take e.engines).map fun j => (c, j)).zipIdx

def State.modKernelSlots (s : State) (k : Nat) (g : (Nat × Nat) × Nat → EngSlot → EngSlot) : State :=
  match s.kernel k with
  | none => s
  | some e => (s.kernelSlots e).foldl (fun s p => s.modEngSlot p.1.1 p.1.2 (g p)) s

/-- Every engine of a kernel halts. -/
def State.haltEngines (s : State) (k : Nat) : State := s.modKernelSlots k fun _ e => { e with entry := none, scalars := [] }

/-- ENG_CL_STAT shows how many engines of a cluster are SUSPECT (R201). -/
def State.showSuspects (s : State) (c : Nat) : State :=
  s.set .ENG_CL_STAT_SUSPECT ((List.range 16).filter fun j => (s.engSlot c j).suspect).length c

/-! ### Granules (R185, R190, R193) -/

/-- Granules of a cluster a kernel holds: its scratch once sealed, and in its first cluster its stream inputs'. -/
def State.kernelGranules (s : State) (k : Nat) (e : Kernel) (c : Nat) : Nat :=
  if s.kState k = 1 || !e.clusters.contains c then 0 else
  e.granules + (if e.clusters.head? = some c then (e.inputs.map fun p => p.2.granules).foldl (· + ·) 0 else 0)

def State.granulesFree (s : State) (c : Nat) : Nat :=
  24 - ((s.eng.kernels.map fun p => s.kernelGranules p.1 p.2 c).foldl (· + ·) 0 + tgetD 0 s.eng.tableGranules c)

/-- ENG_CL_STAT shows the granules free. -/
def State.showGranules (s : State) : State :=
  (List.range 32).foldl (fun s c => s.set .ENG_CL_STAT_GRANULES_FREE (s.granulesFree c) c) s

def State.kernelHolding (s : State) (c : Nat) : Bool := s.eng.kernels.any fun p => p.2.clusters.contains c

/-! ### Images (R189, R190) -/

def word32 (b : List Byte) (off : Nat) : Nat := unle (slice b off 4)

/-- The header and CRC of an image of the given length (R189). -/
def imageOk (b : List Byte) : Bool :=
  let code := word32 b 4
  let const := word32 b 8
  unle (slice b 0 2) == 0x4B4E && unle (slice b 2 1) == 1 &&
  (1 ≤ unle (slice b 3 1) && unle (slice b 3 1) ≤ 16) && code % 16 == 0 && const % 16 == 0 &&
  decide (word32 b 12 < code) && decide (code + const + word32 b 16 ≤ 65536) && decide (unle (slice b 20 1) ≤ 24) &&
  decide (unle (slice b 21 1) ≤ 4) && decide (unle (slice b 22 1) ≤ 4) &&
  ((slice b 23 37).all (· == 0)) && b.length == 64 + code + const &&
  word32 b 60 == crc32c (b.take 60 ++ b.drop 64)

/-- Clusters held and charged to a host, and those named that would be (R81, R190). -/
def State.clusterQuotaOk (s : State) (cs : List Nat) : Bool :=
  (List.range 8).all fun h => h == 0 ||
    let new := (cs.filter fun c => s.payer (res 8 c) == h).length
    let held := ((s.eng.kernels.flatMap fun p => p.2.clusters).filter fun c => s.payer (res 8 c) == h).length
    new == 0 || decide (held + new ≤ (s.host h).clusterQuota)

def pktEngKernelCreate (clusters : List Nat) (len : Nat) : Packet where
  opcode := 0x0802
  cls := .configure
  params := fun _ => need (!clusters.isEmpty && decide (clusters.length ≤ 32) && clusters.all (· < 32) &&
    decide clusters.Nodup && decide (64 ≤ len) && decide (len ≤ 65600)) .ENG_BAD_CONFIG
  rights := fun _ _ => clusters.map fun c => ⟨.configure, .res (res 8 c)⟩
  checks := fun _ s =>
    if clusters.any s.kernelHolding then .ENG_NO_CLUSTER
    else need (s.clusterQuotaOk clusters) .ENG_QUOTA
  run := fun via s =>
    match (List.range 32).find? fun k => (s.kernel k).isNone with
    | none => .refuse .ENG_NO_CLUSTER s
    | some k =>
      let gen := s.get .ENG_K_STATE_GENERATION k % 255 + 1
      let s := (s.set .ENG_K_STATE_GENERATION gen k).set .ENG_K_STATE_STATE 1 k
      let s := s.setKernel k { host := slotOf via, clusters := clusters, length := len }
      let s := clusters.foldl (fun s c => (s.set .ENG_CL_STAT_HELD 1 c).set .ENG_CL_STAT_KERNEL k c) s
      .done (.values [handleOf gen k]) (s.wr .ENG_K_FAULT 0 k)

/-- ENG_KERNEL_DATA fills the image while the kernel is LOADING (R190). -/
def pktEngKernelData (handle off : Nat) (data : List Byte) : Packet where
  opcode := 0x0803
  cls := .configure
  params := fun s => match (s.kernelOf handle).bind s.kernel with
    | none => .ENG_BAD_HANDLE
    | some e => need (decide (off + data.length ≤ e.length)) .ENG_BAD_IMAGE
  rights := kernelRights handle
  checks := fun _ s => match s.kernelOf handle with
    | none => .ENG_BAD_HANDLE
    | some k =>
      if s.kState k = 3 ∨ s.kState k = 4 then .ENG_KERNEL_RUNNING else need (s.kState k == 1) .WRONG_STATE
  run := fun _ s => match s.kernelOf handle with
    | none => .refuse .ENG_BAD_HANDLE s
    | some k => .done .empty (s.modKernel k fun e => { e with image := e.image ++ [(off, data)] })

def Kernel.bytes (e : Kernel) : List Byte := assemble e.length e.image

/-- The resources a sealed image asks for (R190). -/
def State.sealStatus (s : State) (k : Nat) (e : Kernel) : Status :=
  let b := e.bytes
  if s.kState k ≠ 1 then .WRONG_STATE
  else if !imageOk b then .ENG_BAD_IMAGE
  else if e.clusters.any fun c => s.get .ENG_CL_STAT_USABLE c < unle (slice b 3 1) then .ENG_NO_CLUSTER
  else need (e.clusters.all fun c =>
    decide (unle (slice b 20 1) + (if e.clusters.head? = some c then (e.inputs.map fun p => p.2.granules).foldl (· + ·) 0 else 0)
      ≤ s.granulesFree c)) .ENG_NO_SHARE

def pktEngKernelSeal (handle : Nat) : Packet where
  opcode := 0x0804
  cls := .configure
  params := handleOk handle
  rights := kernelRights handle
  checks := fun _ s => match s.kernelOf handle with
    | none => .ENG_BAD_HANDLE
    | some k => match s.kernel k with
      | none => .ENG_BAD_HANDLE
      | some e => s.sealStatus k e
  run := fun _ s => match s.kernelOf handle with
    | none => .refuse .ENG_BAD_HANDLE s
    | some k =>
      let s := s.modKernel k fun e =>
        let b := e.bytes
        { e with engines := unle (slice b 3 1), granules := unle (slice b 20 1), inputsMax := unle (slice b 21 1),
                 outputsMax := unle (slice b 22 1) }
      let s := s.modKernelSlots k fun _ g => { g with store := (((s.kernel k).map Kernel.bytes).getD []).drop 64 }
      .done .empty (s.set .ENG_K_STATE_STATE 2 k).showGranules

/-! ### Inputs and outputs (R193, R194, R199) -/

/-- Bytes of a pixel in a stream format (R194). -/
def fmtBytes (fmt : Nat) : Nat := ([2, 2, 6, 8] : List Nat).getD fmt 2

/-- FMT valid for a tap (R194). -/
def fmtOk (tap fmt : Nat) : Bool := if tap = 3 then fmt == 2 || fmt == 3 else fmt == 0 || fmt == 1

/-- Bytes of a row slot, rounded up to 64 (R194). -/
def rowSlotBytes (cols fmt : Nat) : Nat := (32 + cols * fmtBytes fmt + 63) / 64 * 64

/-- The lowest free stream port, that of the input replaced counting as free (R193). -/
def State.freePort (s : State) (k i : Nat) : Option Nat :=
  let used := s.eng.kernels.flatMap fun (k', e) => e.inputs.filterMap fun (i', x) => if k' = k ∧ i' = i then none else x.port
  (List.range 16).find? fun p => !used.contains p

def pktEngInputAttach (handle input : Nat) (frameKind : Bool) (ctx tap fmt rows granules : Nat) : Packet where
  opcode := 0x0805
  cls := .configure
  params := fun s =>
    if (s.kernelOf handle).isNone then .ENG_BAD_HANDLE else
    need (decide (input < 4) && decide (ctx < 8) && decide (granules ≤ 24) &&
      (if frameKind then decide (tap < 2) && granules == 0
       else decide (tap < 4) && fmtOk tap fmt && decide (2 ≤ rows) && decide (rows ≤ 64) &&
         decide (rowSlotBytes (s.sget .SNS_GEOM_COLS ctx) fmt * rows ≤ granules * 65536))) .ENG_BAD_CONFIG
  rights := fun n s => kernelRights handle n s ++ [⟨.use, .res (res 1 ctx)⟩]
  checks := fun _ s => match s.kernelOf handle with
    | none => .ENG_BAD_HANDLE
    | some k => match s.kernel k with
      | none => .ENG_BAD_HANDLE
      | some e =>
        if s.kState k = 3 ∨ s.kState k = 4 then .ENG_KERNEL_RUNNING
        else if s.kState k ≠ 2 then .WRONG_STATE
        else if e.inputsMax ≤ input then .ENG_BAD_CONFIG
        else if frameKind then
          need (if tap = 0 then s.flag .PIP_TAP_RAW_SLOTS ctx else s.flag .COL_CTX_CFG_DEV_SLOTS ctx) .ENG_NO_RING
        else if (s.freePort k input).isNone then .ENG_NO_STREAM_PORT
        else need (decide (granules ≤ s.granulesFree (e.clusters.headD 0) +
          ((tget e.inputs input).map (·.granules)).getD 0)) .ENG_NO_SHARE
  run := fun _ s => match s.kernelOf handle with
    | none => .refuse .ENG_BAD_HANDLE s
    | some k =>
      let port := if frameKind then none else s.freePort k input
      let x : KInput := { frameKind := frameKind, ctx := ctx, tap := tap, fmt := fmt, rows := rows, granules := granules, port := port }
      .done (.values port.toList) (s.modKernel k fun e => { e with inputs := tins x e.inputs input }).showGranules

/-- Pool bytes of a kernel's result rings (R199). -/
def Kernel.ringBytes (e : Kernel) : Nat := (e.outputs.map fun p => p.2.slots * p.2.slotBytes).foldl (· + ·) 0

def pktEngOutputConfig (handle output slots bytes : Nat) : Packet where
  opcode := 0x0806
  cls := .configure
  params := fun s =>
    if (s.kernelOf handle).isNone then .ENG_BAD_HANDLE else
    need (decide (output < 4) && decide (2 ≤ slots) && decide (slots ≤ 64) && decide (0 < bytes) && bytes % 4096 == 0) .ENG_BAD_CONFIG
  rights := kernelRights handle
  checks := fun _ s => match s.kernelOf handle with
    | none => .ENG_BAD_HANDLE
    | some k => match s.kernel k with
      | none => .ENG_BAD_HANDLE
      | some e =>
        if s.kState k = 3 ∨ s.kState k = 4 then .ENG_KERNEL_RUNNING
        else if s.kState k ≠ 2 then .WRONG_STATE
        else if e.outputsMax ≤ output then .ENG_BAD_CONFIG
        else
          let after := { e with outputs := tins ⟨slots, bytes, []⟩ e.outputs output }
          need (s.poolFits (.kernel k) (s.payer (s.kernelRes k)) after.ringBytes) .ENG_NO_POOL
  run := fun _ s => match s.kernelOf handle with
    | none => .refuse .ENG_BAD_HANDLE s
    | some k =>
      let s := s.modKernel k fun e => { e with outputs := tins ⟨slots, bytes, []⟩ e.outputs output }
      .done .empty (s.allocate (.kernel k) (((s.kernel k).map Kernel.ringBytes).getD 0))

/-! ### Start, stop, free (R192, R203) -/

/-- A STOPPED kernel becomes RUNNING: its inputs start afresh, and every engine begins at ENTRY with its cluster, its number within the
kernel and the share addresses of the input and the output mailbox in its scalar registers. -/
def State.startKernel (s : State) (k : Nat) : State :=
  let entry := ((s.kernel k).map fun e => word32 e.bytes 12).getD 0
  let s := s.modKernelSlots k fun p e => { e with
    entry := some entry, scalars := [p.1.1, p.2, (Config.mailbox k 0).toNat, (Config.mailbox k 1).toNat] }
  (s.modKernel k fun e => { e with
    deadline := none
    due := []
    inputs := e.inputs.map fun (i, x) => (i, { x with ring := [], seq := 0, streaming := [], held := [], fresh := 0, newest := none,
                                                      acquired := none, revoked := false }) }).set
    .ENG_K_STATE_STATE 3 k

/-- DRAIN of a kernel in ticks (R192). -/
def State.drainTicks (s : State) (k : Nat) : Nat := s.get .ENG_K_CFG_DRAIN k * ticksPerMs

/-- A kernel enters STOPPING. -/
def State.toStopping (s : State) (k : Nat) : State :=
  (s.modKernel k fun e => { e with deadline := some (s.now + s.drainTicks k) }).set .ENG_K_STATE_STATE 4 k

/-- A kernel enters STOPPED: its holds end and ENG_KERNEL_STOP replies DONE. -/
def State.toStopped (s : State) (k : Nat) : State :=
  let s := (s.haltEngines k).modKernel k fun e => { e with
    deadline := none, inputs := e.inputs.map fun (i, x) => (i, { x with acquired := none }) }
  (s.set .ENG_K_STATE_STATE 2 k).complete (fun w => w == .kernelStopped k) .DONE .empty

/-- A stop of a RUNNING kernel: at once without inputs or with input 0's context stopped, else at that context's next frame
boundary (R192). -/
def State.stopKernel (s : State) (k : Nat) : State :=
  match s.kernel k with
  | none => s
  | some e =>
    let at_ := (tget e.inputs 0).any fun x => s.running x.ctx
    if !at_ then s.toStopping k
    else if e.deadline.isSome then s
    else s.modKernel k fun e => { e with deadline := some (s.now + s.drainTicks k) }

/-- A frame boundary of a context: kernels whose stop waits for it enter STOPPING (R192). -/
def State.kernelBoundary (s : State) (n : Nat) : State :=
  s.eng.kernels.foldl (fun s (k, e) =>
    if s.kState k == 3 && e.deadline.isSome && (tget e.inputs 0).any (fun x => x.ctx == n) then s.toStopping k else s) s

def pktEngKernelStart (handle : Nat) : Packet where
  opcode := 0x0807
  cls := .configure
  params := handleOk handle
  rights := kernelRights handle
  checks := fun _ s => match s.kernelOf handle with
    | none => .ENG_BAD_HANDLE
    | some k => need (s.kState k == 2) .WRONG_STATE
  run := fun _ s => match s.kernelOf handle with
    | none => .refuse .ENG_BAD_HANDLE s
    | some k => .done .empty (s.startKernel k)

def pktEngKernelStop (handle : Nat) : Packet where
  opcode := 0x0808
  cls := .configure
  params := handleOk handle
  rights := kernelRights handle
  checks := fun _ s => match s.kernelOf handle with
    | none => .ENG_BAD_HANDLE
    | some k => need (s.kState k == 3) .WRONG_STATE
  run := fun _ s => match s.kernelOf handle with
    | none => .refuse .ENG_BAD_HANDLE s
    | some k => .wait (.kernelStopped k) (s.stopKernel k)

/-- KERNEL_START: no effect under a stale handle; NOT_READY in any state but STOPPED (R188, R192). -/
def evKernelStart (handle : BitVec 32) (s : State) : Out' :=
  .next <| match s.kernelOf handle.toNat with
  | none => s
  | some k => if s.kState k = 2 then s.startKernel k else s.raise .ENG_EVT2_NOT_READY

def evKernelStop (handle : BitVec 32) (s : State) : Out' :=
  .next <| match s.kernelOf handle.toNat with
  | none => s
  | some k => if s.kState k = 3 then s.stopKernel k else s

/-- A kernel's clusters, granules, stream ports and pool are released (R203). -/
def State.freeKernel (s : State) (k : Nat) : State :=
  match s.kernel k with
  | none => s
  | some e =>
    let s := e.clusters.foldl (fun s c => (s.set .ENG_CL_STAT_HELD 0 c).set .ENG_CL_STAT_KERNEL 0 c) s
    let s := (s.release (.kernel k)).set .ENG_K_STATE_STATE 0 k
    ({ s with eng := { s.eng with kernels := tdel s.eng.kernels k } }).showGranules

def pktEngKernelFree (handle : Nat) : Packet where
  opcode := 0x0809
  cls := .configure
  params := handleOk handle
  rights := kernelRights handle
  checks := fun _ s => match s.kernelOf handle with
    | none => .ENG_BAD_HANDLE
    | some k => need (s.kState k != 3 && s.kState k != 4) .ENG_KERNEL_RUNNING
  run := fun _ s => match s.kernelOf handle with
    | none => .refuse .ENG_BAD_HANDLE s
    | some k => .done .empty (s.freeKernel k)

/-- The registers of a kernel slot. -/
def State.kernelValues (s : State) (k : Nat) : List Nat :=
  [s.rd .ENG_K_STATE k, s.rd .ENG_K_CFG k, s.rd .ENG_K_FAULT k] ++ ((List.range 4).map fun i => s.rd .ENG_K_IN k i) ++
  (List.range 4).flatMap fun o => [s.rd .ENG_K_OUT k o, s.rd .ENG_K_REJ k o]

def pktEngInfo (isKernel : Bool) (id : Nat) : Packet where
  opcode := 0x0801
  params := fun s => if isKernel then handleOk id s else need (decide (id < 32)) .ENG_BAD_CONFIG
  run := fun _ s => .done (.values (if isKernel then s.kernelValues (handleSlot id) else [s.rd .ENG_CL_STAT id])) s

/-- DRAIN has passed (R192): a stop still waiting for a boundary enters STOPPING, a STOPPING kernel enters STOPPED. -/
def evDrainExpiry (slot : Fin 32) (s : State) : Out' :=
  let k := slot.val
  .next (if s.kState k = 3 ∧ ((s.kernel k).bind (·.deadline)).isSome then s.toStopping k
    else if s.kState k = 4 then s.toStopped k else s)

def evKernelDoneWord (slot : Fin 32) (s : State) : Out' :=
  .next (if s.kState slot.val = 4 then s.toStopped slot.val else s)

/-! ### Stream inputs (R194, R195, R198) -/

/-- Bytes of the row header (R194). -/
def RowSlot.header (r : RowSlot) : List Byte :=
  le 4 r.frame ++ le 2 r.row ++ le 2 r.flags ++ le 8 r.sof ++ le 8 r.status ++ le 4 r.seq ++ le 4 0

/-- The kernel frees its oldest row slots; held trailers go into free slots, oldest first (R194, R195). -/
def KInput.freed (x : KInput) (k : Nat) : KInput :=
  let ring := x.ring.drop k
  let put := (x.held.take (x.rows - ring.length)).zipIdx.map fun (t, j) => { t with seq := x.seq + j }
  { x with ring := ring ++ put, seq := x.seq + put.length, held := x.held.drop put.length }

/-- A frame's delivery recorded for result checks: the last 16 (R200; DEDUCED, log 44). -/
def KInput.record (x : KInput) (d : Delivered) : KInput := { x with delivered := (d :: x.delivered).take 16 }

def KInput.modStream (x : KInput) (id : Nat) (g : StreamFrame → StreamFrame) : KInput :=
  { x with streaming := x.streaming.map fun f => if f.id = id then g f else f }

/-- No slot is free for what a stream port writes next: the ring is full, or a held trailer comes first (R195). -/
def KInput.blocked (x : KInput) : Bool := !x.held.isEmpty || decide (x.rows ≤ x.ring.length)

/-- A row reaches a stream port: the first frame delivered is the first whose row 0 comes (R195). Whether the frame becomes BROKEN. -/
def KInput.takeRow (x : KInput) (f : Frame) (row : Nat) : KInput × Bool :=
  let x := if row = 0 then { x with streaming := x.streaming ++ [⟨f.id, 0, false⟩] } else x
  match x.streaming.find? (·.id == f.id) with
  | none => (x, false)
  | some g =>
    if g.broken then (x, false)
    else if x.blocked then (x.modStream f.id fun g => { g with broken := true }, true)
    else
      let fill := (f.rows0.getD row ⟨[], false, 0⟩).fill || (f.rows1.getD row ⟨[], false, 0⟩).fill
      let flags := (if row = 0 then 1 else 0) + (if fill then 4 else 0)
      let x := if row = 0 then x.record ⟨f.id, f.num, f.sof, none, none⟩ else x
      let x := x.modStream f.id fun g => { g with given := g.given + 1 }
      ({ x with ring := x.ring ++ [⟨f.num, row, flags, f.sof, 0, x.seq, []⟩], seq := x.seq + 1 }, false)

/-- A trailer reaches a stream port that delivers its frame: written, or held while no slot is free (R194, R195, R198). -/
def KInput.takeTrailer (x : KInput) (f : Frame) (status : Nat) (abandon : Bool) : KInput :=
  match x.streaming.find? (·.id == f.id) with
  | none => x
  | some g =>
    let t : RowSlot := ⟨f.num, g.given, 2 + (if g.broken then 8 else 0) + (if abandon then 16 else 0), f.sof, status, x.seq, []⟩
    let x := { x with streaming := x.streaming.filter (·.id ≠ f.id) }
    if x.blocked then { x with held := x.held ++ [t] } else { x with ring := x.ring ++ [t], seq := x.seq + 1 }

/-- The trailer of a frame is known: its deliveries take the status word (R100, R200). -/
def KInput.learn (x : KInput) (id status : Nat) : KInput :=
  { x with delivered := x.delivered.map fun d => if d.id = id then { d with status := some status } else d }

/-- Every stream input of a running kernel on a context. -/
def State.streamsOf (s : State) (n : Nat) : List (Nat × Nat) :=
  s.eng.kernels.flatMap fun (k, e) =>
    if s.kState k = 3 then (e.inputs.filter fun p => !p.2.frameKind && p.2.ctx == n).map fun p => (k, p.1) else []

/-- The engines of a kernel run: RUNNING or STOPPING (R191, R192). -/
def State.kernelAlive (s : State) (k : Nat) : Bool := s.kState k == 3 || s.kState k == 4

/-- READ_COUNT_ADVANCE: a kernel advances the read count of a stream input. -/
def evReadCountAdvance (slot : Fin 32) (input : Fin 4) (count : Nat) (s : State) : Out' :=
  .next (if !s.kernelAlive slot.val then s else
    s.modInput slot.val input.val fun x => if x.frameKind then x else x.freed count)

/-- Rows of a frame reach the taps' stream ports. -/
def State.streamRows (s : State) (n : Nat) (f : Frame) (rows : List Nat) : State :=
  (s.streamsOf n).foldl (fun s (k, i) => rows.foldl (fun s r =>
    match (s.kernel k).bind fun e => tget e.inputs i with
    | none => s
    | some x =>
      let (y, broke) := x.takeRow f r
      let s := s.modInput k i fun _ => y
      if broke then s.bump .ENG_K_IN_BROKEN k 1 i else s) s) s

/-- The trailer of a frame reaches the stream ports (R194, R198). -/
def State.streamTrailer (s : State) (n : Nat) (f : Frame) (abandon : Bool) : State :=
  (s.streamsOf n).foldl (fun s (k, i) =>
    let here := ((s.kernel k).bind fun e => tget e.inputs i).any fun x => x.streaming.any (·.id == f.id)
    let s := s.modInput k i fun x => x.takeTrailer f f.status abandon
    if abandon && here then s.bump .ENG_K_IN_ABANDONED k 1 i else s) s

/-- The samples of a row at a tap in a stream format (R194). -/
def State.tapRow (s : State) (n : Nat) (f : Frame) (tap fmt row : Nat) : List Byte :=
  let map := (tgetD {} s.pip.banks (n * 2 + f.params.bank)).defects
  let half := fun (v : Int) => le 2 (toFp16 (l24 v)).1
  if tap = 3 then
    ((f.rgb.getD row []).flatMap fun p => half p.1 ++ half p.2.1 ++ half p.2.2 ++ (if fmt = 3 then le 2 0 else []))
  else
    let img := match tap with
      | 0 => (f.corrected map f.fused).1
      | 1 => f.shaded
      | _ => f.denoise f.shaded
    (img.getD row []).flatMap fun v =>
      if fmt = 0 then half v else le 2 (lin16 (bitsOf (f.word 10) 11 0) (bitsOf (f.word 10) 30 28) v)

/-- Every kernel input on a context, whatever its kernel's state. -/
def State.inputsOn (s : State) (n : Nat) : List (Nat × Nat) :=
  s.eng.kernels.flatMap fun (k, e) => (e.inputs.filter fun p => p.2.ctx == n).map fun p => (k, p.1)

/-- The samples of a frame's row slots, filled in when the frame leaves the demosaic stage. -/
def State.fillRows (s : State) (n : Nat) (f : Frame) : State :=
  (s.inputsOn n).foldl (fun s (k, i) => s.modInput k i fun x => { x with ring := x.ring.map fun r =>
    if r.frame = f.num ∧ r.flags / 2 % 2 = 0 then { r with data := s.tapRow n f x.tap x.fmt r.row } else r }) s

/-! ### Frame inputs (R196) -/

/-- A frame is published in a ring: its descriptor is the newest of every FRAME input of a running kernel on it (R196). -/
def State.publishFrame (s : State) (n : Nat) (raw : Bool) (f : Frame) : State :=
  let ins := s.eng.kernels.flatMap fun (k, e) =>
    if s.kState k = 3 then
      (e.inputs.filter fun p => p.2.frameKind && p.2.ctx == n && (p.2.tap == 0) == raw).map fun p => (k, p.1) else []
  ins.foldl (fun s (k, i) => s.modInput k i fun x =>
    { x.record ⟨f.id, f.num, f.sof, some f.status, some (if raw then f.rawIndex else f.devIndex)⟩ with fresh := x.fresh + 1, newest := some f.id }) s

/-- FRAME_ACQUIRE: a kernel that holds none acquires the newest published frame it has not acquired, if its slot still holds it. -/
def evFrameAcquire (slot : Fin 32) (input : Fin 4) (s : State) : Out' :=
  let k := slot.val
  let i := input.val
  .next <| match (s.kernel k).bind fun e => tget e.inputs i with
  | none => s
  | some x =>
    let held := x.newest.any fun id => (s.ctx x.ctx).frames.any fun f => f.id == id && (if x.tap = 0 then f.rawSlot else f.devSlot)
    if !s.kernelAlive k || !x.frameKind || x.acquired.isSome || !held then s else
    (s.modInput k i fun x => { x with acquired := x.newest, newest := none, revoked := false, fresh := 0 }).bump .ENG_K_IN_MISSED k
      (x.fresh - 1) i

/-- FRAME_RELEASE: a kernel releases its held frame. -/
def evFrameRelease (slot : Fin 32) (input : Fin 4) (s : State) : Out' :=
  .next (if !s.kernelAlive slot.val then s else s.modInput slot.val input.val fun x => { x with acquired := none, revoked := false })

/-- A frame that has left the demosaic stage and whose trailer is known: its stream trailers, and its publication in the raw
record ring (R106, R126, R140, R194). -/
def State.tapsDone (s : State) (n : Nat) (f : Frame) : State :=
  let s := s.streamTrailer n f false
  if f.rawSlot then s.publishFrame n true f else s

/-- A kernel's read, through its cluster's HBM3 path, of the frame its input holds: whether it completes with the status REVOKED, and the
bytes; from a revocation on they are zeros (R196, R197). No row of the opcode table is a kernel's own access, so no command makes one
(log 107). -/
def State.heldFrameRead (s : State) (k i off len : Nat) : Option (Bool × List Byte) :=
  ((s.kernel k).bind fun e => tget e.inputs i).bind fun x =>
    if x.revoked then some (true, List.replicate len 0) else
    (x.acquired.bind fun id => (s.ctx x.ctx).frames.find? (·.id == id)).map fun f =>
      (false, s.fromHbm (slice (if x.tap = 0 then f.raw.flatMap fun row => row.flatMap (le 2)
        else f.developed.flatMap fun row => row.flatMap fun p => le 2 p.1 ++ le 2 p.2.1 ++ le 2 p.2.2) off len))

/-! ### Results and faults (R199 … R201) -/

/-- The 64-byte header of a result slot (R199). -/
def resultHeader (output handle : Nat) (d : Delivered) (now : Nat) (data : List Byte) : List Byte :=
  let h := le 2 0x4552 ++ [1, BitVec.ofNat 8 output] ++ le 2 handle ++ le 2 0 ++ le 4 d.frame ++ le 4 data.length ++
    le 8 d.sof ++ le 8 (d.status.getD 0) ++ le 8 now ++ List.replicate 20 0
  h ++ le 4 (crc32c (h ++ data))

/-- A result goes into its output's ring under its frame's identity (R199, R200). -/
def State.placeResult (s : State) (k o : Nat) (out : KOutput) (d : Delivered) (data : List Byte) : State :=
  let h := resultHeader o (handleOf (s.get .ENG_K_STATE_GENERATION k) k) d s.now data
  let held : Held := ⟨d.frame, d.sof, h ++ data⟩
  let s := s.modKernel k fun e => { e with outputs := tins { out with results := (held :: out.results).take out.slots } e.outputs o }
  ((s.set .ENG_K_OUT_LAST d.frame k o).raise .ENG_EVT_PUBLISHED k).pulseSource (0x20 + k)

/-- A publish that fails its check (R200). -/
def State.rejectResult (s : State) (k o : Nat) : State := s.bump .ENG_K_REJ_REJECTED k 1 o

/-- The delivery a publish names: one of the input's last 16 frames, not abandoned (R200). -/
def Kernel.deliveryOf (e : Kernel) (input frame : Nat) : Option Delivered :=
  (tget e.inputs input).bind fun x => (x.delivered.find? fun d => d.frame == frame).filter fun d => !x.abandoned.contains d.id

/-- The results of a kernel that wait for a frame of a context, taken off its list. -/
def Kernel.splitDue (e : Kernel) (n id : Nat) : List DueResult × Kernel :=
  let mine := fun (r : DueResult) => r.id == id && (tget e.inputs r.input).any (·.ctx == n)
  (e.due.filter mine, { e with due := e.due.filter fun r => !mine r })

/-- The trailer of a kept frame: its deliveries take the status word, and the results that waited for it are published (R100, R200). -/
def State.kernelTrailer (s : State) (n id status : Nat) : State :=
  let s := (s.inputsOn n).foldl (fun s (k, i) => s.modInput k i fun x => x.learn id status) s
  s.eng.kernels.foldl (fun s (k, e) =>
    let (ready, e) := e.splitDue n id
    if ready.isEmpty then s else
    ready.foldl (fun s r =>
      match (s.kernel k).bind fun e => tget e.outputs r.output,
          (tget e.inputs r.input).bind fun x => x.delivered.find? (·.id == r.id) with
      | some out, some d => if s.frozen then s else s.placeResult k r.output out d r.data
      | _, _ => s.rejectResult k r.output) (s.setKernel k e)) s

/-- The pipeline abandons a frame: the streams that deliver it close it with ABANDON, and no result names it (R198, R200). -/
def State.kernelAbandon (s : State) (n : Nat) (f : Frame) : State :=
  let s := (s.streamTrailer n f true)
  let s := (s.inputsOn n).foldl (fun s (k, i) => s.modInput k i fun x => { x with abandoned := (f.id :: x.abandoned).take 16 }) s
  s.eng.kernels.foldl (fun s (k, e) =>
    let (refused, e) := e.splitDue n f.id
    if refused.isEmpty then s else refused.foldl (fun s r => s.rejectResult k r.output) (s.setKernel k e)) s

/-- A kernel writes an output's publish word: what fails the check is refused; a result of a frame whose trailer has not come waits for it
(R100, R200). -/
def evResultPublish (slot : Fin 32) (output input : Fin 4) (frame : Nat) (data : List Byte) (s : State) : Out' :=
  let k := slot.val
  let o := output.val
  .next <| match s.kernel k with
  | none => s
  | some e =>
    if (s.kState k ≠ 3 ∧ s.kState k ≠ 4) ∨ s.frozen then s else
    match tget e.outputs o, e.deliveryOf input.val frame with
    | some out, some d =>
      if out.slotBytes < data.length then s.rejectResult k o
      else if d.status.isNone then s.setKernel k { e with due := e.due ++ [⟨o, input.val, d.id, data⟩] }
      else s.placeResult k o out d data
    | _, _ => s.rejectResult k o

def pktEngResultRead (handle output : Nat) (rd : ReadArgs) : Packet where
  opcode := 0x080A
  params := fun s => if (s.kernelOf handle).isNone then .ENG_BAD_HANDLE else need (decide (output < 4)) .ENG_BAD_CONFIG
  checks := fun _ s =>
    match ((s.kernelOf handle).bind s.kernel).bind fun e => (tget e.outputs output).bind fun o => findHeld o.results rd with
    | none => .ENG_NOT_HELD
    | some h => need (rangeOk rd h.bytes.length) .ENG_BAD_CONFIG
  run := fun _ s =>
    match ((s.kernelOf handle).bind s.kernel).bind fun e => (tget e.outputs output).bind fun o => findHeld o.results rd with
    | none => .refuse .ENG_NOT_HELD s
    | some h => .done (.bytes (s.heldBytes h rd)) s

/-- A kernel fault (R201): FAULTED, its engines halted, its ports and holds released; an ECC fault marks the engine SUSPECT and is
reported as code 0x04. -/
def evKernelFault (slot : Fin 32) (cause : Fin 4) (cluster : Fin 32) (engine : Fin 16) (pc : Nat) (s : State) : Out' :=
  let k := slot.val
  .next <| if s.kState k ≠ 3 ∧ s.kState k ≠ 4 then s else
    let s := (s.haltEngines k).modKernel k fun e => { e with
      deadline := none
      due := []
      inputs := e.inputs.map fun (i, x) => (i, { x with port := none, streaming := [], held := [], acquired := none }) }
    let s := (s.set .ENG_K_STATE_STATE 5 k).raise .ENG_EVT2_FAULT
    let s := (((s.set .ENG_K_FAULT_CAUSE cause.val k).set .ENG_K_FAULT_CLUSTER cluster.val k).set
      .ENG_K_FAULT_ENGINE engine.val k).set .ENG_K_FAULT_PC pc k
    let s := s.complete (fun w => w == .kernelStopped k) .WRONG_STATE .empty
    if cause.val = 3 then
      ((s.modEngSlot cluster.val engine.val fun g => { g with suspect := true }).showSuspects cluster.val).report 0x04 (s.rd .ENG_K_FAULT k) 0 else s

/-- KERNEL_DOORBELL: 1 is added to the doorbell count in the kernel's input mailbox (R386); a slot without a kernel has none. -/
def State.ringKernel (s : State) (k : Nat) : State :=
  s.modKernel k fun e => { e with doorbell := (e.doorbell + 1) % 2 ^ 32 }

def evKernelDoorbell (slot : Fin 32) (s : State) : Out' := .next (s.ringKernel slot.val)

end Sys2Proof.Machine
end

