-- ==== Sys2Proof/Machine/Col.lean ====
section
/-!
DEFINITION. The spectral colour unit's commands (06): context configuration, calibration banks, look paths and their banks, and
the values a look path keeps for a frame.
-/
namespace Sys2Proof.Machine

/-- Configure on an output. -/
def cfgOut (m : Nat) : Nat → State → List Right := fun _ _ => [⟨.configure, .res (res 2 m)⟩]

/-- An output that runs; the registers of one that does not, and of its look path, take effect at once (R14). -/
def State.outRunning (s : State) (m : Nat) : Bool := s.flag .OUT_O_CFG_RUN m

/-- The shadow a write to an output's or look path's register goes to, if the output runs (R14). -/
def State.outUnit (s : State) (m : Nat) : Option CUnit := if s.outRunning m then some (.out m) else none

/-! ### Look paths in use (R158, R164) -/

/-- The values a look path holds in effect. -/
def State.lookNow (s : State) (m : Nat) : LookUse :=
  { out := m, mode := s.rd .COL_LOOK_MODE m, mat := (List.range 9).map fun k => s.rd .COL_LOOK_MAT m k
    lo := s.rd .COL_SHAPER_LO m, hi := s.rd .COL_SHAPER_HI m
    tf := (List.range 6).map fun k => s.rd .COL_TF_P m k, bank := s.get .COL_LOOK_BANK_ACTIVE m }

def State.lookParams (s : State) (u : LookUse) : LookParams :=
  ⟨u.mode, u.mat, u.lo, u.hi, u.tf, tgetD {} s.col.look (u.out * 2 + u.bank)⟩

/-- Whether output `o` shows look path `m` (R353). -/
def State.showsPath (s : State) (o m : Nat) : Bool := s.get .OUT_O_SRC_KIND o == 0 && s.get .OUT_O_SRC_INDEX o == m

/-- Whether output `o` takes an MX decoder session in place of its look path's source context (R353). -/
def State.showsSession (s : State) (o d : Nat) : Bool := s.get .OUT_O_SRC_KIND o == 1 && s.get .OUT_O_SRC_INDEX o == d

/-- The look paths whose source is a context and which run: their output's decoder session takes the place of the source
context (R158, R353). -/
def State.pathsOf (s : State) (n : Nat) : List Nat :=
  (List.range 8).filter fun m =>
    s.flag .COL_LOOK_CFG_RUN m && s.get .COL_LOOK_CFG_SRC_CTX m == n && s.get .OUT_O_SRC_KIND m == 0

/-- A scaler that uses pixels, not frame units (R363). -/
def State.scales (s : State) (o : Nat) : Bool := s.outRunning o && s.get .OUT_O_CFG_COMPRESSED o == 0

/-- A frame's rows begin on some of the running look paths and their outputs' scalers: each path keeps the values in effect, each
scaler begins to write; a frame it was still writing is given up (R164, R353, R355; DEDUCED, log 40). -/
def State.beginLooks (s : State) (n : Nat) (f : Frame) (paths : List Nat) : State :=
  let uses := paths.map s.lookNow
  let s := s.modFrame n f.id fun g => { g with looks := g.looks.filter (fun u => !paths.contains u.out) ++ uses }
  (List.range 8).foldl (fun s o =>
    if s.scales o && paths.any (s.showsPath o) then
      s.setOutput o { s.output o with writing := some ⟨n, f.id, f.num, f.sof, false, false, []⟩ }
    else s) s

/-- The first row of a frame reaches the look paths (R158, R164). -/
def State.startLooks (s : State) (n id : Nat) : State :=
  let now := s.now
  let s := s.modFrame n id fun f => { f with looks := [], firstRow := some now }
  match (s.ctx n).frames.find? (·.id == id) with
  | none => s
  | some f => s.beginLooks n f (s.pathsOf n)

/-- A frame whose first row came on the tick of an output's frame boundary takes the values that boundary committed (R164). -/
def State.retakeLooks (s : State) (m : Nat) : State :=
  (List.range 8).foldl (fun s n => (s.ctx n).frames.foldl (fun s f =>
    if f.inFlight && f.firstRow == some s.now then
      let s := s.modFrame n f.id fun g => { g with looks := g.looks.filter (·.out != m) }
      s.beginLooks n f ((s.pathsOf n).filter (· == m))
    else s) s) s

/-- The clocks that rows of a context take: COLS / 16 each, 32 more for a change of context (R134). -/
def State.spend (s : State) (n clocks : Nat) : State :=
  { s with pip := { s.pip with lastCtx := n, busy := s.pip.busy + clocks + if s.pip.lastCtx = n then 0 else 32 } }

/-- Rows of a frame enter the pipeline; with the first they reach the look paths (R125, R164, R195). -/
def State.feedRows (s : State) (c : Candidate) (k : Nat) : State :=
  let s := (s.feed c k).spend c.ctx (k * c.frame.cols / 16)
  let s := if c.frame.fed = 0 then s.startLooks c.ctx c.frame.id else s
  s.streamRows c.ctx c.frame ((List.range k).map (c.frame.fed + ·))

/-- One decision of the pipeline (R134): a known-answer pass that is due takes precedence and ends with KAT_PASS. -/
def State.arbitrate (s : State) : State :=
  if !s.pip.katDue.isEmpty then s else
  match s.inlineWaiting with
  | some c => s.feedRows c 1
  | none =>
    if s.inlineDone % 16 ≠ 0 then s else
    match s.choosePan with
    | some g => if s.fits g then s.feedRows g (min 16 (g.frame.rows - g.frame.fed)) else s
    | none => s

/-- One decision on a free pixel clock (R134), with the in-line backlog's peak. -/
def evPipelineArbitration (s : State) : Out' := .next s.noteBacklog.arbitrate

/-- The last row-group of a context's oldest fully processed frame leaves the demosaic stage: its pan slot is free, its
number and dynamic corrections are shown, a known-answer pass is due (R121, R136, R141). -/
def evFrameLeavesDemosaic (ctx : Fin 8) (s : State) : Out' :=
  let n := ctx.val
  .next <| match (s.ctx n).frames.find? fun f => !f.demosaicked && f.fed == f.rows with
  | none => s
  | some f =>
    let g := { s.develop n f with demosaicked := true, slot := false }
    let s := s.modFrame n f.id fun _ => g
    let s := (s.set .PIP_CTX_FRAME_FRAME f.num n).set .PIP_CTX_DYN_COUNT g.dyn n
    let s := { s with pip := { s.pip with katDue := s.pip.katDue ++ [(n, f.num)] } }
    let s := (s.showPan n).fillRows n g
    if g.closed then s.tapsDone n g else s

/-! ### Context configuration (R152, R157) -/

/-- Bytes of a developed frame slot (R152). -/
def State.devSlotBytes (s : State) (n : Nat) : Nat := s.sget .SNS_GEOM_COLS n * s.sget .SNS_GEOM_ROWS n * 6

/-- The checks of COL_CTX_CONFIG and of a write to COL_CTX_CFG (R152, R157, R169). -/
def State.colCtxStatus (s : State) (n alloc slots : Nat) : Status :=
  if s.enabled n then .COL_CTX_ACTIVE
  else if s.unitsFree + s.get .COL_CTX_CFG_CAL_ALLOC n * 3 < alloc * 3 then .COL_NO_LINE_BUFFER
  else need (s.poolFits (.dev n) (s.payer (res 1 n)) (slots * s.devSlotBytes n)) .COL_NO_POOL

def colCtxRanges (slots : Nat) : Bool := slots == 0 || (decide (2 ≤ slots) && decide (slots ≤ 4))

/-- Calibration banks withdrawn: their content, seals and pending swaps go (R154, R157; log 41). -/
def State.dropCal (s : State) (n : Nat) : State :=
  let c := s.ctx n
  let s := s.setCtx n { c with calSwap := [], calOn := false }
  let s := { s with col := { s.col with cal := tdel (tdel s.col.cal (n * 2)) (n * 2 + 1) } }
  let s := ((s.set .COL_CTX_BANK_COMPLETE 0 n).set .COL_CTX_BANK_ACTIVE 0 n).showCalBank n
  s.complete (fun w => match w with
    | .calSwap c _ => c == n
    | _ => false) .COL_BANK_INCOMPLETE .empty

/-- The configuration in effect: units, banks, ring allocation. -/
def State.applyColCtx (s : State) (n alloc slots : Nat) : State :=
  let was := s.get .COL_CTX_CFG_CAL_ALLOC n
  let s := if alloc = 0 ∧ was = 1 then s.dropCal n else s
  let s := (s.set .COL_CTX_CFG_CAL_ALLOC alloc n).set .COL_CTX_CFG_DEV_SLOTS slots n
  let s := (s.allocate (.dev n) (slots * s.devSlotBytes n)).showUnits
  let c := s.ctx n
  (s.setCtx n { c with frames := c.frames.map fun f => { f with devSlot := false } }).forget n

def pktColCtxConfig (ctx calAlloc devSlots : Nat) : Packet where
  opcode := 0x0602
  cls := .configure
  params := fun _ => need (decide (ctx < 8) && decide (calAlloc < 2) && colCtxRanges devSlots) .COL_BAD_CONFIG
  rights := cfgCtx ctx
  checks := fun _ s => s.colCtxStatus ctx calAlloc devSlots
  run := fun _ s =>
    let s := s.applyColCtx ctx calAlloc devSlots
    .done (.values [s.devSlotBytes ctx]) s

/-- COL_INFO: a context's or a look path's registers, its banks, COL_UNITS (R167). -/
def pktColInfo (isOutput : Bool) (index : Nat) : Packet where
  opcode := 0x0601
  params := fun _ => need (decide (index < 8)) .COL_BAD_CONFIG
  run := fun _ s => .done (.values <|
    (if isOutput then
      [s.shadow .COL_LOOK_CFG index, s.shadow .COL_LOOK_MODE index] ++
      ((List.range 9).map fun k => s.shadow .COL_LOOK_MAT index k) ++
      [s.shadow .COL_SHAPER_LO index, s.shadow .COL_SHAPER_HI index] ++
      ((List.range 6).map fun k => s.shadow .COL_TF_P index k) ++
      [s.rd .COL_LOOK_BANK index, s.rd .COL_LOOK_STAT index]
    else
      [s.rd .COL_CTX_CFG index, s.rd .COL_CTX_BANK index, s.rd .COL_CTX_FRAME index, s.rd .COL_CTX_STAT index,
        s.rd .COL_CTX_DEV index]) ++ [s.rd .COL_UNITS]) s

/-! ### Calibration banks (R153 … R156) -/

def State.calBank (s : State) (n b : Nat) : TableBank := tgetD {} s.col.cal (n * 2 + b)

def State.setCalBank (s : State) (n b : Nat) (k : TableBank) : State :=
  { s with col := { s.col with cal := tput {} s.col.cal (n * 2 + b) k } }

/-- Set or clear one bit of a COMPLETE field. -/
def State.seal (s : State) (f : Fld) (i b : Nat) (on : Bool) : State :=
  s.set f (withBits (s.get f i) b b (if on then 1 else 0)) i

def State.calComplete (s : State) (n b : Nat) : Bool := s.get .COL_CTX_BANK_COMPLETE n / 2 ^ b % 2 == 1

/-- Active, pending, or carried by a frame held (R156). -/
def State.calBusy (s : State) (n b : Nat) : Bool :=
  ((s.ctx n).calOn && s.get .COL_CTX_BANK_ACTIVE n == b) || pendingSwap (s.ctx n).calSwap s.now b ||
  s.carried n (·.cal == some b)

/-- A load or seal of a calibration bank; without an allocation there is no bank (DESIGN CHOICE, log 42). -/
def State.calStatus (s : State) (n b : Nat) : Status :=
  if s.get .COL_CTX_CFG_CAL_ALLOC n = 0 then .WRONG_STATE else need (!s.calBusy n b) .COL_BANK_BUSY

/-- The first key, the number of entries and the largest count of one load for a region of R153. -/
def calRegion (region : Nat) : Option (Nat × Nat × Nat) :=
  match region with
  | 0 => some (0, 35937, 2032)
  | 1 => some (100000, 3072, 1016)
  | 2 => some (200000, 128, 128)
  | _ => none

/-- Entries of a bank replaced by a load; a zero entry is not listed. -/
def TableBank.load (b : TableBank) (first : Nat) (data : List Nat) : TableBank :=
  { entries := data.zipIdx.foldl (fun t (v, i) => tput 0 t (first + i) v) b.entries }

def pktColCalLoad (ctx bank region first count : Nat) (data : List Nat) : Packet where
  opcode := 0x0603
  cls := .configure
  params := fun _ =>
    if data.length ≠ count then .BAD_LENGTH
    else if 8 ≤ ctx ∨ 2 ≤ bank then .COL_BAD_CONFIG
    else match calRegion region with
    | none => .COL_BAD_TABLE
    | some (_, size, most) => need (decide (1 ≤ count) && decide (count ≤ most) && decide (first + count ≤ size)) .COL_BAD_TABLE
  rights := cfgCtx ctx
  checks := fun _ s => s.calStatus ctx bank
  run := fun _ s => match calRegion region with
    | none => .refuse .COL_BAD_TABLE s
    | some (base, _, _) =>
      let word := if region = 0 then 2 ^ 16 else 2 ^ 32
      let k := (s.calBank ctx bank).load (base + first) (data.map (· % word))
      .done .empty ((s.setCalBank ctx bank k).seal .COL_CTX_BANK_COMPLETE ctx bank false)

def pktColCalSeal (ctx bank : Nat) (crc : BitVec 32) : Packet where
  opcode := 0x0604
  cls := .configure
  params := fun _ => need (decide (ctx < 8) && decide (bank < 2)) .COL_BAD_CONFIG
  rights := cfgCtx ctx
  checks := fun _ s => s.calStatus ctx bank
  run := fun _ s =>
    let k := s.calBank ctx bank
    let off := s.seal .COL_CTX_BANK_COMPLETE ctx bank false
    if crc32c k.calImage ≠ crc.toNat then .refuse .COL_BAD_SEAL off
    else if !k.calValid then .refuse .COL_BAD_TABLE off
    else .done .empty (s.seal .COL_CTX_BANK_COMPLETE ctx bank true)

/-- A calibration swap waits for the context's frame boundary (R155). -/
def State.calSwapTo (s : State) (n b : Nat) : State :=
  let c := s.ctx n
  (s.setCtx n { c with calSwap := c.calSwap ++ [(b, s.now)] }).showCalBank n

def pktColCalSwap (ctx bank : Nat) : Packet where
  opcode := 0x0605
  cls := .configure
  params := fun _ => need (decide (ctx < 8) && decide (bank < 2)) .COL_BAD_CONFIG
  rights := cfgCtx ctx
  checks := fun _ s => need (s.calComplete ctx bank) .COL_BANK_INCOMPLETE
  run := fun _ s => .wait (.calSwap ctx s.now) (s.calSwapTo ctx bank)

/-- CAL_SWAP: a launch to an incomplete bank has no effect and sets CAL_NOT_READY (R155). -/
def evCalSwap (ctx : Fin 8) (bank : BitVec 32) (s : State) : Out' :=
  .next (if bank.toNat < 2 ∧ s.calComplete ctx.val bank.toNat then s.calSwapTo ctx.val bank.toNat
    else s.raise .COL_EVT_CAL_NOT_READY ctx.val)

/-! ### Look paths (R158 … R164) -/

def State.lookBank (s : State) (m b : Nat) : TableBank := tgetD {} s.col.look (m * 2 + b)

def State.setLookBank (s : State) (m b : Nat) (k : TableBank) : State :=
  { s with col := { s.col with look := tput {} s.col.look (m * 2 + b) k } }

def State.lookComplete (s : State) (m b : Nat) : Bool := s.get .COL_LOOK_BANK_COMPLETE m / 2 ^ b % 2 == 1

/-- LUT_EN needs the active bank complete (R163). -/
def State.lutReady (s : State) (m : Nat) : Bool := s.lookComplete m (s.get .COL_LOOK_BANK_ACTIVE m)

/-- The ranges of a look path's parameters as its shadows hold them (R160, R162). -/
def State.lookRangesOk (s : State) (m : Nat) : Bool :=
  let p := fun k => f24 (s.shadow .COL_TF_P m k)
  decide (s.sget .COL_LOOK_MODE_TF m ≤ 5) &&
  (f24 (s.shadow .COL_SHAPER_LO m)).lt (f24 (s.shadow .COL_SHAPER_HI m)) &&
  (s.sget .COL_LOOK_MODE_TF m != 5 || (Frac.zero).lt ((p 3).add (p 1)))

/-- What a write of COL_LOOK_MODE may leave: LUT_EN at 1 needs the active bank complete (R163). -/
def State.lookParamsOk (s : State) (m : Nat) : Bool :=
  s.lookRangesOk m && (s.sget .COL_LOOK_MODE_LUT_EN m == 0 || s.lutReady m)

/-- The active bank once the path holds `banks` (log 41). -/
def State.lookKept (s : State) (m banks : Nat) : Nat :=
  if s.get .COL_LOOK_BANK_ACTIVE m < banks then s.get .COL_LOOK_BANK_ACTIVE m else 0

/-- Checks of COL_LOOK_CONFIG and of writes to COL_LOOK_CFG (R157, R163). A change of BANKS that would leave LUT_EN at 1 on an
incomplete bank is refused as LUT_EN at 1 is (DEDUCED, log 41). -/
def State.lookCfgStatus (s : State) (m banks : Nat) : Status :=
  let held := s.get .COL_LOOK_CFG_BANKS m
  if banks ≠ held ∧ s.flag .COL_LOOK_CFG_RUN m then .COL_PATH_ACTIVE
  else if s.sget .COL_LOOK_MODE_LUT_EN m = 1 ∧ (banks = 0 ∨ (banks ≠ held ∧ !s.lookComplete m (s.lookKept m banks))) then .COL_BAD_CONFIG
  else need (decide (banks * 26 ≤ s.unitsFree + held * 26)) .COL_NO_LINE_BUFFER

/-- Look banks withdrawn: content and seals of those past BANKS go, with swaps that name them (R157; log 41). -/
def State.dropLook (s : State) (m banks : Nat) : State :=
  let gone := (List.range 2).filter (banks ≤ ·)
  let s := gone.foldl (fun s b => (s.setLookBank m b {}).seal .COL_LOOK_BANK_COMPLETE m b false) s
  let o := s.output m
  let s := s.setOutput m { o with lookSwap := o.lookSwap.filter fun p => p.1 < banks }
  let s := s.set .COL_LOOK_BANK_ACTIVE (s.lookKept m banks) m
  s.set .COL_LOOK_BANK_PENDING (if (s.output m).lookSwap.isEmpty then 0 else 1) m

/-- COL_LOOK_CFG written: BANKS at once, RUN and SRC_CTX at the output's commit point (R164, R169). -/
def State.applyLookCfg (s : State) (m cfg : Nat) : State :=
  let banks := bitsOf cfg 27 26
  let s := if banks = s.get .COL_LOOK_CFG_BANKS m then s else s.dropLook m banks
  (s.writeWord (s.outUnit m) .COL_LOOK_CFG cfg m 0).showUnits

def pktColLookConfig (out src banks run : Nat) : Packet where
  opcode := 0x0606
  cls := .configure
  params := fun _ => need (decide (out < 8) && decide (src < 8) && decide (banks ≤ 2) && decide (run < 2)) .COL_BAD_CONFIG
  rights := fun _ _ => [⟨.configure, .res (res 2 out)⟩, ⟨.use, .res (res 1 src)⟩]
  checks := fun _ s => s.lookCfgStatus out banks
  run := fun _ s => .done .empty (s.applyLookCfg out (run * 2 ^ 31 + src * 2 ^ 28 + banks * 2 ^ 26))

/-- A look bank used by a frame in progress (R164). -/
def State.lookInUse (s : State) (m b : Nat) : Bool :=
  (List.range 8).any fun n => (s.ctx n).frames.any fun f => f.inFlight && f.looks.any fun u => u.out == m && u.bank == b

/-- Checks of a load or seal of a look bank (R164): the active bank of a one-bank path is free once the path has stopped; a bank the path does not hold cannot be loaded (DESIGN CHOICE, log 42). -/
def State.lookStatus (s : State) (m b : Nat) : Status :=
  let banks := s.get .COL_LOOK_CFG_BANKS m
  if banks ≤ b then .WRONG_STATE
  else if banks = 1 ∧ s.flag .COL_LOOK_CFG_RUN m then .COL_PATH_ACTIVE
  else need (!(decide (banks = 2) && s.get .COL_LOOK_BANK_ACTIVE m == b || pendingSwap (s.output m).lookSwap s.now b || s.lookInUse m b))
    .COL_BANK_BUSY

/-- The first key, size and largest count of a part of a look bank (R163, R167). -/
def lookPart (part : Nat) : Nat × Nat × Nat := if part < 3 then (part * 4096, 4096, 2032) else (12288, 274625, 680)

def pktColLookLoad (out bank part first count : Nat) (data : List Nat) : Packet where
  opcode := 0x0607
  cls := .configure
  params := fun _ =>
    let (_, size, most) := lookPart part
    if data.length ≠ count then .BAD_LENGTH
    else if 8 ≤ out ∨ 2 ≤ bank then .COL_BAD_CONFIG
    else need (decide (part < 4) && decide (1 ≤ count) && decide (count ≤ most) && decide (first + count ≤ size)) .COL_BAD_TABLE
  rights := cfgOut out
  checks := fun _ s => s.lookStatus out bank
  run := fun _ s =>
    let word := if part < 3 then 2 ^ 16 else 2 ^ 48
    let k := (s.lookBank out bank).load ((lookPart part).1 + first) (data.map (· % word))
    .done .empty ((s.setLookBank out bank k).seal .COL_LOOK_BANK_COMPLETE out bank false)

def pktColLookSeal (out bank : Nat) (crc : BitVec 32) : Packet where
  opcode := 0x0608
  cls := .configure
  params := fun _ => need (decide (out < 8) && decide (bank < 2)) .COL_BAD_CONFIG
  rights := cfgOut out
  checks := fun _ s => s.lookStatus out bank
  run := fun _ s =>
    let k := s.lookBank out bank
    let off := s.seal .COL_LOOK_BANK_COMPLETE out bank false
    if crc32c k.lookImage ≠ crc.toNat then .refuse .COL_BAD_SEAL off
    else if !k.lookValid then .refuse .COL_BAD_TABLE off
    else .done .empty (s.seal .COL_LOOK_BANK_COMPLETE out bank true)

/-- A look swap: at once on an output that does not run, else at its reference point (R14, R164). -/
def State.lookSwapTo (s : State) (m b : Nat) : State :=
  if !s.outRunning m then
    let o := s.output m
    ((s.setOutput m { o with lookSwap := [] }).set .COL_LOOK_BANK_PENDING 0 m).set .COL_LOOK_BANK_ACTIVE b m
  else
    let o := s.output m
    (s.setOutput m { o with lookSwap := o.lookSwap ++ [(b, s.now)] }).set .COL_LOOK_BANK_PENDING 1 m

/-- A bank a path can swap to: held and complete (R164). -/
def State.lookSwapOk (s : State) (m b : Nat) : Bool := decide (b < s.get .COL_LOOK_CFG_BANKS m) && s.lookComplete m b

def pktColLookSwap (out bank : Nat) : Packet where
  opcode := 0x0609
  cls := .configure
  params := fun _ => need (decide (out < 8) && decide (bank < 2)) .COL_BAD_CONFIG
  rights := cfgOut out
  checks := fun _ s => need (s.lookSwapOk out bank) .COL_BANK_INCOMPLETE
  run := fun _ s =>
    let t := s.lookSwapTo out bank
    if s.outRunning out then .wait (.lookSwap out s.now) t else .done .empty t

def evLookSwap (out : Fin 8) (bank : BitVec 32) (s : State) : Out' :=
  .next (if bank.toNat < 2 ∧ s.lookSwapOk out.val bank.toNat then s.lookSwapTo out.val bank.toNat
    else s.raise .COL_EVT_LOOK_NOT_READY out.val)

/-- COL_LOOK_PARAM's words written to the path's registers (R159 … R164). -/
def State.writeLook (s : State) (m : Nat) (mode : BitVec 32) (mats : List (BitVec 32)) (lo hi : BitVec 32)
    (tfs : List (BitVec 32)) : State :=
  let u := s.outUnit m
  let s := s.writeWord u .COL_LOOK_MODE mode.toNat m 0
  let s := mats.zipIdx.foldl (fun s (w, k) => s.writeWord u .COL_LOOK_MAT w.toNat m k) s
  let s := (s.writeWord u .COL_SHAPER_LO lo.toNat m 0).writeWord u .COL_SHAPER_HI hi.toNat m 0
  tfs.zipIdx.foldl (fun s (w, k) => s.writeWord u .COL_TF_P w.toNat m k) s

def pktColLookParam (out : Nat) (mode : BitVec 32) (mats : List (BitVec 32)) (lo hi : BitVec 32)
    (tfs : List (BitVec 32)) : Packet where
  opcode := 0x060A
  cls := .configure
  params := fun s =>
    if mats.length ≠ 9 ∨ tfs.length ≠ 6 then .BAD_LENGTH
    else need (decide (out < 8) && (s.writeLook out mode mats lo hi tfs).lookParamsOk out) .COL_BAD_CONFIG
  rights := cfgOut out
  run := fun _ s => .done .empty (s.writeLook out mode mats lo hi tfs)

end Sys2Proof.Machine
end

