-- ==== Sys2Proof/Machine/Mls.lean ====
section
/-!
DEFINITION. The Mailis encoder (09): prefilter and sample codes, codec contexts, streams, plans and rate control, slices, frame
records, round-trip and known-answer checks.
-/
namespace Sys2Proof.Machine

/-! ### Sources (R206 … R208) -/

/-- A stored row of values at an index, an image's value. -/
def at2 {α : Type} (d : α) (img : List (List α)) (r c : Nat) : α := (img.getD r []).getD c d

/-- The four CFA planes of a mosaic in channel order; one plane in MONO (R206). -/
def cfaPlanes (cfa rows cols : Nat) (img : Plane) : List Plane :=
  if cfa = 4 then [img] else
  (List.range 4).map fun k => (List.range (rows / 2)).map fun r => (List.range (cols / 2)).map fun c =>
    at2 0 img (2 * r + k / 2) (2 * c + k % 2)

/-- An exact sample on the way to its 10-bit code: the rounding is free (R208; log 20). -/
def quantise (lo hi : Nat) (q : Frac) : Nat :=
  let f := q.floor
  let v := if q.isInt then f else if Config.roundUp 3 q.num q.den then f + 1 else f
  (max (lo : Int) (min hi v)).toNat

/-- Luma weights of MATRIX as kr, kb: BT.709 or BT.2020 (R208). -/
def matrixWeights (m : Nat) : Frac × Frac :=
  if m = 1 then (.mk' 2627 10000, .mk' 593 10000) else (.mk' 2126 10000, .mk' 722 10000)

/-- The MP prefilter (R208): averages S × S developed pixels, applies the transfer function, forms Y′CbCr, averages chroma over
2 × 2, quantises to 10-bit narrow range. -/
def prefilter (s tf p0 matrix cols rows : Nat) (img : List (List (Nat × Nat × Nat))) : List Plane :=
  let look : LookParams := ⟨tf * 2 ^ 28, [], 0, 0, [p0], {}⟩
  let (kr, kb) := matrixWeights matrix
  let rgb := (List.range rows).map fun r => (List.range cols).map fun c =>
    let px := (List.range s).flatMap fun a => (List.range s).map fun b => at2 (0, 0, 0) img (r * s + a) (c * s + b)
    let mean := fun (g : Nat × Nat × Nat → Nat) => (Frac.sum (px.map fun p => fp16 (g p))).div (.ofInt (s * s))
    (look.transfer (mean (·.1)), look.transfer (mean (·.2.1)), look.transfer (mean (·.2.2)))
  let luma := fun (p : Frac × Frac × Frac) =>
    ((kr.mul p.1).add (kb.mul p.2.2)).add ((Frac.one.sub (kr.add kb)).mul p.2.1)
  let two := fun (k : Frac) => (Frac.ofInt 2).mul (Frac.one.sub k)
  let y := rgb.map fun row => row.map fun p => quantise 64 940 ((Frac.ofInt 64).add ((Frac.ofInt 876).mul (luma p)))
  let chroma := fun (k : Frac) (g : Frac × Frac × Frac → Frac) =>
    (List.range (rows / 2)).map fun r => (List.range (cols / 2)).map fun c =>
      let ps := [(0, 0), (0, 1), (1, 0), (1, 1)].map fun (a, b) => at2 (.zero, .zero, .zero) rgb (2 * r + a) (2 * c + b)
      let m := (Frac.sum (ps.map fun p => ((g p).sub (luma p)).div (two k))).div (.ofInt 4)
      quantise 64 960 ((Frac.ofInt 512).add ((Frac.ofInt 896).mul m))
  [y, chroma kb (·.2.2), chroma kr (·.1)]

/-- The coded size of a source under a profile and SCALE (R206, R208). -/
def codedSize (profile scale cols rows : Nat) : Nat × Nat :=
  if profile = 2 then (cols / 2 ^ scale / 2 * 2, rows / 2 ^ scale / 2 * 2) else (cols, rows)

def codecGeo (profile scale cols rows cfa : Nat) : Geo :=
  let (c, r) := codedSize profile scale cols rows
  ⟨profile, c, r, if profile = 0 then cfa else 0⟩

/-- The planes a context codes of a frame (R206 … R208). -/
def State.sourcePlanes (s : State) (n : Nat) (f : Frame) (c : Coding) : List Plane :=
  let map := (tgetD {} s.pip.banks (n * 2 + f.params.bank)).defects
  if c.profile = 0 then cfaPlanes c.cfa c.rows c.cols (f.rawCodes (f.corrected map f.fused).1) else
  let g := if f.coloured then f else s.colour n (s.develop n f)
  if c.profile = 1 then
    [g.developed.map fun row => row.map fun p => orderedCode p.1, g.developed.map fun row => row.map fun p => orderedCode p.2.1,
      g.developed.map fun row => row.map fun p => orderedCode p.2.2]
  else prefilter (2 ^ c.scale) c.tf c.p0 c.matrix c.codedCols c.codedRows g.developed

/-! ### Contexts and handles (R231) -/

/-- A codec context exists. -/
def State.codecMade (s : State) (h : Nat) : Bool := s.flag .MLS_C_CFG_DEST_KIND h

/-- The context index a current handle names. -/
def State.codecOf (s : State) (h : Nat) : Option Nat :=
  let i := handleSlot h
  if h < 65536 ∧ i < 64 ∧ s.codecMade i ∧ s.get .MLS_C_CFG_GENERATION i = handleGen h then some i else none

def State.codecHandle (s : State) (i : Nat) : Nat := handleOf (s.get .MLS_C_CFG_GENERATION i) i

def codecOk (h : Nat) (s : State) : Status := need (s.codecOf h).isSome .MLS_BAD_HANDLE

/-- Configure on the owner of the context a handle names. -/
def codecRights (cls : Cls) (h : Nat) : Nat → State → List Right := fun _ s =>
  match s.codecOf h with
  | some i => [⟨cls, .res (s.codecRes i)⟩]
  | none => []

def State.modCodec (s : State) (h : Nat) (g : Codec → Codec) : State := s.setCodec h (g (s.codec h))

/-- The stream a context codes for, if its destination is one. -/
def State.streamOf (s : State) (h : Nat) : Option Nat :=
  if s.get .MLS_C_CFG_DEST_KIND h = 1 then some (s.get .MLS_C_CFG_DEST_INDEX h) else none

/-- The context index bound to a stream. -/
def State.bound (s : State) (st : Nat) : Option Nat :=
  (s.codecOf (s.get .MLS_S_CFG_HANDLE st)).filter fun i => s.streamOf i == some st

def State.streamOn (s : State) (st : Nat) : Bool := s.flag .MLS_S_CFG_RUNNING st || s.flag .MLS_S_CFG_START_PENDING st

/-- The geometry a context codes under the registers in effect. -/
def State.codecGeoNow (s : State) (h : Nat) : Geo :=
  let n := s.get .MLS_C_CFG_SOURCE h
  codecGeo (s.get .MLS_C_CFG_PROFILE h) (s.get .MLS_C_MP_SCALE h) (s.sget .SNS_GEOM_COLS n) (s.sget .SNS_GEOM_ROWS n)
    (s.sget .PIP_CTX_MODE_CFA n)

/-! ### Codec time (R209, R233) -/

/-- Loads of MR, MX, MP and the MP prefilter with the given contexts active, as fractions of the capacity at ÷8. -/
def State.codecLoads (s : State) (act : List Nat) : List Frac :=
  let many := 16 < act.length
  (List.range 4).map fun core =>
    let on := act.filter fun h => s.get .MLS_C_CFG_PROFILE h == (if core = 3 then 2 else core)
    Frac.sum (on.map fun h =>
      let n := s.get .MLS_C_CFG_SOURCE h
      let rate := Frac.mk' (s.get .PIP_CTX_CFG_RATE_DECL n) 100
      let g := s.codecGeoNow h
      let work := if core = 3 then s.sget .SNS_GEOM_COLS n * s.sget .SNS_GEOM_ROWS n else g.cols * g.rows
      let cap := ([24000000000, 12000000000, 4000000000, 38400000000] : List Nat).getD core 1
      (rate.mul (.mk' work cap)).add (if many then rate.mul (.mk' 38 1000000) else .zero))

def State.activeCodecs (s : State) : List Nat := (List.range 64).filter fun h => s.flag .MLS_C_CFG_ACTIVE h

/-- The check of R233 over a set of active contexts. -/
def State.codecTime (s : State) (act : List Nat) : Bool := (s.codecLoads act).all fun q => q.le .one

/-- A load per mille; its rounding is free (log 20). -/
def perMille (what : Nat) (q : Frac) : Nat :=
  let x := q.mul (.ofInt 1000)
  let f := x.floor.toNat
  min 1023 (if x.isInt then f else if Config.roundUp what x.num x.den then f + 1 else f)

/-- MLS_CTXS, MLS_LOAD0 and MLS_LOAD1 show the contexts. -/
def State.showCodecs (s : State) : State :=
  let act := s.activeCodecs
  let l := (s.codecLoads act).map (perMille 1)
  let s := ((s.set .MLS_LOAD0_MR (l.getD 0 0)).set .MLS_LOAD0_MX (l.getD 1 0)).set .MLS_LOAD1_MP (l.getD 2 0)
  let s := (s.set .MLS_LOAD1_PREFILTER (l.getD 3 0)).set .MLS_CTXS_ACTIVE act.length
  let s := s.set .MLS_CTXS_CREATED ((List.range 64).filter s.codecMade).length
  let s := s.set .MLS_CTXS_RESIDENT s.mls.resident.length
  (List.range 64).foldl (fun s h => s.set .MLS_C_CFG_RESIDENT (if s.mls.resident.contains h then 1 else 0) h) s

/-! ### Configuration (R223, R231, R237) -/

/-- Ranges of the RC, MP and TFP words (R208, R239). -/
def codecRanges (rc mp : Nat) : Bool :=
  bitsOf rc 31 30 != 3 && decide (bitsOf rc 22 16 ≤ 95) && decide (bitsOf rc 14 8 ≤ 95) &&
  decide (bitsOf rc 6 0 ≤ bitsOf rc 14 8) && decide (bitsOf mp 27 24 ≤ 4) && decide (1 ≤ bitsOf mp 7 0)

/-- TARGET ≥ FF and CEIL_MAX ≥ TARGET (R223). -/
def rateOk (g : Geo) (target ceil : Nat) : Bool := decide (g.frameFloor ≤ target) && decide (target ≤ ceil)

/-- The five registers of a context in the order MLS_CTX_SET carries them. -/
def codecRegs : List Reg := [.MLS_C_TARGET, .MLS_C_CEIL, .MLS_C_RC, .MLS_C_MP, .MLS_C_TFP]

/-- The lowest free context index. -/
def State.freeCodec (s : State) : Option Nat := (List.range 64).find? fun h => !s.codecMade h

/-- The source ring a profile needs has at least 2 slots (R231). -/
def State.sourceReady (s : State) (profile n : Nat) : Bool :=
  if profile = 0 then decide (2 ≤ s.get .PIP_TAP_RAW_SLOTS n) else decide (2 ≤ s.get .COL_CTX_CFG_DEV_SLOTS n)

/-- Pool bytes of an MP context's reference and reconstruction frames: three pictures of 10-bit 4:2:0 at 1.5 bytes a coded pixel, the number
the allocations of reference C give (R29, R30; DEDUCED, log 115); none for MR and MX. -/
def mpFrameBytes (profile scale cols rows : Nat) : Nat :=
  if profile = 2 then (codedSize 2 scale cols rows).1 * (codedSize 2 scale cols rows).2 * 9 / 2 else 0

/-- What MLS_CTX_CREATE allocates: a host ring and the MP frames (R30). -/
def State.codecBytes (s : State) (profile src hostMib mp : Nat) : Nat :=
  hostMib * mib + mpFrameBytes profile (bitsOf mp 31 30) (s.sget .SNS_GEOM_COLS src) (s.sget .SNS_GEOM_ROWS src)

/-- The resource a context of a destination belongs to (R231). -/
def codecOwner (src dest index : Nat) : Nat :=
  match dest with
  | 1 => res 7 index
  | 2 => res 2 index
  | _ => res 1 src

def pktMlsCtxCreate (profile src dest index hostMib : Nat) (target ceil rc mp tfp : BitVec 32) : Packet where
  opcode := 0x0902
  cls := .configure
  params := fun s =>
    if !(decide (profile < 3) && decide (src < 8) && decide (1 ≤ dest) && decide (dest ≤ 3) && decide (index < 8) &&
      (if dest = 3 then decide (1 ≤ hostMib) && index == 0 else hostMib == 0) && codecRanges rc.toNat mp.toNat) then .MLS_BAD_CONFIG
    else
      let g := codecGeo profile (bitsOf mp.toNat 31 30) (s.sget .SNS_GEOM_COLS src) (s.sget .SNS_GEOM_ROWS src)
        (s.sget .PIP_CTX_MODE_CFA src)
      need (rateOk g target.toNat ceil.toNat) .MLS_BAD_RATE
  rights := fun _ _ => [⟨.configure, .res (codecOwner src dest index)⟩, ⟨.use, .res (res 1 src)⟩]
  checks := fun _ s => match s.freeCodec with
    | none => .CONTEXT_LIMIT
    | some i =>
      if !s.sourceReady profile src then .MLS_NO_SOURCE
      else
        let bytes := s.codecBytes profile src hostMib mp.toNat
        need (bytes == 0 || s.poolFits (.codec i) (s.payer (codecOwner src dest index)) bytes) .MLS_NO_POOL
  run := fun _ s => match s.freeCodec with
    | none => .refuse .CONTEXT_LIMIT s
    | some i =>
      let gen := s.get .MLS_C_CFG_GENERATION i % 255 + 1
      let cfg := gen * 2 ^ 24 + profile * 2 ^ 22 + src * 2 ^ 19 + dest * 2 ^ 17 + index * 2 ^ 14
      let s := s.wr .MLS_C_CFG cfg i
      let s := (codecRegs.zip [target, ceil, rc, mp, tfp]).foldl (fun s (r, w) => s.writeWord none r w.toNat i 0) s
      let s := ((s.wr .MLS_C_BUCKET 0 i).wr .MLS_C_LAST 0 i).wr .MLS_C_STAT 0 i
      let s := s.setCodec i { hostMib := if dest = 3 then hostMib else 0 }
      let s := s.allocate (.codec i) (s.codecBytes profile src hostMib mp.toNat)
      let s := if s.mls.resident.length < 16 then
          { s with mls := { s.mls with resident := s.mls.resident ++ [i] } } else s
      .done (.values [handleOf gen i]) s.showCodecs

def State.writeCodec (s : State) (h : Nat) (ws : List (BitVec 32)) : State :=
  (codecRegs.zip ws).foldl (fun s (r, w) => s.writeWord (some (.codec h)) r w.toNat h 0) s

/-- Whether the shadows of a context hold a valid configuration, and which refusal they earn (R223, R239). -/
def State.codecStatus (s : State) (h : Nat) : Status :=
  let n := s.get .MLS_C_CFG_SOURCE h
  if !codecRanges (s.shadow .MLS_C_RC h) (s.shadow .MLS_C_MP h) then .MLS_BAD_CONFIG else
  let g := codecGeo (s.get .MLS_C_CFG_PROFILE h) (s.sget .MLS_C_MP_SCALE h) (s.sget .SNS_GEOM_COLS n) (s.sget .SNS_GEOM_ROWS n)
    (s.sget .PIP_CTX_MODE_CFA n)
  need (rateOk g (s.shadow .MLS_C_TARGET h) (s.shadow .MLS_C_CEIL h)) .MLS_BAD_RATE

def pktMlsCtxSet (handle : Nat) (target ceil rc mp tfp : BitVec 32) : Packet where
  opcode := 0x0903
  cls := .configure
  params := fun s => match s.codecOf handle with
    | none => .MLS_BAD_HANDLE
    | some i => (s.writeCodec i [target, ceil, rc, mp, tfp]).codecStatus i
  rights := codecRights .configure handle
  checks := fun _ s => match s.codecOf handle with
    | none => .MLS_BAD_HANDLE
    | some i => need (!(s.flag .MLS_C_CFG_ACTIVE i && (bitsOf mp.toNat 31 30 != s.sget .MLS_C_MP_SCALE i ||
        bitsOf mp.toNat 23 23 != s.sget .MLS_C_MP_MATRIX i))) .MLS_STREAM_ACTIVE
  run := fun _ s => match s.codecOf handle with
    | none => .refuse .MLS_BAD_HANDLE s
    | some i => .done .empty (s.writeCodec i [target, ceil, rc, mp, tfp])

/-- A context is deleted: pool, save slot, shadows and its holds on source rings go (R237). -/
def State.deleteCodec (s : State) (i : Nat) : State :=
  let gen := s.get .MLS_C_CFG_GENERATION i
  let n := s.get .MLS_C_CFG_SOURCE i
  let s := (s.release (.codec i)).wr .MLS_C_CFG (gen * 2 ^ 24) i
  let s := { s with shadows := s.shadows.filter fun x => x.owner != CUnit.codec i
                    mls := { s.mls with resident := s.mls.resident.filter (· ≠ i) } }
  let c := s.ctx n
  let s := s.setCtx n { c with frames := c.frames.map fun f =>
    { f with rawUses := f.rawUses.filter (· ≠ i), devUses := f.devUses.filter (· ≠ i) } }
  ((s.setCodec i {}).forget n).showCodecs

def pktMlsCtxDelete (handle : Nat) : Packet where
  opcode := 0x0904
  cls := .configure
  params := codecOk handle
  rights := codecRights .configure handle
  checks := fun _ s => match s.codecOf handle with
    | none => .MLS_BAD_HANDLE
    | some i => need (s.get .MLS_C_CFG_ACTIVE i == 0 && (s.codec i).coding.isEmpty &&
        !(s.mls.switchTo.any fun p => p.2 == i)) .MLS_STREAM_ACTIVE
  run := fun _ s => match s.codecOf handle with
    | none => .refuse .MLS_BAD_HANDLE s
    | some i => .done .empty (s.deleteCodec i)

/-! ### Streams (R233, R235) -/

/-- The plan queue of a context that starts: two plans of Q_INIT and TARGET (R224). -/
def State.freshCodec (s : State) (h : Nat) : State :=
  let t := s.get .MLS_C_TARGET_TARGET h
  let p : Plan := ⟨t, List.replicate 96 (s.get .MLS_C_RC_Q_INIT h)⟩
  let s := s.modCodec h fun c => { c with
    plans := [p, p], lastPlan := none, lastQueued := t, xs := [], bucket := 0, ends := [], gop := 0, firstOfRun := true,
    reference := [], position := 0, runRecords := 0, omitBefore := false, nextId := 0 }
  s.wr .MLS_C_BUCKET 0 h

/-- A context becomes active. -/
def State.activate (s : State) (h : Nat) : State := ((s.freshCodec h).set .MLS_C_CFG_ACTIVE 1 h).showCodecs

/-- A context is no longer active: it lets go of the frames it has not begun (R152). -/
def State.deactivate (s : State) (h : Nat) : State :=
  let n := s.get .MLS_C_CFG_SOURCE h
  let held := (s.codec h).coding.filterMap fun c => if c.ended.isNone then some c.id else none
  let c := s.ctx n
  let s := s.setCtx n { c with frames := c.frames.map fun f => if held.contains f.id then f else
    { f with rawUses := f.rawUses.filter (· ≠ h), devUses := f.devUses.filter (· ≠ h) } }
  ((s.set .MLS_C_CFG_ACTIVE 0 h).forget n).showCodecs

/-- Active contexts once `h` is active too, in place of `old`. -/
def State.activeWith (s : State) (h : Nat) (old : Option Nat) : List Nat :=
  (s.activeCodecs.filter fun a => a ≠ h && some a ≠ old) ++ [h]

/-- A frame whose encode boundary is still to come: no context has begun it, and no more than one row-group of it has entered the pipeline
(DESIGN CHOICE, log 114). -/
def Frame.early (f : Frame) : Bool := decide (0 < f.fed ∧ f.fed ≤ 16) && !f.encoded && !f.demosaicked

/-- A context that starts receives the frames whose encode boundary follows the launch (R235). -/
def State.joinEarly (s : State) (h : Nat) : State :=
  let n := s.get .MLS_C_CFG_SOURCE h
  let raw := s.get .MLS_C_CFG_PROFILE h == 0
  ((s.ctx n).frames.filter Frame.early).foldl (fun s f =>
    if raw then s.modFrame n f.id fun f => if f.rawSlot && !f.rawUses.contains h then { f with rawUses := f.rawUses ++ [h] } else f
    else if f.devSlot then s.modFrame n f.id fun f => if f.devUses.contains h then f else { f with devUses := f.devUses ++ [h] }
    else s.takeDev n f.id) s

/-- The context a stream leaves has no part in them (R235). -/
def State.leaveEarly (s : State) (h : Nat) : State :=
  let n := s.get .MLS_C_CFG_SOURCE h
  ((s.ctx n).frames.filter Frame.early).foldl (fun s f => (s.releaseFrame n f.id h true).releaseFrame n f.id h false) s

def State.startStream (s : State) (st h : Nat) : State := ((s.activate h).set .MLS_S_CFG_START_PENDING 1 st).joinEarly h

/-- No context is the target of a stream's pending switch any more. -/
def State.dropSwitch (s : State) (st : Nat) : State :=
  let s := match tget s.mls.switchTo st with
    | some h => s.modCodec h fun c => { c with switchedNext := false }
    | none => s
  { s.set .MLS_S_CFG_SWITCH_PENDING 0 st with mls := { s.mls with switchTo := tdel s.mls.switchTo st } }

/-- A stream's coding has ended: DONE to its stop, WRONG_STATE to a start or switch still waiting (R235). -/
def State.endStream (s : State) (st : Nat) : State :=
  let s := match s.bound st with
    | some h => s.deactivate h
    | none => s
  let s := ((s.set .MLS_S_CFG_RUNNING 0 st).set .MLS_S_CFG_START_PENDING 0 st).set .MLS_S_CFG_STOP_PENDING 0 st
  let s := (s.dropSwitch st).complete (fun w => w == .codecStop (64 + st)) .DONE .empty
  s.complete (fun w => w == .codecStart (64 + st) || w == .codecSwitch st) .WRONG_STATE .empty

/-- A stop: at once where no frame is being coded, else with that frame's record (R235). -/
def State.stopStream (s : State) (st : Nat) : State :=
  let busy := (s.bound st).any fun h => !(s.codec h).coding.isEmpty
  if busy then s.set .MLS_S_CFG_STOP_PENDING 1 st else s.endStream st

/-- A host-destination context or an output's context ends. -/
def State.endRun (s : State) (h : Nat) : State :=
  let s := (s.deactivate h).modCodec h fun c => { c with startPending := false, stopPending := false }
  let s := s.complete (fun w => w == .codecStop h) .DONE .empty
  s.complete (fun w => w == .codecStart h) .WRONG_STATE .empty

def State.startRun (s : State) (h : Nat) : State :=
  ((s.activate h).modCodec h fun c => { c with startPending := true }).joinEarly h

def State.stopRun (s : State) (h : Nat) : State :=
  if (s.codec h).coding.isEmpty then s.endRun h else s.modCodec h fun c => { c with stopPending := true }

def cfgStream (st : Nat) : Nat → State → List Right := fun _ _ => [⟨.configure, .res (res 7 st)⟩]

def pktMlsStreamBind (stream handle : Nat) : Packet where
  opcode := 0x0905
  cls := .configure
  params := fun s => if 8 ≤ stream then .MLS_BAD_CONFIG else codecOk handle s
  rights := cfgStream stream
  checks := fun _ s =>
    if s.streamOn stream then .MLS_STREAM_ACTIVE
    else need ((s.codecOf handle).any fun i => s.streamOf i == some stream) .WRONG_STATE
  run := fun _ s => .done .empty (s.set .MLS_S_CFG_HANDLE handle stream)

def pktMlsStreamStart (stream : Nat) : Packet where
  opcode := 0x0906
  cls := .configure
  params := fun _ => need (decide (stream < 8)) .MLS_BAD_CONFIG
  rights := cfgStream stream
  checks := fun _ s => match s.bound stream with
    | none => .MLS_BAD_HANDLE
    | some h =>
      if s.streamOn stream then .MLS_STREAM_ACTIVE
      else need (s.codecTime (s.activeWith h none)) .MLS_NO_CODEC_TIME
  run := fun _ s => match s.bound stream with
    | none => .refuse .MLS_BAD_HANDLE s
    | some h => .wait (.codecStart (64 + stream)) (s.startStream stream h)

/-- STREAM_START: NOT_READY on an unbound stream or without codec time; a running stream goes on (R233, R235). -/
def evStreamStart (stream : Fin 8) (s : State) : Out' :=
  .next <| match s.bound stream.val with
  | none => s.raise .MLS_EVT_NOT_READY
  | some h =>
    if s.streamOn stream.val then s
    else if s.codecTime (s.activeWith h none) then s.startStream stream.val h
    else s.raise .MLS_EVT_NOT_READY

/-- Switch a stream to another context of its destination (R235): pending until the first encode boundary that follows; a later switch
takes the place of one that waits. -/
def State.switchStream (s : State) (st next : Nat) : State :=
  let from_ := (tget s.mls.switchTo st).or (s.bound st)
  let s := s.dropSwitch st
  let s := { s with mls := { s.mls with switchTo := tins next s.mls.switchTo st } }
  let s := if s.bound st = some next then s else s.freshCodec next
  let s := (s.modCodec next fun c => { c with switchedNext := true }).set .MLS_S_CFG_SWITCH_PENDING 1 st
  let s := match from_ with
    | some o => if o = next then s else s.leaveEarly o
    | none => s
  s.joinEarly next

def State.switchOk (s : State) (st next : Nat) : Bool := s.codecTime (s.activeWith next (s.bound st))

def pktMlsSwitch (stream handle : Nat) : Packet where
  opcode := 0x0908
  cls := .configure
  params := fun s => if 8 ≤ stream then .MLS_BAD_CONFIG else codecOk handle s
  rights := cfgStream stream
  checks := fun _ s => match s.codecOf handle with
    | none => .MLS_BAD_HANDLE
    | some i =>
      if !s.streamOn stream || s.flag .MLS_S_CFG_STOP_PENDING stream || s.streamOf i != some stream then .WRONG_STATE
      else need (s.switchOk stream i) .MLS_NO_CODEC_TIME
  run := fun _ s => match s.codecOf handle with
    | none => .refuse .MLS_BAD_HANDLE s
    | some i => .wait (.codecSwitch stream) (s.switchStream stream i)

def evCodecSwitch (stream : Fin 8) (handle : BitVec 32) (s : State) : Out' :=
  .next <| match s.bound stream.val, s.codecOf handle.toNat with
  | some _, some i =>
    if s.streamOn stream.val && s.get .MLS_S_CFG_STOP_PENDING stream.val == 0 && s.streamOf i == some stream.val &&
      s.switchOk stream.val i then s.switchStream stream.val i
    else s.raise .MLS_EVT_NOT_READY
  | _, _ => s.raise .MLS_EVT_NOT_READY

def pktMlsCtxRun (handle : Nat) (start : Bool) : Packet where
  opcode := 0x090B
  cls := .configure
  params := codecOk handle
  rights := codecRights .configure handle
  checks := fun _ s => match s.codecOf handle with
    | none => .MLS_BAD_HANDLE
    | some i =>
      if s.get .MLS_C_CFG_DEST_KIND i ≠ 3 then .WRONG_STATE
      else if start then
        if s.flag .MLS_C_CFG_ACTIVE i then .MLS_STREAM_ACTIVE
        else need (s.codecTime (s.activeWith i none)) .MLS_NO_CODEC_TIME
      else need (s.flag .MLS_C_CFG_ACTIVE i) .WRONG_STATE
  run := fun _ s => match s.codecOf handle with
    | none => .refuse .MLS_BAD_HANDLE s
    | some i =>
      if start then .wait (.codecStart i) (s.startRun i)
      else if (s.codec i).coding.isEmpty then .both .empty (s.endRun i)
      else .wait (.codecStop i) (s.stopRun i)

/-! ### Plans (R224, R225) -/

def pktMlsPlanSet (handle ceiling : Nat) (quants : List Nat) : Packet where
  opcode := 0x0909
  cls := .configure
  params := fun s => match s.codecOf handle with
    | none => .MLS_BAD_HANDLE
    | some i =>
      if quants.length ≠ 96 then .BAD_LENGTH
      else need (decide ((s.codecGeoNow i).frameFloor ≤ ceiling) && decide (ceiling ≤ s.get .MLS_C_CEIL_CEIL_MAX i)) .MLS_BAD_PLAN
  rights := codecRights .configure handle
  checks := fun _ s => match s.codecOf handle with
    | none => .MLS_BAD_HANDLE
    | some i => need (decide ((s.codec i).plans.length < 2)) .MLS_PLAN_FULL
  run := fun _ s => match s.codecOf handle with
    | none => .refuse .MLS_BAD_HANDLE s
    | some i => .done .empty (s.modCodec i fun c => { c with plans := c.plans ++ [⟨ceiling, quants⟩], lastQueued := ceiling })

/-- 2^(q/8) and 2^(−q/8). -/
def qScale (q : Int) : Frac := Frac.exp2 (.mk' q 8)

/-- X after a record, in units of 2^−16 (R225). -/
def nextX (h : Nat) (xs : List Nat) (r : FrameRec) : List Nat :=
  let unit := fun (q : Frac) => (q.scale 16).floor.toNat
  let x := fun (c : SliceInfo) => (Frac.ofInt c.length).mul (qScale c.q)
  let normal := r.slices.filter fun c => !c.floor
  if normal.isEmpty then r.slices.zipIdx.map fun (_, i) => 2 * (xs.getD i (Config.firstX h i)) else
  let per := (Frac.sum (normal.map fun c => (x c).div (.ofInt c.blocks))).div (.ofInt normal.length)
  r.slices.map fun c => if c.floor then unit (per.mul (.ofInt c.blocks)) else unit (x c)

/-- The smallest quantiser that meets the goal, else Q_MAX. -/
def planQ (xs : List Nat) (goal : Int) (lo hi : Nat) : Nat :=
  ((List.range (hi + 1)).find? fun q => lo ≤ q && decide
    ((Frac.sum (xs.map fun x : Nat => (Frac.mk' (x : Int) 65536).mul (qScale (-(q : Int))))).le (.ofInt (goal - 28)))).getD hi

/-- The firmware plan for one frame end, with the bucket after it (R225). Where a plan finds the queue full it is not queued (DEDUCED, log 48). -/
def State.firmwarePlan (s : State) (h : Nat) (r : Option FrameRec) (bucket : Int) : State :=
  let c := s.codec h
  let target : Int := s.get .MLS_C_TARGET_TARGET h
  let m : Int := s.get .MLS_C_RC_BUCKET_FRAMES h * target
  let g := s.codecGeoNow h
  let xs := match r with
    | some r => nextX h c.xs r
    | none => c.xs
  let use := (List.range g.slices).map fun i => xs.getD i (Config.firstX h i)
  let pred := bucket + target - c.lastQueued
  let ceiling := max target (min (s.get .MLS_C_CEIL_CEIL_MAX h : Int) (target + m + pred))
  let goal := max (g.frameFloor : Int) (min ceiling (target + pred.tdiv 8))
  let q := planQ use goal (s.get .MLS_C_RC_Q_MIN h) (s.get .MLS_C_RC_Q_MAX h)
  s.setCodec h (if c.plans.length < 2 then
      { c with xs := xs, plans := c.plans ++ [⟨ceiling.toNat, List.replicate 96 q⟩], lastQueued := ceiling.toNat }
    else { c with xs := xs })

/-- PLAN_QUEUE: firmware plans for the oldest frame end it has not answered (R225). -/
def evPlanQueue (idx : Fin 64) (s : State) : Out' :=
  let h := idx.val
  .next <| match (s.codec h).ends with
  | [] => s
  | (r, bucket) :: t =>
    let s := s.modCodec h fun c => { c with ends := t }
    if s.get .MLS_C_RC_RC_MODE h = 0 then s.firmwarePlan h r bucket else s

/-! ### The encode boundary (R224, R232, R235) -/

/-- The frame a context begins next: the oldest in the pipeline that holds a slot for it. -/
def State.nextFrame (s : State) (h : Nat) : Option Frame :=
  let n := s.get .MLS_C_CFG_SOURCE h
  (s.ctx n).frames.find? fun f => decide ((s.codec h).nextId ≤ f.id) && (f.rawUses.contains h || f.devUses.contains h)

/-- The plan of a frame at its boundary and whether it is late: quantisers clamped, the ceiling within the CEIL_MAX in effect; FIXED_Q has
Q_INIT and CEIL_MAX as they stand (R223, R224). -/
def State.takePlan (s : State) (h : Nat) : Plan × Bool × State :=
  let c := s.codec h
  let clamp := fun q => max (s.get .MLS_C_RC_Q_MIN h) (min (s.get .MLS_C_RC_Q_MAX h) q)
  let top := s.get .MLS_C_CEIL_CEIL_MAX h
  let all := fun (p : Plan) => { p with ceiling := min p.ceiling top, quants := p.quants.map clamp }
  let init := List.replicate 96 (s.get .MLS_C_RC_Q_INIT h)
  if s.get .MLS_C_RC_RC_MODE h = 1 then (⟨top, init⟩, false, s) else
  match c.plans with
  | p :: t => (all p, false, s.setCodec h { c with plans := t, lastPlan := some p })
  | [] =>
    let last := (c.lastPlan.map (·.quants)).getD init
    (all ⟨s.get .MLS_C_TARGET_TARGET h, last⟩, true, s)

/-- The working-space code of a frame (R150, R151). -/
def State.frameWs (s : State) (n : Nat) (f : Frame) : Nat :=
  (f.params.cal.map fun b => (s.calBank n b).ws).getD 3

/-- The STREAM decoder sessions that run on a context's stream, with their runs (R241). -/
def State.listenersOf (s : State) (h : Nat) : List (Nat × Nat) :=
  match s.streamOf h with
  | none => []
  | some st => ((List.range 8).filter fun d =>
      s.flag .MLS_D_CFG_RUNNING d && s.get .MLS_D_CFG_SOURCE d == 1 && s.get .MLS_D_CFG_SOURCE_INDEX d == st).map fun d =>
    (d, (s.dec d).run)

/-- Begin coding a frame (R213, R224): the frame header, the plan, the record's values. -/
def State.beginCoding (s : State) (h : Nat) (f : Frame) : State × Coding :=
  let n := s.get .MLS_C_CFG_SOURCE h
  let s := s.commit (.codec h)
  let profile := s.get .MLS_C_CFG_PROFILE h
  let scale := s.get .MLS_C_MP_SCALE h
  let g := codecGeo profile scale f.cols f.rows f.cfa
  let (plan, late, s) := s.takePlan h
  let c := s.codec h
  let iFrame := profile != 2 || (c.firstOfRun && c.coding.isEmpty) || c.switchedNext || c.gop == 0
  let gop := if profile = 2 then (if iFrame then 0 else c.gop) else 0
  let tap := f.word 10
  let ws := if profile = 0 then 0 else s.frameWs n f
  let raw := if profile = 0 then (bitsOf tap 31 31, bitsOf tap 30 28, bitsOf tap 11 0) else (0, 0, 0)
  let matrix := if profile = 2 then s.get .MLS_C_MP_MATRIX h else 0
  let hold := s.get .SNS_CTX_CFG_POLICY n == 1
  let header : FrameHeader := ⟨1, profile, f.num, f.cols, f.rows, g.cols, g.rows, g.cfa, raw.1, raw.2.1, raw.2.2, ws,
    if iFrame then 0 else 1, gop, g.slices, matrix, 0⟩
  let coding : Coding := {
    id := f.id, num := f.num, sof := f.sof, timecode := f.timecode, userBits := f.userBits,
    cols := f.cols, rows := f.rows, codedCols := g.cols, codedRows := g.rows, profile := profile, cfa := g.cfa,
    rawFmt := raw.1, headroom := raw.2.1, pedestal := raw.2.2, ws := ws, status := if f.closed then some f.status else none,
    hold := hold, listeners := if hold then [] else s.listenersOf h, plan := plan, planLate := late, switched := c.switchedNext, iFrame := iFrame,
    gopPos := gop, scale := scale, matrix := matrix, tf := s.get .MLS_C_MP_TF h, p0 := s.get .MLS_C_TFP_P0 h
    recon := List.replicate g.planeCount [], bytes := header.bytes }
  let after := (gop + 1) % max 1 (s.get .MLS_C_MP_GOP_LEN h)
  let s := s.modFrame n f.id fun f => { f with encoded := true }
  let s := s.setCodec h { c with coding := c.coding ++ [coding], nextId := f.id + 1, gop := after, switchedNext := false }
  let s := if s.mls.resident.contains h then
      { s with mls := { s.mls with resident := s.mls.resident.filter (· ≠ h) ++ [h] } } else s
  match s.streamOf h with
  | some st => if late then ((s.bump .MLS_S_PLAN_PLAN_LATE st).raise .MLS_EVT_PLAN_LATE st, coding) else (s, coding)
  | none => (s, coding)

/-- A pending switch to this context takes effect with the frame it begins (R235). -/
def State.doSwitch (s : State) (h : Nat) : State :=
  match s.streamOf h with
  | none => s
  | some st =>
    if tget s.mls.switchTo st ≠ some h then s else
    let old := s.bound st
    let s := s.set .MLS_S_CFG_HANDLE (s.codecHandle h) st
    let s := { s.set .MLS_S_CFG_SWITCH_PENDING 0 st with mls := { s.mls with switchTo := tdel s.mls.switchTo st } }
    let s := match old with
      | some o => if o = h then s else s.deactivate o
      | none => s
    (s.set .MLS_C_CFG_ACTIVE 1 h).showCodecs.complete (fun w => w == .codecSwitch st) .DONE .empty

/-- A start that waited for this boundary is done (R235). -/
def State.startDone (s : State) (h : Nat) : State :=
  match s.streamOf h with
  | some st =>
    let s := (s.set .MLS_S_CFG_RUNNING 1 st).set .MLS_S_CFG_START_PENDING 0 st
    s.complete (fun w => w == .codecStart (64 + st)) .DONE .empty
  | none =>
    (s.modCodec h fun c => { c with startPending := false }).complete (fun w => w == .codecStart h) .DONE .empty

/-- A context lets a frame of its source ring go. -/
def State.letGo (s : State) (h id : Nat) : State :=
  let n := s.get .MLS_C_CFG_SOURCE h
  ((s.releaseFrame n id h true).releaseFrame n id h false).forget n

/-- CONTEXT_SPILL: an active context within a frame that is not resident takes the place of the least recently used one that is
not within a frame (R232). -/
def evContextSpill (idx : Fin 64) (s : State) : Out' :=
  let h := idx.val
  .next <| if s.mls.resident.contains h || (s.codec h).coding.isEmpty then s else
    let put := fun (l : List Nat) => { s with mls := { s.mls with resident := l ++ [h] } }
    let count := fun (s : State) => ((s.bump .MLS_CTXS_SPILLS).raise .MLS_EVT_SPILL).showCodecs
    if s.mls.resident.length < 16 then count (put s.mls.resident) else
    match s.mls.resident.find? fun r => (s.codec r).coding.isEmpty with
    | some v => count (put (s.mls.resident.filter (· ≠ v)))
    | none => s

/-! ### Slices (R214 … R219, R226) -/

/-- The 8 × 8 source samples of a block, the last row and column repeated (R215). -/
def Geo.sourceBlock (g : Geo) (planes : List Plane) (s : Nat) (b : Nat × Nat × Nat) : List (List Nat) :=
  let p := b.1
  (List.range 8).map fun r => (List.range 8).map fun c =>
    nearest (planes.getD p []) (g.planeRows p) (g.planeCols p) ((g.sliceTop s p + b.2.1 * 8 + r : Nat) : Int) ((b.2.2 * 8 + c : Nat) : Int)

/-- A vector within −32 … 31. -/
def vectorOf (v : BitVec 6 × BitVec 6) : Int × Int := (v.1.toInt, v.2.toInt)

/-- A level the encoder may write: within the range R218 clamps coefficients to (log 45). -/
def clampLevel (v : Int) : Int := max (-1048576) (min 1048575 v)

/-- Bits written, adaptive state and blocks reconstructed so far. -/
abbrev Written := List Bool × BlockState × List Block

/-- An intra block written, with its reconstruction (R216, R218). -/
def Geo.codeIntra (g : Geo) (q : Nat) (acc : Written) (b : Nat × Nat × Nat) (lv : List Int) : Written :=
  let (w, st) := intraBits acc.2.1 b.1 lv
  (acc.1 ++ w, st, acc.2.2 ++ [g.intraBlock q b (if lv.isEmpty then [st.preds.getD b.1 0] else lv.take 64)])

/-- An inter block written, with its reconstruction; none of its levels where it is not coded (R217, R218). -/
def Geo.codeInter (g : Geo) (q s : Nat) (ref : List Plane) (mv : Int × Int) (acc : Written) (b : Nat × Nat × Nat) (on : Bool)
    (lv : List Int) : Written :=
  let (w, st) := if on then interBits acc.2.1 lv else ([], acc.2.1)
  let levels := if on then lv.take 64 else []
  (acc.1 ++ w, st, acc.2.2 ++ [(b.1, b.2.1, b.2.2, g.samples (unscan (levels.map (dequant q))) (some (g.predict ref s b mv)))])

/-- A slice coded normally: its payload by the syntax of R216 and R217 over the encoder's choices (log 45), and the blocks the encoder
reconstructs from the same levels (R218). -/
def Geo.writeSlice (g : Geo) (planes : List Plane) (s q seed : Nat) (ref : Option (List Plane)) : List Byte × List Block :=
  let order := (g.blocks s).zipIdx
  let lv := fun (b : (Nat × Nat × Nat) × Nat) => (Config.levels seed b.2 q (g.sourceBlock planes s b.1)).map clampLevel
  let intra := fun (acc : Written) (b : (Nat × Nat × Nat) × Nat) => g.codeIntra q acc b.1 (lv b)
  let out : Written := match ref with
    | none => order.foldl intra ([], {}, [])
    | some ref =>
      ((groupsOf 6 order.length order).zipIdx.foldl (fun (acc : Written × (Int × Int)) (mb, i) =>
        if Config.inter seed i then
          let mv := vectorOf (Config.vector seed i)
          let cbp := mb.map fun b => Config.coded seed b.2
          let head := [true] ++ riceBits 1 (mv.1 - acc.2.1) ++ riceBits 1 (mv.2 - acc.2.2) ++ cbp
          ((mb.zip cbp).foldl (fun (a : Written) (b, on) => g.codeInter q s ref mv a b.1 on (lv b))
            (acc.1.1 ++ head, acc.1.2), mv)
        else (mb.foldl intra (acc.1.1 ++ [false], acc.1.2), acc.2)) (([], {}, []), (0, 0))).1
  (escape (payloadBytes out.1), out.2.2)

/-- A floor slice: its payload and the blocks it reconstructs to (R219). -/
def Geo.writeFloor (g : Geo) (planes : List Plane) (s seed : Nat) : List Byte × List Block :=
  let coded := (g.blocks s).zipIdx.map fun (b, i) =>
    let v := Config.floorLevel seed i (g.sourceBlock planes s b)
    ([BitVec.ofNat 8 (0x80 + v.toNat / 256), BitVec.ofNat 8 (v.toNat % 256)],
      ((b.1, b.2.1, b.2.2, g.samples (unscan [v.toInt * 128]) none) : Block))
  (coded.flatMap (·.1), coded.map (·.2))

def Coding.geo (c : Coding) : Geo := ⟨c.profile, c.codedCols, c.codedRows, c.cfa⟩

/-- The rows of a slice by planes, from its blocks. -/
def Geo.slicePlanes (g : Geo) (s : Nat) (bs : List Block) : List Plane := (List.range g.planeCount).map fun p => g.sliceRowsOf s p bs

/-- The form of the next slice by R226: normal while it fits the budget, floor from the first that does not; its bytes and its blocks. -/
def Coding.nextSlice (c : Coding) (planes : List Plane) (ref : List Plane) (seed : Nat) : Bool × List Byte × List Block :=
  let g := c.geo
  let s := c.slices.length
  let reserve := (((List.range g.slices).drop (s + 1)).map g.floorSize).foldl (· + ·) (0 : Nat) + 4
  let budget : Int := (c.plan.ceiling : Int) - c.used - reserve
  let q := c.plan.quants.getD s 0
  let rows := g.sliceRows s
  let (payload, blocks) := g.writeSlice planes s q seed (if c.iFrame then none else some ref)
  let normal := sliceBytes s false q rows c.num payload
  if c.floorMode || decide (budget < normal.length) || decide (16777215 < normal.length) then
    let (payload, blocks) := g.writeFloor planes s seed
    (true, sliceBytes s true 56 rows c.num payload, blocks)
  else (false, normal, blocks)

/-- A slice is emitted: its bytes, its table entry, its reconstruction (R218, R220, R226). -/
def Coding.emit (c : Coding) (floor : Bool) (bytes : List Byte) (blocks : List Block) : Coding :=
  let s := c.slices.length
  { c with
    slices := c.slices ++ [⟨floor, if floor then 56 else c.plan.quants.getD s 0, bytes.length, c.geo.blockCount s⟩]
    used := c.used + bytes.length, floorMode := floor, firstFloor := if floor && !c.floorMode then s else c.firstFloor
    bytes := c.bytes ++ bytes, rowsDone := 0, recon := c.geo.putSlice c.recon s (c.geo.slicePlanes s blocks) }

/-- The end marker after the last slice; a frame held under DROP_MALFORMED gets it with its trailer (R211, R220, R226). -/
def Coding.finish (c : Coding) (now : Nat) : Coding :=
  if c.ended.isNone ∧ c.slices.length = c.geo.slices ∧ (!c.hold || c.status.isSome) then
    { c with bytes := c.bytes ++ marker 0xF2, used := c.used + 4, ended := some now } else c

/-- Source rows the first `rows` picture rows of a slice need (R210). -/
def Coding.sourceRows (c : Coding) (slice rows : Nat) : Nat :=
  min c.rows ((128 * slice + min rows (c.geo.sliceRows slice)) * (if c.profile = 2 then 2 ^ c.scale else 1))

/-- Picture rows of a block-row: of 8 × 8 blocks, or of an MP macroblock (R215). -/
def Coding.blockRow (c : Coding) : Nat := if c.profile = 2 then 16 else 8 * c.geo.sub 0

/-- Block-rows of a slice, and those of the next one whose source rows are there (R210). -/
def Coding.blockRows (c : Coding) (slice : Nat) : Nat := ceilDiv (c.geo.sliceRows slice) c.blockRow
def Coding.readyRows (c : Coding) (f : Frame) : Nat :=
  let s := c.slices.length
  ((List.range (c.blockRows s)).filter fun j => decide (c.sourceRows s ((j + 1) * c.blockRow) ≤ f.fed)).length

/-- The frame a resident context codes: its oldest with a slice still to come. -/
def State.inCore (s : State) (h : Nat) : Option (Coding × Frame) :=
  if !s.mls.resident.contains h then none else
  ((s.codec h).coding.find? fun c => decide (c.slices.length < c.geo.slices)).bind fun c =>
    ((s.ctx (s.get .MLS_C_CFG_SOURCE h)).frames.find? (·.id == c.id)).map fun f => (c, f)

/-- The core of `h` serves another context of its profile first: one with a block-row ready whose frame has the earlier SOF, or the same
and the lower handle (R210). -/
def State.rivals (s : State) (h : Nat) (c : Coding) : List (Nat × Coding × Frame) :=
  (List.range 64).filterMap fun k => if k = h then none else
    (s.inCore k).bind fun (d, f) =>
      if d.profile = c.profile ∧ d.rowsDone < d.readyRows f ∧
        (d.sof < c.sof ∨ (d.sof = c.sof ∧ s.codecHandle k < s.codecHandle h)) then some (k, d, f) else none

/-- Change one coding of a context. -/
def State.modCoding (s : State) (h id : Nat) (g : Coding → Coding) : State :=
  s.modCodec h fun k => { k with coding := k.coding.map fun x => if x.id = id then g x else x }

/-- The round-trip check of a slice just emitted (R236). -/
def rtDueOf (h : Nat) (c : Coding) (ref : List Plane) (floor : Bool) (bytes : List Byte) (blocks : List Block) : RtDue :=
  let s := c.slices.length
  { idx := h, frame := c.num, slice := s, q := c.plan.quants.getD s 0, floor := floor, profile := c.profile, cols := c.codedCols
    rows := c.codedRows, cfa := c.cfa, reference := if c.iFrame then none else some ref, bytes := bytes
    recon := c.geo.slicePlanes s blocks }

/-- A frame whose end marker is written: a held one is published to the sessions now, its ring slot is let go, and an MP reconstruction
becomes the reference (R218, R220, R241). -/
def State.codingEnded (s : State) (h : Nat) (c : Coding) : State :=
  let s := if c.hold then s.modCoding h c.id fun x => { x with listeners := s.listenersOf h } else s
  (s.modCodec h fun k => { k with reference := if c.profile = 2 then c.recon else k.reference }).letGo h c.id

/-- SLICE_EMIT: the context's frame codes its next slice once its rows are there, after the block-rows its core serves first; where one of
those completes a slice, that slice comes first and nothing is emitted here (R210, R220, R226). The checked slice of the frame is due for
its round trip (R236). -/
def State.emitSlice (s : State) (h : Nat) : State :=
  match s.inCore h with
  | none => s
  | some (c, f) =>
    let idx := c.slices.length
    let first := s.rivals h c
    if c.readyRows f < c.blockRows idx || first.any (fun (_, d, g) => d.readyRows g == d.blockRows d.slices.length) then s else
    let s := first.foldl (fun s (k, d, g) => s.modCoding k d.id fun x => { x with rowsDone := d.readyRows g }) s
    let (seed, s) := s.draw
    let ref := (s.codec h).reference
    let (floor, bytes, blocks) := c.nextSlice (s.sourcePlanes (s.get .MLS_C_CFG_SOURCE h) f c) ref seed
    let c' := (c.emit floor bytes blocks).finish s.now
    let s := s.modCoding h c.id fun _ => c'
    let s := if c.num % c.geo.slices = idx then
        { s with mls := { s.mls with rtDue := s.mls.rtDue ++ [rtDueOf h c ref floor bytes blocks] } } else s
    if c'.ended.isSome then s.codingEnded h c' else s

/-! ### Records (R228 … R230) -/

/-- The slice table (R229). -/
def sliceTable (c : Coding) : List Byte :=
  (c.slices.foldl (fun (acc : List Byte × Nat) x =>
    (acc.1 ++ le 8 ((if x.floor then 2 ^ 63 else 0) + x.q * 2 ^ 56 + x.length * 2 ^ 32 + acc.2), acc.2 + x.length)) ([], 24)).1

/-- The frame record (R228). -/
def State.frameRecord (s : State) (h : Nat) (c : Coding) (status : Nat) (bucket : Int) (omitBefore : Bool) (offset : Nat) : FrameRec :=
  let normal := (c.slices.filter fun x => !x.floor).map (·.q)
  let floors := (c.slices.filter (·.floor)).length
  let kind := c.profile * 64 + s.get .MLS_C_CFG_SOURCE h * 8 + s.get .MLS_C_CFG_DEST_KIND h * 2
  let flags := (if c.planLate then 1 else 0) + (if omitBefore then 2 else 0) + (if status / 2 ^ 60 % 2 = 1 then 4 else 0) +
    (if c.switched then 8 else 0)
  let dest := if s.get .MLS_C_CFG_DEST_KIND h = 3 then 0 else s.get .MLS_C_CFG_DEST_INDEX h
  let head := le 2 0x4D46 ++ [1, BitVec.ofNat 8 kind] ++ le 2 (s.codecHandle h) ++ le 1 dest ++ le 1 c.slices.length ++
    le 4 c.num ++ le 8 c.sof ++ le 8 status ++ le 4 c.timecode ++ le 4 c.userBits ++ le 4 (c.cols * 65536 + c.rows) ++
    le 4 (c.codedCols * 65536 + c.codedRows) ++
    le 4 (c.ws * 2 ^ 28 + c.rawFmt * 2 ^ 27 + c.headroom * 2 ^ 24 + c.pedestal * 2 ^ 12 + c.cfa * 2 ^ 9 +
      (if c.iFrame then 0 else 256) + c.gopPos) ++
    le 4 c.plan.ceiling ++ le 4 c.used ++
    le 4 (floors * 2 ^ 24 + c.firstFloor * 2 ^ 16 + least 0 normal * 2 ^ 8 + normal.foldl max 0) ++ le 4 flags ++
    le 8 offset ++ le 8 (c.ended.getD 0) ++ le 4 (bucket % 2 ^ 32).toNat ++ List.replicate 40 0
  let table := sliceTable c
  { frame := c.num, sof := c.sof, status := status, bytes := c.used, ended := c.ended.getD 0, offset := offset
    profile := c.profile, intra := c.iFrame, slices := c.slices, raw := head ++ le 4 (crc32c (head ++ table)) ++ table
    unit := c.bytes, listeners := c.listeners }

/-- Publish the record of a context's oldest frame, once its end marker is written and its trailer has come: the frame as
coded, its record, and the state after it (R228). -/
def State.publishRec (s : State) (h : Nat) : Option (Coding × FrameRec × State) :=
  match (s.codec h).coding with
  | [] => none
  | c :: rest =>
    match c.ended, c.status with
    | some _, some status =>
      let k := s.codec h
      let target : Int := s.get .MLS_C_TARGET_TARGET h
      let m : Int := s.get .MLS_C_RC_BUCKET_FRAMES h * target
      let bucket := if s.get .MLS_C_RC_RC_MODE h = 0 then min (k.bucket + target - c.used) m else 0
      let r := s.frameRecord h c status bucket k.omitBefore k.position
      let floors := (c.slices.filter (·.floor)).length
      let s := s.setCodec h { k with
        coding := rest, records := (r :: k.records).take 64, ends := k.ends ++ [(some r, bucket)], bucket := bucket
        omitBefore := false, firstOfRun := false, runRecords := k.runRecords + 1, position := k.position + c.used }
      let s := ((s.wr .MLS_C_BUCKET (bucket % 2 ^ 32).toNat h).set .MLS_C_LAST_FRAME c.num h).set .MLS_C_STAT_LAST_Q
        ((c.slices.headD ⟨false, 0, 0, 0⟩).q) h
      let s := s.set .MLS_C_STAT_FLOOR_SLICES floors h
      let s := match s.streamOf h with
        | none => s
        | some st =>
          let s := s.set .MLS_S_LAST_FRAME c.num st
          if floors = 0 then s
          else ((s.bump .MLS_S_FLOOR_FLOOR_FRAMES st).bump .MLS_S_FLOOR_FLOOR_SLICES st floors).raise .MLS_EVT_FLOOR st
      some (c, r, s)
    | _, _ => none

/-- A stop that waited for the context's last frame is complete (R235). -/
def State.settleStop (s : State) (h : Nat) : State :=
  if !(s.codec h).coding.isEmpty then s else
  match s.streamOf h with
  | some st => if s.flag .MLS_S_CFG_STOP_PENDING st && s.bound st == some h then s.endStream st else s
  | none => if (s.codec h).stopPending then s.endRun h else s

/-- The trailer of a frame gives its status word to the records of the contexts coding it, and a held frame its end marker
(R220, R228). -/
def State.codecStatusWord (s : State) (n id status : Nat) : State :=
  (List.range 64).foldl (fun s h =>
    if s.codecMade h && s.get .MLS_C_CFG_SOURCE h == n then
      let open_ := (s.codec h).coding.any fun c => c.id == id && c.ended.isNone
      let s := s.modCodec h fun k => { k with
        coding := k.coding.map fun (c : Coding) => if c.id = id then { c with status := some status }.finish s.now else c }
      match (s.codec h).coding.find? fun c => c.id == id && c.ended.isSome with
      | some c => if open_ then s.codingEnded h c else s
      | none => s
    else s) s

/-- A context abandons the frame it codes: bytes, reference and bucket as before it (R222). -/
def State.abandonCoding (s : State) (h id : Nat) : State :=
  match (s.codec h).coding.find? (·.id == id) with
  | none => s
  | some c =>
    let s := s.modCodec h fun k => { k with
      coding := k.coding.filter (·.id ≠ id), ends := k.ends ++ [(none, k.bucket)], gop := c.gopPos, switchedNext := k.switchedNext || c.switched }
    ({ s with mls := { s.mls with rtDue := s.mls.rtDue.filter fun r => !(r.idx == h && r.frame == c.num) } }).letGo h id

/-- The pipeline abandons a frame of a context: every codec context withdraws it (R140, R222). -/
def State.codecAbandon (s : State) (n id : Nat) : State :=
  (List.range 64).foldl (fun s h =>
    if s.codecMade h && s.get .MLS_C_CFG_SOURCE h == n then ((s.abandonCoding h id).letGo h id).settleStop h else s) s

def pktMlsRecordRead (handle : Nat) (rd : ReadArgs) : Packet where
  opcode := 0x090A
  params := fun s => codecOk handle s
  checks := fun _ s => match s.codecOf handle with
    | none => .MLS_BAD_HANDLE
    | some i => match findHeld ((s.codec i).records.map fun r => ⟨r.frame, r.sof, r.raw⟩) rd with
      | none => .MLS_NOT_HELD
      | some x => need (rangeOk rd x.bytes.length) .MLS_BAD_CONFIG
  run := fun _ s => match s.codecOf handle with
    | none => .refuse .MLS_BAD_HANDLE s
    | some i => match findHeld ((s.codec i).records.map fun r => ⟨r.frame, r.sof, r.raw⟩) rd with
      | none => .refuse .MLS_NOT_HELD s
      | some x => .done (.bytes (s.heldBytes x rd)) s

def pktMlsInfo (isStream : Bool) (id : Nat) : Packet where
  opcode := 0x0901
  params := fun s => if isStream then need (decide (id < 8)) .MLS_BAD_CONFIG else codecOk id s
  run := fun _ s =>
    let i := handleSlot id
    .done (.values ((if isStream then [s.rd .MLS_S_CFG id, s.rd .MLS_S_LAST id, s.rd .MLS_S_LASTOMIT id, s.rd .MLS_S_OMIT id,
        s.rd .MLS_S_FLOOR id, s.rd .MLS_S_PLAN id]
      else [s.rd .MLS_C_CFG i, s.shadow .MLS_C_TARGET i, s.shadow .MLS_C_CEIL i, s.shadow .MLS_C_RC i, s.shadow .MLS_C_MP i,
        s.shadow .MLS_C_TFP i, s.rd .MLS_C_BUCKET i, s.rd .MLS_C_LAST i, s.rd .MLS_C_STAT i]) ++
      [s.rd .MLS_LOAD0, s.rd .MLS_LOAD1])) s

/-! ### Checks (R236, R439) -/

/-- The checker decodes the slice from its emitted bytes and compares every sample with the encoder's reconstruction (R236). -/
def RtDue.holds (r : RtDue) : Bool :=
  let g : Geo := ⟨r.profile, r.cols, r.rows, r.cfa⟩
  let payload := r.bytes.drop 16
  let blocks := if r.floor then g.readFloor (g.blocks r.slice) payload else g.readSlice r.slice r.q r.reference payload
  blocks.map (g.slicePlanes r.slice) == some r.recon

/-- A round-trip check ends (R236): a mismatch, as the emitted bytes show it or as a fault of the hardware makes it (`ok` false), is
counted, flagged, and reported as code 0x09 with stream and frame. -/
def evRoundTripCheck (idx : Fin 64) (ok : Bool) (s : State) : Out' :=
  let h := idx.val
  .next <| match s.mls.rtDue.find? (·.idx == h) with
  | none => s
  | some r =>
    let frame := r.frame
    let ok := ok && r.holds
    let s := { s with mls := { s.mls with
      rtDue := s.mls.rtDue.erase r, kaLast := tins s.now s.mls.kaLast (s.get .MLS_C_CFG_PROFILE h) } }
    let s := s.set .MLS_RT_LAST_OK (if ok then 1 else 0)
    if ok then (s.passed 0x09).passed 0x0A else
    (((s.bump .MLS_RT_FAILS).set .MLS_RT_FRAME_FRAME frame).raise .MLS_EVT_RT_FAIL).report 0x09
      (s.get .MLS_C_CFG_DEST_INDEX h) frame

/-- A known-answer slice of a core ends (R439): it goes through the round-trip checker, whose last result MLS_RT shows
(DEDUCED, log 49); a mismatch is code 0x0A. -/
def evKnownAnswerSlice (core : Fin 4) (ok : Bool) (s : State) : Out' :=
  let s := { s with mls := { s.mls with kaLast := tins s.now s.mls.kaLast core.val } }
  let s := s.set .MLS_RT_LAST_OK (if ok then 1 else 0)
  .next (if ok then (s.passed 0x09).passed 0x0A else s.report 0x0A core.val 0)

end Sys2Proof.Machine
end

