-- ==== Sys2Proof/Machine/Dec.lean ====
section
/-!
DEFINITION. The Mailis decoder (10): sessions, input, frame headers and slices, the error classes, resynchronisation and
concealment, publication, reading.
-/
namespace Sys2Proof.Machine

/-! ### Sessions (R240, R249, R252) -/

/-- A session exists: SLOTS is at least 2. -/
def State.decMade (s : State) (d : Nat) : Bool := s.flag .MLS_D_CFG_SLOTS d

def State.decOf (s : State) (h : Nat) : Option Nat :=
  let d := handleSlot h
  if h < 65536 ∧ d < 8 ∧ s.decMade d ∧ s.get .MLS_D_CFG_GENERATION d = handleGen h then some d else none

def decOk (h : Nat) (s : State) : Status := need (s.decOf h).isSome .MLS_DEC_BAD_HANDLE

def decRights (cls : Cls) (h : Nat) : Nat → State → List Right := fun _ s =>
  match s.decOf h with
  | some d => [⟨cls, .res (s.decRes d)⟩]
  | none => []

def State.modDec (s : State) (d : Nat) (g : Dec → Dec) : State := s.setDec d (g (s.dec d))

def State.decRunning (s : State) (d : Nat) : Bool := s.flag .MLS_D_CFG_RUNNING d

/-- Bytes per pixel of a decoded frame (R242). -/
def decPixelBytes (profile : Nat) : Nat := ([2, 6, 3] : List Nat).getD profile 2

/-- Declared load with a session counted, against 8 Gpixel/s (R249). -/
def State.decLoad (s : State) (extra : Nat) (skip : Option Nat) : Nat :=
  ((List.range 8).map fun d =>
    if s.decRunning d ∧ some d ≠ skip then (s.dec d).rate * (s.dec d).cols * (s.dec d).rows else 0).foldl (· + ·) extra

def State.decTime (s : State) (extra : Nat) (skip : Option Nat) : Bool := decide (s.decLoad extra skip ≤ 8000000000 * 100)

def State.showDecLoad (s : State) : State :=
  s.set .MLS_DEC_LOAD_LOAD (perMille 2 (.mk' (s.decLoad 0 none) (8000000000 * 100)))

/-- Pool bytes of a session's decoded frame ring and input ring (R240). -/
def decPool (profile cols rows slots source inMib : Nat) : Nat :=
  slots * cols * rows * decPixelBytes profile + (if source = 0 then inMib * mib else 0)

def State.freeDec (s : State) : Option Nat := (List.range 8).find? fun d => !s.decMade d

/-- The right a source needs beside Configure on the owner (R240). -/
def sourceRights (source index : Nat) : List Right :=
  match source with
  | 1 => [⟨.use, .res (res 7 index)⟩]
  | 2 => [⟨.use, .res (res 3 index)⟩]
  | _ => []

/-- MLS_DEC_CREATE fixes a session (R240, R249); SOURCE_INDEX has no meaning for HOST and reads 0 there. -/
def pktMlsDecCreate (owner source srcIndex profile cols rows slots ring inMib rate conceal timeout : Nat) : Packet where
  opcode := 0x0911
  cls := .configure
  params := fun _ =>
    let index := match source with
      | 1 => decide (srcIndex < 8)
      | 2 => decide (srcIndex < 4)
      | _ => true
    need ((owner / 256 == 2 || owner / 256 == 7) && validResource owner && decide (source < 3) && index && decide (profile < 3) &&
      decide (1 ≤ cols) && decide (cols ≤ 16384) && decide (1 ≤ rows) && decide (rows ≤ 12288) && decide (2 ≤ slots) &&
      decide (slots ≤ 16) && decide (ring < 2) && (source != 0 || (decide (1 ≤ inMib) && decide (inMib ≤ 1024))) &&
      decide (1 ≤ rate) && decide (rate ≤ 65535) && decide (conceal < 2) && decide (1 ≤ timeout) && decide (timeout ≤ 65535) &&
      !(source == 1 && ring == 0)) .MLS_DEC_BAD_CONFIG
  rights := fun _ _ => ⟨.configure, .res owner⟩ :: sourceRights source srcIndex
  checks := fun _ s => match s.freeDec with
    | none => .MLS_DEC_NO_SESSION
    | some d =>
      if !s.decTime (rate * cols * rows) none then .MLS_NO_CODEC_TIME
      else need (s.poolFits (.dec d) (s.payer owner) (decPool profile cols rows slots source inMib)) .MLS_DEC_NO_POOL
  run := fun _ s => match s.freeDec with
    | none => .refuse .MLS_DEC_NO_SESSION s
    | some d =>
      let gen := s.get .MLS_D_CFG_GENERATION d % 255 + 1
      let cfg := source * 2 ^ 29 + (if source = 0 then 0 else srcIndex) * 2 ^ 26 + profile * 2 ^ 24 + ring * 2 ^ 23 + conceal * 2 ^ 22 + slots * 2 ^ 17 + gen * 256
      let s := (s.wr .MLS_D_CFG cfg d).wr .MLS_D_TIMEOUT timeout d
      let s := (((s.wr .MLS_D_LAST 0 d).wr .MLS_D_CONC 0 d).wr .MLS_D_ERR0 0 d).wr .MLS_D_ERR1 0 d
      let s := s.setDec d { owner := owner, cols := cols, rows := rows, inMib := inMib, rate := rate }
      let s := s.allocate (.dec d) (decPool profile cols rows slots source inMib)
      .done (.values [handleOf gen d, cols * rows * decPixelBytes profile]) s

/-- A session starts: its input is empty and nothing is a reference (R14, R241, R248). -/
def State.startDec (s : State) (d : Nat) : State :=
  let s := s.commitAll (.dec d)
  let s := s.modDec d fun k => { k with
    input := [], tags := [], taken := 0, units := [], inFrame := none, slotWait := false, refBad := true, gapNext := false, run := k.run + 1 }
  (s.set .MLS_D_CFG_RUNNING 1 d).showDecLoad

def pktMlsDecStart (handle : Nat) : Packet where
  opcode := 0x0912
  cls := .configure
  params := decOk handle
  rights := decRights .configure handle
  checks := fun _ s => match s.decOf handle with
    | none => .MLS_DEC_BAD_HANDLE
    | some d =>
      let k := s.dec d
      if s.decRunning d then .MLS_DEC_ACTIVE
      else need (s.decTime (k.rate * k.cols * k.rows) (some d)) .MLS_NO_CODEC_TIME
  run := fun _ s => match s.decOf handle with
    | none => .refuse .MLS_DEC_BAD_HANDLE s
    | some d => .done .empty (s.startDec d)

/-- MLS_DEC_STOP: the frame in progress is discarded unpublished, input is no longer taken (R252). -/
def State.stopDec (s : State) (d : Nat) : State :=
  let s := s.modDec d fun k => { k with inFrame := none, slotWait := false, input := [], tags := [], units := [], play := none }
  (s.set .MLS_D_CFG_RUNNING 0 d).showDecLoad

def pktMlsDecStop (handle : Nat) : Packet where
  opcode := 0x0913
  cls := .configure
  params := decOk handle
  rights := decRights .configure handle
  checks := fun _ s => match s.decOf handle with
    | none => .MLS_DEC_BAD_HANDLE
    | some d => need (s.decRunning d) .WRONG_STATE
  run := fun _ s => match s.decOf handle with
    | none => .refuse .MLS_DEC_BAD_HANDLE s
    | some d => .both .empty (s.stopDec d)

/-- A decoder guard cause clears with its session's deletion (R448). -/
def State.deleteDec (s : State) (d : Nat) : State :=
  let gen := s.get .MLS_D_CFG_GENERATION d
  let s := ((s.release (.dec d)).wr .MLS_D_CFG (gen * 256) d).setDec d {}
  ({ s with shadows := s.shadows.filter fun x => x.owner != CUnit.dec d }).passed 0x0B

def pktMlsDecDelete (handle : Nat) : Packet where
  opcode := 0x0914
  cls := .configure
  params := decOk handle
  rights := decRights .configure handle
  checks := fun _ s => match s.decOf handle with
    | none => .MLS_DEC_BAD_HANDLE
    | some d => need (!s.decRunning d) .MLS_DEC_ACTIVE
  run := fun _ s => match s.decOf handle with
    | none => .refuse .MLS_DEC_BAD_HANDLE s
    | some d => .done .empty (s.deleteDec d)

/-- Free bytes of a HOST session's input ring. -/
def State.inputFree (s : State) (d : Nat) : Nat := (s.dec d).inMib * mib - (s.dec d).input.length

def pktMlsDecFeed (handle count tag : Nat) (data : List Byte) : Packet where
  opcode := 0x0915
  cls := .use
  params := fun s =>
    if (s.decOf handle).isNone then .MLS_DEC_BAD_HANDLE
    else if 4080 < count then .MLS_DEC_BAD_CONFIG
    else need (decide (count ≤ data.length)) .BAD_LENGTH
  rights := decRights .use handle
  checks := fun _ s => match s.decOf handle with
    | none => .MLS_DEC_BAD_HANDLE
    | some d =>
      if !s.decRunning d || s.get .MLS_D_CFG_SOURCE d != 0 then .WRONG_STATE
      else need (decide (count ≤ s.inputFree d)) .MLS_DEC_INPUT_FULL
  run := fun _ s => match s.decOf handle with
    | none => .refuse .MLS_DEC_BAD_HANDLE s
    | some d =>
      let s := s.modDec d fun k => { k with
        tags := k.tags ++ [(k.taken + k.input.length, tag)], input := k.input ++ data.take count }
      .done (.values [s.inputFree d]) s

def pktMlsDecSet (handle conceal timeout : Nat) : Packet where
  opcode := 0x0918
  cls := .configure
  params := fun s =>
    if (s.decOf handle).isNone then .MLS_DEC_BAD_HANDLE
    else need (decide (conceal < 2) && decide (1 ≤ timeout) && decide (timeout ≤ 65535)) .MLS_DEC_BAD_CONFIG
  rights := decRights .configure handle
  run := fun _ s => match s.decOf handle with
    | none => .refuse .MLS_DEC_BAD_HANDLE s
    | some d =>
      let cfg := withBits (s.shadow .MLS_D_CFG d) 22 22 conceal
      .done .empty ((s.shadowWr (.dec d) .MLS_D_CFG cfg d).shadowWr (.dec d) .MLS_D_TIMEOUT timeout d)

def pktMlsDecInfo (handle : Nat) : Packet where
  opcode := 0x0910
  params := decOk handle
  run := fun _ s =>
    let d := handleSlot handle
    .done (.values [s.shadow .MLS_D_CFG d, s.shadow .MLS_D_TIMEOUT d, s.rd .MLS_D_LAST d, s.rd .MLS_D_CONC d,
      s.rd .MLS_D_ERR0 d, s.rd .MLS_D_ERR1 d]) s

/-! ### Input (R241) -/

/-- A stream has published a frame unit: every STREAM session whose present run had begun when its header was published takes it from
staging; MP sessions begin with an I frame. -/
def State.feedSessions (s : State) (r : FrameRec) : State :=
  (List.range 8).foldl (fun s d =>
    if s.decRunning d && r.listeners.contains (d, (s.dec d).run) then
      s.modDec d fun k =>
        let idle := k.units.isEmpty && k.taken == 0 && k.inFrame.isNone
        if idle && r.profile == 2 && !r.intra then k else { k with units := k.units ++ [(r.sof, r.intra, r.unit)] }
    else s) s

/-- Units a STREAM session passes over when several wait: all but the newest; of MP all before the newest I frame (R241). -/
def skipUnits (mp : Bool) (l : List (Nat × Bool × List Byte)) : Nat :=
  if l.length ≤ 1 then 0
  else if !mp then l.length - 1
  else ((l.zipIdx.filter fun p => p.1.2.1).getLast?.map (·.2)).getD 0

/-- Bring in the next unit of a STREAM or MAGAZINE session. -/
def State.pullUnit (s : State) (d : Nat) : State :=
  let k := s.dec d
  let push := fun (s : State) (tag : Nat) (bytes : List Byte) => s.modDec d fun k => { k with
    tags := k.tags ++ [(k.taken + k.input.length, tag)], input := k.input ++ bytes }
  match s.get .MLS_D_CFG_SOURCE d with
  | 1 =>
    let skip := if k.inFrame.isSome then 0 else skipUnits (s.get .MLS_D_CFG_PROFILE d == 2) k.units
    let s := if skip = 0 then s else
      (s.modDec d fun k => { k with units := k.units.drop skip, refBad := true }).bump .MLS_D_ERR1_SKIPPED d skip
    match (s.dec d).units with
    | [] => s
    | (tag, _, bytes) :: t => push (s.modDec d fun k => { k with units := t }) tag bytes
  | 2 => match k.play with
    | none => s
    | some (m, e, i) =>
      let (n, s) := s.draw
      match (s.magz m).frameUnit n e i with
      | none => s
      | some (sof, bytes) => push (s.modDec d fun k => { k with play := some (m, e, i + 1) }) sof bytes
  | _ => s

/-- Drop `n` bytes of input. -/
def Dec.consume (k : Dec) (n : Nat) : Dec :=
  { k with input := k.input.drop n, taken := k.taken + min n k.input.length }

/-- Bytes before the next 0x00 0x00 0x01, or all that cannot begin one (R246). -/
def scanMarker : List Byte → Nat
  | 0 :: 0 :: 1 :: _ => 0
  | [0, 0] => 0
  | [0] => 0
  | [] => 0
  | _ :: t => scanMarker t + 1

/-- The fourth byte of a marker at the front. -/
def markerAt : List Byte → Option Byte
  | 0 :: 0 :: 1 :: b :: _ => some b
  | _ => none

/-- Bytes before the next frame header marker; all but a possible beginning of one where none is there. -/
def scanFrame : List Byte → Nat
  | 0 :: 0 :: 1 :: 0xF0 :: _ => 0
  | [0, 0, 1] => 0
  | [0, 0] => 0
  | [0] => 0
  | [] => 0
  | _ :: t => scanFrame t + 1

/-- The tag of the feed that carries the byte at the front (R241). -/
def Dec.tag (k : Dec) : Nat := ((k.tags.filter fun p => p.1 ≤ k.taken).getLast?.map (·.2)).getD 0

/-! ### Frame headers (R243, R245, R247, R248) -/

/-- The picture a session decodes, with the CFA code of its frame header. -/
def State.decGeo (s : State) (d cfa : Nat) : Geo :=
  ⟨s.get .MLS_D_CFG_PROFILE d, (s.dec d).cols, (s.dec d).rows, if s.get .MLS_D_CFG_PROFILE d = 0 then cfa else 0⟩

/-- The frame header check (R245). -/
def State.headerOk (s : State) (d : Nat) (h : FrameHeader) : Bool :=
  h.version == 1 && h.profile == s.get .MLS_D_CFG_PROFILE d && h.codedCols == (s.dec d).cols && h.codedRows == (s.dec d).rows &&
  h.slices == ceilDiv h.codedRows 128 && h.reserved == 0

/-- The FILL code of each plane (R247). -/
def fillCodes (g : Geo) (h : FrameHeader) : List Nat :=
  match g.profile with
  | 0 => List.replicate g.planeCount (if h.rawFmt = 1 then 0 else h.pedestal)
  | 1 => List.replicate 3 (orderedCode 0)
  | _ => [64, 512, 512]

/-- Whether an output is taking a session's frame from its slot. -/
def State.scannedOut (s : State) (d frame : Nat) : Bool :=
  (List.range 8).any fun o => (s.output o).writing.any fun w => w.source == 8 + d && w.id == frame

/-- A slot for a new frame: an unused one, else in OVERWRITE the oldest published one not being scanned out, else in WAIT the
oldest a consumer no longer holds (R243). -/
def State.decSlot (s : State) (d : Nat) : Option (Nat × State) :=
  let k := s.dec d
  let used := k.ring.map (·.slot)
  match (List.range (s.get .MLS_D_CFG_SLOTS d)).find? fun i => !used.contains i with
  | some i => some (i, s)
  | none =>
    let free := if s.flag .MLS_D_CFG_RING_MODE d then k.ring.find? fun f => !s.scannedOut d f.frame else k.ring.find? fun f => !f.held
    free.map fun f => (f.slot, s.modDec d fun k => { k with ring := k.ring.filter (·.slot ≠ f.slot) })

/-- The input is scanned for the next frame header, a new unit taken where too little is left of the last (R241, R247). -/
def State.scanInput (s : State) (d : Nat) : State :=
  let s := s.modDec d fun k => k.consume (scanFrame k.input)
  let s := if (s.dec d).input.length < 24 then s.pullUnit d else s
  s.modDec d fun k => k.consume (scanFrame k.input)

/-- The decoder reads the frame header its input stands at (R241, R243, R245). -/
def State.readHeader (s : State) (d : Nat) : State :=
  let k := s.dec d
  if markerAt k.input ≠ some 0xF0 ∨ k.input.length < 24 then s else
  let parsed := (headerBits (slice k.input 4 20)).map FrameHeader.ofBits
  match parsed.filter (s.headerOk d) with
  | none =>
    let s := s.modDec d fun k => { k.consume 4 with gapNext := true, refBad := true }
    (s.bump .MLS_D_ERR1_FRAMES_LOST d).raise .MLS_DEC_EVT_FRAME_LOST d
  | some h => match s.decSlot d with
    | none => s.modDec d fun k => { k with slotWait := true }
    | some (slot, s) =>
      let s := s.commit (.dec d)
      let g := s.decGeo d h.cfa
      let p := h.profile == 2 && h.pFrame == 1
      let noRef := p && (k.refBad || k.reference.isNone)
      let f : Decoding := {
        frame := h.frame, tag := k.tag, slices := h.slices, cfa := h.cfa, matrix := h.matrix, pFrame := p, noRef := noRef
        inherited := p && k.reference.any (fun r => r.flags % 2 == 1 || r.flags / 4 % 2 == 1), started := s.now, slot := slot
        fill := fillCodes g h
        planes := (List.range g.planeCount).map fun i => List.replicate (g.planeRows i) (List.replicate (g.planeCols i) 0) }
      s.modDec d fun k => { k.consume 24 with inFrame := some f, slotWait := false, refBad := k.refBad && p }

/-- DEC_FRAME_HEADER: the decoder comes to the next frame header (R241, R243, R245, R247). -/
def evDecFrameHeader (session : Fin 8) (s : State) : Out' :=
  .next <| if !s.decRunning session.val || (s.dec session.val).inFrame.isSome then s
    else (s.scanInput session.val).readHeader session.val

/-- DEC_SLOT_FREED: a consumer releases the oldest slot it holds (R243). -/
def evDecSlotFreed (session : Fin 8) (s : State) : Out' :=
  .next (s.modDec session.val fun k =>
    match k.ring.find? (·.held) with
    | none => k
    | some f => { k with ring := k.ring.map fun (x : Decoded) => if x.slot = f.slot then { x with held := false } else x, slotWait := false })

/-! ### Slices and concealment (R245 … R248) -/

/-- The error classes in the bit order of the record's ERRORS. -/
inductive ErrClass where
  | pcrc | sliceHeader | syntax_ | missing | reference | marker
deriving DecidableEq, Repr

def ErrClass.bit : ErrClass → Nat
  | .pcrc => 0
  | .sliceHeader => 1
  | .syntax_ => 2
  | .missing => 3
  | .reference => 4
  | .marker => 5

/-- The counter of a class (R255). -/
def ErrClass.fld : ErrClass → Fld
  | .pcrc => .MLS_D_ERR0_CRC
  | .sliceHeader => .MLS_D_ERR0_SLICE_HDR
  | .syntax_ => .MLS_D_ERR0_SYNTAX
  | .missing => .MLS_D_ERR1_MISSING
  | .reference => .MLS_D_ERR1_REFERENCE
  | .marker => .MLS_D_ERR0_MARKER

def Decoding.err (f : Decoding) (c : ErrClass) : Decoding :=
  { f with errors := f.errors ||| 2 ^ c.bit }

/-- The rows a concealed slice takes (R247). -/
def State.concealRows (s : State) (d : Nat) (f : Decoding) (i : Nat) : List Plane :=
  let g := s.decGeo d f.cfa
  let ref := if s.get .MLS_D_CFG_CONCEAL d = 1 then none else (s.dec d).reference
  (List.range g.planeCount).map fun p =>
    let rows := g.sliceRows i / g.sub p
    match ref with
    | some r => slice (r.planes.getD p []) (g.sliceTop i p) rows
    | none => List.replicate rows (List.replicate (g.planeCols p) (f.fill.getD p 0))

/-- Conceal a slice not yet accepted or concealed, counted under its class (R246, R247). -/
def State.conceal (s : State) (d : Nat) (f : Decoding) (c : ErrClass) (count : Bool) (i : Nat) : State × Decoding :=
  if f.slices ≤ i ∨ f.concealed.contains i then (s, f) else
  let g := s.decGeo d f.cfa
  let f' := { f.err c with concealed := f.concealed ++ [i], planes := g.putSlice f.planes i (s.concealRows d f i) }
  let s := (s.bump .MLS_D_CONC_SLICES d).raise .MLS_DEC_EVT_CONCEAL d
  (if count then s.bump c.fld d else s, f')

/-- Conceal every slice of a list that is neither accepted nor concealed. -/
def State.concealAll (s : State) (d : Nat) (f : Decoding) (c : ErrClass) (count : Bool) (l : List Nat) : State × Decoding :=
  l.foldl (fun (acc : State × Decoding) i =>
    if acc.2.accepted.contains i then acc else acc.1.conceal d acc.2 c count i) (s, f)

/-- Slice header values: SLICE, MODE, Q, ROWS, LENGTH, FRAME_LO, PCRC, reserved (R214). -/
def sliceFields : List Nat := [7, 1, 7, 8, 24, 16, 16, 5]

/-- The slice header check (R245). -/
def sliceHeaderOk (g : Geo) (f : Decoding) (v : List Nat) : Bool :=
  let i := v.getD 0 0
  (match f.last with
    | none => true
    | some l => decide (l < i)) && decide (i < f.slices) && v.getD 3 0 + 1 == g.sliceRows i && v.getD 5 0 == f.frame % 65536 &&
  decide (v.getD 2 0 ≤ 95) && v.getD 7 0 == 0

/-- A slice with an accepted header whose payload is at hand: its samples, or the class of its error (R245). -/
def sliceResult (g : Geo) (f : Decoding) (ref : Option (List Plane)) (v : List Nat) (payload rest : List Byte) :
    Except ErrClass (List Plane) :=
  let i := v.getD 0 0
  let markerOk := (markerAt rest).any fun b => b == 0xF0 || b == 0xF1 || b == 0xF2
  if !markerOk then .error .marker
  else if crc16 payload ≠ v.getD 6 0 then .error .pcrc
  else
    let blocks := if v.getD 1 0 = 1 then g.readFloor (g.blocks i) payload
      else g.readSlice i (v.getD 2 0) (if f.pFrame then ref else none) payload
    match blocks with
    | none => .error .syntax_
    | some bs => .ok ((List.range g.planeCount).map fun p => g.sliceRowsOf i p bs)

/-- DEC_SLICE: the next slice of the frame in progress (R245, R246). -/
def State.decodeSlice (s : State) (d : Nat) : State :=
  match (s.dec d).inFrame with
  | none => s
  | some f =>
    let s := s.modDec d fun k => k.consume (scanMarker k.input)
    let k := s.dec d
    let put := fun (s : State) (f : Decoding) (n : Nat) => s.modDec d fun k => { k.consume n with inFrame := some f }
    match markerAt k.input with
    | none => s.pullUnit d
    | some 0xF0 => s
    | some 0xF2 => s
    | some 0xF1 =>
      if k.input.length < 16 then s.pullUnit d else
      let g := s.decGeo d f.cfa
      let v := (headerBits (slice k.input 4 12)).map (unpackFields sliceFields)
      if f.noRef then put s f 4 else
      match v.filter (sliceHeaderOk g f) with
      | none =>
        let (s, f) := s.conceal d (f.err .sliceHeader) .sliceHeader true ((f.last.map (· + 1)).getD 0)
        put s f 4
      | some v =>
        let i := v.getD 0 0
        let len := v.getD 4 0
        if k.input.length < 16 + len + 4 then s.pullUnit d else
        let first := (f.last.map (· + 1)).getD 0
        let (s, f) := s.concealAll d f .missing true ((List.range i).filter (first ≤ ·))
        let f := { f with last := some i }
        match sliceResult g f (k.reference.map (·.planes)) v (slice k.input 16 len) (k.input.drop (16 + len)) with
        | .ok rows => put s { f with accepted := f.accepted ++ [i], planes := g.putSlice f.planes i rows } (16 + len)
        | .error c =>
          let (s, f) := s.conceal d f c true i
          if c = .marker then
            put s { f with counted := (markerAt (k.input.drop (16 + len))).map fun _ => k.taken + 16 + len } 16
          else put s f (16 + len)
    | some _ => put (if f.counted = some k.taken then s else s.bump .MLS_D_ERR0_MARKER d) (f.err .marker) 4

def evDecSlice (session : Fin 8) (s : State) : Out' := .next (s.decodeSlice session.val)

/-! ### Publication (R242, R244, R250) -/

/-- The decoded frame record (R244). -/
def State.decRecord (s : State) (d : Nat) (f : Decoding) (flags : Nat) : List Byte :=
  let map := f.concealed.foldl (fun m i => m + 2 ^ i) 0
  let body := le 2 0x4D44 ++ [1, BitVec.ofNat 8 (s.get .MLS_D_CFG_PROFILE d * 8 + d)] ++ le 4 f.frame ++ le 8 f.tag ++ le 4 flags ++
    le 1 f.slices ++ le 1 f.concealed.length ++ le 1 (least 0xFF f.concealed) ++ le 1 f.errors ++ le 12 map ++
    le 4 ((s.dec d).cols * 65536 + (s.dec d).rows) ++ le 8 s.now ++ le 2 f.slot ++ List.replicate 10 0
  body ++ le 4 (crc32c body)

/-- Publish the frame in progress: what is missing is concealed, the record written, the frame in the ring (R242, R248, R250). -/
def State.publishDecoded (s : State) (d : Nat) (timeout : Bool) : State × Option Decoded :=
  match (s.dec d).inFrame with
  | none => (s, none)
  | some f =>
    let all := List.range f.slices
    let (s, f) := if f.noRef then (s.concealAll d f .reference false all) else s.concealAll d f .missing true all
    let s := if f.noRef then s.bump .MLS_D_ERR1_REFERENCE d else s
    let k := s.dec d
    let gap := k.gapNext || k.lastFrame.any fun l => (l + 1) % 2 ^ 32 != f.frame
    let flags := (if f.concealed.isEmpty then 0 else 1) + (if f.concealed.length = f.slices then 2 else 0) +
      (if f.inherited && !f.noRef then 4 else 0) + (if gap then 8 else 0) + (if timeout then 16 else 0)
    let record := s.decRecord d f flags
    let held := s.get .MLS_D_CFG_RING_MODE d == 0
    let g : Decoded := ⟨f.frame, f.tag, flags, f.slot, held, f.cfa, f.matrix, f.planes, record⟩
    let s := s.setDec d { k with
      inFrame := none, ring := k.ring ++ [g], records := (⟨f.frame, f.tag, record⟩ :: k.records).take 64
      lastFrame := some f.frame, reference := some g, gapNext := false, refBad := k.refBad || f.noRef }
    (((s.set .MLS_D_LAST_FRAME f.frame d).raise .MLS_DEC_EVT_PUBLISHED d).pulseSource (0x40 + d), some g)

/-- The end of a frame as the decoder meets it: its end marker, or the next frame header (R246). -/
def State.frameEnd (s : State) (d : Nat) : Option State :=
  if (s.dec d).inFrame.isNone then none else
  let s := s.modDec d fun k => k.consume (scanMarker k.input)
  match markerAt (s.dec d).input with
  | some 0xF2 => some (s.modDec d fun k => k.consume 4)
  | some 0xF0 => some s
  | _ => none

/-! ### Reading (R242, R244) -/

/-- The bytes of a decoded frame in its slot's layout (R242). -/
def Decoded.bytes (profile cols rows : Nat) (f : Decoded) : List Byte :=
  let flat := fun (p : Nat) => (f.planes.getD p []).flatMap fun row => row.flatMap (le 2)
  match profile with
  | 0 =>
    if f.cfa = 4 then flat 0 else
    (List.range rows).flatMap fun r => (List.range cols).flatMap fun c => le 2 (at2 0 (f.planes.getD (r % 2 * 2 + c % 2) []) (r / 2) (c / 2))
  | 1 =>
    (List.range rows).flatMap fun r => (List.range cols).flatMap fun c =>
      (List.range 3).flatMap fun p => le 2 (orderedFp16 (at2 0 (f.planes.getD p []) r c))
  | _ => flat 0 ++ flat 1 ++ flat 2

/-- A read of a held item of a session. -/
def decRead (opcode handle : Nat) (rd : ReadArgs) (items : Nat → State → List Held) : Packet where
  opcode := opcode
  params := decOk handle
  checks := fun _ s => match s.decOf handle with
    | none => .MLS_DEC_BAD_HANDLE
    | some d => match findHeld (items d s) rd with
      | none => .MLS_DEC_NOT_HELD
      | some h => need (rangeOk rd h.bytes.length) .MLS_DEC_BAD_CONFIG
  run := fun _ s => match s.decOf handle with
    | none => .refuse .MLS_DEC_BAD_HANDLE s
    | some d => match findHeld (items d s) rd with
      | none => .refuse .MLS_DEC_NOT_HELD s
      | some h => .done (.bytes (s.heldBytes h rd)) s

def pktMlsDecRead (handle : Nat) (rd : ReadArgs) : Packet :=
  decRead 0x0916 handle rd fun d s => (s.dec d).ring.reverse.map fun f =>
    ⟨f.frame, f.tag, f.bytes (s.get .MLS_D_CFG_PROFILE d) (s.dec d).cols (s.dec d).rows⟩

def pktMlsDecRecordRead (handle : Nat) (rd : ReadArgs) : Packet := decRead 0x0917 handle rd fun d s => (s.dec d).records

end Sys2Proof.Machine
end

