-- ==== Sys2Proof/Machine/Med.lean ====
section
/-!
DEFINITION. Recording (11): staging, takes, the commit of frames, the journal, risk, power fail, mount and replay, wear, signatures.
-/
namespace Sys2Proof.Machine

def State.modMag (s : State) (m : Nat) (g : Mag → Mag) : State := s.setMag m (g (s.magz m))
def State.modTake (s : State) (t : Nat) (g : Take → Take) : State := s.setTake t (g (s.take t))

/-! ### Magazine states (R257) -/

def magAbsent : Nat := 0
def magMounting : Nat := 1
def magReady : Nat := 2
def magReadOnly : Nat := 3
def magBlank : Nat := 4
def magUnsupported : Nat := 5
def magFaulted : Nat := 6
def magEjected : Nat := 7

def State.magState (s : State) (m : Nat) : Nat := s.get .MED_M_STATE_STATE m
def State.magReadable (s : State) (m : Nat) : Bool := s.magState m == magReady || s.magState m == magReadOnly
def State.holdup (s : State) : Bool := s.flag .MED_HOLDUP_HOLDUP_READY
def State.safe (s : State) : Bool := s.flag .VAL_INT_STATUS_SAFE

/-- Power fail is declared, or the pre-reset commit runs: no frame begins and no staging is reserved (R274, R461). -/
def State.flushing (s : State) : Bool := s.val.powerFail.isSome

/-! ### Take slots (R264) -/

/-- The slot a take handle names. -/
def State.takeOf (s : State) (h : Nat) : Option Nat :=
  let i := handleSlot h
  if h < 65536 ∧ i < 16 ∧ (s.take i).state ≠ 0 ∧ (s.take i).gen = handleGen h then some i else none

def takeOk (h : Nat) (s : State) : Status := need (s.takeOf h).isSome .MED_BAD_HANDLE

def State.takeHandle (s : State) (t : Nat) : Nat := handleOf (s.take t).gen t

/-- The magazines of a take. -/
def Take.mags (t : Take) : List Nat := t.primary :: t.secondary.toList

/-- The right on the stream and on each magazine (R264, R284). -/
def takeRights (cls mcls : Cls) (h : Nat) : Nat → State → List Right := fun _ s =>
  match s.takeOf h with
  | none => []
  | some t => ⟨cls, .res (res 7 (s.take t).stream)⟩ :: (s.take t).mags.map fun m => ⟨mcls, .res (res 3 m)⟩

/-- The slots whose take satisfies a condition. -/
def State.takesWhere (s : State) (p : Take → Bool) : List Nat := (List.range 16).filter fun t => p (s.take t)

/-- MED_S_TAKE shows the newest take of a stream (R286). -/
def State.showTake (s : State) (t : Nat) : State :=
  let k := s.take t
  if s.get .MED_S_TAKE_HANDLE k.stream ≠ s.takeHandle t then s else
  let b := fun (x : Bool) => if x then 1 else 0
  s.wr .MED_S_TAKE (k.state * 2 ^ 29 + b k.secondary.isSome * 2 ^ 28 + b k.atRisk * 2 ^ 27 + b k.mirrorLost * 2 ^ 26 + k.primary * 2 ^ 24 +
    k.secondary.getD 0 * 2 ^ 22 + s.takeHandle t) k.stream

/-- Change a take and what shows it. -/
def State.updTake (s : State) (t : Nat) (g : Take → Take) : State := (s.modTake t g).showTake t

/-- Change a take's side on a magazine. -/
def State.modSide (s : State) (t m : Nat) (g : Side → Side) : State :=
  s.modTake t fun k => { k with sides := k.sides.map fun x => if x.mag = m then g x else x }

def Take.side (t : Take) (m : Nat) : Option Side := t.sides.find? (·.mag == m)
def Take.openOn (t : Take) (m : Nat) : Bool := t.sides.any fun x => x.mag == m && x.isOpen

/-- A take PREPARED, RECORDING or CLOSING on a magazine. -/
def State.magBusy (s : State) (m : Nat) : Bool :=
  !(s.takesWhere fun t => decide (1 ≤ t.state ∧ t.state ≤ 3) && (t.mags.contains m && (t.state == 1 || t.openOn m))).isEmpty

/-! ### Staging and PENDING (R269, R271, R273, R294) -/

/-- Granules a block range touches. -/
def granulesOf (lba count : Nat) : List Nat :=
  (List.range ((lba + count + 511) / 512 - lba / 512)).map (lba / 512 + ·)

/-- Frames of a take in staging, each counted once. -/
def State.held (s : State) (t : Nat) : List (Nat × Nat × Nat) :=
  ((s.take t).sides.flatMap fun x => ((s.magz x.mag).pend.filter (·.take == t)).map fun p => (p.num, p.sof, p.bytes)).eraseDups

/-- Bytes of a magazine's media staging in use (R269). -/
def State.staged (s : State) (m : Nat) : Nat :=
  let ts := s.takesWhere fun t => t.state != 0 && t.primary == m
  let coding := (List.range 64).flatMap fun h => ((s.codec h).coding.filter fun c => c.takes.any ts.contains).map (·.reserved)
  (coding ++ ts.flatMap (fun t => (s.held t).map fun p => p.2.2) ++
    (s.magz m).staged.map fun x => (x.data.map (·.length)).getD 0).foldl (· + ·) 0

/-- Media staging of a magazine (R29). -/
def stagingBytes : Nat := 1024 * mib

/-- PENDING of a magazine. -/
def State.pendingBytes (s : State) (m : Nat) : Nat :=
  let k := s.magz m
  (k.pend.map (fun (p : Pend) => p.bytes + 4194304) ++
    (k.staged.filter fun (x : Staged) => x.done.isSome).map fun x => (x.todo.length + x.left.length) * granuleBytes).foldl (· + ·) 0

/-- Every take recording on a magazine is marked DURABILITY_AT_RISK (R273). -/
def State.markRisk (s : State) (m : Nat) : State :=
  let ts := s.takesWhere fun t => (t.state == 2 || t.state == 3) && t.openOn m
  if ts.isEmpty then s else
  (ts.foldl (fun s t => s.updTake t fun k => { k with atRisk := true }) s).raise .MED_EVT_AT_RISK m

/-- PENDING and its peak are shown, and held against the ceiling (R271, R273). -/
def State.showPending (s : State) (m : Nat) : State :=
  let p := s.pendingBytes m
  let s := s.set .MED_M_PENDING_PENDING (min p 0xFFFFFFFF) m
  let s := if s.get .MED_M_PEAK_PEAK m < p then s.set .MED_M_PEAK_PEAK (min p 0xFFFFFFFF) m else s
  if s.get .MED_M_CEIL_CEIL m < p then s.markRisk m else s

def State.showAllPending (s : State) : State := (List.range 4).foldl State.showPending s

/-- HOLDUP_READY clears while takes record (R273). -/
def State.holdupLost (s : State) : State := (List.range 4).foldl State.markRisk (s.set .MED_HOLDUP_HOLDUP_READY 0)

/-- Margin re-plan sets the hold-up window (R272). -/
def State.setWindow (s : State) (w : Nat) : State :=
  let top := (w - 20) * 8000000
  (List.range 4).foldl (fun s m =>
    let s := s.set .MED_M_CEIL_MAX_CEIL_MAX top m
    if top < s.get .MED_M_CEIL_CEIL m then s.set .MED_M_CEIL_CEIL top m else s) (s.set .MED_HOLDUP_WINDOW w)

/-! ### The journal (R262) -/

/-- Entry slots of 32 bytes an entry takes; a page has 2,046. -/
def JEntry.slots : JEntry → Nat
  | .close _ _ => 33
  | _ => 1

def fillPage : Nat → List JEntry → List JEntry × List JEntry
  | _, [] => ([], [])
  | room, e :: t =>
    if e.slots ≤ room then
      let (a, b) := fillPage (room - e.slots) t
      (e :: a, b)
    else ([], e :: t)

/-- A page begins when none is being programmed and an entry is ready; once a HALTED cause stands no further program starts (R262, R443). -/
def State.startPage (s : State) (m : Nat) : State :=
  let k := s.magz m
  if !k.page.isEmpty || k.ready.isEmpty || s.integ.halted then s else
  let (a, b) := fillPage 2046 k.ready
  s.setMag m { k with page := a, ready := b }

def State.journal (s : State) (m : Nat) (es : List JEntry) : State :=
  (s.modMag m fun k => { k with ready := k.ready ++ es }).startPage m

/-! ### Closing (R264, R265, R274, R278, R283) -/

/-- The take's frames still coded no longer join it. -/
def State.unjoin (s : State) (t : Nat) : State :=
  (List.range 64).foldl (fun s h => if (s.codec h).coding.any (fun c => c.takes.contains t) then
    s.modCodec h fun k => { k with coding := k.coding.map fun (c : Coding) =>
      if c.ended.isNone ∧ c.takes.contains t then { c with takes := c.takes.erase t, reserved := 0 } else c }
    else s) s

/-- A frame of the take that has no end marker yet. -/
def State.coding (s : State) (t : Nat) : Bool :=
  (List.range 64).any fun h => (s.codec h).coding.any fun c => c.takes.contains t && !c.pended

/-- A take of which no side records any more is CLOSED (R264, R277). -/
def State.finishTake (s : State) (t : Nat) (st : Status) : State :=
  let k := s.take t
  if (k.state = 2 ∨ k.state = 3) ∧ !(k.sides.any (·.isOpen)) then
    let s := (s.unjoin t).updTake t fun k => { k with state := 4 }
    (s.raise .MED_EVT_CLOSED k.stream).complete (fun w => w == .takeClosed t) st .empty
  else s

/-- DIRECTORY flags of a take: MIRRORED, DURABILITY_AT_RISK, MIRROR_LOST. -/
def Take.flags (t : Take) : Nat :=
  (if t.secondary.isSome then 1 else 0) + (if t.atRisk then 2 else 0) + (if t.mirrorLost then 4 else 0)

/-- Runs of a directory entry extended to an essence and an index of the given bytes; none where no granule is free or a
4,089th run is needed (R260). -/
def State.extend (s : State) (m : Nat) (d : DirEntry) (essence index : Nat) : Option DirEntry × State :=
  let (n, s) := s.draw
  let ex := (s.magz m).freeExtents (s.get .MED_M_USER_U m)
  let e := grow n (granulesFor essence - runGranules d.essence) (d.essence, ex)
  let r := e.bind fun e => (grow (n + 65536) (granulesFor index - runGranules d.index) (d.index, e.2)).map fun i => { d with
    essence := e.1, index := i.1 }
  (r.filter fun d => decide (d.essence.length + d.index.length ≤ 4088), s)

/-- A side's CLOSE: its entry signed, its index and directory granules programmed, its record handed to the journal; a worn magazine
takes the record alone (R267, R274, R281, R282). -/
def State.closeSide (s : State) (t m : Nat) : State :=
  let k := s.take t
  match k.side m with
  | none => s
  | some x =>
    let (n, s) := s.draw
    let reason := if x.reason ≠ 0 then x.reason else k.reason
    let marked := x.marked ++ x.marks.flatten
    let header := if x.indexDone = 0 then indexEntry 1 (k.header ++ padTo 16 (s.magz m).name ++ padTo 32 k.metadata) else []
    let record := closeEntry n (s.flag .VAL_INT_STATUS_KEY_OK) k.takeId x.frames (x.first.getD (Config.emptyTake n 0))
      (if x.first.isSome then x.last else Config.emptyTake n 1) x.chainDone marked reason k.flags
    let entries := header ++ x.marks.flatMap (fun b => indexEntry 3 b) ++ record
    let d := (s.magz m).dir x.entry
    let (grown, s) := if reason = 3 then (none, s) else s.extend m d 0 (x.indexDone + entries.length)
    let placed := grown.bind fun d => ((s.magz m).placeAll n none
      (pieces (runAt d.index) x.indexDone entries ++ [(closeDir d record).piece x.entry])).map (Mag.putDir · x.entry d)
    let s := (s.setMag m (placed.getD (s.magz m))).modSide t m fun x => { x with closing := true, marks := [], marked := marked }
    s.journal m [.close x.entry record]

/-- The CLOSE of each side that owes nothing more goes to the journal: of a take that closes, or of a side that is worn. -/
def State.settleTake (s : State) (t : Nat) : State :=
  let k := s.take t
  if (k.state ≠ 2 ∧ k.state ≠ 3) ∨ s.integ.halted then s else
  let done := k.state == 3 && !s.coding t
  (k.sides.foldl (fun s x =>
    if x.isOpen && !x.closing && (done || x.reason != 0) && !((s.magz x.mag).pend.any (·.take == t)) then
      s.closeSide t x.mag
    else s) s).finishTake t .DONE

def State.settleTakes (s : State) : State := (List.range 16).foldl State.settleTake s

/-- A recording take closes after its last frame; the first reason is kept, but a power fail during an orderly shutdown
closes its takes as POWER_FAIL (R265, R445, R465). -/
def State.closeTake (s : State) (t reason : Nat) : State :=
  match (s.take t).state with
  | 2 => (s.updTake t fun k => { k with state := 3, reason := reason }).settleTake t
  | 3 => if reason = 2 ∧ s.cpi.shuttingDown.isSome then s.modTake t fun k => { k with reason := reason } else s
  | _ => s

def State.takeFrames (s : State) (t : Nat) : State :=
  let k := s.take t
  if s.get .MED_S_TAKE_HANDLE k.stream = s.takeHandle t then s.bump .MED_S_FRAMES_COUNT k.stream else s

/-- A frame is committed on every side still recording (R270). -/
def State.frameDone (s : State) (t num : Nat) : State :=
  let k := s.take t
  if k.sides.any fun x => x.isOpen && (s.magz x.mag).pend.any (fun p => p.take == t && p.num == num) then s else
  ((s.set .MED_S_COMMIT_FRAME num k.stream).takeFrames t).pulseSource (0x48 + k.stream)

/-- One side of a take ends (R277, R278, R281): its uncommitted frames are lost, the other side carries on. -/
def State.endSide (s : State) (t m : Nat) (st : Status) : State :=
  let k := s.take t
  if !k.openOn m then s else
  let lost := (s.magz m).pend.filter (·.take == t)
  let s := s.modMag m fun g => { g with pend := g.pend.filter (·.take != t) }
  let s := (s.bump .MED_S_STAT_LOST k.stream lost.length).modSide t m fun x => { x with isOpen := false }
  let others := k.sides.any fun x => x.mag != m && x.isOpen
  let s := if others then
      lost.foldl (fun s p => s.frameDone t p.num) (s.updTake t fun k => { k with mirrorLost := true }) else s
  s.finishTake t st

/-- A PREPARED take returns to FREE (R442, R464). -/
def State.freeTake (s : State) (t : Nat) (st : Status) : State :=
  if (s.take t).state ≠ 1 then s else
  (s.updTake t fun k => { k with state := 0, startPending := false, sides := [] }).complete (fun w => w == .takeOpen t) st .empty

/-! ### The encode boundary (R224, R265, R266, R269) -/

/-- The take the next frame of a stream joins: one that records, else one whose start waits and which may open (R265, R266). -/
def State.joins (s : State) (st : Nat) : Option Nat :=
  (List.range 16).find? fun t =>
    let k := s.take t
    k.stream == st && (k.state == 2 || (k.state == 1 && k.startPending && s.holdup && !s.safe && k.mags.all fun m => s.magState m == magReady))

/-- A take opens with a frame (R265, R267). -/
def State.openTake (s : State) (t h : Nat) (c : Coding) : State :=
  let k := s.take t
  if k.state ≠ 1 then s else
  let header := padTo 16 k.takeId ++ padTo 16 Config.moduleSerial ++ le 8 k.opened ++ le 4 c.timecode ++ le 2 (s.codecHandle h) ++
    le 1 k.stream ++ le 1 c.profile ++ le 4 k.metadata.length
  let c0 := chain0 header
  let s := s.updTake t fun k => { k with
    state := 2, startPending := false, header := header, profile := c.profile
    sides := k.sides.map fun x => { x with chain := c0, chainDone := c0 } }
  let s := k.sides.foldl (fun s x => s.modMag x.mag fun g =>
    g.putDir x.entry ⟨k.takeId, 1, k.stream, c.profile, if k.secondary.isSome then 1 else 0, 0, 0, [], []⟩) s
  s.complete (fun w => w == .takeOpen t) .DONE .empty

/-- A switch to a context of another profile closes the stream's take before the switched frame (R265). -/
def State.profileChange (s : State) (h : Nat) : State :=
  match s.streamOf h with
  | none => s
  | some st =>
    if tget s.mls.switchTo st = some h ∧ (s.bound st).any (fun o => s.get .MLS_C_CFG_PROFILE o != s.get .MLS_C_CFG_PROFILE h) then
      (s.takesWhere fun t => t.stream == st && t.state == 2).foldl (fun s t => s.closeTake t 8) s
    else s

/-- Staging for a frame begun: reserved, or the frame is omitted and counted (R221, R269). -/
def State.reserve (s : State) (h : Nat) (c : Coding) : State :=
  match (s.streamOf h).bind fun st => (s.joins st).map (st, ·) with
  | none => s
  | some (st, t) =>
    if s.staged (s.take t).primary + c.plan.ceiling ≤ stagingBytes then
      (s.openTake t h c).modCodec h fun k => { k with coding := k.coding.map fun (x : Coding) =>
        if x.id = c.id then { x with takes := [t], reserved := c.plan.ceiling } else x }
    else ((s.abandonCoding h c.id).omit h c.num).bump .MED_S_STAT_STAGING_FULL st

/-- Whether a context may begin a frame: no stop is pending. -/
def State.mayEncode (s : State) (h : Nat) : Bool :=
  s.codecMade h && !s.flushing && (match s.streamOf h with
    | some st => s.get .MLS_S_CFG_STOP_PENDING st == 0
    | none => !(s.codec h).stopPending)

/-- ENCODE_BOUNDARY: the oldest frame waiting for the context begins (R224). -/
def evEncodeBoundary (idx : Fin 64) (s : State) : Out' :=
  let h := idx.val
  .next <| if !s.mayEncode h then s else
    match s.nextFrame h with
    | none => s
    | some f =>
      let s := (s.profileChange h).doSwitch h
      let (s, c) := s.beginCoding h f
      ((s.startDone h).reserve h c).settleTakes

/-- Frames whose end marker is written are handed to the media controller: the reservation shrinks to their bytes (R269, R270). -/
def State.joinEnded (s : State) (h : Nat) : State :=
  let due := (s.codec h).coding.filter fun c => c.ended.isSome && !c.pended
  due.foldl (fun s c =>
    let s := s.modCodec h fun k => { k with coding := k.coding.map fun (x : Coding) =>
      if x.id = c.id then { x with pended := true, reserved := 0 } else x }
    c.takes.foldl (fun s t => (s.take t).sides.foldl (fun s x =>
      if x.isOpen && x.reason == 0 then
        (s.modMag x.mag fun k => { k with pend := k.pend ++ [⟨t, c.num, c.sof, c.used, c.ended.getD 0, c.bytes, none, false, none, none⟩] }).showPending x.mag
      else s) s) s) s

/-- After an end marker, a trailer or an abandonment. -/
def State.afterCoding (s : State) : State := ((List.range 64).foldl State.joinEnded s).settleTakes

def evSliceEmit (idx : Fin 64) (s : State) : Out' := .next (s.emitSlice idx.val).afterCoding

/-- A published record goes to the journal entry of each take, to the sessions or the output the stream feeds (R228, R241, R270, R359). -/
def State.recordOut (s : State) (h : Nat) (c : Coding) (r : FrameRec) : State :=
  let s := c.takes.foldl (fun s t => (s.take t).sides.foldl (fun s x => s.modMag x.mag fun k => { k with
    pend := k.pend.map fun (p : Pend) => if p.take = t ∧ p.num = c.num ∧ p.sof = c.sof then { p with record := some r.raw } else p }) s) s
  match s.streamOf h with
  | some _ => s.feedSessions r
  | none =>
    if s.get .MLS_C_CFG_DEST_KIND h ≠ 2 then s else
    let o := s.get .MLS_C_CFG_DEST_INDEX h
    if s.outRunning o then s.wr .OUT_O_SHOWN c.num o else s

/-- FRAME_RECORD_PUBLISH: the record, what it gives the take, sessions and outputs fed by the stream (R228, R241, R270, R359). -/
def evFrameRecordPublish (idx : Fin 64) (s : State) : Out' :=
  .next <| if s.frozen then s else match s.publishRec idx.val with
  | none => s
  | some (c, r, s) => ((s.recordOut idx.val c r).settleStop idx.val).settleTakes

/-! ### Commit (R267 … R270) -/

/-- A take closes at its last committed frame: frames not yet handed to the journal leave it (R260). -/
def State.cutTake (s : State) (t reason : Nat) : State :=
  let s := (s.unjoin t).updTake t fun k => if k.state = 2 then { k with state := 3, reason := reason } else k
  let s := (s.take t).sides.foldl (fun s x => s.modMag x.mag fun k => { k with
    pend := k.pend.filter fun p => p.take != t || p.entry.isSome }) s
  (s.showAllPending).settleTake t

/-- A frame whose stripes are programmed is handed to the journal: its FRAME entry with any markers pending, the MAP entries of its
granules, of its index granule and, where its runs are new, of its directory granule, and its COMMIT (R270; log 119). It waits where
no superblock is free. -/
def State.placeFrame (s : State) (m : Nat) (p : Pend) : State :=
  let k := s.take p.take
  match k.side m with
  | none => s
  | some x =>
    let header := if x.index = 0 then indexEntry 1 (k.header ++ padTo 16 (s.magz m).name ++ padTo 32 k.metadata) else []
    let flags := (if k.atRisk then 1 else 0) + (if k.mirrorLost then 2 else 0) + (if p.lastResort.isSome then 4 else 0)
    let e := frameEntry x.chain p.num p.sof x.essence p.bytes flags p.unit (p.record.getD [])
    let entries := header ++ e ++ x.marks.flatMap fun b => indexEntry 3 b
    let index := x.index + entries.length
    match s.extend m ((s.magz m).dir x.entry) (x.essence + p.bytes) index with
    | (none, s) => s.cutTake p.take 6
    | (some d, s) =>
      let (n, s) := s.draw
      let g := s.magz m
      let ps := pieces (runAt d.essence) x.essence p.unit ++ pieces (runAt d.index) x.index entries ++
        (if d = g.dir x.entry ∧ x.index ≠ 0 then [] else [d.piece x.entry])
      match g.placeAll n (p.lastResort.map (· % ps.length)) ps with
      | none => s
      | some g =>
        let s := s.setMag m { g.putDir x.entry d with
          pend := g.pend.map fun (q : Pend) => if q.take = p.take ∧ q.num = p.num ∧ q.sof = p.sof then { q with entry := some entries } else q }
        let s := s.modSide p.take m fun x => { x with
          chain := slice e 64 32, essence := x.essence + p.bytes, index := index, marks := []
          marked := x.marked ++ x.marks.flatten }
        s.journal m [.commit x.entry p.num (x.essence + p.bytes) (index / 1024)]

/-- Hand every frame whose turn has come to the journal: programmed, its record published, after the take's earlier frames (R270). -/
def State.placeFrames (s : State) (m : Nat) : State :=
  ((s.magz m).pend.foldl (fun (acc : State × List Nat) p =>
    if p.entry.isSome then acc
    else if p.programmed && p.record.isSome && !acc.2.contains p.take then (acc.1.placeFrame m p, acc.2)
    else (acc.1, p.take :: acc.2)) (s, [])).1

/-- The frame a flush programs next: the one with the oldest SOF (R274). -/
def Mag.flushFrame (k : Mag) : Option Pend :=
  (k.pend.filter (!·.programmed)).foldl (fun (b : Option Pend) p => if b.any fun q => decide (q.sof ≤ p.sof) then b else some p) none

/-- The channel write a flush programs next: the one completed first (R297). -/
def Mag.flushWrite (k : Mag) : Option Staged :=
  (k.staged.filter fun x => !x.todo.isEmpty).foldl (fun (b : Option Staged) x => if b.any fun y => decide (y.done.getD 0 ≤ x.done.getD 0) then b else some x) none

/-- The channel write whose stripe is programmed next. In a flush it goes ahead of the frames if it completed before the next frame's end
marker was written (R297). -/
def State.nextWrite (s : State) (m : Nat) : Option Staged :=
  let k := s.magz m
  if s.flushing then k.flushWrite.filter fun x => k.flushFrame.all fun p => x.done.all fun d => decide (d < p.ended)
  else k.staged.find? fun x => !x.todo.isEmpty

/-- The frame of a number whose last stripe is programmed. In a flush it is the next frame, unless a channel write goes ahead of it (R274,
R297). -/
def State.nextProgrammed (s : State) (m frame : Nat) : Option Pend :=
  let k := s.magz m
  if s.flushing then if (s.nextWrite m).isSome then none else k.flushFrame.filter (·.num == frame)
  else k.pend.find? fun p => p.num == frame && !p.programmed

/-- The stripe of the next granule of channel data is programmed, merged with what the granule holds; a granule that a TRIM covers
whole is unmapped (R295, R296). -/
def State.placeStaged (s : State) (m : Nat) (x : Staged) : State :=
  match x.todo with
  | [] => s
  | g :: rest =>
    let lo := max x.lba (g * 512)
    let hi := min (x.lba + x.count) ((g + 1) * 512)
    let (n, s) := s.draw
    let k := s.magz m
    let placed := if x.data.isNone ∧ hi = lo + 512 then some { k with ready := k.ready ++ [.map g unmapped] }
      else k.place n (g, (lo - g * 512) * 4096, match x.data with
        | some bs => slice bs ((lo - x.lba) * 4096) ((hi - lo) * 4096)
        | none => List.replicate ((hi - lo) * 4096) 0)
    match placed with
    | none => s
    | some k => (s.setMag m { k with staged := k.staged.map fun (y : Staged) => if y.id = x.id then
        { y with todo := rest, left := y.left ++ [(g, (k.newest g).getD unmapped)] } else y }).startPage m

/-- STRIPE_PROGRAMMED: the last stripe of a frame is programmed, or the next of a channel write in staging (R270, R293). -/
def evStripeProgrammed (mag : Fin 4) (chan : Bool) (frame : Nat) (s : State) : Out' :=
  let m := mag.val
  .next <| if chan then
    match s.nextWrite m with
    | none => s
    | some x => s.placeStaged m x
  else
    match s.nextProgrammed m frame with
    | none => s
    | some p => (s.modMag m fun k => { k with pend := k.pend.map fun (q : Pend) =>
        if q.take = p.take ∧ q.num = p.num ∧ q.sof = p.sof then { q with programmed := true } else q }).placeFrames m

/-- The take that records into a directory entry of a magazine. -/
def State.takeAt (s : State) (m e : Nat) : Option Nat :=
  (s.takesWhere fun t => (t.state == 2 || t.state == 3) && t.sides.any fun x => x.mag == m && x.entry == e && x.isOpen).head?

/-- A COMMIT stands in a programmed page (R270). -/
def State.commitFrame (s : State) (m t num : Nat) : State :=
  match (s.magz m).pend.find? fun p => p.take == t && p.num == num && p.entry.isSome, (s.take t).side m with
  | some p, some x =>
    let entries := p.entry.getD []
    let s := s.modMag m fun g => { g with pend := g.pend.erase p }.putDir x.entry { g.dir x.entry with
      frames := x.frames + 1, essenceBytes := x.essenceDone + p.bytes, flags := (s.take t).flags }
    let fr := if x.indexDone = 0 then 1024 else 0
    let seq := (s.magz m).pageSeq
    let s := s.modSide t m fun x => { x with
      frames := x.frames + 1, first := x.first.or (some num), last := num, chainDone := slice entries (fr + 64) 32
      essenceDone := x.essenceDone + p.bytes, indexDone := x.indexDone + entries.length, page := some seq }
    (s.tapSample (0xE0 + m) ((s.now - p.ended) / 300 : Nat)).frameDone t num
  | _, _ => s

/-- A CLOSE record is programmed: the entry is closed, the take's side ends (R267, R274). -/
def State.commitClose (s : State) (m t e : Nat) (record : List Byte) : State :=
  let s := s.modMag m fun g => g.putDir e (closeDir (g.dir e) record)
  (s.modSide t m fun x => { x with isOpen := false, closed := true }).finishTake t .DONE

/-- Channel data all of whose MAP entries are programmed stands on NAND (R293). -/
def Mag.land (k : Mag) (x : Staged) : Mag := { k with
  staged := k.staged.filter (·.id != x.id)
  queue := k.queue.map fun (q : Task) =>
    if q.host = x.host ∧ q.tag = x.tag ∧ q.lba = x.lba ∧ x.done.isNone then { q with onNand := true } else q }

/-- A MAP entry stands in a programmed page; one of channel data takes the directory entries of its granule with it (R262, R295). -/
def Mag.commitMap (k : Mag) (g p : Nat) : Mag :=
  let k := k.setMap g p
  match k.staged.find? fun x => x.left.contains (g, p) with
  | none => k
  | some x =>
    let x := { x with left := x.left.erase (g, p) }
    let k := { k with live := k.live.filter fun q => q.1 / 64 != g, staged := k.staged.map fun y => if y.id = x.id then x else y }
    if x.todo.isEmpty && x.left.isEmpty then k.land x else k

/-- The effect of a journal entry once its page is programmed. -/
def State.applyEntry (m : Nat) (s : State) : JEntry → State
  | .map g p => s.modMag m fun k => k.commitMap g p
  | .commit e num _ _ => match s.takeAt m e with
    | none => s
    | some t => s.commitFrame m t num
  | .close e record => match s.takeAt m e with
    | none => s
    | some t => s.commitClose m t e record
  | .retire _ _ => s
  | .erase _ _ => s

/-- A checkpoint into slot A or B alternately (R263); a READ_ONLY magazine is never checkpointed, a BLANK one has no slots for it. The
first page it does not cover is the page of the last COMMIT of a take that still records, where there is one (log 119). -/
def State.checkpoint (s : State) (m : Nat) : State :=
  if s.magState m ≠ magReady then s else
  let commits := (s.takesWhere fun t => (t.state == 2 || t.state == 3) && t.openOn m).filterMap fun t => ((s.take t).side m).bind (·.page)
  s.modMag m fun k =>
    let c : Checkpoint := ⟨k.checkpoint, commits.foldl min k.pageSeq, k.map, k.erasedAll, k.erases, k.retired⟩
    { k with slots := tins c k.slots (k.checkpoint % 2), checkpoint := k.checkpoint + 1, pages := 0 }

/-- Nothing of the magazine waits for NAND. -/
def Mag.quiet (k : Mag) : Bool := k.pend.isEmpty && k.staged.isEmpty && k.ready.isEmpty && k.page.isEmpty

/-- An eject that waits ends once all is committed (R257, R263). -/
def State.settleEject (s : State) (m : Nat) : State :=
  let k := s.magz m
  if k.ejecting && k.quiet then
    let s := (s.checkpoint m).modMag m fun k => { k with ejecting := false }
    (s.set .MED_M_STATE_STATE magEjected m).complete (fun w => w == .eject m) .DONE .empty
  else s

/-- JOURNAL_PAGE_PROGRAMMED: what the page carries is committed, the next page begins (R262, R263, R270). -/
def evJournalPageProgrammed (mag : Fin 4) (s : State) : Out' :=
  let m := mag.val
  let page := (s.magz m).page
  .next <| if page.isEmpty then s else
    let s := s.modMag m fun k => { k with ring := tins (journalPage k.pageSeq page) k.ring (k.pageSeq % ringPages) }
    let s := page.foldl (State.applyEntry m) s
    let s := s.modMag m fun k => { k with page := [], pages := k.pages + 1, pageSeq := k.pageSeq + 1 }
    let s := if 4096 ≤ (s.magz m).pages then s.checkpoint m else s
    (((s.startPage m).showPending m).settleTakes).settleEject m

/-! ### Wear (R279 … R281) -/

/-- A superblock is retired; the pool replaces it (R279, R280). -/
def State.retire (s : State) (m sb : Nat) (cause : Nat) : State :=
  let s := (s.bump .MED_M_WEAR_RETIRED m).modMag m fun k => { k with
    retired := k.retired ++ [sb], filling := k.filling.filter (·.1 != sb) }
  let pool := s.get .MED_M_POOL_POOL m
  let s := s.set .MED_M_POOL_POOL (pool - 1) m
  let s := if pool - 1 ≤ 5 * s.get .MED_M_STATE_TOTAL m / 1000 then s.raise .MED_EVT_POOL_LOW m else s
  s.journal m [.retire sb cause]

/-- Take `t` loses its side on a magazine that has worn out: the frames not yet journaled there are lost, and a mirrored take goes on
with its other side (R274, R281). -/
def State.sideLost (m : Nat) (s : State) (t : Nat) : State :=
  let k := s.take t
  let lost := (s.magz m).pend.filter fun p => p.take == t && p.entry.isNone
  let s := s.modMag m fun g => { g with pend := g.pend.filter fun p => p.take != t || p.entry.isSome }
  let s := (s.bump .MED_S_STAT_LOST k.stream lost.length).modSide t m fun x => { x with reason := 3 }
  let s := if k.sides.any fun x => x.mag != m && x.isOpen && x.reason == 0 then
      lost.foldl (fun s p => s.frameDone t p.num) (s.updTake t fun k => { k with mirrorLost := true })
    else (s.unjoin t).updTake t fun k => { k with state := 3, reason := if k.state = 2 then 3 else k.reason }
  s.settleTake t

/-- The last resort of a program failure with the pool empty: the frame is placed as it is, its failed stripe in the last-resort
superblock, and the magazine becomes READ_ONLY (R281). -/
def State.lastResort (s : State) (m frame stripe : Nat) (others : Bool) : State :=
  let s := match (s.magz m).pend.find? fun p => p.num == frame && p.entry.isNone with
    | none => s
    | some p => (s.modMag m fun k => { k with pend := k.pend.map fun (q : Pend) =>
        if q.take = p.take ∧ q.num = p.num ∧ q.sof = p.sof then { q with programmed := others || q.programmed, lastResort := some stripe } else q }).placeFrames m
  let s := (s.set .MED_M_STATE_STATE magReadOnly m).raise .MED_EVT_WORN m
  ((s.takesWhere fun t => (t.state == 2 || t.state == 3) && t.openOn m).foldl (State.sideLost m) s).showPending m

/-- PROGRAM_FAILURE: a program, of one stripe of a frame, or an erase fails. With the pool empty a failed program
takes the last resort (R279, R281). -/
def evProgramFailure (mag : Fin 4) (superblock : Nat) (erase : Bool) (frame : FrameStripe) (others : Bool) (s : State) : Out' :=
  let m := mag.val
  let empty := s.get .MED_M_POOL_POOL m == 0
  let s := if erase then s else s.bump .MED_M_WEAR_PROG_FAIL m
  .next <| if s.magState m ≠ magReady then s
  else if erase || !empty then s.retire m superblock (if erase then 2 else 1)
  else s.lastResort m frame.frame frame.stripe others

/-- Background relocation of a magazine on a tick (R279): whether it moves a stripe, and which, is free (log 116). -/
def State.relocate (s : State) (m : Nat) : State :=
  let ps := (s.magz m).movable
  if s.magState m ≠ magReady || s.flushing || s.integ.halted || (s.magz m).ejecting || ps.isEmpty then s else
  let (n, s) := s.draw
  match (Config.relocation n).bind fun i => ps[i % ps.length]? with
  | none => s
  | some (g, _) => match (s.magz m).place n (g, 0, []) with
    | none => s
    | some k => (s.setMag m k).startPage m

/-! ### Loss of a magazine, power fail, safe state (R274, R277, R283, R443) -/

/-- The takes of a magazine whose link is lost end at their last committed frame; the magazine is ABSENT (R277). The channel's
part stands in Chan. -/
def State.takesLost (s : State) (m : Nat) : State :=
  let s := (s.takesWhere fun t => (t.state == 2 || t.state == 3) && t.openOn m).foldl (fun s t => s.endSide t m .WRONG_STATE) s
  let s := s.modMag m fun k => { k with pend := [], ready := [], page := [], format := none, ejecting := false }
  let s := ((s.raise .MED_EVT_LOST m).wr .MED_M_STATE 0 m).set .MED_M_WEAR_RETIRED 0 m
  s.complete (fun w => w == .format m || w == .eject m) .MED_LINK_LOST .empty

/-- POWER_FAIL: frames without an end marker are abandoned, complete ones commit, takes close (R274). -/
def State.mediaPowerFail (s : State) : State :=
  let s := (List.range 64).foldl (fun s h => (((s.codec h).coding.filter (·.ended.isNone)).foldl (fun s c => s.abandonCoding h c.id) s).settleStop h) s
  ((s.takesWhere fun t => t.state == 2 || t.state == 3).foldl (fun s t => s.closeTake t 2) s).afterCoding

/-- Safe state, control complex and HBM3 trusted: prepared takes are freed, the others close with what was complete (R442, R443). -/
def State.mediaSafe (s : State) : State :=
  let s := (List.range 16).foldl (fun s t => s.freeTake t .SAFE_STATE) s
  ((s.takesWhere fun t => t.state == 2).foldl (fun s t => (s.unjoin t).closeTake t 5) s).settleTakes

/-- A HALTED cause: takes end at their last committed frame without a CLOSE; pages already started still commit (R443). -/
def State.mediaHalt (s : State) : State :=
  let s := (List.range 16).foldl (fun s t => s.freeTake t .SAFE_STATE) s
  let s := (List.range 4).foldl (fun s m => s.modMag m fun k => { k with ready := [] }) s
  (s.takesWhere fun t => t.state == 2 || t.state == 3).foldl (fun s t =>
    let s := s.modTake t fun k => { k with sides := k.sides.map fun x => { x with isOpen := false } }
    s.finishTake t .WRONG_STATE) s

/-! ### Mount and replay (R276) -/

/-- The controller's part of a magazine as a checkpoint gives it (R263, R276). -/
def Mag.load (k : Mag) (c : Checkpoint) : Mag := { k with
  map := c.map, erasedAll := c.erasedAll, erases := c.erases, retired := c.retired, filling := none
  writeSeq := k.stripes.foldl (fun n p => max n (p.2.seq + 1)) 0
  pageSeq := c.first, live := [], ready := [], page := [], pages := 0, checkpoint := c.seq + 1 }

/-- A journal entry applied at mount; the index entries that the last COMMIT of each directory entry gives stand beside (R262, R276). -/
def replayEntry (a : Mag × Tab Nat) : JEntry → Mag × Tab Nat
  | .map g p => ({ a.1.setMap g p with live := a.1.live.filter fun q => q.1 / 64 != g }, a.2)
  | .commit e _ _ index => (a.1, tins index a.2 e)
  | .close e r => (a.1.putDir e (closeDir (a.1.dir e) r), tdel a.2 e)
  | .retire b _ => (if a.1.retired.contains b then a.1 else { a.1 with retired := a.1.retired ++ [b] }, a.2)
  | .erase b n => ({ a.1 with erases := tput 0 a.1.erases b (n - a.1.erasedAll) }, a.2)

/-- Journal pages from the next sequence on, in ring order, up to the first that fails (R276). -/
def replayPages : Nat → Mag × Tab Nat → Mag × Tab Nat
  | 0, a => a
  | n + 1, a =>
    match (tget a.1.ring (a.1.pageSeq % ringPages)).bind (parsePage a.1.pageSeq) with
    | none => a
    | some es =>
      let b := es.foldl replayEntry a
      replayPages n ({ b.1 with pageSeq := a.1.pageSeq + 1 }, b.2)

/-- A take still recording in the directory is closed at its last COMMIT with reason REPLAY; on a READ_ONLY magazine in memory only
(R276). -/
def closeReplay (key worn : Bool) (committed : Tab Nat) (fresh user : Nat) (m : Mag) (e : Nat) : Mag :=
  let d := m.dir e
  if d.state ≠ 1 then m else
  let entries := (m.indexOf d).take (max 1 (tgetD 0 committed e))
  let frames := entries.filter fun x => entryKind x == 2
  let header := entries.headD []
  let own := key && decide (slice header 20 16 = padTo 16 Config.moduleSerial)
  let num := fun (x : List Byte) => unle (slice x 4 4)
  let chain := (frames.getLast?.map fun x => slice x 64 32).getD (chain0 (slice header 4 52))
  let marks := (entries.filter fun x => entryKind x == 3).flatMap fun x => slice x 4 16
  let record := closeEntry fresh own d.takeId frames.length ((frames.head?.map num).getD (Config.emptyTake fresh 0))
    ((frames.getLast?.map num).getD (Config.emptyTake fresh 1)) chain marks 4 d.flags
  let d := { d with essenceBytes := (frames.getLast?.map fun x => unle (slice x 16 8) + unle (slice x 24 4)).getD 0 }
  let grown := if worn then none else
    grow fresh (granulesFor (entries.length * 1024 + 1024) - runGranules d.index) (d.index, m.freeExtents user)
  match grown with
  | none => m.putDir e (closeDir d record)
  | some r =>
    let d := closeDir { d with index := r.1 } record
    ((pieces (runAt r.1) (entries.length * 1024) record ++ [d.piece e]).foldl (Mag.store fresh) m).putDir e d

/-- The label a mount goes by: the copy whose CRC matches, copy 0 when both do (R276). -/
def mountLabel (f : MountFound) : Option Label :=
  match f.copy0, f.copy1 with
  | .valid l, _ => some l
  | _, .valid l => some l
  | _, _ => none

/-- A magazine with the NAND that a mount finds. -/
def Mag.found (k : Mag) (f : MountFound) : Mag := { k with
  label := mountLabel f
  stripes := f.stripes.foldl (fun t p => tins p.2 t p.1) []
  ring := f.pages.foldl (fun t p => tins p.2 t p.1) []
  slots := ([f.slotA, f.slotB].zipIdx.filterMap fun p => p.1.map (p.2, ·)) }

/-- The valid checkpoint with the higher sequence. -/
def Mag.newestCheckpoint (k : Mag) : Option Checkpoint :=
  k.slots.foldl (fun (b : Option Checkpoint) p => if b.any fun c => decide (p.2.seq ≤ c.seq) then b else some p.2) none

/-- A magazine worn out holds a stripe in its last-resort superblock (R281; log 120). -/
def Mag.worn (k : Mag) (l : Label) : Bool := k.stripes.any fun p => p.1 / 32 == l.lastResort

/-- Steps 2 … 6 of a mount, from a checkpoint on (R276). -/
def Mag.mounted (k : Mag) (l : Label) (c : Checkpoint) (fresh : Nat) (key : Bool) : Mag :=
  let a := replayPages ringPages (k.load c, [])
  (List.range 4096).foldl (closeReplay key (k.worn l) a.2 fresh l.user) a.1

/-- MOUNT: label, checkpoint, journal and replay (R276). `found` is what the NAND holds; none says that it stands as this TX9 left it. -/
def evMount (mag : Fin 4) (found : Option MountFound) (s : State) : Out' :=
  let m := mag.val
  .next <| if s.magState m ≠ magMounting then s else
    let k := found.elim (s.magz m) (s.magz m).found
    let s := s.setMag m k
    match k.label with
    | none => s.set .MED_M_STATE_STATE (if found.any fun f => f.copy0 == .unreadable && f.copy1 == .unreadable then magUnsupported else magBlank) m
    | some l => match k.newestCheckpoint with
      | none => s.set .MED_M_STATE_STATE magFaulted m
      | some c =>
        let (n, s) := s.draw
        let k := k.mounted l c n (s.flag .VAL_INT_STATUS_KEY_OK)
        let s := (s.setMag m k).set .MED_M_USER_U l.user m
        let s := (s.set .MED_M_POOL_POOL (l.total - 13 - l.user - k.retired.length) m).set .MED_M_WEAR_RETIRED (min k.retired.length 0xFFFF) m
        let s := s.set .MED_M_POWER_TARGET_MODE (if l.target then 1 else 0) m
        (s.set .MED_M_STATE_STATE (if k.worn l then magReadOnly else magReady) m).checkpoint m

/-! ### Magazine packets (R279, R284) -/

def magRight (cls : Cls) (m : Nat) : Nat → State → List Right := fun _ _ => [⟨cls, .res (res 3 m)⟩]

/-- READY, or READ_ONLY with its own status. -/
def State.readyStatus (s : State) (m : Nat) (ro : Status) : Status :=
  if s.magState m = magReady then .DONE else if s.magState m = magReadOnly then ro else .MED_NOT_READY

/-- SPARE where a format names none (R279). -/
def defaultSpare : Nat := 30

def pktMedMagFormat (mag : Nat) (spare : Option Nat) : Packet where
  opcode := 0x0A02
  cls := .configure
  params := fun _ => need (decide (mag < 4 ∧ 10 ≤ spare.getD defaultSpare ∧ spare.getD defaultSpare ≤ 200)) .MED_BAD_CONFIG
  rights := magRight .configure mag
  checks := fun _ s =>
    if s.safe then .SAFE_STATE
    else if s.magState mag = magReadOnly then .MED_READ_ONLY
    else if s.magState mag ≠ magReady ∧ s.magState mag ≠ magBlank then .MED_NOT_READY
    else need (!s.magBusy mag) .MED_TAKE_ACTIVE
  run := fun _ s => .wait (.format mag) (s.modMag mag fun k => { k with format := some (spare.getD defaultSpare) })

/-- The superblocks of the roles a format gives out, in turn out of the good ones (R259). -/
def pickRoles (fresh : Nat) : Nat → List Nat → List Nat
  | 0, _ => []
  | n + 1, good =>
    let b := good.getD (Config.rolePick fresh n % good.length) 0
    b :: pickRoles fresh n (good.erase b)

/-- The label a format writes (R259). -/
def State.newLabel (s : State) (m fresh user spare : Nat) (bad : List Nat) : Label :=
  let total := s.get .MED_M_STATE_TOTAL m
  let roles := pickRoles fresh 11 ((List.range total).filter fun b => decide (2 ≤ b) && !bad.contains b)
  ⟨(s.magz m).serial, s.now, total, user, spare, padTo 16 Config.moduleSerial, roles.take 2, (roles.drop 2).take 8, roles.getD 10 0, false⟩

/-- FORMAT_COMPLETE: every superblock is erased, those of `bad` failed (R279). -/
def evFormatComplete (mag : Fin 4) (bad : List Nat) (s : State) : Out' :=
  let m := mag.val
  .next <| match (s.magz m).format with
  | none => s
  | some spare =>
    let total := s.get .MED_M_STATE_TOTAL m
    let good := total - bad.length
    let pool := (spare * total + 999) / 1000
    let k := s.magz m
    let (n, s) := s.draw
    let blank : Mag := {
      serial := k.serial, erasedAll := k.erasedAll + 1, erases := k.erases, retired := bad, writeSeq := k.writeSeq
      checkpoint := k.checkpoint, queue := k.queue, powerTask := k.powerTask, nextStaged := k.nextStaged }
    let s := s.set .MED_M_WEAR_RETIRED (min bad.length 0xFFFF) m
    if good < 14 + pool then
      let s := (s.setMag m blank).showPending m
      ((((s.set .MED_M_USER_U 0 m).set .MED_M_POOL_POOL 0 m).set .MED_M_STATE_STATE magBlank m)).complete (fun w => w == .format m) .MED_FULL .empty
    else
      let user := good - 13 - pool
      let s := (s.setMag m { blank with label := some (s.newLabel m n user spare bad) }).showPending m
      let s := (((s.set .MED_M_USER_U user m).set .MED_M_POOL_POOL pool m).set .MED_M_STATE_STATE magReady m)
      (s.checkpoint m).complete (fun w => w == .format m) .DONE (.values [user])

def pktMedMagEject (mag : Nat) : Packet where
  opcode := 0x0A03
  cls := .configure
  params := fun _ => need (decide (mag < 4)) .MED_BAD_CONFIG
  rights := magRight .configure mag
  checks := fun _ s =>
    if s.magState mag ≠ magReady ∧ s.magState mag ≠ magReadOnly ∧ s.magState mag ≠ magBlank then .MED_NOT_READY
    else need (!s.magBusy mag) .MED_TAKE_ACTIVE
  run := fun _ s =>
    let s := s.modMag mag fun k => { k with ejecting := true }
    if (s.magz mag).quiet then .both .empty (s.settleEject mag) else .wait (.eject mag) s

def pktMedCeilSet (mag ceil : Nat) : Packet where
  opcode := 0x0A0B
  cls := .configure
  params := fun s => need (decide (mag < 4) && decide (ceil ≤ s.get .MED_M_CEIL_MAX_CEIL_MAX mag)) .MED_BAD_CONFIG
  rights := magRight .configure mag
  run := fun _ s => .done .empty ((s.set .MED_M_CEIL_CEIL ceil mag).showPending mag)

def pktMedInfo (isStream : Bool) (index : Nat) : Packet where
  opcode := 0x0A01
  params := fun _ => need (decide (index < (if isStream then 8 else 4))) .MED_BAD_CONFIG
  run := fun _ s => .done (.values (if isStream then
      [.MED_S_TAKE, .MED_S_COMMIT, .MED_S_FRAMES, .MED_S_STAT].map fun r => s.rd r index
    else [.MED_M_STATE, .MED_M_POOL, .MED_M_USER, .MED_M_CEIL, .MED_M_CEIL_MAX, .MED_M_PENDING, .MED_M_PEAK, .MED_M_WEAR, .MED_M_POWER,
      .MED_M_CH].map fun r => s.rd r index)) s

/-! ### Take packets and deal actions (R264 … R266, R284) -/

/-- The lowest free directory entry of a magazine: neither in use nor held by a prepared take. -/
def State.freeEntry (s : State) (m : Nat) : Option Nat :=
  let held := (s.takesWhere fun t => decide (1 ≤ t.state ∧ t.state ≤ 3)).filterMap fun t => ((s.take t).side m).map (·.entry)
  (List.range 4096).find? fun e => ((s.magz m).dir e).state == 0 && !held.contains e

/-- The take slot a prepare uses: the lowest FREE one, else the lowest CLOSED one (DEDUCED, log 55). -/
def State.freeTakeSlot (s : State) : Option Nat :=
  (s.takesWhere fun t => t.state == 0).head?.or (s.takesWhere fun t => t.state == 4).head?

/-- The magazines a prepare names; 0xFF is no secondary. -/
def prepMags (primary secondary : Nat) : List Nat := if secondary = 0xFF then [primary] else [primary, secondary]

/-- The magazine leaves IDLE or SLEEP (R301). -/
def State.wake (s : State) (m : Nat) : State :=
  if s.get .MED_M_POWER_STATE m = 0 then s else s.set .MED_M_POWER_STATE 0 m

def pktMedTakePrepare (stream primary secondary : Nat) (takeId metadata : List Byte) : Packet where
  opcode := 0x0A04
  cls := .configure
  params := fun _ =>
    if takeId.length ≠ 16 ∨ 32 < metadata.length then .BAD_LENGTH
    else need (decide (stream < 8 ∧ primary < 4 ∧ secondary ≠ primary) && (decide (secondary < 4) || secondary == 0xFF)) .MED_BAD_CONFIG
  rights := fun _ _ => ⟨.configure, .res (res 7 stream)⟩ :: (prepMags primary secondary).map fun m => ⟨.configure, .res (res 3 m)⟩
  checks := fun _ s =>
    let ms := prepMags primary secondary
    if s.safe then .SAFE_STATE
    else firstFail ([firstFail (ms.map fun m => s.readyStatus m .MEDIA_WORN),
      need (ms.all fun m => s.get .MED_M_POWER_TARGET_MODE m == 0) .MED_TARGET_MODE,
      need (s.takesWhere fun t => t.stream == stream && (t.state == 1 || t.state == 2)).isEmpty .MED_STREAM_BUSY,
      need s.freeTakeSlot.isSome .MED_NO_TAKE_SLOT,
      need (ms.all fun m => (s.freeEntry m).isSome) .MED_DIR_FULL,
      need (ms.all fun m => !((s.magz m).freeExtents (s.get .MED_M_USER_U m)).isEmpty) .MED_FULL])
  run := fun _ s => match s.freeTakeSlot with
    | none => .refuse .MED_NO_TAKE_SLOT s
    | some t =>
      let ms := prepMags primary secondary
      let sides := ms.map fun m => ({ mag := m, entry := (s.freeEntry m).getD 0 } : Side)
      let gen := (s.take t).gen % 255 + 1
      let s := s.setTake t { gen := gen, state := 1, stream := stream, primary := primary
                             secondary := if secondary = 0xFF then none else some secondary
                             sides := sides, takeId := takeId, metadata := metadata }
      let s := ms.foldl State.wake s
      let s := ((s.set .MED_S_TAKE_HANDLE (handleOf gen t) stream).set .MED_S_FRAMES_COUNT 0 stream).set .MED_S_COMMIT_FRAME 0 stream
      .done (.values [handleOf gen t, (sides.headD { mag := 0, entry := 0 }).entry]) (s.showTake t)

/-- The conditions of a start (R264 … R266, R444). -/
def State.startStatus (s : State) (t : Nat) : Status :=
  let k := s.take t
  if s.safe then .SAFE_STATE
  else if k.state ≠ 1 ∨ k.startPending then .WRONG_STATE
  else if !(k.mags.all fun m => s.magState m == magReady) then .MED_NOT_READY
  else need s.holdup .HOLDUP_NOT_READY

def State.startTake (s : State) (t : Nat) : State := s.modTake t fun k => { k with startPending := true, opened := s.now }

def pktMedTakeStart (handle : Nat) : Packet where
  opcode := 0x0A05
  cls := .configure
  params := takeOk handle
  rights := takeRights .configure .configure handle
  checks := fun _ s => match s.takeOf handle with
    | none => .MED_BAD_HANDLE
    | some t => s.startStatus t
  run := fun _ s => match s.takeOf handle with
    | none => .refuse .MED_BAD_HANDLE s
    | some t => .wait (.takeOpen t) (s.startTake t)

/-- A launch with no effect (R265, R266). -/
def State.medNotReady (s : State) : State := s.raise .MED_EVT_NOT_READY

def evTakeStart (mag : Fin 4) (stream : Fin 8) (handle : BitVec 32) (s : State) : Out' :=
  .next <| match s.takeOf handle.toNat with
  | none => s.medNotReady
  | some t =>
    if (s.take t).primary = mag.val ∧ (s.take t).stream = stream.val ∧ s.startStatus t = .DONE then s.startTake t else s.medNotReady

def pktMedTakeStop (handle : Nat) : Packet where
  opcode := 0x0A06
  cls := .configure
  params := takeOk handle
  rights := takeRights .configure .configure handle
  checks := fun _ s => match s.takeOf handle with
    | none => .MED_BAD_HANDLE
    | some t => need ((s.take t).state == 2 || (s.take t).state == 3) .WRONG_STATE
  run := fun _ s => match s.takeOf handle with
    | none => .refuse .MED_BAD_HANDLE s
    | some t => .wait (.takeClosed t) (s.closeTake t 1)

/-- The take of a stream that records, with its primary magazine. -/
def State.recordingOn (s : State) (mag stream : Nat) : Option Nat :=
  (s.takesWhere fun t => t.stream == stream && t.state == 2 && t.primary == mag).head?

def evTakeStop (mag : Fin 4) (stream : Fin 8) (s : State) : Out' :=
  .next <| match s.recordingOn mag.val stream.val with
  | none => s.medNotReady
  | some t => s.closeTake t 1

/-- The frame of a stream that most recently passed its encode boundary (R265). -/
def State.lastBegun (s : State) (stream : Nat) : Nat :=
  match s.bound stream with
  | none => 0
  | some h => (((s.codec h).coding.getLast?.map (·.num)).or ((s.codec h).records.head?.map (·.frame))).getD 0

/-- Record a marker (R265, R267): bytes 4 … 19 of its entry on every side that records. -/
def State.mark (s : State) (t code : Nat) : State :=
  let b := le 4 (s.lastBegun (s.take t).stream) ++ le 8 s.now ++ le 4 code
  s.modTake t fun k => { k with sides := k.sides.map fun x => if x.isOpen then { x with marks := x.marks ++ [b] } else x }

def pktMedTakeMark (handle code : Nat) : Packet where
  opcode := 0x0A07
  cls := .use
  params := takeOk handle
  rights := takeRights .use .use handle
  checks := fun _ s => match s.takeOf handle with
    | none => .MED_BAD_HANDLE
    | some t => need ((s.take t).state == 2) .WRONG_STATE
  run := fun _ s => match s.takeOf handle with
    | none => .refuse .MED_BAD_HANDLE s
    | some t => .done (.values [s.lastBegun (s.take t).stream]) (s.mark t code)

def evTakeMark (mag : Fin 4) (stream : Fin 8) (code : BitVec 32) (s : State) : Out' :=
  .next <| match s.recordingOn mag.val stream.val with
  | none => s.medNotReady
  | some t => s.mark t code.toNat

/-! ### STREAM_STOP (R235, R265) -/

/-- A stream stops: its take closes after its last frame with reason STREAM_STOPPED. -/
def State.stopStreamTakes (s : State) (st : Nat) : State :=
  (s.takesWhere fun t => t.stream == st && t.state == 2).foldl (fun s t => s.closeTake t 7) s

def evStreamStop (stream : Fin 8) (s : State) : Out' :=
  let st := stream.val
  .next <| if (s.bound st).isNone then s.raise .MLS_EVT_NOT_READY
    else if s.streamOn st then ((s.stopStreamTakes st).stopStream st).settleTakes else s

def pktMlsStreamStop (stream : Nat) : Packet where
  opcode := 0x0907
  cls := .configure
  params := fun _ => need (decide (stream < 8)) .MLS_BAD_CONFIG
  rights := cfgStream stream
  checks := fun _ s => need (s.streamOn stream) .WRONG_STATE
  run := fun _ s =>
    let s := ((s.stopStreamTakes stream).stopStream stream).settleTakes
    if s.streamOn stream then .wait (.codecStop (64 + stream)) s else .both .empty s

/-! ### Reading and deleting takes (R284) -/

def State.readable (s : State) (m : Nat) : Status := need (s.magReadable m) .MED_NOT_READY

def pktMedTakeList (mag first count : Nat) : Packet where
  opcode := 0x0A08
  params := fun _ => if 4 ≤ mag then .MED_BAD_CONFIG else need (decide (1 ≤ count ∧ count ≤ 64 ∧ first + count ≤ 4096)) .MED_BAD_RANGE
  checks := fun _ s => s.readable mag
  run := fun _ s => .done (.bytes ((List.range count).flatMap fun i => ((s.magz mag).dirBytes (first + i)).take 64)) s

/-- Bytes of a sequence of a take: 0 essence, 1 index (DEDUCED, log 56). -/
def Mag.sequence (m : Mag) (e seq : Nat) : List (Nat × Nat) × Nat :=
  let d := m.dir e
  if seq = 0 then (d.essence, d.essenceBytes) else (d.index, (m.indexOf d).length * 1024)

def pktMedTakeRead (mag entry seq off len : Nat) : Packet where
  opcode := 0x0A09
  params := fun _ => if 4 ≤ mag then .MED_BAD_CONFIG
    else need (decide (entry < 4096 ∧ seq < 2 ∧ off % 4 = 0 ∧ len % 4 = 0 ∧ 4 ≤ len ∧ len ≤ 4080)) .MED_BAD_RANGE
  checks := fun _ s =>
    let m := s.magz mag
    if !s.magReadable mag then .MED_NOT_READY
    else need ((m.dir entry).state != 0 && decide (off + len ≤ (m.sequence entry seq).2)) .MED_BAD_RANGE
  run := fun _ s =>
    let (n, s) := s.draw
    let (bs, bad) := (s.magz mag).fetch n ((s.magz mag).sequence entry seq).1 off len
    if bad then .failed .MED_READ_ERROR (.bytes bs) s else .done (.bytes bs) s

def pktMedTakeDelete (mag entry : Nat) : Packet where
  opcode := 0x0A0A
  cls := .configure
  params := fun _ => if 4 ≤ mag then .MED_BAD_CONFIG else need (decide (entry < 4096)) .MED_BAD_RANGE
  rights := magRight .configure mag
  checks := fun _ s =>
    let t := s.readyStatus mag .MED_READ_ONLY
    if t ≠ .DONE then t
    else if s.magBusy mag then .MED_TAKE_ACTIVE
    else need (((s.magz mag).dir entry).state != 0) .MED_BAD_RANGE
  run := fun _ s =>
    let d := (s.magz mag).dir entry
    let gs := runList d.essence ++ runList d.index
    let (n, s) := s.draw
    let s := s.modMag mag fun k => ((k.place n (freeDir.piece entry)).getD k).putDir entry freeDir
    .done .empty (s.journal mag (gs.map fun g => .map g unmapped))

/-- MED_PLAY: frame units from the first FRAME entry numbered `first` or above (R241, R284; log 57). -/
def pktMedPlay (session mag entry first : Nat) : Packet where
  opcode := 0x0A0C
  cls := .use
  params := fun s =>
    if (s.decOf session).isNone then .MLS_DEC_BAD_HANDLE
    else if 4 ≤ mag then .MED_BAD_CONFIG
    else need (decide (entry < 4096)) .MED_BAD_RANGE
  rights := fun n s => decRights .use session n s ++ [⟨.use, .res (res 3 mag)⟩]
  checks := fun _ s => match s.decOf session with
    | none => .MLS_DEC_BAD_HANDLE
    | some d =>
      let m := s.magz mag
      if !s.decRunning d || s.get .MLS_D_CFG_SOURCE d != 2 || s.get .MLS_D_CFG_SOURCE_INDEX d != mag then .WRONG_STATE
      else if !s.magReadable mag then .MED_NOT_READY
      else need ((m.dir entry).state != 0 && (m.frameEntries (m.dir entry)).any fun e => decide (first ≤ unle (slice e 4 4))) .MED_BAD_RANGE
  run := fun _ s => match s.decOf session with
    | none => .refuse .MLS_DEC_BAD_HANDLE s
    | some d =>
      let m := s.magz mag
      let i := ((m.frameEntries (m.dir entry)).takeWhile fun e => decide (unle (slice e 4 4) < first)).length
      .done .empty (s.modDec d fun k => { k with play := some (mag, entry, i) })

end Sys2Proof.Machine
end

