-- ==== Sys2Proof/Machine/Aud.lean ====
section
/-!
DEFINITION. Audio ports (16): sample clocks, starting and stopping, frame syncs with capture, playback and fill, slot masks, rings.
-/
namespace Sys2Proof.Machine

def audStopped : Nat := 0
def audClocked : Nat := 1
def audRunning : Nat := 2

def State.audState (s : State) (p : Nat) : Nat := s.get .AUD_P_STAT_STATE p

/-- Sample rates by RATE code [Hz] (R369). -/
def audRate (code : Nat) : Nat := ([32000, 44100, 48000, 88200, 96000, 176400, 192000] : List Nat).getD code 48000

/-- floor(n × 300,000,000 / rate): ticks from a frame sync to the n-th after it (R371, R375). -/
def syncTicks (code n : Nat) : Nat := n * 300000000 / audRate code

/-! ### Format (R369) -/

/-- Field ranges of AUD_P_CFG and AUD_P_FMT and the limits between them. -/
def audFormatOk (cfg fmt : Nat) : Bool :=
  let rate := bitsOf cfg 31 28
  let slots := bitsOf fmt 21 16
  let width := bitsOf fmt 13 8
  decide (rate ≤ 6) && decide (bitsOf cfg 22 20 ≤ 3) && decide (1 ≤ slots ∧ slots ≤ 32) && decide (16 ≤ width ∧ width ≤ 32) &&
  decide (bitsOf fmt 4 0 < slots * width) && decide (audRate rate * slots * width ≤ 49152000)

/-- The lines of a direction: outputs, or inputs (R368). -/
def State.audLines (s : State) (p : Nat) (out : Bool) : List Nat :=
  (List.range 4).filter fun j => (s.get .AUD_P_CFG_DIR p / 2 ^ j % 2 == 1) == out

/-- The enabled slots of a direction in frame order: line, slot (R376). -/
def State.audSlots (s : State) (p : Nat) (out : Bool) : List (Nat × Nat) :=
  (s.audLines p out).flatMap fun j => (bitList (s.get .AUD_P_FMT_SLOTS p) (s.rd .AUD_P_MASK p j)).map fun k => (j, k)

def State.packBytes (s : State) (p : Nat) : Nat := if s.flag .AUD_P_CFG_PACK p then 4 else 3

/-- Bytes of a playback frame (R376). -/
def State.playFrame (s : State) (p : Nat) : Nat := (s.audSlots p true).length * s.packBytes p

/-- A sample as packed in a ring, and back (R376). -/
def packSample (pack4 : Bool) (v : Nat) : List Byte := if pack4 then le 4 (v * 256) else le 3 v
def unpackSample (pack4 : Bool) (b : List Byte) : Nat := if pack4 then unle b / 256 else unle b

/-- A sample as a slot of WIDTH bits carries it: a narrow slot keeps the top bits (R370). -/
def slotSample (width v : Nat) : Nat := let v := v % 2 ^ 24; if width < 24 then v - v % 2 ^ (24 - width) else v

def State.audCap (s : State) (p : Nat) : Nat := s.rd64 .AUD_P_CAP_WR_LO .AUD_P_CAP_WR_HI p
def State.playRd (s : State) (p : Nat) : Nat := s.rd64 .AUD_P_PLAY_RD_LO .AUD_P_PLAY_RD_HI p
def State.playWr (s : State) (p : Nat) : Nat := s.rd64 .AUD_P_PLAY_WR_LO .AUD_P_PLAY_WR_HI p
def State.capRing (s : State) (p : Nat) : Nat := s.get .AUD_P_RING_CAP p * 4096
def State.playRing (s : State) (p : Nat) : Nat := s.get .AUD_P_RING_PLAY p * 4096

def State.modPort (s : State) (p : Nat) (g : Aud → Aud) : State := s.setPort p (g (s.port p))

/-! ### Actions (R373, R374) -/

def State.audNotReady (s : State) (p : Nat) : State := s.raise .AUD_EVT_NOT_READY p

/-- AUD_CLOCK_START: the clocks start, and the writes kept for the port take effect (R14, R373). -/
def evAudClockStart (port : Fin 16) (s : State) : Out' :=
  let p := port.val
  .next <| if s.audState p ≠ audStopped then s.audNotReady p else
    let s := (s.commitAll (.aud p)).set .AUD_P_STAT_STATE audClocked p
    s.modPort p fun a => { a with
      clockStart := s.now, syncs := 0, dataStart := none, dataStop := false, clockStop := false
      limits := (s.playWr p, s.playWr p), sentNow := [] }

def evAudDataStart (port : Fin 16) (s : State) : Out' :=
  let p := port.val
  .next <| if s.audState p ≠ audClocked then s.audNotReady p else s.modPort p fun a => { a with dataStart := some s.now }

def evAudDataStop (port : Fin 16) (s : State) : Out' :=
  let p := port.val
  .next <| if s.audState p ≠ audRunning then s.audNotReady p else s.modPort p fun a => { a with dataStop := true }

def evAudClockStop (port : Fin 16) (s : State) : Out' :=
  let p := port.val
  .next <| if s.audState p ≠ audClocked then s.audNotReady p else s.modPort p fun a => { a with clockStop := true }

/-! ### Frame sync (R371, R374, R376 … R378) -/

/-- Sample n of the run as its frame's tick. -/
def State.sampleTick (s : State) (p : Nat) : Nat :=
  s.rd64 .AUD_P_START_LO .AUD_P_START_HI p +
    syncTicks (s.get .AUD_P_CFG_RATE p) (s.rd64 .AUD_P_SAMPLE_LO .AUD_P_SAMPLE_HI p)

/-- The samples of the frame just ended in the enabled input slots: `samples` holds every slot of the input lines, lines ascending. -/
def State.captured (s : State) (p : Nat) (samples : List Nat) : List (Nat × Nat) :=
  let slots := s.get .AUD_P_FMT_SLOTS p
  let lines := s.audLines p false
  (s.audSlots p false).map fun (j, k) =>
    (j * 32 + k, slotSample (s.get .AUD_P_FMT_WIDTH p) (samples.getD (lines.idxOf j * slots + k) 0))

/-- Data frames kept for the outputs' embedding: DELAY of 4,800 samples and a frame's worth more (R362). -/
def historyFrames : Nat := 8192

/-- The frame in progress ends: what was captured enters the ring, unless memory is frozen (R376, R379). -/
def State.endAudFrame (s : State) (p : Nat) (samples : List Nat) : State :=
  let got := if s.frozen then [] else s.captured p samples
  let bytes := got.flatMap fun e => packSample (s.flag .AUD_P_CFG_PACK p) e.2
  let a := s.port p
  let ring := a.capture ++ bytes
  let kept := got.foldl (fun t e => tins e.2 t e.1) a.sentNow
  let tick := s.sampleTick p
  let s := s.setPort p { a with
    capture := ring.drop (ring.length - s.capRing p)
    history := ((tick, kept) :: a.history).take historyFrames }
  s.wr64 .AUD_P_CAP_WR_LO .AUD_P_CAP_WR_HI (s.audCap p + bytes.length) p

/-- The sample at a position of the playback ring, none where a byte lies at or past the limit or was never written (R378). -/
def Aud.playSample (a : Aud) (limit pos n : Nat) (pack4 : Bool) : Option Nat :=
  if limit < pos + n then none else
  ((List.range n).mapM fun i => tget a.playback (pos + i)).map (unpackSample pack4)

/-- A frame is sent: every enabled output slot carries its sample or the fill; while memory is frozen, zeros (R378, R379). -/
def State.sendAudFrame (s : State) (p : Nat) : State :=
  let a := s.port p
  let n := s.packBytes p
  let width := s.get .AUD_P_FMT_WIDTH p
  let fill := fun i => if s.flag .AUD_P_CFG_FILL p then tgetD 0 a.lastSent i else 0
  let out := ((s.audSlots p true).zipIdx).map fun (e, i) =>
    let key := e.1 * 32 + e.2
    let got := if s.frozen then some 0 else a.playSample a.limits.1 (a.pos + i * n) n (s.flag .AUD_P_CFG_PACK p)
    (key, got.isNone, slotSample width (got.getD (fill key)))
  let missing := (out.filter fun e => e.2.1).length
  let sent : Tab Nat := out.foldl (fun t e => tins e.2.2 t e.1) []
  let s := s.setPort p { a with
    sentNow := sent
    lastSent := out.foldl (fun t e => tins e.2.2 t e.1) a.lastSent
    playback := a.playback.filter fun e : Nat × Byte => decide (a.pos + s.playFrame p ≤ e.1) }
  if missing = 0 then s else
  ((s.bump .AUD_P_STAT_UNDERRUN p).bump .AUD_P_FILLED_COUNT p missing).raise .AUD_EVT_UNDERRUN p

/-- The fetch of a frame sync: the frames to the one two after this are consumed, and AUD_P_PLAY_WR follows (R378). -/
def State.fetchAud (s : State) (p : Nat) : State :=
  let rd := (s.port p).pos + 3 * s.playFrame p
  let s := s.wr64 .AUD_P_PLAY_RD_LO .AUD_P_PLAY_RD_HI rd p
  s.wr64 .AUD_P_PLAY_WR_LO .AUD_P_PLAY_WR_HI (max rd (s.playWr p)) p

/-- A pending data start at an edge: sample 0, or not ready before LEAD frames of clock (R374). -/
def State.startAudData (s : State) (p : Nat) : State :=
  let a := s.port p
  if a.syncs < s.get .AUD_P_CFG_LEAD p then s.audNotReady p else
  let s := (s.set .AUD_P_STAT_STATE audRunning p).wr64 .AUD_P_START_LO .AUD_P_START_HI s.now p
  let s := s.wr64 .AUD_P_SAMPLE_LO .AUD_P_SAMPLE_HI 0 p
  (s.setPort p { a with pos := s.playRd p }).sendAudFrame p |>.fetchAud p

/-- What the edge does to the port's state: stops, starts, or the next data frame. `run` says that a data frame just ended. -/
def State.audEdge (s : State) (p len : Nat) : State :=
  let a := s.port p
  if s.audState p = audRunning then
    if a.dataStop then
      (s.set .AUD_P_STAT_STATE audClocked p).modPort p fun a => { a with dataStop := false, sentNow := [] }
    else
      let n := s.rd64 .AUD_P_SAMPLE_LO .AUD_P_SAMPLE_HI p + 1
      let s := s.wr64 .AUD_P_SAMPLE_LO .AUD_P_SAMPLE_HI n p
      ((s.modPort p fun a => { a with pos := a.pos + len }).sendAudFrame p).fetchAud p
  else if a.clockStop then
    (s.set .AUD_P_STAT_STATE audStopped p).modPort p fun a => { a with clockStop := false, dataStart := none }
  else match a.dataStart with
    | some _ => (s.modPort p fun a => { a with dataStart := none }).startAudData p
    | none => s

/-- What AUD_MASK_SET's final reply gives (R377): of a port that sends no data, sample 0 of its next run and where it begins
(DEDUCED, log 70); R14 gives it for a STOPPED port. -/
def State.maskReply (s : State) (p : Nat) : Body :=
  if s.audState p = audRunning then .values [s.rd64 .AUD_P_SAMPLE_LO .AUD_P_SAMPLE_HI p, s.now, s.audCap p, (s.port p).pos]
  else .values [0, if s.audState p = audStopped then 0 else s.now, s.audCap p, s.playRd p]

/-- AUDIO_FRAME_SYNC: the frame ends, masks commit, the port stops, starts or goes on; waiting packets get their replies. -/
def State.frameSync (s : State) (p : Nat) (samples : List Nat) : State :=
  if s.audState p = audStopped ∨ s.flushing then s else
  let s := if s.audState p = audRunning then s.endAudFrame p samples else s
  let len := s.playFrame p
  let wr := s.playWr p
  let s := (s.commit (.aud p)).audEdge p len
  let s := s.modPort p fun a => { a with syncs := a.syncs + 1, limits := (a.limits.2, wr) }
  let now := s.now
  let s := s.complete (fun w => match w with
      | .audMask q since => q == p && decide (since < now)
      | _ => false) .DONE
    (s.maskReply p)
  s.complete (fun w => match w with
      | .audStop mask => (bitList 16 mask).all fun q => s.audState q == audStopped
      | _ => false) .DONE .empty

def evAudioFrameSync (port : Fin 16) (samples : List Nat) (s : State) : Out' := .next (s.frameSync port.val samples)

/-! ### Packets (R380) -/

def audPort (p : Nat) : Status := need (decide (p < 16)) .AUD_BAD_CONFIG
/-- The audio balls lie in bank B3 (R471). -/
def State.audBank (s : State) : Status := need (s.bankOn 3) .AUD_BAD_CONFIG

def audRights (cls : Cls) (p : Nat) : Nat → State → List Right := fun _ _ => [⟨cls, .res (res 4 p)⟩]

def pktAudInfo (port : Nat) : Packet where
  opcode := 0x0E01
  params := fun _ => audPort port
  run := fun _ s =>
    let one : List Reg := [.AUD_P_STAT, .AUD_P_FILLED, .AUD_P_SAMPLE_LO, .AUD_P_SAMPLE_HI, .AUD_P_START_LO, .AUD_P_START_HI,
      .AUD_P_CAP_WR_LO, .AUD_P_CAP_WR_HI, .AUD_P_PLAY_RD_LO, .AUD_P_PLAY_RD_HI, .AUD_P_PLAY_WR_LO, .AUD_P_PLAY_WR_HI, .AUD_P_RING]
    .done (.values ([s.rd .AUD_P_CFG port, s.rd .AUD_P_FMT port] ++ (List.range 4).map (fun j => s.shadow .AUD_P_MASK port j) ++
      one.map fun r => s.rd r port)) s

/-- LEAD, DIR and the rings they need (R374, R376). Both ring sizes 0 release the rings, as R30 lists, though R376 asks every line for
its ring (DESIGN CHOICE, log 109). -/
def audConfigOk (cfg cap play : Nat) : Bool :=
  let dir := bitsOf cfg 19 16
  decide (2 ≤ bitsOf cfg 15 8) && decide (cap ≤ 16384) && decide (play ≤ 16384) &&
    ((cap == 0 && play == 0) || ((dir == 15 || decide (0 < cap)) && (dir == 0 || decide (0 < play))))

/-- AUD_CONFIG's effect: the format, the rings from the pool, byte counts cleared (R376). -/
def State.configAud (s : State) (p cfg fmt cap play : Nat) : State :=
  let s := ((s.writeWord none .AUD_P_CFG cfg p 0).writeWord none .AUD_P_FMT fmt p 0).wr .AUD_P_RING (play * 2 ^ 16 + cap) p
  let s := s.allocate (.audio p) ((cap + play) * 4096)
  let s := ((s.wr64 .AUD_P_CAP_WR_LO .AUD_P_CAP_WR_HI 0 p).wr64 .AUD_P_PLAY_RD_LO .AUD_P_PLAY_RD_HI 0 p).wr64
    .AUD_P_PLAY_WR_LO .AUD_P_PLAY_WR_HI 0 p
  s.modPort p fun a => { a with capture := [], playback := [], pos := 0, lastSent := [] }

def pktAudConfig (port : Nat) (cfg fmt : BitVec 32) (cap play : Nat) : Packet where
  opcode := 0x0E02
  cls := .configure
  params := fun s => firstFail [audPort port, s.audBank, need (audConfigOk cfg.toNat cap play) .AUD_BAD_CONFIG,
    need (audFormatOk cfg.toNat fmt.toNat) .AUD_BAD_FORMAT]
  rights := audRights .configure port
  checks := fun _ s => firstFail [need (s.audState port == audStopped) .AUD_RUNNING,
    need (s.poolFits (.audio port) (s.payer (res 4 port)) ((cap + play) * 4096)) .AUD_NO_POOL]
  run := fun _ s => .done .empty (s.configAud port cfg.toNat fmt.toNat cap play)

def pktAudMaskSet (port : Nat) (m0 m1 m2 m3 : BitVec 32) : Packet where
  opcode := 0x0E03
  cls := .configure
  params := fun s => firstFail [audPort port,
    need ([m0, m1, m2, m3].all fun m => decide (m.toNat < 2 ^ s.get .AUD_P_FMT_SLOTS port)) .AUD_BAD_CONFIG]
  rights := audRights .configure port
  run := fun _ s =>
    let ms := [m0, m1, m2, m3].zipIdx
    if s.audState port = audStopped then
      let s := ms.foldl (fun s (m, j) => s.writeWord none .AUD_P_MASK m.toNat port j) s
      .done (s.maskReply port) s
    else .wait (.audMask port s.now) (ms.foldl (fun s (m, j) => s.shadowWr (.aud port) .AUD_P_MASK m.toNat port j) s)

/-- A port's clock start for data at T (R375). -/
def State.audLead (s : State) (p : Nat) : Nat := syncTicks (s.get .AUD_P_CFG_RATE p) (s.get .AUD_P_CFG_LEAD p)

/-- An entry of one launch that DROPs, with no NOTIFY, ARG and TAG. -/
def plainEntry (time action target : Nat) : Entry :=
  ⟨BitVec.ofNat 32 time, BitVec.ofNat 32 (time / 2 ^ 32), BitVec.ofNat 32 (action * 2 ^ 24 + target * 2 ^ 16), 0, 0, 0⟩

def pktAudStart (mask time : Nat) : Packet where
  opcode := 0x0E04
  cls := .configure
  params := fun s => firstFail [need (decide (mask < 65536)) .AUD_BAD_CONFIG, s.audBank]
  rights := fun _ _ => (bitList 16 mask).flatMap fun p =>
    [⟨.configure, .res (res 4 p)⟩, ⟨.use, portTarget (58 + p)⟩]
  checks := fun _ s =>
    let ps := bitList 16 mask
    firstFail [need (ps.all fun p => s.audState p == audStopped) .WRONG_STATE,
      need (ps.all fun p => decide (s.now + 16 + s.audLead p ≤ time)) .AUD_TOO_LATE,
      need (ps.all fun p => decide ((s.queue (58 + p)).length + 2 ≤ 64)) .DCK_QUEUE_FULL]
  run := fun via s =>
    let ps := bitList 16 mask
    let starts := ps.map fun p => time - s.audLead p
    let n := slotOf via
    let s := (ps.zip starts).foldl (fun s (p, t) =>
      (s.enqueue (58 + p) (newEntry (plainEntry t 0x60 0) n s.now none)).enqueue (58 + p)
        (newEntry (plainEntry time 0x61 0) n s.now none)) s
    .done (.values starts) s

/-- AUD_STOP: data and clocks end at successive frame syncs (R380). -/
def pktAudStop (mask : Nat) : Packet where
  opcode := 0x0E05
  cls := .configure
  params := fun _ => need (decide (mask < 65536)) .AUD_BAD_CONFIG
  rights := fun _ _ => (bitList 16 mask).map fun p => ⟨.configure, .res (res 4 p)⟩
  run := fun _ s =>
    let live := (bitList 16 mask).filter fun p => s.audState p != audStopped
    if live.isEmpty then .both .empty s else
    .wait (.audStop mask) (live.foldl (fun s p =>
      s.modPort p fun a => { a with dataStop := s.audState p == audRunning, clockStop := true, dataStart := none }) s)

/-- AUD_READ: bytes of the capture ring not yet overwritten (R180, R376). -/
def pktAudRead (port pos len : Nat) : Packet where
  opcode := 0x0E06
  params := fun _ => firstFail [audPort port, need (decide (4 ≤ len ∧ len ≤ 4080) && len % 4 == 0) .AUD_BAD_CONFIG]
  checks := fun _ s =>
    let wr := s.audCap port
    need (decide (wr - (s.port port).capture.length ≤ pos ∧ pos + len ≤ wr)) .AUD_NOT_HELD
  run := fun _ s =>
    let b := (s.port port).capture
    .done (.bytes (s.fromHbm (slice b (pos - (s.audCap port - b.length)) len))) s

/-- AUD_WRITE: samples at AUD_P_PLAY_WR; frozen memory discards them (R321, R376). -/
def pktAudWrite (port count : Nat) (data : List Byte) : Packet where
  opcode := 0x0E07
  cls := .use
  params := fun s => firstFail [audPort port,
    need (data.length == (count + 3) / 4 * 4) .BAD_LENGTH,
    need (decide (1 ≤ count ∧ count ≤ 4080) && count % s.packBytes port == 0) .AUD_BAD_CONFIG]
  rights := audRights .use port
  checks := fun _ s => need (decide (s.playWr port + count ≤ s.playRd port + s.playRing port)) .AUD_RING_FULL
  run := fun _ s =>
    let wr := s.playWr port
    let s := s.wr64 .AUD_P_PLAY_WR_LO .AUD_P_PLAY_WR_HI (wr + count) port
    let b := s.fromHbm (data.take count)
    .done (.values [wr]) (s.modPort port fun a => { a with
      playback := (b.zipIdx).foldl (fun t e => tins e.1 t (wr + e.2)) a.playback })

end Sys2Proof.Machine
end

