-- ==== Sys2Proof/Machine/Timecode.lean ====
section
/-!
DEFINITION. The timecode generator (R40 … R42): the label of a deal time under an anchor.
-/
namespace Sys2Proof.Machine

/-- Labels in a day at a configuration. -/
def dayFrames (rate : Nat) (drop : Bool) : Nat :=
  if drop then (rate * 600 - 9 * dropCount rate) * 144 else rate * 86400

/-- What fixes the generator's label (R40): the rate code, PULLDOWN, DROP_FRAME, the anchor label and its time. -/
structure Anchor where
  code : Nat
  pulldown : Bool
  drop : Bool
  label : Nat
  time : Nat
deriving DecidableEq, Repr

/-- The generator in effect. -/
def State.anchor (s : State) : Anchor :=
  ⟨s.get .DCK_TC_CFG_RATE, s.flag .DCK_TC_CFG_PULLDOWN, s.flag .DCK_TC_CFG_DROP_FRAME, s.rd .DCK_TC_ANCHOR,
    s.rd64 .DCK_TC_ANCHOR_TIME_LO .DCK_TC_ANCHOR_TIME_HI⟩

/-- Whole frame periods from the anchor to a time. -/
def Anchor.periods (a : Anchor) (t : Nat) : Int := ((t : Int) - a.time) / tcPeriod a.code a.pulldown

/-- The label of a deal time (R40); labels go round with the day. -/
def Anchor.labelAt (a : Anchor) (t : Nat) : Nat :=
  let rate := tcRate a.code
  let n := ((labelFrames rate a.drop a.label : Int) + a.periods t) % dayFrames rate a.drop
  framesLabel rate a.drop n.toNat

/-- Whether a time is a frame boundary of the generator. -/
def Anchor.boundary (a : Anchor) (t : Nat) : Bool := ((t : Int) - a.time) % tcPeriod a.code a.pulldown == 0

/-- The first frame boundary after a time. -/
def Anchor.next (a : Anchor) (t : Nat) : Nat := ((a.time : Int) + (a.periods t + 1) * tcPeriod a.code a.pulldown).toNat

/-- The label a frame carries for its start-of-frame time (R42). -/
def State.labelAt (s : State) (t : Nat) : Nat := s.anchor.labelAt t

end Sys2Proof.Machine
end

