-- ==== Sys2Proof/Machine/Dck.lean ====
section
/-!
DEFINITION. The deal clock (02): discipline sources, steps, timecode, deal port operations, the actions of DP95. The launch of
the other units' actions is in Step.lean.
-/
namespace Sys2Proof.Machine

def dckFree : Nat := 0
def dckAcquire : Nat := 1
def dckLocked : Nat := 2
def dckHoldover : Nat := 3

def State.modDck (s : State) (g : Dck → Dck) : State := { s with dck := g s.dck }
def State.dckState (s : State) : Nat := s.get .DCK_STATUS_STATE

def dckGlobal (cls : Cls) : Nat → State → List Right := fun _ _ => [⟨cls, .res (globalRes 3)⟩]

/-! ### Steps of deal time (R34) -/

/-- A tick moved with deal time. -/
def moved (d : Int) (t : Nat) : Nat := ((t : Int) + d).toNat

def movedSwaps (d : Int) (l : List (Nat × Nat)) : List (Nat × Nat) := l.map fun (b, t) => (b, moved d t)

/-- What a waiting packet waits since, moved with deal time. -/
def WaitKind.moved (d : Int) : WaitKind → WaitKind
  | .pipBank c t => .pipBank c (Machine.moved d t)
  | .calSwap c t => .calSwap c (Machine.moved d t)
  | .lookSwap o t => .lookSwap o (Machine.moved d t)
  | .staSwap c t => .staSwap c (Machine.moved d t)
  | .outSource o t => .outSource o (Machine.moved d t)
  | .audMask p t => .audMask p (Machine.moved d t)
  | k => k

/-- Valtu's intervals moved with deal time. -/
def Val.moved (m : Nat → Nat) (v : Val) : Val :=
  { v with
    lastEval := v.lastEval.map m
    lastStep := v.lastStep.map m
    staleNext := v.staleNext.map m
    vinLow := v.vinLow.map m
    powerFail := v.powerFail.map m
    shutdownAt := v.shutdownAt.map m
    monitors := v.monitors.map fun (k, x) => (k, { x with starts := m x.starts, ends := m x.ends }) }

/-- A step moves the label of the present tick, not the time that has passed: every interval being measured goes on (log 79). -/
def State.moveTimers (s : State) (d : Int) : State :=
  let m := moved d
  { s with
    shadows := s.shadows.map fun x => { x with tick := m x.tick }
    cpi := { s.cpi with
      slots := s.cpi.slots.map fun (n, h) => (n, { h with renewed := m h.renewed })
      waiting := s.cpi.waiting.map fun w => { w with kind := w.kind.moved d } }
    dck := { s.dck with
      holdoverSince := s.dck.holdoverSince.map m
      jam := s.dck.jam.map m
      ltcOut := s.dck.ltcOut.map fun f => { f with start := m f.start }
      ltcSince := m s.dck.ltcSince
      tcBase := s.dck.tcBase.map m
      ppsHighUntil := m s.dck.ppsHighUntil
      wclk := s.dck.wclk.map fun (r, t) => (r, m t)
      launches := [] }
    ctxs := s.ctxs.map fun (n, c) => (n, { c with
      latch := c.latch.map m
      framePinUntil := m c.framePinUntil
      frames := c.frames.map fun f => { f with lastRow := m f.lastRow, firstRow := f.firstRow.map m }
      pipSwap := movedSwaps d c.pipSwap
      calSwap := movedSwaps d c.calSwap
      staSwap := movedSwaps d c.staSwap })
    pip := { s.pip with lastKat := m s.pip.lastKat }
    eng := { s.eng with kernels := s.eng.kernels.map fun (k, e) => (k, { e with deadline := e.deadline.map m }) }
    mls := { s.mls with
      kaLast := s.mls.kaLast.map fun (k, t) => (k, m t)
      decs := s.mls.decs.map fun (d, x) => (d, { x with inFrame := x.inFrame.map fun f => { f with started := m f.started } }) }
    lnk := { s.lnk with links := s.lnk.links.map fun (k, l) => (k, { l with retryAt := m l.retryAt }) }
    out := { s.out with outs := s.out.outs.map fun (o, x) => (o, { x with
      lastRef := x.lastRef.map m
      lookSwap := movedSwaps d x.lookSwap }) }
    aud := { s.aud with ports := s.aud.ports.map fun (p, a) => (p, { a with
      clockStart := m a.clockStart
      dataStart := a.dataStart.map m }) }
    ptu := { s.ptu with
      engines := s.ptu.engines.map fun (e, k) => (e, { k with lastFire := k.lastFire.map m })
      strobes := s.ptu.strobes.map fun (b, k) => (b, { k with highUntil := m k.highUntil }) }
    val := s.val.moved m
    integ := { s.integ with lastHeartbeat := m s.integ.lastHeartbeat } }

/-- A step is performed: no queued entry but repeating ones on DP84 … DP86, no take recording (R34). -/
def State.mayStep (s : State) : Bool :=
  !s.recording && s.dck.queues.all fun (p, q) => q.isEmpty || (decide (84 ≤ p ∧ p ≤ 86) && q.all fun e => e.entry.period != 0)

/-- Deal time steps; repeating entries on DP84 … DP86 go with it. -/
def State.stepTo (s : State) (v : Nat) : State :=
  let d : Int := (v : Int) - s.now
  let s := s.moveTimers d
  let s := s.modDck fun k => { k with queues := k.queues.map fun (p, q) => (p, q.map fun e => { e with
    accepted := moved d e.accepted
    due := e.due.map (moved d)
    late := e.late.map (moved d)
    last := e.last.map (moved d) }) }
  ({ s with dealTime := BitVec.ofNat 64 v }).raise .DCK_EVT_STEP

def pktDckStep (time : Nat) : Packet where
  opcode := 0x0303
  cls := .configure
  rights := dckGlobal .configure
  checks := fun _ s => need s.mayStep .DCK_STEP_REFUSED
  run := fun _ s => .done (.values [s.now, time % 2 ^ 64]) (s.stepTo (time % 2 ^ 64))

/-! ### Discipline sources (R35 … R38) -/

/-- The priority list of DCK_SRC. -/
def srcList (src : Nat) : List Nat :=
  [bitsOf src 3 0, bitsOf src 7 4, bitsOf src 11 8, bitsOf src 15 12].filter (· ≠ 0)

/-- Ranges of the three words (R59). -/
def dckSourceOk (src ref ctrl : Nat) : Bool :=
  let l := srcList src
  decide (l.Nodup) && l.all (· ≤ 5) && decide (bitsOf src 23 16 ≤ 60) && decide (bitsOf ref 31 24 ≤ 127) &&
    decide (1 ≤ bitsOf ctrl 15 8 ∧ bitsOf ctrl 15 8 ≤ 200) &&
    (bitsOf ref 15 8 == 0 || Config.genFormat (BitVec.ofNat 8 (bitsOf ref 15 8)))

/-- The listed source of highest priority that is usable. -/
def State.firstUsable (s : State) : Option Nat := (srcList (s.rd .DCK_SRC)).find? fun x => s.dck.present.contains x

/-- The rate correction in effect never exceeds SLEW_LIMIT ppm, in the units of DCK_FREQ_ERR (R33, R60). -/
def State.slewBound (s : State) : Int := s.get .DCK_CTRL_SLEW_LIMIT * 10000

def State.boundRate (s : State) : State :=
  s.wr .DCK_FREQ_ERR (max (-s.slewBound) (min s.slewBound (BitVec.ofNat 32 (s.rd .DCK_FREQ_ERR)).toInt) % 2 ^ 32).toNat

/-- Where a source stands in the priority list; behind all of it where it is not listed. -/
def State.srcRank (s : State) (x : Nat) : Nat := (srcList (s.rd .DCK_SRC)).findIdx (· == x)

/-- A change of STATE with the source it names, and its notices (R35, R64). -/
def State.setClock (s : State) (state src : Nat) : State :=
  let old := s.dckState
  let s := (s.set .DCK_STATUS_STATE state).set .DCK_STATUS_ACTIVE_SRC src
  let s := s.modDck fun d => { d with holdoverSince := if state = dckHoldover then d.holdoverSince.or (some s.now) else none }
  let s := if state = dckHoldover ∧ old ≠ dckHoldover then s.raise .DCK_EVT_HOLDOVER else s
  if state = old then s else s.notify .clockState state

/-- The list or what is usable has changed: ACQUIRE on the first usable source where it is not the one followed; none is usable: FREE.
In HOLDOVER a source below the lost one waits for SWITCH_DELAY; the lost one, or one above it, is switched back to (R37; log 78). -/
def State.reselect (s : State) : State :=
  match s.firstUsable with
  | some x =>
    if s.dckState = dckHoldover then (if s.srcRank x ≤ s.srcRank s.dck.lost then s.setClock dckAcquire x else s)
    else if x = s.get .DCK_STATUS_ACTIVE_SRC then s else s.setClock dckAcquire x
  | none => if s.dckState = dckHoldover ∧ !(srcList (s.rd .DCK_SRC)).isEmpty then s else s.setClock dckFree 0

/-- What a change of DCK_SRC, DCK_REF_CFG or DCK_CTRL makes of the clock: its rate within the new SLEW_LIMIT, its source by the new list
(R33, R37). -/
def State.clockSet (s : State) : State := s.boundRate.reselect

def pktDckSourceSet (src ref ctrl : BitVec 32) : Packet where
  opcode := 0x0302
  cls := .configure
  params := fun _ => need (dckSourceOk src.toNat ref.toNat ctrl.toNat) .DCK_BAD_SOURCE
  rights := dckGlobal .configure
  run := fun _ s => .done .empty (((s.writeWord none .DCK_SRC src.toNat 0 0).writeWord none .DCK_REF_CFG ref.toNat 0 0).writeWord
    none .DCK_CTRL ctrl.toNat 0 0).clockSet

def State.srcListed (s : State) (x : Nat) : Bool := (srcList (s.rd .DCK_SRC)).contains x

def State.srcPresent (s : State) (x : Nat) : State :=
  if s.dck.present.contains x then s else s.modDck fun d => { d with present := d.present ++ [x] }

/-- SOURCE_PRESENT: while FREE the clock enters ACQUIRE on the first usable source (R35); in the other states the source is one that has
become usable (R37). -/
def evSourcePresent (src : Nat) (s : State) : Out' :=
  let s := s.srcPresent src
  .next (if s.srcListed src then s.reselect else s)

/-- SOURCE_RETURN: a source higher in the list than the active one is switched back to (R37). -/
def evSourceReturn (src : Nat) (s : State) : Out' :=
  let s := s.srcPresent src
  .next (if s.srcListed src then s.reselect else s)

/-- DCK_PHASE_ERR for a phase error in ps: signed 32 bits, and a free value for an error they do not hold (R60; log 77). -/
def phaseWord (phase : Int) : Nat :=
  if -(2 ^ 31) ≤ phase ∧ phase < 2 ^ 31 then (phase % 2 ^ 32).toNat else (Config.phaseShown phase).toNat

/-- DCK_FREQ_ERR for a rate correction in units of 0.1 ppb, within the bound of R33. -/
def State.rateWord (s : State) (freq : Int) : Nat := (max (-s.slewBound) (min s.slewBound freq) % 2 ^ 32).toNat

/-- LOCK_GAINED: the source being acquired is LOCKED, with a step where it is the first lock, STEP_ON_LOCK asks for one and R34 allows
it. The first lock is the first of any source since reset (log 77). -/
def evLockGained (src : Nat) (phase freq : Int) (s : State) : Out' :=
  .next <| if s.dckState ≠ dckAcquire ∨ src ≠ s.get .DCK_STATUS_ACTIVE_SRC then s else
    let first := !s.dck.everLocked
    let s := (s.setClock dckLocked src).raise .DCK_EVT_LOCK_GAINED
    let s := (s.wr .DCK_PHASE_ERR (phaseWord phase)).wr .DCK_FREQ_ERR (s.rateWord freq)
    let s := s.modDck fun d => { d with everLocked := true }
    if first ∧ s.flag .DCK_CTRL_STEP_ON_LOCK ∧ 1000000000 < phase.natAbs ∧ s.mayStep
    then s.stepTo (Config.stepAtLock phase s.now).toNat else s

/-- LOCK_LOST: loss of the active source (R37): HOLDOVER, in which ACTIVE_SRC is 0 (log 78); a clock that was never locked has no
correction to hold. -/
def evLockLost (s : State) : Out' :=
  let st := s.dckState
  .next <| if st = dckFree ∨ st = dckHoldover then s else
    let x := s.get .DCK_STATUS_ACTIVE_SRC
    let s := (s.modDck fun d => { d with present := d.present.filter (· ≠ x), lost := x }).raise .DCK_EVT_LOCK_LOST
    if st = dckLocked ∨ s.dck.everLocked then s.setClock dckHoldover 0
    else match s.firstUsable with
      | some y => s.setClock dckAcquire y
      | none => s.setClock dckFree 0

/-- SWITCH_DELAY_EXPIRY: HOLDOVER has lasted SWITCH_DELAY seconds (R37). -/
def evSwitchDelayExpiry (s : State) : Out' :=
  .next <| if s.dckState ≠ dckHoldover ∨ !s.flag .DCK_CTRL_AUTO_FALLBACK then s else
    match s.firstUsable with
    | some y => s.setClock dckAcquire y
    | none => s

/-- Whether the fallback of R37 is due. -/
def State.fallbackDue (s : State) : Bool :=
  s.flag .DCK_CTRL_AUTO_FALLBACK && s.firstUsable.isSome &&
    s.dck.holdoverSince.any fun t => decide (t + s.get .DCK_SRC_SWITCH_DELAY * 300000000 ≤ s.now)

/-- A failed cross-check window (R39). -/
def State.crossCheckFail (s : State) (count : Nat) : State :=
  ((s.raise .DCK_EVT_XCHK_FAIL).set .DCK_STATUS_XCHK_OK 0).report 0x0D count 0

def evXchkWindow (count : Nat) (s : State) : Out' :=
  .next (if 297000 ≤ count ∧ count ≤ 303000 then (s.set .DCK_STATUS_XCHK_OK 1).passed 0x0D else s.crossCheckFail count)

def pktDckInfo : Packet where
  opcode := 0x0301
  length := some 0
  run := fun _ s => .done (.values [s.rd .DCK_STATUS, s.now, s.rd .DCK_PHASE_ERR, s.rd .DCK_FREQ_ERR,
    s.get .DCK_STATUS_ACTIVE_SRC]) s

/-! ### Timecode (R40 … R44, R60) -/

/-- RATE and DROP_FRAME of a DCK_TC_CFG value (R41). -/
def tcCfgOk (cfg : Nat) : Bool :=
  let rate := bitsOf cfg 3 0
  decide (rate ≤ 5) && (bitsOf cfg 5 5 == 0 || (bitsOf cfg 4 4 == 1 && (rate == 2 || rate == 5)))

/-- A configuration with an anchor label (R41). -/
def tcPairOk (cfg label : Nat) : Bool :=
  tcCfgOk cfg && labelValid (tcRate (bitsOf cfg 3 0)) (bitsOf cfg 5 5 == 1) label

/-- A label against the configuration in effect. -/
def State.labelOk (s : State) (label : Nat) : Bool := labelValid (tcRate (s.get .DCK_TC_CFG_RATE)) (s.flag .DCK_TC_CFG_DROP_FRAME) label

/-- The timecode frame period in effect. -/
def State.tcFrame (s : State) : Nat := tcPeriod (s.get .DCK_TC_CFG_RATE) (s.flag .DCK_TC_CFG_PULLDOWN)

/-- Whether this tick is a frame boundary of the generator: frames count from the anchor, or from the tick a changed frame
period took effect (R40, R60; log 76). -/
def State.tcBoundary (s : State) : Bool :=
  match s.dck.tcBase with
  | some b => (s.now - b) % s.tcFrame == 0
  | none => s.anchor.boundary s.now

/-- The anchor in effect changes. -/
def State.setAnchor (s : State) (label time : Nat) : State :=
  ((s.wr .DCK_TC_ANCHOR label).wr64 .DCK_TC_ANCHOR_TIME_LO .DCK_TC_ANCHOR_TIME_HI time).modDck fun d => { d with tcBase := none }

/-- A jam starts to wait for LTC_IN: at most 4 frame periods (R43). -/
def State.startJam (s : State) : State := s.modDck fun d => { d with jam := some (s.now + 4 * s.tcFrame) }

def pktTcSet (cfg anchor : BitVec 32) (time : Nat) (ub : BitVec 32) (jam : Bool) : Packet where
  opcode := 0x0307
  cls := .configure
  params := fun _ => need (if jam then tcCfgOk cfg.toNat else tcPairOk cfg.toNat anchor.toNat) .DCK_BAD_ENTRY
  rights := dckGlobal .configure
  run := fun _ s =>
    let s := (s.shadowWr .tc .DCK_TC_CFG cfg.toNat).shadowWr .tc .DCK_LTC_OUT_UB ub.toNat
    .done .empty (if jam then s.startJam else
      ((s.shadowWr .tc .DCK_TC_ANCHOR anchor.toNat).shadowWr .tc .DCK_TC_ANCHOR_TIME_LO (time % 2 ^ 32)).shadowWr .tc
        .DCK_TC_ANCHOR_TIME_HI (time / 2 ^ 32 % 2 ^ 32))

/-- LTC_OUT at a frame boundary: it begins the frame of this label with the user bits of DCK_LTC_OUT_UB while LTC_OUT_EN is 1 (R41). -/
def State.ltcFrame (s : State) : State :=
  let f : LtcFrame := ⟨s.labelAt s.now, s.rd .DCK_LTC_OUT_UB, s.now⟩
  s.modDck fun d => { d with ltcOut := if s.flag .DCK_TC_CFG_LTC_OUT_EN then some f else none }

/-- The generator's frame boundary: shadowed words take effect; reception starts to count where LTC_IN_EN becomes 1; LTC_OUT begins its
next frame (R41, R44, R60). LTC_PRESENT keeps its value where LTC_IN_EN becomes 0 (DESIGN CHOICE, log 76). -/
def State.tcCommit (s : State) : State :=
  let was := s.flag .DCK_TC_CFG_LTC_IN_EN
  let frame := s.tcFrame
  let old := s.anchor
  let s := s.commit .tc
  let s := if s.flag .DCK_TC_CFG_LTC_IN_EN && !was then s.modDck fun d => { d with ltcSince := s.now, ltcLost := false } else s
  let s := if s.tcFrame ≠ frame then s.modDck fun d => { d with tcBase := some s.now }
    else if s.anchor ≠ old then s.modDck fun d => { d with tcBase := none } else s
  s.ltcFrame

def evTcFrameBoundary (s : State) : Out' := .next s.tcCommit

/-- The label after a label. -/
def State.labelAfter (s : State) (label : Nat) : Nat :=
  let rate := tcRate (s.get .DCK_TC_CFG_RATE)
  let drop := s.flag .DCK_TC_CFG_DROP_FRAME
  framesLabel rate drop (labelFrames rate drop label + 1)

/-- LTC_FRAME_DECODED: `boundary` is the deal time at which the following LTC_IN frame boundary is due (R43, R44). -/
def evLtcFrameDecoded (label ub : BitVec 32) (boundary : Nat) (s : State) : Out' :=
  .next <| if !s.flag .DCK_TC_CFG_LTC_IN_EN then s else
    let s := if s.dck.ltcSeen ∧ label.toNat ≠ s.labelAfter (s.rd .DCK_LTC_IN) then s.raise .DCK_EVT_LTC_DISCONT else s
    let s := ((s.wr .DCK_LTC_IN label.toNat).wr .DCK_LTC_IN_UB ub.toNat).set .DCK_STATUS_LTC_PRESENT 1
    let jam := s.dck.jam
    let s := s.modDck fun d => { d with ltcSince := s.now, ltcLost := false, ltcSeen := true, jam := none }
    if jam.isSome then s.setAnchor (s.labelAfter label.toNat) boundary else s

/-- LTC_LOSS: 4 frame periods without a decoded frame, once per loss (R44). -/
def evLtcLoss (s : State) : Out' :=
  .next <| if !s.flag .DCK_TC_CFG_LTC_IN_EN || s.dck.ltcLost then s else
    (((s.raise .DCK_EVT_LTC_LOST).set .DCK_STATUS_LTC_PRESENT 0)).modDck fun d => { d with ltcLost := true }

def State.ltcLossDue (s : State) : Bool :=
  s.flag .DCK_TC_CFG_LTC_IN_EN && !s.dck.ltcLost && decide (s.dck.ltcSince + 4 * s.tcFrame ≤ s.now)

/-- JAM_TIMEOUT: the jam fails and the anchor stays (R43). -/
def evJamTimeout (s : State) : Out' :=
  .next (if s.dck.jam.isNone then s else (s.modDck fun d => { d with jam := none }).raise .DCK_EVT_LTC_LOST)

/-! ### The actions of DP95 (R54) -/

def evTcJam (s : State) : Out' := .next s.startJam

def evTcAnchor (label : BitVec 32) (s : State) : Out' :=
  .next (if s.labelOk label.toNat then s.setAnchor label.toNat s.now else s)

/-- PPS_OUT is high until the later of two ends. -/
def evPpsPulse (width : BitVec 32) (s : State) : Out' :=
  .next (s.modDck fun d => { d with ppsHighUntil := max d.ppsHighUntil (s.now + width.toNat) })

def evWclkStart (rate : BitVec 32) (s : State) : Out' :=
  .next (s.modDck fun d => { d with wclk := some (rate.toNat, s.now) })

def evWclkStop (s : State) : Out' := .next (s.modDck fun d => { d with wclk := none })

/-! ### Deal entries (R46, R47, R54) -/

/-- An action is listed for a port. -/
def actionOn (p a : Nat) : Bool :=
  if p < 8 then decide (0x10 ≤ a ∧ a ≤ 0x12)
  else if p < 16 then a == 0x14 || a == 0x15
  else if p < 24 then a == 0x18
  else if p = 24 then a == 0x20 || a == 0x21
  else if p = 25 then a == 0x21
  else if p < 28 then a == 0x28 || a == 0x29
  else if p = 28 then a == 0x2C
  else if p < 37 then a == 0x30 || a == 0x31
  else if p < 41 then decide (0x38 ≤ a ∧ a ≤ 0x3A)
  else if p < 45 then decide (0x40 ≤ a ∧ a ≤ 0x42)
  else if p = 45 then a == 0x48
  else if p < 50 then decide (0x50 ≤ a ∧ a ≤ 0x52)
  else if p < 58 then a == 0x58 || a == 0x59
  else if p < 74 then decide (0x60 ≤ a ∧ a ≤ 0x63)
  else if p < 82 then a == 0x68 || a == 0x69
  else if p < 84 then decide (0x70 ≤ a ∧ a ≤ 0x72)
  else if p < 87 then decide (0x78 ≤ a ∧ a ≤ 0x7A)
  else if p = 95 then decide (0x01 ≤ a ∧ a ≤ 0x05)
  else false

/-- The fixed ranges of TARGET and ARG (R54); the label of TC_ANCHOR against the configuration in effect (R41). -/
def State.entryRange (s : State) (e : Entry) : Bool :=
  let t := e.target
  let a := e.arg
  match e.action with
  | 0x02 => s.labelOk a
  | 0x03 => decide (1 ≤ a ∧ a ≤ 150000000)
  | 0x14 => decide (t < 2)
  | 0x15 => decide (t < 2)
  | 0x18 => decide (t < 32 ∧ a < 16)
  | 0x20 => decide (a < 8)
  | 0x21 => decide (t < 8 ∧ a < 2)
  | 0x28 => decide (t < 8 ∧ a < 2)
  | 0x29 => decide (t < 8 ∧ a < 2)
  | 0x2C => decide (t < 8 ∧ a < 2)
  | 0x38 => decide (t < 8)
  | 0x39 => decide (t < 8)
  | 0x3A => decide (t < 8)
  | 0x40 => decide (t < 8)
  | 0x41 => decide (t < 8)
  | 0x42 => decide (t < 8)
  | 0x48 => decide (t < 2)
  | 0x50 => decide (t < 24)
  | 0x51 => decide (t < 24 ∧ a < 3)
  | 0x52 => decide (t < 24)
  | 0x59 => decide (a < 8)
  | 0x69 => decide (t < 64)
  | 0x72 => decide (a < 65536)
  | 0x7A => decide (t < 64 ∧ 1 ≤ a)
  | _ => true

/-- The handle of a kernel's start or stop is current (R188). -/
def State.entryHandle (s : State) (e : Entry) : Status :=
  if e.action = 0x30 ∨ e.action = 0x31 then need (s.kernelOf e.arg).isSome .ENG_BAD_HANDLE else .DONE

/-- The checks of one entry (R47, R59, R188). -/
def State.entryStatus (s : State) (p : Nat) (e : Entry) : Status :=
  if 96 ≤ p then .DCK_BAD_PORT
  else if !actionOn p e.action then .DCK_BAD_ACTION
  else firstFail [need (e.reservedOk && (e.period == 0 || decide (64 ≤ e.period)) && (e.period != 0 || e.reps == 0) && e.tag != 0xFFFF &&
    s.entryRange e) .DCK_BAD_ENTRY, s.entryHandle e]

/-- The second magazines of a stream's mirrored takes whose primary magazine is `m` (R264, R265). -/
def State.mirrorsOf (s : State) (stream m : Nat) : List Nat :=
  (List.range 16).filterMap fun k =>
    let x := s.take k
    if 1 ≤ x.state ∧ x.state ≤ 3 ∧ x.stream = stream ∧ x.primary = m then x.secondary else none

/-- The rights an entry's action needs on what it acts upon: as its chapter names them, else the class of its packet form, else
Configure (R46, R85). -/
def State.actionRights (s : State) (p : Nat) (e : Entry) : List Right :=
  let t := e.target
  let cfg := fun id => [(⟨.configure, .res id⟩ : Right)]
  let med := fun (c : Cls) => (⟨c, .res (res 7 t)⟩ : Right) :: ((p - 41) :: s.mirrorsOf t (p - 41)).map fun m => ⟨c, .res (res 3 m)⟩
  if p < 16 then cfg (res 1 (p % 8))
  else if p < 24 then [⟨.use, .res (res 12 t)⟩]
  else if e.action = 0x20 then cfg (globalRes 5)
  else if e.action = 0x28 then cfg (res 2 t)
  else if p < 29 then cfg (res 1 t)
  else if p < 37 then kernelRights e.arg 0 s
  else if p < 41 then cfg (res 7 t)
  else if p < 45 then med (if e.action = 0x42 then .use else .configure)
  else if p = 45 then cfg (globalRes 0x0B)
  else if p < 50 then cfg (res 11 t)
  else if p < 58 then
    cfg (res 2 (p - 50)) ++ (if e.action = 0x59 ∧ e.arg ≠ p - 50 then [⟨.use, .res (res 2 (e.arg % 8))⟩] else [])
  else if p < 74 then cfg (res 4 (p - 58))
  else if e.action = 0x68 then cfg (res 6 p)
  else if p < 82 then cfg (res 13 t)
  else if p < 84 then cfg (res 9 (p - 82))
  else if e.action = 0x78 then [⟨.use, .res (globalRes 0x11)⟩]
  else if e.action = 0x7A then cfg (globalRes 0x11)
  else if p = 95 then cfg (globalRes 3)
  else []

/-- The rights of an entry: Use of its port and the action's (R46). -/
def State.entryRights (s : State) (p : Nat) (e : Entry) : List Right := ⟨.use, portTarget p⟩ :: s.actionRights p e

/-- No port is taken past 64 entries (R51). -/
def State.roomFor (s : State) (es : List (Nat × Entry)) : Bool :=
  (List.range 96).all fun p =>
    let n := (es.filter fun x => x.1 == p).length
    n == 0 || decide ((s.queue p).length + n ≤ 64)

def State.insertEntries (s : State) (host : Nat) (es : List (Nat × Entry)) : State :=
  es.foldl (fun s (p, e) => s.enqueue p (newEntry e host s.now none)) s

def pktDealQueue (es : List (Nat × Entry)) : Packet where
  opcode := 0x0304
  cls := .use
  length := some (28 * es.length)
  params := fun s => firstFail (need (decide (1 ≤ es.length ∧ es.length ≤ 64)) .BAD_LENGTH :: es.map fun (p, e) => s.entryStatus p e)
  rights := fun _ s => es.flatMap fun (p, e) => s.entryRights p e
  checks := fun _ s => need (s.roomFor es) .DCK_QUEUE_FULL
  run := fun via s => .done (.values [s.now]) (s.insertEntries (slotOf via) es)

/-- The entry in DCK_STAGE. -/
def State.stagedEntry (s : State) : Entry :=
  let w := fun k => BitVec.ofNat 32 (s.rd .DCK_STAGE k)
  ⟨w 0, w 1, w 2, w 3, w 4, w 5⟩

/-- A write of DCK_PUSH by the host in a slot: a one-entry DEAL_QUEUE whose status stays in PUSH_RESULT (R60). -/
def State.push (s : State) (slot value : Nat) : State :=
  let p := bitsOf value 6 0
  let e := s.stagedEntry
  let t := firstFail [s.entryStatus p e, s.judgeAll slot (s.entryRights p e), need (s.roomFor [(p, e)]) .DCK_QUEUE_FULL]
  let t := if t = .CPI_MASTER_ONLY then .NOT_OWNER else t
  let s := if t = .DONE then s.insertEntries slot [(p, e)] else s
  s.set .DCK_PUSH_RESULT_STATUS t.code

def evDckPush (slot : Fin 8) (value : BitVec 32) (s : State) : Out' := .next (s.push slot.val value.toNat)

/-! ### Operations on a port (R46, R55) -/

def portOk (p : Nat) : Status := need (decide (p < 96)) .DCK_BAD_PORT

/-- A scheduled packet removed from its port gets its final reply (R46, R57). -/
def State.dropTaken (s : State) (t : Status) (d : Taken) : State := s.finalReply d.via d.seq d.opcode false t .empty

/-- DEAL_CANCEL at its cut point: what launched on it is not reported removed (R55). -/
def State.cancelPort (s : State) (p tag : Nat) : List Nat × State :=
  let hit := fun (e : QEntry) => tag == 0xFFFF || e.entry.tag == tag
  let (gone, kept) := (s.queue p).partition hit
  let tags := (s.dck.launches.filter fun l => l.1 == s.now && l.2.1 == p && (tag == 0xFFFF || l.2.2 == tag)).map (·.2.2)
  let removed := gone.filter fun e => e.last != some s.now
  let s := s.putQueue p kept
  let s := (gone.filterMap (·.packet)).foldl (fun s d => s.dropTaken .DCK_CANCELLED d) s
  ([s.now, removed.length] ++ tags, s)

def pktDealCancel (port tag : Nat) : Packet where
  opcode := 0x0305
  cls := .configure
  params := fun _ => firstFail [portOk port, need (!(decide (87 ≤ port ∧ port < 95)) || tag == 0xFFFF) .DCK_BAD_ENTRY]
  rights := fun _ _ => [⟨.configure, portTarget port⟩]
  run := fun _ s => let (v, s) := s.cancelPort port tag
    .done (.values v) s

def pktDealPortSet (port : Nat) (ctrl : BitVec 32) : Packet where
  opcode := 0x0306
  cls := .configure
  params := fun _ => portOk port
  rights := fun _ _ => [⟨.configure, portTarget port⟩]
  run := fun _ s => .done .empty (s.writeWord none .DCK_PORT_CTRL ctrl.toNat port 0)

/-- The words of a queued entry, with its next due time as TIME. -/
def QEntry.listed (e : QEntry) : List Nat :=
  [e.key % 2 ^ 32, e.key / 2 ^ 32, e.entry.w2.toNat, e.entry.w3.toNat, e.entry.w4.toNat, e.entry.w5.toNat]

/-- DEAL_LIST: on DP87 + n from slot n and H0 only (R46). -/
def pktDealList (port : Nat) : Packet where
  opcode := 0x0308
  params := fun _ => portOk port
  rights := fun _ _ => if 87 ≤ port ∧ port < 95 then [⟨.use, portTarget port⟩] else []
  run := fun _ s => .done (.values ((s.queue port).flatMap QEntry.listed)) s

/-- DEAL_MISSED: the missed occurrences of a port under their policies; a dropped packet's final reply is DCK_MISSED (R50, R56). -/
def State.missed (s : State) (p : Nat) : State :=
  let (s, dropped) := s.missPort p
  dropped.foldl (fun s d => s.dropTaken .DCK_MISSED d) s

/-- No launch after POWER_FAIL, and so none missed (R53). -/
def State.dealsStopped (s : State) : Bool := s.val.powerFail.isSome

def evDealMissed (port : Fin 96) (s : State) : Out' := .next (if s.dealsStopped then s else s.missed port.val)

end Sys2Proof.Machine
end

