-- ==== Sys2Proof/Machine/Chan.lean ====
section
/-!
DEFINITION. The media command channel (12): task submission and acceptance, the tasks, completion records, queue resets, link
loss, power states, storage target mode.
-/
namespace Sys2Proof.Machine

/-! ### Task OPs (R303) -/

def opRead : Nat := 1
def opWrite : Nat := 2
def opFlush : Nat := 3
def opTrim : Nat := 4
def opIdentify : Nat := 5
def opPower : Nat := 6

def Task.ranged (t : Task) : Bool := t.op == opRead || t.op == opWrite || t.op == opTrim
def Task.writes (t : Task) : Bool := t.op == opWrite || t.op == opTrim

/-- The task in a register set as magazine and task (R306). -/
def State.taskRegs (s : State) (n : Nat) : Nat × Task :=
  (s.get .MED_T_CMD_MAG n, {
    host := n, op := s.get .MED_T_CMD_OP n, flush := s.flag .MED_T_CMD_FLUSH n, tag := s.get .MED_T_CMD_TAG n, lba := s.rd .MED_T_LBA n
    count := s.rd .MED_T_COUNT n, buf := s.rd64 .MED_T_BUF_LO .MED_T_BUF_HI n })

/-- A host's outstanding tasks on a magazine. -/
def State.outstanding (s : State) (n m : Nat) : List Task := (s.magz m).queue.filter (·.host == n)

/-- MED_T_STAT and MED_M_CH show the queues. -/
def State.showQueues (s : State) (n m : Nat) : State :=
  let f := fun k => (s.outstanding n k).length * 64 ^ k
  (s.set .MED_T_STAT_OUTSTANDING (f 0 + f 1 + f 2 + f 3) n).set .MED_M_CH_QUEUED (s.magz m).queue.length m

/-! ### Completion records (R292) -/

/-- Records in a host's ring that it has not taken. -/
def State.cqUsed (s : State) (n : Nat) : Nat := (s.get .MED_T_CQ_TAIL_INDEX n + 512 - s.get .MED_T_CQ_HEAD_INDEX n) % 512

/-- Tasks of a host outstanding on any magazine. -/
def State.tasksOf (s : State) (n : Nat) : Nat := ((List.range 4).map fun m => (s.outstanding n m).length).foldl (· + ·) 0

/-- Sessions that have ended with tasks still accepted go by numbers from 8 on (R300). -/
def isFormer (n : Nat) : Bool := decide (8 ≤ n)

/-- Write a record: nothing is written into a ring that is full or not set up. The ring of a session that has ended takes what room it had
left, and no register or signal shows it (R292, R300; log 121). -/
def State.cqWrite (s : State) (n : Nat) (r : CqRecord) : State :=
  let h := s.host n
  if isFormer n then
    if !h.cqSet || h.cqRoom == 0 then s else s.setHost n { h with completions := h.completions ++ [r], cqRoom := h.cqRoom - 1 }
  else if !h.cqSet || decide (256 ≤ s.cqUsed n) then s else
  let s := s.setHost n { h with completions := h.completions ++ [r] }
  let s := (s.set .MED_T_CQ_TAIL_INDEX (s.get .MED_T_CQ_TAIL_INDEX n + 1) n).pulseSource (0x50 + n)
  if h.msi then
    { s with cpi := { s.cpi with msix := tmod 0 s.cpi.msix (n * 4 + 2) (· + 1) } } else s

/-- The record's bytes. -/
def CqRecord.bytes (r : CqRecord) : List Byte :=
  let b := le 2 0x4D51 ++ le 1 r.op ++ le 1 (r.mag * 64 + (if r.flush then 32 else 0) + r.tag) ++ le 2 r.status.code ++
    le 1 ((if r.forced then 1 else 0) + (if r.durable then 2 else 0)) ++ [0] ++ le 4 r.lba ++ le 4 r.count ++ le 8 r.tick ++ le 4 0
  b ++ le 4 (crc32c b)

/-- The record of a task. -/
def State.taskRecord (s : State) (m : Nat) (t : Task) (st : Status) (durable : Bool) (count : Nat) : State :=
  s.cqWrite t.host ⟨t.op, m, t.flush, t.tag, st, t.forced && durable, durable, t.lba, count, s.now⟩

/-- A task leaves its queue with its record, and its TAG counts as completed (R292, R298). -/
def State.finishTask (s : State) (m : Nat) (t : Task) (st : Status) (durable : Bool) (count : Nat) : State :=
  let s := s.modMag m fun k => { k with queue := k.queue.filter fun q => q.host != t.host || q.tag != t.tag }
  let s := s.taskRecord m t st durable count
  if isFormer t.host then s.set .MED_M_CH_QUEUED (s.magz m).queue.length m else
  let s := s.showQueues t.host m
  let i := t.host * 4 + m
  { s with med := { s.med with recorded := tmod 0 s.med.recorded i fun w => w ||| 2 ^ t.tag } }

/-- Change a task in its queue. -/
def State.modTask (s : State) (m : Nat) (t : Task) (g : Task → Task) : State :=
  s.modMag m fun k => { k with queue := k.queue.map fun q => if q.host = t.host ∧ q.tag = t.tag then g q else q }

/-- A task comes to its end: its record is due on this tick, whose end writes it (R298). -/
def State.endTask (s : State) (m : Nat) (t : Task) (st : Status) (durable : Bool) (count : Nat) : State :=
  s.modTask m t fun q => { q with forced := t.forced, ending := some (st, durable, count) }

/-- The records due on a tick are written at its end: a queue reset on the tick comes ahead of them (R298; log 122). -/
def State.writeRecords (s : State) : State :=
  (List.range 4).foldl (fun s m => (s.magz m).queue.foldl (fun s t => match t.ending with
    | none => s
    | some (st, durable, count) => s.finishTask m t st durable count) s) s

/-! ### Submission and acceptance (R288 … R291) -/

/-- Blocks a magazine offers (R287). -/
def State.blocks (s : State) (m : Nat) : Nat := s.get .MED_M_USER_U m * 32 * 512

/-- Blocks of a task's buffer. -/
def Task.bufBlocks (t : Task) : Nat := if t.op = opRead ∨ t.op = opWrite then t.count else if t.op = opIdentify then 1 else 0

/-- A buffer that the host's transport reaches: for a host that is not on PCIe, within its media buffer (R303). -/
def State.bufOk (s : State) (t : Task) : Bool :=
  t.bufBlocks == 0 || s.get .CPI_SLOT_STATE_TRANSPORT t.host == 1 ||
  (let base := Config.moduleAddr 3 t.host
   decide (base ≤ t.buf ∧ t.buf + t.bufBlocks * 4096 ≤ base + (s.host t.host).bufMib * mib))

/-- Check 1 of R288. -/
def State.taskShape (s : State) (cmd : Nat) (t : Task) : Bool :=
  decide (1 ≤ t.op ∧ t.op ≤ 6) && bitsOf cmd 15 0 == 0 && (match t.op with
    | 3 => t.count == 0
    | 5 => t.count == 1
    | 6 => decide (t.count ≤ 2)
    | _ => decide (1 ≤ t.count ∧ t.count ≤ 2048)) && s.bufOk t

/-- A granule of a take that is PREPARED, RECORDING or CLOSING (R290). -/
def State.takeGranules (s : State) (m : Nat) : List Nat :=
  (s.takesWhere fun t => decide (1 ≤ t.state ∧ t.state ≤ 3)).flatMap fun t => match (s.take t).side m with
    | none => []
    | some x => if (s.take t).state = 1 then [] else
      let d := (s.magz m).dir x.entry
      runList d.essence ++ runList d.index

/-- Whether a write would touch a busy granule (R290). -/
def State.rangeBusy (s : State) (m : Nat) (t : Task) : Bool :=
  let busy := s.takeGranules m
  (granulesOf t.lba t.count).any fun g => busy.contains g || (decide (g < 64) && s.get .MED_M_POWER_TARGET_MODE m == 0)

/-- The checks of R288 in their order, and that of R301. -/
def State.taskStatus (s : State) (n cmd m : Nat) (t : Task) : Status :=
  let cls : Cls := if t.op = opRead ∨ t.op = opIdentify then .use else .configure
  let readOnlyOk := t.op == opRead || t.op == opIdentify || t.op == opPower
  firstFail [
    need (s.taskShape cmd t) .MED_BAD_TASK,
    need (!(s.outstanding n m).any fun q => q.tag == t.tag) .MED_BAD_TAG,
    need (!t.ranged || decide (t.lba + t.count ≤ s.blocks m)) .MED_BAD_RANGE,
    s.judge n ⟨cls, .res (res 3 m)⟩,
    need (s.magState m == magReady || (readOnlyOk && s.magState m == magReadOnly)) .MED_NOT_READY,
    need (!(t.writes && s.magState m == magReadOnly)) .MED_READ_ONLY,
    need (!(t.writes && s.rangeBusy m t)) .MED_RANGE_BUSY,
    need (!(t.op == opPower && t.count != 0 &&
      !(s.takesWhere fun k => (k.state == 1 || k.state == 2) && k.mags.contains m).isEmpty)) .MED_TAKE_ACTIVE]

/-- A host's ring has an entry beyond those for every task outstanding and for a reset (R289, R298). -/
def State.cqRoomFor (s : State) (n : Nat) : Bool := (s.host n).cqSet && decide (s.cqUsed n + s.tasksOf n + 2 ≤ 256)

/-- Room for a host's task: a queue entry and a ring entry (R289). -/
def State.taskRoom (s : State) (n m : Nat) : Bool := decide ((s.magz m).queue.length < 32) && s.cqRoomFor n

/-- The BUSY task of a register set is accepted once there is room (R289); a POWER_STATE accepted while another is being entered
replaces it, any other task returns its magazine to ACTIVE (R301, R302). -/
def State.acceptTask (s : State) (n : Nat) : State :=
  match tget s.med.loading n with
  | none => s
  | some (m, t) =>
    if !s.taskRoom n m then s else
    let now := s.now
    let s := { s with med := { s.med with loading := tdel s.med.loading n } }
    let s := match (s.magz m).powerTask with
      | some old => if t.op = opPower then
          (s.finishTask m old .DISCARDED false old.count).modMag m fun k => { k with powerTask := some { t with accepted := now, started := true } } else s
      | none => if t.op = opPower then s else s.wake m
    let replaced := t.op == opPower && (s.magz m).powerTask.isSome
    let s := if replaced then s.set .MED_M_POWER_TARGET t.count m else s
    let s := s.modMag m fun k => { k with queue := k.queue ++ [{ t with accepted := now, started := replaced }] }
    let s := (s.wr64 .MED_T_ACCEPT_LO .MED_T_ACCEPT_HI now n).set .MED_T_STAT_BUSY 0 n
    let i := n * 4 + m
    let s := { s with med := { s.med with recorded := tmod 0 s.med.recorded i fun w => w - (w &&& 2 ^ t.tag) } }
    (s.showQueues n m).complete (fun w => w == .taskAccept n) .DONE (.values [now])

/-- A write of 1 to MED_T_GO (R288, R289): the status of the first check that fails, else DONE with the task BUSY or accepted. The record of
a task that fails goes into a ring entry that no accepted task and no reset may need, if there is one (R292; log 121). -/
def State.submit (s : State) (n : Nat) : Status × State :=
  if s.flag .MED_T_STAT_BUSY n then (.WRONG_STATE, s.raise .MED_T_STAT_COLLIDE 0 n) else
  let (m, t) := s.taskRegs n
  let st := s.taskStatus n (s.rd .MED_T_CMD n) m t
  if st ≠ .DONE then (st, if s.cqRoomFor n then s.taskRecord m t st false 0 else s) else
  let s := { s with med := { s.med with loading := tins (m, t) s.med.loading n } }
  (.DONE, (s.set .MED_T_STAT_BUSY 1 n).acceptTask n)

def evTaskAccept (slot : Fin 8) (s : State) : Out' := .next (s.acceptTask slot.val)

/-- MED_TASK: the five registers and MED_T_GO (R291). -/
def pktMedTask (cmd lba count bufLo bufHi : BitVec 32) : Packet where
  opcode := 0x0A10
  cls := .none
  checks := fun n s => need (s.get .MED_T_STAT_BUSY n == 0) .WRONG_STATE
  run := fun via s =>
    let n := slotOf via
    let s := ([.MED_T_CMD, .MED_T_LBA, .MED_T_COUNT, .MED_T_BUF_LO, .MED_T_BUF_HI].zip [cmd, lba, count, bufLo, bufHi]).foldl
      (fun s (r, w) => s.writeWord none r w.toNat n 0) s
    let (t, s) := s.submit n
    if t ≠ .DONE then .refuse t s
    else if s.flag .MED_T_STAT_BUSY n then .wait (.taskAccept n) s
    else .done (.values [s.now]) s

/-! ### The tasks (R290 … R296, R303) -/

/-- Whether two tasks' block ranges overlap. -/
def Task.overlaps (a b : Task) : Bool := a.ranged && b.ranged && decide (a.lba < b.lba + b.count ∧ b.lba < a.lba + a.count)

/-- The task of a host and tag in a magazine's queue that may run now: not started, and no earlier task overlaps it (R291). -/
def State.runnable (s : State) (m n tag op : Nat) : Option Task :=
  let q := (s.magz m).queue
  let before := q.takeWhile fun t => !(t.host == n && t.tag == tag)
  (q.find? fun t => t.host == n && t.tag == tag).filter fun t => t.op == op && !t.started && !before.any t.overlaps

/-- A block as the channel's earlier writes leave it, else as NAND holds it, and whether its LDPC code failed (R261, R287, R291). -/
def Mag.readBlock (k : Mag) (fresh b : Nat) : List Byte × Bool :=
  match k.staged.reverse.find? fun x => decide (x.lba ≤ b ∧ b < x.lba + x.count) with
  | some x => (match x.data with
    | some bs => slice bs ((b - x.lba) * 4096) 4096
    | none => List.replicate 4096 0, false)
  | none => k.readGranule fresh (b / 512) (b % 512 * 4096) 4096

/-- READ: the blocks as the channel's earlier writes leave them (R290, R291); one whose LDPC code fails comes as read (R261). -/
def evRead (slot : Fin 8) (mag : Fin 4) (tag : Fin 32) (s : State) : Out' :=
  let m := mag.val
  .next <| match s.runnable m slot.val tag.val opRead with
  | none => s
  | some t =>
    let (n, s) := s.draw
    let blocks := (List.range t.count).map fun i => (s.magz m).readBlock n (t.lba + i)
    s.modTask m t fun q => { q with started := true, data := blocks.flatMap (·.1), damaged := blocks.any (·.2) }

/-- A write or trim comes into staging. -/
def State.stage (s : State) (m : Nat) (t : Task) (data : Option (List Byte)) : State :=
  (s.modTask m t fun q => { q with started := true }).modMag m fun k => { k with
    staged := k.staged ++ [⟨k.nextStaged, t.host, t.tag, t.lba, t.count, data, none, granulesOf t.lba t.count, []⟩]
    nextStaged := k.nextStaged + 1 }

/-- WRITE: the data from the host's buffer comes into staging (R293). -/
def evWrite (slot : Fin 8) (mag : Fin 4) (tag : Fin 32) (data : List Byte) (s : State) : Out' :=
  .next <| match s.runnable mag.val slot.val tag.val opWrite with
  | none => s
  | some t => s.stage mag.val t (some (padTo (t.count * 4096) data))

def evFlush (slot : Fin 8) (mag : Fin 4) (tag : Fin 32) (s : State) : Out' :=
  .next <| match s.runnable mag.val slot.val tag.val opFlush with
  | none => s
  | some t => s.modTask mag.val t fun q => { q with started := true }

/-- TRIM: granules covered whole will be unmapped, parts covered zeroed (R296). -/
def evTrim (slot : Fin 8) (mag : Fin 4) (tag : Fin 32) (s : State) : Out' :=
  .next <| match s.runnable mag.val slot.val tag.val opTrim with
  | none => s
  | some t => s.stage mag.val t none

/-- IDENTIFY (R303): the layout of the block is free (log 61). -/
def evIdentify (slot : Fin 8) (mag : Fin 4) (tag : Fin 32) (s : State) : Out' :=
  let m := mag.val
  .next <| match s.runnable m slot.val tag.val opIdentify with
  | none => s
  | some t =>
    let vs := [unle (s.magz m).name, s.get .MED_M_STATE_TOTAL m, s.get .MED_M_USER_U m, s.blocks m, s.magState m, s.get .MED_M_POWER_STATE m,
      s.get .MED_M_POWER_TARGET_MODE m, s.get .MED_M_PENDING_PENDING m, s.get .MED_M_CEIL_CEIL m]
    s.modTask m t fun q => { q with started := true, data := padTo 4096 (Config.identify vs) }

/-- POWER_STATE: entry begins once every task accepted before has completed (R301). -/
def evPowerState (slot : Fin 8) (mag : Fin 4) (tag : Fin 32) (s : State) : Out' :=
  let m := mag.val
  .next <| match s.runnable m slot.val tag.val opPower with
  | none => s
  | some t =>
    if !(((s.magz m).queue.takeWhile fun q => !(q.host == t.host && q.tag == t.tag)).isEmpty) then s else
    let s := (s.modTask m t fun q => { q with started := true }).modMag m fun k => { k with powerTask := some { t with started := true } }
    (s.set .MED_M_POWER_TARGET t.count m).set .MED_M_POWER_ENTERING 1 m

/-- POWER_STATE_REACHED: no other task runs and, for SLEEP, nothing is left to commit (R301, R302). -/
def evPowerStateReached (mag : Fin 4) (s : State) : Out' :=
  let m := mag.val
  .next <| match (s.magz m).powerTask with
  | none => s
  | some t =>
    if 1 < (s.magz m).queue.length ∨ (t.count = 2 ∧ !(s.magz m).quiet) then s else
    let s := if t.count = 2 then s.checkpoint m else s
    let s := s.modMag m fun k => { k with powerTask := none }
    ((s.set .MED_M_POWER_STATE t.count m).set .MED_M_POWER_ENTERING 0 m).endTask m t .DONE false 0

/-- Whether a WRITE or TRIM may complete from staging (R294). -/
def State.stagingOk (s : State) (m : Nat) (t : Task) : Bool :=
  s.holdup && (s.takesWhere fun k => k.state == 2 && k.openOn m).isEmpty &&
  decide (s.pendingBytes m + (granulesOf t.lba t.count).length * granuleBytes ≤ s.get .MED_M_CEIL_CEIL m)

/-- A task of a queue comes to its end if its promise is met; a write that may not complete from staging waits for NAND (R293 …
R296). -/
def State.completeTask (s : State) (m : Nat) (t : Task) : State :=
  if !t.started || t.ending.isSome then s
  else if t.op = opRead ∨ t.op = opIdentify then s.endTask m t (if t.damaged then .MED_READ_ERROR else .DONE) false t.count
  else if t.op = opFlush then
    if (s.magz m).staged.any fun x => x.done.any fun d => decide (d < t.accepted) then s else s.endTask m t .DONE false 0
  else if t.op = opPower then s
  else
    let t := { t with forced := t.forced || !t.flush && !s.stagingOk m t }
    if t.onNand then s.endTask m t .DONE true t.count
    else if t.flush || t.forced then s.modTask m t fun q => { q with forced := t.forced }
    else
      let now := s.now
      let s := s.modMag m fun k => { k with staged := k.staged.map fun (x : Staged) =>
        if x.host = t.host ∧ x.tag = t.tag ∧ x.done.isNone then { x with done := some now } else x }
      (s.endTask m t .DONE false t.count).showPending m

def evTaskComplete (slot : Fin 8) (mag : Fin 4) (tag : Fin 32) (s : State) : Out' :=
  .next <| match (s.magz mag.val).queue.find? fun t => t.host == slot.val && t.tag == tag.val with
  | none => s
  | some t => s.completeTask mag.val t

/-! ### Queue reset (R298, R299) -/

/-- The tags of tasks as a mask. -/
def tagMask (ts : List Task) : Nat := ts.foldl (fun w t => w ||| 2 ^ t.tag) 0

/-- Channel data of a task that has no record yet (R298). -/
def Mag.unrecorded (k : Mag) (x : Staged) : Bool := x.done.isNone || k.queue.any fun t => t.host == x.host && t.tag == x.tag && t.lba == x.lba

/-- A host's channel data without a record is discarded: each granule not yet programmed is programmed all the same or keeps its
contents, which is free (R295, R298; log 54). -/
def State.dropStaged (s : State) (n m : Nat) : State :=
  (s.magz m).staged.foldl (fun s x =>
    if x.host = n && (s.magz m).unrecorded x then
      let s := x.todo.foldl (fun s g =>
        let (f, s) := s.draw
        if Config.discardKeeps f then s.placeStaged m { x with todo := [g] } else s) s
      s.modMag m fun k => { k with staged := k.staged.filter (·.id != x.id) }
    else s) s

/-- One host's part of a reset of a magazine's queue. -/
def State.resetHost (s : State) (m : Nat) (n : Nat) : State × Nat × Nat :=
  let cut := s.now
  let busy := (tget s.med.loading n).filter (·.1 == m)
  let discarded := tagMask (s.outstanding n m ++ (busy.map (·.2)).toList)
  let i := n * 4 + m
  let completed := tgetD 0 s.med.recorded i
  let completed := completed - (completed &&& discarded)
  let s := s.dropStaged n m
  let s := s.modMag m fun k => { k with queue := k.queue.filter (·.host != n), powerTask := k.powerTask.filter (·.host != n) }
  let s := if (s.magz m).powerTask.isNone then s.set .MED_M_POWER_ENTERING 0 m else s
  if isFormer n then
    ((s.set .MED_M_CH_QUEUED (s.magz m).queue.length m).cqWrite n ⟨0x0F, m, false, 0, .DONE, false, false, completed, discarded, cut⟩, completed,
      discarded)
  else
  let s := if busy.isSome then
      let s := { s with med := { s.med with loading := tdel s.med.loading n } }
      (s.set .MED_T_STAT_BUSY 0 n).complete (fun w => w == WaitKind.taskAccept n) .DISCARDED .empty
    else s
  let rec_ : ResetRec := ⟨n, m, cut, completed, discarded⟩
  let s := { s with med := { s.med with recorded := tdel s.med.recorded i, resets := s.med.resets ++ [rec_] } }
  (((s.wr64 .MED_T_CUT_LO .MED_T_CUT_HI cut n).showQueues n m).showPending m, completed, discarded)

/-- A reset by host `n`: with ALL, every host that has a task on the magazine or a completed one, ended sessions among them (R299,
R300). -/
def State.resetQueue (s : State) (n m : Nat) (all : Bool) : State × Nat × Nat :=
  let others := if all then (List.range 8).filter fun k => k != n && (!(s.outstanding k m).isEmpty || tgetD 0 s.med.recorded (k * 4 + m) != 0 ||
    (tget s.med.loading k).any (·.1 == m)) else []
  let former := if all then ((s.magz m).queue.map (·.host)).eraseDups.filter isFormer else []
  ((others ++ former).foldl (fun s k => (s.resetHost m k).1) s).resetHost m n

/-- QUEUE_RESET: a write of MED_T_RESET; ALL needs mastership (R298, R299). -/
def evQueueReset (slot : Fin 8) (value : BitVec 32) (s : State) : Out' :=
  let all := bitsOf value.toNat 4 4 == 1
  .next <| if all && slot.val != 0 then s else (s.resetQueue slot.val (bitsOf value.toNat 1 0) all).1

def pktMedQueueReset (mag all : Nat) : Packet where
  opcode := 0x0A11
  cls := .use
  params := fun _ => need (decide (mag < 4 ∧ all < 2)) .MED_BAD_CONFIG
  rights := fun n s => if all = 0 then magRight .use mag n s else [⟨.assign, .res (res 3 mag)⟩]
  run := fun via s =>
    let (s, c, d) := s.resetQueue (slotOf via) mag (all == 1)
    .done (.values [s.now, c, d]) s

/-- RESET_RECORD: the oldest reset record due to a host (R298). -/
def evResetRecord (slot : Fin 8) (s : State) : Out' :=
  .next <| match s.med.resets.find? (·.host == slot.val) with
  | none => s
  | some r =>
    let s := { s with med := { s.med with resets := s.med.resets.erase r } }
    s.cqWrite r.host ⟨0x0F, r.mag, false, 0, .DONE, false, false, r.completed, r.discarded, r.cut⟩

/-! ### Ring, buffer, target mode (R292, R303, R304) -/

def pktMedCqSet (base : Nat) : Packet where
  opcode := 0x0A12
  cls := .none
  checks := fun n s =>
    if s.get .CPI_SLOT_STATE_TRANSPORT n = 1 ∧ base % 4096 ≠ 0 then .MED_BAD_CONFIG
    else need ((List.range 4).all fun m => (s.outstanding n m).isEmpty) .WRONG_STATE
  run := fun via s =>
    let n := slotOf via
    let pcie := s.get .CPI_SLOT_STATE_TRANSPORT n == 1
    let at_ := if pcie then base else Config.moduleAddr 2 n
    let s := s.setHost n { s.host n with cqSet := true, completions := [] }
    let s := ((s.wr64 .MED_T_CQ_BASE_LO .MED_T_CQ_BASE_HI at_ n).wr .MED_T_CQ_TAIL 0 n).wr .MED_T_CQ_HEAD 0 n
    .done (if pcie then .empty else .values [at_]) s

def pktMedMagTarget (mag on : Nat) : Packet where
  opcode := 0x0A13
  cls := .configure
  params := fun _ => need (decide (mag < 4 ∧ on < 2)) .MED_BAD_CONFIG
  rights := magRight .configure mag
  checks := fun _ s =>
    let t := s.readyStatus mag .MED_READ_ONLY
    if t ≠ .DONE then t else need (s.takesWhere fun k => (k.state == 1 || k.state == 2) && k.mags.contains mag).isEmpty .MED_TAKE_ACTIVE
  run := fun _ s => .done .empty ((s.modMag mag fun k => { k with label := k.label.map fun l => { l with target := on == 1 } }).set
    .MED_M_POWER_TARGET_MODE on mag)

def pktMedBufAlloc (size : Nat) : Packet where
  opcode := 0x0A14
  cls := .none
  params := fun _ => need (decide (size ≤ 1024)) .MED_BAD_CONFIG
  checks := fun n s => need (s.poolFits (.buffer n) n (size * mib)) .MED_NO_POOL
  run := fun via s =>
    let n := slotOf via
    let s := (s.allocate (.buffer n) (size * mib)).setHost n { s.host n with bufMib := size }
    .done (.values (if size = 0 then [] else [Config.moduleAddr 3 n])) s

/-! ### Link loss, lease expiry, power fail (R297, R300) -/

/-- A magazine's link is lost: its takes end, its tasks complete with MED_LINK_LOST, completed writes still in staging are lost
(R277, R300). -/
def State.magLost (s : State) (m : Nat) : State :=
  let s := s.takesLost m
  let lost := ((s.magz m).staged.filter fun x => !(s.magz m).unrecorded x).length
  let s := s.bump .MED_M_CH_LOST_WRITES m lost
  let tasks := (s.magz m).queue
  let s := tasks.foldl (fun s t => s.finishTask m t .MED_LINK_LOST false 0) s
  let s := (s.med.loading.filter fun p => p.2.1 == m).foldl (fun s p =>
    let s := { s with med := { s.med with loading := tdel s.med.loading p.1 } }
    ((s.set .MED_T_STAT_BUSY 0 p.1).taskRecord m p.2.2 .MED_LINK_LOST false 0).complete (fun w => w == .taskAccept p.1) .MED_LINK_LOST .empty) s
  let s := s.modMag m fun k => { k with staged := [], powerTask := none }
  (((s.wr .MED_M_POOL 0 m).wr .MED_M_USER 0 m).wr .MED_M_POWER 0 m).showPending m

/-- A host's BUSY task is discarded with its lease (R300). -/
def State.dropBusy (s : State) (n : Nat) : State :=
  let s := { s with med := { s.med with loading := tdel s.med.loading n } }
  s.set .MED_T_STAT_BUSY 0 n

/-- The tasks a session leaves behind go on under a number of their own, with the ring as the session leaves it (R300; log 121). -/
def State.leaveTasks (s : State) (n : Nat) : State :=
  if s.tasksOf n = 0 then s else
  let k := 8 + s.med.former
  let h := s.host n
  let s := s.setHost k { completions := h.completions, cqSet := h.cqSet, cqRoom := 256 - s.cqUsed n }
  let move := fun (t : Task) => if t.host = n then { t with host := k } else t
  let s := (List.range 4).foldl (fun s m => s.modMag m fun g => { g with
    queue := g.queue.map move, powerTask := g.powerTask.map move
    staged := g.staged.map fun (x : Staged) => if x.host = n then { x with host := k } else x }) s
  { s with med := { s.med with former := s.med.former + 1 } }

/-- A slot is freed: its task register set and completion ring go, its media buffer passes to H0 (R81, R300, R304). -/
def State.freeTaskRegs (s : State) (n : Nat) : State :=
  let s := ((s.dropBusy n).leaveTasks n).passBuffer n
  let s := s.setHost n { s.host n with cqSet := false, completions := [], bufMib := 0 }
  let s := { s with med := { s.med with recorded := s.med.recorded.filter fun p => p.1 / 4 != n } }
  [Reg.MED_T_CMD, .MED_T_LBA, .MED_T_COUNT, .MED_T_BUF_LO, .MED_T_BUF_HI, .MED_T_STAT, .MED_T_ACCEPT_LO, .MED_T_ACCEPT_HI, .MED_T_CUT_LO,
    .MED_T_CUT_HI, .MED_T_CQ_BASE_LO, .MED_T_CQ_BASE_HI, .MED_T_CQ_TAIL, .MED_T_CQ_HEAD].foldl (fun s r => s.wr r 0 n) s

/-- Power fail: a write not yet complete is abandoned and no task leaves a record; nothing is BUSY or outstanding any more (R297). -/
def State.channelPowerFail (s : State) : State :=
  let s := (List.range 4).foldl (fun s m => ((s.modMag m fun k => { k with
    queue := [], powerTask := none, staged := k.staged.filter fun x => !k.unrecorded x }).set .MED_M_CH_QUEUED 0 m).showPending m) s
  (List.range 8).foldl (fun s n => (s.set .MED_T_STAT_BUSY 0 n).set .MED_T_STAT_OUTSTANDING 0 n)
    { s with med := { s.med with loading := [], resets := [] } }

end Sys2Proof.Machine
end

