-- ==== Sys2Proof/Machine/Mem.lean ====
section
/-!
DEFINITION. The memory subsystem (13): phases, training, margin measurement, requester port settings, ECC, scrub, the freeze, tests.
-/
namespace Sys2Proof.Machine

def memTraining : Nat := 0
def memService : Nat := 1
def memTest : Nat := 2
def memRecovery : Nat := 3
def memFrozen : Nat := 4
def memFailed : Nat := 5

def State.memPhase (s : State) : Nat := s.get .MEM_STATUS_PHASE

def memRight (cls : Cls) : Nat → State → List Right := fun _ _ => [⟨cls, .res (globalRes 0x0B)⟩]

/-- Every operation but MEM_INFO and MEM_DIAG_READ is refused while FROZEN (R323). -/
def State.notFrozen (s : State) : Status := need (!s.frozen) .MEM_FROZEN

/-- The pseudo-channel an address selects (R308). -/
def pseudoChannel (a : Nat) : Nat := bitsOf a 13 8 ^^^ bitsOf a 19 14 ^^^ bitsOf a 25 20

/-! ### Requester ports (R313, R314) -/

/-- Ports that may trump. -/
def trumps (p : Nat) : Bool := decide (p < 8 ∨ 20 ≤ p)

/-- LOW below HIGH, HIGH within the port's buffer, WEIGHT 1 … 15; a port without trump has no levels (R314; log 62). -/
def State.portOk (s : State) (p cfg : Nat) : Bool :=
  let hi := bitsOf cfg 31 24
  let lo := bitsOf cfg 23 16
  decide (1 ≤ bitsOf cfg 11 8) && (if trumps p then decide (lo < hi ∧ hi ≤ s.get .MEM_P_STAT_BUF p) else hi == 0 && lo == 0)

/-- TRUMP_EN is fixed at 0 on ports without trump. -/
def portCfg (p cfg : Nat) : Nat := if trumps p then cfg else withBits cfg 0 0 0

def pktMemPortSet (port : Nat) (cfg : BitVec 32) : Packet where
  opcode := 0x0B02
  cls := .configure
  params := fun s => need (decide (port < 24) && s.portOk port cfg.toNat) .MEM_BAD_CONFIG
  rights := memRight .configure
  checks := fun _ s => s.notFrozen
  run := fun _ s => .done .empty (s.writeWord none .MEM_P_CFG (portCfg port cfg.toNat) port 0)

def pktMemInfo : Packet where
  opcode := 0x0B01
  length := some 0
  run := fun _ s => .done (.values ([s.rd .MEM_STATUS, s.rd .MEM_ECC, s.rd .MEM_MARGIN] ++
    (List.range 24).map fun p => s.rd .MEM_P_STAT p)) s

/-! ### Training and margins (R310 … R312) -/

/-- The widest run of passing steps of a sweep, the lowest of equal ones, as its first step and its width; bit `i` of a sweep is step
`i − 32`. -/
def widestRun (sweep : Nat) : Nat × Nat :=
  ((List.range 64).foldl (fun (a : (Nat × Nat) × Nat) i =>
    let run := if sweep.testBit i then a.2 + 1 else 0
    (if a.1.2 < run then (i + 1 - run, run) else a.1, run)) ((0, 0), 0)).1

/-- The step at the centre of a run, as steps + 32; of the two in the middle of an even run which is free (R311; log 124). -/
def runCentre (r : Nat × Nat) : Nat :=
  r.1 + (r.2 - 1) / 2 + (if r.2 % 2 = 0 ∧ 0 < r.2 ∧ Config.centreUp r.1 r.2 then 1 else 0)

/-- A byte lane whose read or write run is shorter than 16 steps (R311). -/
def narrowLane (sweep : Nat × Nat) : Bool := decide ((widestRun sweep.1).2 < 16 ∨ (widestRun sweep.2).2 < 16)

/-- Training as it ends: each lane's read and write sweeps, a narrow lane's as taken again on the spare lane of its pseudo-channel; none
where a pseudo-channel has two narrow lanes or its spare lane is narrow too (R311). -/
def trainLanes (sweeps again : List (Nat × Nat)) : Option Trained :=
  let repaired := (List.range 256).filter fun l => narrowLane (sweeps.getD l (0, 0))
  let final := (List.range 256).map fun l => if repaired.contains l then again.getD l (0, 0) else sweeps.getD l (0, 0)
  if repaired.any (fun l => repaired.any fun k => k != l && k / 4 == l / 4) || final.any narrowLane then none else
  let widths := final.map fun w => (widestRun w.1).2
  some ⟨final.flatMap fun w => [runCentre (widestRun w.1), runCentre (widestRun w.2)], widths.take 128, widths.drop 128, repaired⟩

/-- TRAINING_COMPLETE: training or recovery ends, `ok` where every pseudo-channel passed its test; the trained delays are the reference
kept in NOR (R310, R311). -/
def evTrainingComplete (ok : Bool) (sweeps0 sweeps1 again0 again1 : List (Nat × Nat)) (s : State) : Out' :=
  .next <| if s.memPhase ≠ memTraining ∧ s.memPhase ≠ memRecovery then s
    else match (if ok then trainLanes (sweeps0 ++ sweeps1) (again0 ++ again1) else none) with
    | some t => { s.set .MEM_STATUS_PHASE memService with store := { s.store with trained := t } }
    | none => s.set .MEM_STATUS_PHASE memFailed

def evMarginMeasure (stack : Fin 2) (s : State) : Out' :=
  .next <| if s.mem.measuring.contains stack.val || s.memPhase != memService then s.bump .MEM_EVT_MARGIN_SKIP
    else { s with mem := { s.mem with measuring := s.mem.measuring ++ [stack.val] } }

def pktMemMargin (stack : Nat) : Packet where
  opcode := 0x0B03
  cls := .configure
  params := fun _ => need (decide (stack < 2)) .MEM_BAD_CONFIG
  rights := memRight .configure
  checks := fun _ s => firstFail [s.notFrozen, need (!s.mem.measuring.contains stack) .MEM_BUSY]
  run := fun _ s => .wait (.margin stack) { s with mem := { s.mem with measuring := s.mem.measuring ++ [stack] } }

/-- The narrowest width and its lowest lane. -/
def narrowest (ws : List Nat) : Nat × Nat :=
  let w := least 0 ws
  (w, (ws.takeWhile (· ≠ w)).length)

/-- A full measurement of a stack: the narrowest width and the table (R312). -/
def State.storeMargins (s : State) (k : Nat) (widths : List Nat) : State :=
  let (w, lane) := narrowest (widths.take 128)
  let s := { s with mem := { s.mem with widths := tins (widths.take 128) s.mem.widths k } }
  let s := if k = 0 then (s.set .MEM_MARGIN_S0_WIDTH w).set .MEM_MARGIN_S0_LANE lane
    else (s.set .MEM_MARGIN_S1_WIDTH w).set .MEM_MARGIN_S1_LANE lane
  s.raise .MEM_EVT_MARGIN_DONE

/-- MARGIN_DONE: the eye widths of a stack's 128 byte lanes (R312). -/
def evMarginDone (stack : Fin 2) (widths : List Nat) (s : State) : Out' :=
  let k := stack.val
  .next <| if !s.mem.measuring.contains k then s else
    let (w, _) := narrowest (widths.take 128)
    let s := { s with mem := { s.mem with measuring := s.mem.measuring.erase k } }
    (s.storeMargins k widths).complete (fun x => x == .margin k) .DONE (.values [w])

/-- The last full measurement; a stack not measured yet shows what training found. -/
def pktMemMarginRead (stack : Nat) : Packet where
  opcode := 0x0B04
  params := fun _ => need (decide (stack < 2)) .MEM_BAD_CONFIG
  checks := fun _ s => s.notFrozen
  run := fun _ s => .done (.values (tgetD (if stack = 0 then s.store.trained.widths0 else s.store.trained.widths1) s.mem.widths stack)) s

def pktMemTrainRead (stack : Nat) : Packet where
  opcode := 0x0B05
  params := fun _ => need (decide (stack < 2)) .MEM_BAD_CONFIG
  checks := fun _ s => s.notFrozen
  run := fun _ s =>
    let t := s.store.trained
    .done (.values (slice t.delays (stack * 256) 256 ++ (if stack = 0 then t.widths0 else t.widths1) ++
      t.repaired.filter fun l => l / 128 == stack)) s

/-- MEM_ORDER_SET: the mode is kept in NOR and takes effect at the next reset (R319). -/
def pktMemOrderSet (tx5 : Nat) : Packet where
  opcode := 0x0B06
  cls := .assign
  params := fun _ => need (decide (tx5 < 2)) .MEM_BAD_CONFIG
  rights := memRight .assign
  checks := fun _ s => s.notFrozen
  run := fun _ s => .done .empty { s with store := { s.store with order := tx5 } }

/-! ### Tests (R310) -/

/-- Nothing uses memory: no context, stream, decoder session, kernel, output or take is enabled or running. -/
def State.idle (s : State) : Bool :=
  (List.range 8).all (fun n => !s.enabled n && !s.streamOn n && !s.decRunning n && !s.outRunning n) &&
  (List.range 32).all (fun k => s.get .ENG_K_STATE_STATE k != 3 && s.get .ENG_K_STATE_STATE k != 4) &&
  (s.takesWhere fun t => decide (1 ≤ t.state ∧ t.state ≤ 3)).isEmpty && s.activeCodecs.isEmpty

def pktMemTest (pattern mask : Nat) : Packet where
  opcode := 0x0B07
  cls := .configure
  params := fun _ => need (decide (pattern < 2)) .MEM_BAD_CONFIG
  rights := memRight .configure
  checks := fun _ s => firstFail [s.notFrozen, need (s.memPhase == memService && s.idle) .MEM_NOT_IDLE]
  run := fun _ s => .wait .memTest { s.set .MEM_STATUS_PHASE memTest with mem := { s.mem with testing := mask } }

/-- MEM_TEST_COMPLETE: SERVICE again; DONE names the pseudo-channels of the test that fail. -/
def evMemTestComplete (failing : Nat) (s : State) : Out' :=
  .next <| if s.memPhase ≠ memTest then s else
    (s.set .MEM_STATUS_PHASE memService).complete (fun w => w == .memTest) .DONE (.values [failing &&& s.mem.testing])

/-! ### Errors (R308, R309, R320, R321) -/

/-- The controller freezes: what it captured, and the report to the integrity manager (R321, R438). -/
def State.freeze (s : State) (cause port addr syndrome : Nat) : State :=
  let info := cause * 2 ^ 30 + pseudoChannel addr * 2 ^ 24 + port % 32 * 2 ^ 19 + syndrome % 65536
  let s := ((s.set .MEM_STATUS_PHASE memFrozen).wr .MEM_ERR_INFO info).wr64 .MEM_ERR_ADDR_LO .MEM_ERR_ADDR_HI addr
  let s := (s.raise .MEM_EVT_FROZEN).complete (fun w => match w with
    | .margin _ => true
    | _ => false) .MEM_FROZEN .empty
  let s := { s with mem := { s.mem with measuring := [] } }
  if cause = 3 then s.report 0x06 info 0 else s.report 0x05 info (addr % 2 ^ 32)

/-- HBM_FREEZE: an uncorrectable error (1 on an access, 2 by scrub) or a parity alert (3) in SERVICE; an uncorrectable error
elsewhere is counted (R320, R321). -/
def evHbmFreeze (cause : Fin 4) (port : Fin 32) (addr syndrome : Nat) (s : State) : Out' :=
  .next <| if cause.val = 0 ∨ s.memPhase = memFrozen ∨ s.memPhase = memFailed then s
    else if s.memPhase = memService then s.freeze cause.val port.val addr syndrome
    else if cause.val = 3 then s else s.bump .MEM_ECC_UNCORRECTED

/-- PATROL_SCRUB: 0 a correctable error is corrected, 1 an uncorrectable word that nothing holds is cleared, 2 one that is held
(R308, R309). -/
def evPatrolScrub (addr : Nat) (result : Fin 3) (syndrome : Nat) (s : State) : Out' :=
  .next <| match result.val with
  | 0 => ((s.bump .MEM_ECC_CORRECTED).wr64 .MEM_ECC_ADDR_LO .MEM_ECC_ADDR_HI addr).raise .MEM_EVT_CORRECTED
  | 1 => s.bump .MEM_ECC_SCRUB_CLEARED
  | _ => if s.memPhase = memService then s.freeze 2 0x1F addr syndrome
    else if s.memPhase = memFrozen ∨ s.memPhase = memFailed then s else s.bump .MEM_ECC_UNCORRECTED

/-- PARITY_REPLAY: outside SERVICE the commands from the failed one on are replayed; a command whose fourth replay fails too fails its
pseudo-channel (R320). -/
def evParityReplay (pc : Fin 64) (failed : Bool) (s : State) : Out' :=
  .next <| if s.memPhase ≠ memTraining ∧ s.memPhase ≠ memTest ∧ s.memPhase ≠ memRecovery then s else
    let n := if failed then tgetD 0 s.mem.replays pc.val + 1 else 0
    let s := s.bump .MEM_ERR_CNT_REPLAYS
    let s := { s with mem := { s.mem with replays := tput 0 s.mem.replays pc.val n } }
    if 4 ≤ n then s.set .MEM_STATUS_PHASE memFailed else s

/-- MEM_DIAG_READ: raw words with syndromes, or a pseudo-channel's retry buffer of 32 commands, while FROZEN (R322; log 63). -/
def pktMemDiagRead (retry : Bool) (addr count pc : Nat) : Packet where
  opcode := 0x0B08
  params := fun _ => need (if retry then decide (pc < 64) else decide (1 ≤ count ∧ count ≤ 1016 ∧ addr < 0xC00000000)) .MEM_BAD_CONFIG
  checks := fun _ s => need s.frozen .WRONG_STATE
  run := fun _ s =>
    let (n, s) := s.draw
    .done (.values (if retry then (List.range 32).map (Config.retryEntry n pc) else
      (List.range count).map fun i => Config.hbmWord n (addr + 32 * i))) s

end Sys2Proof.Machine
end

