-- ==== Sys2Proof/Machine/Image.lean ====
section
/-!
DEFINITION. Images of packets (R61): the opcodes that exist (R86, R88 and the chapters' opcode tables), what the checks 1 … 7 of an image
decide (R65, R73), and the images that wait in a ring.
-/
namespace Sys2Proof.Machine

/-- Operations of a group, numbered from 1, where they run without a gap. -/
def groupSize : List (Nat × Nat) :=
  [(2, 9), (3, 8), (4, 9), (5, 9), (6, 10), (7, 6), (8, 10), (0xB, 8), (0xC, 9), (0xD, 11), (0xE, 7), (0xF, 9), (0x10, 12),
    (0x11, 10), (0x12, 7)]

/-- An opcode a host may send exists; SYS_NOTICE is sent by the TX9 only. -/
def opcodeExists (op : Nat) : Bool :=
  let k := op % 256
  match op / 256 with
  | 1 => decide (1 ≤ k ∧ k ≤ 13) && k != 12
  | 9 => decide (1 ≤ k ∧ k ≤ 0x0B) || decide (0x10 ≤ k ∧ k ≤ 0x18)
  | 10 => decide (1 ≤ k ∧ k ≤ 0x0C) || decide (0x10 ≤ k ∧ k ≤ 0x14)
  | g => (groupSize.find? (·.1 == g)).any fun p => decide (1 ≤ k ∧ k ≤ p.2)

/-- Opcodes marked immediate-only (R86, R88). -/
def immediateOnly (op : Nat) : Bool :=
  ([0x0101, 0x0107, 0x0108, 0x0109, 0x010A, 0x010B, 0x010D, 0x0201, 0x0202, 0x0203, 0x0205] : List Nat).contains op

/-- The status of checks 1 … 7 on an image; a mailbox takes only its two opcodes (R65, R73). -/
def imageStatus (via : Via) (b : List Byte) : Status :=
  let (h, op) := imageHdr via b
  let t := headerStatus h (immediateOnly op)
  if t ≠ .DONE then t else
  match via with
  | .mailbox _ => need (op == 0x0101 || op == 0x0201) .CPI_NOT_ATTACHED
  | .ring _ => need (opcodeExists op) .BAD_OPCODE

/-- An image that fails checks 1 … 7 is taken and refused; it renews no lease (R65, R82). -/
def State.refuseImage (s : State) (via : Via) (b : List Byte) : State :=
  let (h, op) := imageHdr via b
  (s.takeFromRing via).finalReply via h.seq op (quietOf h) (imageStatus via b) .empty

/-- The images at the head of slot `n`'s ring that fail checks 1 … 7 are taken in ring order while the reply ring has room (R70, R72). Any
other waits for the command that names its operation, whose parameters the image spells in a layout the spec does not give (DESIGN CHOICE,
log 64). -/
def State.drainImages (n : Fin 8) : Nat → State → State
  | 0, s => s
  | k + 1, s =>
    if 64 ≤ (s.host n.val).replies.length then s else
    match s.cpi.untaken.find? fun p => p.1 == n.val with
    | some (_, .inr b) =>
      if imageStatus (.ring n) b = .DONE then s else
      State.drainImages n k (State.refuseImage
        { s with cpi := { s.cpi with untaken := s.cpi.untaken.eraseP fun p => p.1 == n.val } } (.ring n) b)
    | _ => s

def State.drain (s : State) (n : Fin 8) : State := State.drainImages n s.cpi.untaken.length s

/-- An image of a packet arrives in a ring, behind what is left there, or in a mailbox. -/
def State.imageArrives (s : State) (via : Via) (b : List Byte) : State :=
  if !s.serves via then s else
  match via with
  | .ring n => State.drain { s with cpi := { s.cpi with untaken := s.cpi.untaken ++ [(n.val, .inr b)] } } n
  | .mailbox _ => if imageStatus via b = .DONE then s else s.refuseImage via b

end Sys2Proof.Machine
end

