-- ==== Sys2Proof/Machine/Line.lean ====
section
/-!
DEFINITION. The line of a Draxa link (R333 … R335, R341, R343): cells as bits, scrambling, stuffing, ALIGN cells, and the cells that
leave on a link and its channels.
-/
namespace Sys2Proof.Machine

/-! ### Cells and line bits (R333, R334) -/

/-- A cell as bits, most significant first, its CRC-16 over the 240 bits ahead of it (R334). -/
def TxCell.bits (c : TxCell) : List Bool :=
  let body := (c.type % 16 * 16 + c.channel % 256 / 16) :: (c.channel % 16 * 16 + c.flags % 16) ::
    (padTo 28 c.payload).map BitVec.toNat
  let bytes := body.map (BitVec.ofNat 8)
  byteBits bytes ++ bitsBE 16 (crc16 bytes)

/-- What the register of x^58 + x^39 + 1 adds to a bit; bit 0 is the newest line bit before stuffing. -/
def tapBits (r : BitVec 58) : Bool := r.getLsbD 57 ^^ r.getLsbD 38

def shiftIn (r : BitVec 58) (b : Bool) : BitVec 58 := (r <<< 1) ||| BitVec.ofNat 58 b.toNat

/-- The self-synchronous scrambler: it shifts in its own output. -/
def scramble (r : BitVec 58) : List Bool → List Bool × BitVec 58
  | [] => ([], r)
  | b :: t =>
    let o := b ^^ tapBits r
    let (os, r') := scramble (shiftIn r o) t
    (o :: os, r')

/-- The descrambler: it shifts in the line's bits. -/
def descramble (r : BitVec 58) : List Bool → List Bool × BitVec 58
  | [] => ([], r)
  | b :: t =>
    let (os, r') := descramble (shiftIn r b) t
    ((b ^^ tapBits r) :: os, r')

/-- The end of the line so far: its last bit and how many bits up to there are equal. -/
abbrev LineEnd := Bool × Nat

/-- After 24 equal bits the transmitter inserts one complementary bit. -/
def stuff : LineEnd → List Bool → List Bool × LineEnd
  | e, [] => ([], e)
  | (l, n), b :: t =>
    let m := if b = l then n + 1 else 1
    if m = 24 then
      let (o, e) := stuff (!b, 1) t
      (b :: (!b) :: o, e)
    else
      let (o, e) := stuff (b, m) t
      (b :: o, e)

/-- The receiver removes every bit that follows 24 equal bits. -/
def unstuff : LineEnd → List Bool → List Bool × LineEnd
  | e, [] => ([], e)
  | (l, n), b :: t =>
    let m := if b = l then min 24 (n + 1) else 1
    if n = 24 then unstuff (b, m) t
    else
      let (o, e) := unstuff (b, m) t
      (b :: o, e)

/-- A received line: stuffed bits removed, then descrambled. -/
def receiveLine (r : BitVec 58) (e : LineEnd) (bits : List Bool) : List Bool := (descramble r (unstuff e bits).1).1

/-- The CRC of a received 256-bit window holds (R334, R342). -/
def cellGood (bits : List Bool) : Bool :=
  ofBits (bits.drop 240) == crc16 ((groupsOf 8 240 (bits.take 240)).map fun g => BitVec.ofNat 8 (ofBits g))

/-- A cell's bits go out on a lane. -/
def Lane.send (l : Lane) (c : TxCell) : Lane :=
  let (s, r) := scramble l.scrambler c.bits
  let (o, e) := stuff (l.last, l.equal) s
  { l with scrambler := r, last := e.1, equal := e.2, line := l.line ++ o }

/-! ### Cells on a link (R335) -/

/-- The ALIGN cell of lane `j` of a link at a cell count. -/
def alignCell (k lanes j count : Nat) : TxCell :=
  ⟨k, 4, 0, 0, padTo 28 (List.replicate 8 0xA5 ++ le 1 j ++ le 1 lanes ++ le 8 count)⟩

def State.driveLane (s : State) (lane : Nat) (c : TxCell) : State :=
  { s with lnk := { s.lnk with tx := s.lnk.tx ++ [c], lanes := tins ((tgetD {} s.lnk.lanes lane).send c) s.lnk.lanes lane } }

/-- Cell i of a link goes out on the link's lane i mod LANES; after every 64 of them each lane sends its ALIGN cell. The IDLE cells that fill
the time between are not drawn (log 108). -/
def State.putCell (s : State) (c : TxCell) : State :=
  let k := c.link
  let n := s.get .LNK_D_CFG_LANES k
  let first := s.get .LNK_D_CFG_FIRST_LANE k
  let i := (s.link k).count
  let s := (s.setLink k { s.link k with count := i + 1 }).driveLane (first + i % n) c
  if (i + 1) % (64 * n) = 0 then
    (List.range n).foldl (fun s j => s.driveLane (first + j) (alignCell k n j (i + 1))) s
  else s

/-- A cell goes out on a link that is UP (R337). -/
def State.sendCell (s : State) (c : TxCell) : State := if s.get .LNK_D_STAT_STATE c.link = 4 then s.putCell c else s

/-! ### Segments of a reply (R341, R343) -/

/-- The CPI_SEG cells of a packet or reply: 24 bytes each, the last padded with zeros. -/
def segmentsOf (k channel : Nat) (b : List Byte) : List TxCell :=
  let n := (b.length + 23) / 24
  (List.range n).map fun i =>
    ⟨k, 2, channel, 0, le 1 0x10 ++ le 1 ((if i = 0 then 1 else 0) + (if i + 1 = n then 2 else 0)) ++ le 2 i ++
      padTo 24 (slice b (24 * i) (min 24 (b.length - 24 * i)))⟩

/-- A credited channel takes a cell while its count sent is below the count granted, modulo 2^24 (R341). -/
def Link.credit (l : Link) (channel : Nat) : Nat :=
  (tgetD 0 l.granted channel + 2 ^ 24 - tgetD 0 l.sent channel) % 2 ^ 24

/-- The cells that wait on a credited channel go out as far as its credit reaches. -/
def State.sendWaiting (k channel : Nat) : Nat → State → State
  | 0, s => s
  | fuel + 1, s =>
    let l := s.link k
    match tgetD [] l.outgoing channel with
    | [] => s
    | c :: rest =>
      if l.credit channel = 0 then s else
      State.sendWaiting k channel fuel ((s.setLink k { l with
        sent := tput 0 l.sent channel ((tgetD 0 l.sent channel + 1) % 2 ^ 24)
        outgoing := tput [] l.outgoing channel rest }).sendCell c)

/-! ### Credit granted (R341) -/

/-- The TX9 grants the partner cells on a channel. -/
def Link.grant (l : Link) (channel n : Nat) : Link :=
  { l with grants := tput 0 l.grants channel ((tgetD 0 l.grants channel + n) % 2 ^ 24)
           flowDue := if l.flowDue.contains channel then l.flowDue else l.flowDue ++ [channel] }

/-- A FLOW cell for up to 7 channels with new grants. -/
def State.sendFlow (s : State) (k : Nat) : State :=
  let l := s.link k
  if l.flowDue.isEmpty || s.get .LNK_D_STAT_STATE k != 4 then s else
  let entries := (l.flowDue.take 7).flatMap fun c => le 4 (c * 2 ^ 24 + tgetD 0 l.grants c)
  (s.setLink k { l with flowDue := l.flowDue.drop 7 }).sendCell ⟨k, 5, 0, 0, padTo 28 entries⟩

end Sys2Proof.Machine
end

