-- ==== Sys2Proof/Machine/Sns.lean ====
section
/-!
DEFINITION. The sensor front end (04): ports, context configuration, triggers, frames from start marker to trailer, sensor
control buses; enabling and disabling a context (R131, R132) and a frame's departure from the colour unit (R152, R178).
-/
namespace Sys2Proof.Machine

/-! ### Ports (R90 … R94) -/

/-- The layout of a port against R91: protocol, links, lanes per link, rate. -/
def portLayout (cfg : Nat) : Bool :=
  let links := bitsOf cfg 23 20
  let lanes := bitsOf cfg 19 14
  let rate := bitsOf cfg 12 0
  let within := fun (lo hi : Nat) => decide (lo ≤ rate ∧ rate ≤ hi)
  decide (links * lanes ≤ 64) && match bitsOf cfg 26 24 with
  | 1 => (links == 1 || links == 2) && decide (1 ≤ lanes ∧ lanes ≤ 32) && within 80 4500
  | 2 => decide (1 ≤ links ∧ links ≤ 8) && (lanes == 1 || lanes == 2 || lanes == 4 || lanes == 8) && within 1250 5000
  | 3 => (links == 1 || links == 2) && decide (1 ≤ lanes ∧ lanes ≤ 32) && within 200 2500
  | _ => false

/-- SNS_PORT_CFG without its lane map (R92). -/
def portCfgOk (cfg : Nat) : Bool :=
  if bitsOf cfg 26 24 = 0 then bitsOf cfg 31 31 == 0 else portLayout cfg

/-- The logical lanes of the used physical lanes (R93). -/
def usedLanes (maps : List Nat) : List Nat :=
  maps.flatMap fun w => (List.range 4).filterMap fun j =>
    let b := w / 2 ^ (8 * j) % 256
    if b / 64 % 2 = 1 then some (b % 64) else none

/-- The used entries assign each logical lane once (R93). -/
def laneMapOk (cfg : Nat) (maps : List Nat) : Bool :=
  let used := usedLanes maps
  let n := bitsOf cfg 23 20 * bitsOf cfg 19 14
  used.length == n && (List.range n).all used.contains

/-- A configuration with the lane map that goes with it: with ENABLE 1 a bad map fails the configuration (R92); with ENABLE 0 it fails as
a map (R93). Without a protocol no logical lanes are counted, and the map repeats none. -/
def portStatus (cfg : Nat) (maps : List Nat) : Status :=
  if !portCfgOk cfg then .SNS_BAD_PORT_CFG
  else if bitsOf cfg 31 31 = 1 then need (laneMapOk cfg maps) .SNS_BAD_PORT_CFG
  else need (if bitsOf cfg 26 24 = 0 then decide (usedLanes maps).Nodup else laneMapOk cfg maps) .SNS_BAD_LANE_MAP

def State.laneMaps (s : State) (n : Nat) : List Nat := (List.range 16).map fun k => s.rd .SNS_PORT_MAP n k

/-- A write of SNS_PORT_CFG against the lane map in effect (R92). -/
def State.portCfgStatus (s : State) (n cfg : Nat) : Status :=
  need (portCfgOk cfg && (bitsOf cfg 31 31 == 0 || laneMapOk cfg (s.laneMaps n))) .SNS_BAD_PORT_CFG

/-- A write of lane map words: the whole map it leaves, on a port that is enabled (R93). A port that is not enabled may be given its map
word by word (DESIGN CHOICE, log 110). -/
def State.mapStatus (s : State) (n : Nat) : Status :=
  need (!s.flag .SNS_PORT_CFG_ENABLE n || laneMapOk (s.rd .SNS_PORT_CFG n) (s.laneMaps n)) .SNS_BAD_LANE_MAP

/-- A port receives: it is enabled and its context is fed from it (R95). -/
def State.portOn (s : State) (n : Nat) : Bool := s.flag .SNS_PORT_CFG_ENABLE n && s.get .SNS_CTX_CFG_SOURCE n == 0

/-- A port that is configured or powered afresh has to lock (R94). -/
def State.relock (s : State) (n : Nat) : State :=
  (s.set .SNS_PORT_STAT_LOCKED 0 n).set .SNS_PORT_STAT_LANES_LOCKED 0 n

/-- The writable fields of a register that two words differ in. -/
def Reg.differs (r : Reg) (a b : Nat) : Bool :=
  let m := r.mask fun x => x = .rw || x = .rws
  (a &&& m) != (b &&& m)

/-- A change of SNS_PORT_CFG, the lane map or SNS_PORT_SYNC while the context is enabled (R92). -/
def State.portChange (s : State) (n cfg : Nat) (maps : List Nat) (sync : Nat) : Bool :=
  s.enabled n && (Reg.differs .SNS_PORT_CFG (s.rd .SNS_PORT_CFG n) cfg || maps != s.laneMaps n || s.rd .SNS_PORT_SYNC n != sync)

/-- SNS_PORT_CONFIG. Of a configuration that is both bad and a change while the context is enabled, the configuration's own refusal comes
first, as it does for a register write (DEDUCED from the order of R65, log 110). -/
def pktSnsPortConfig (ctx : Nat) (cfg : BitVec 32) (maps : List (BitVec 32)) (sync : BitVec 32) : Packet where
  opcode := 0x0402
  cls := .configure
  params := fun _ =>
    if maps.length ≠ 16 then .BAD_LENGTH
    else if 8 ≤ ctx then .SNS_BAD_CONFIG
    else portStatus cfg.toNat (maps.map (·.toNat))
  rights := cfgCtx ctx
  checks := fun _ s => need (!s.portChange ctx cfg.toNat (maps.map (·.toNat)) sync.toNat) .SNS_CTX_ACTIVE
  run := fun _ s =>
    if s.enabled ctx then .done .empty s else
    let s := maps.zipIdx.foldl (fun s (w, k) => s.writeWord none .SNS_PORT_MAP w.toNat ctx k) s
    let s := (s.writeWord none .SNS_PORT_CFG cfg.toNat ctx 0).writeWord none .SNS_PORT_SYNC sync.toNat ctx 0
    .done .empty (s.relock ctx)

/-- The largest skew measured and the lanes aligned are shown (R94). -/
def State.showSkew (s : State) (n skew lanes : Nat) : State :=
  let s := if s.get .SNS_PORT_STAT_MAX_SKEW n < skew then s.set .SNS_PORT_STAT_MAX_SKEW skew n else s
  s.set .SNS_PORT_STAT_LANES_LOCKED lanes n

/-- Deskew fails: skew above 64 UI, or a lane of the configured layout not aligned (R94). -/
def State.deskewFails (s : State) (n skew lanes : Nat) : Bool :=
  decide (64 < skew ∨ lanes < s.get .SNS_PORT_CFG_LINKS n * s.get .SNS_PORT_CFG_LANES_PER_LINK n)

/-- The port stays or falls out of LOCKED (R94). -/
def State.unlock (s : State) (n : Nat) (deskew : Bool) : State :=
  let s := s.set .SNS_PORT_STAT_LOCKED 0 n
  (if deskew then s.set .SNS_PORT_STAT_DESKEW_FAIL 1 n else s).raise .SNS_EVT_LOCK_LOST n

/-- PORT_LOCK: the port has aligned on its markers and locks, unless deskew fails. -/
def evPortLock (port : Fin 8) (skew lanes : Nat) (s : State) : Out' :=
  let n := port.val
  .next <| if !s.portOn n then s else
    let fails := s.deskewFails n skew lanes
    let s := s.showSkew n skew lanes
    if fails then s.unlock n true else (s.set .SNS_PORT_STAT_LOCKED 1 n).set .SNS_PORT_STAT_DESKEW_FAIL 0 n

/-- Failed deskew at link start or a lost signal: no row is accepted until the port has locked again (R94). -/
def evPortLockLost (port : Fin 8) (deskew : Bool) (skew lanes : Nat) (s : State) : Out' :=
  let n := port.val
  .next <| if !s.portOn n then s else
    (s.showSkew n skew lanes).unlock n (deskew && s.deskewFails n skew lanes)

/-! ### Context configuration (R92, R102, R112, R129) -/

/-- Virtual channels 0 … 15 (R91). -/
def ctxCfgOk (cfg : Nat) : Bool := decide (bitsOf cfg 15 8 ≤ 15 ∧ bitsOf cfg 7 0 ≤ 15)

/-- TRIG_WINDOW, WIDTH and TRAILER_WAIT within their ranges (R112). -/
def timingOk (t : Nat) : Bool :=
  bitsOf t 31 16 != 0 && bitsOf t 15 10 != 0 && decide (1 ≤ bitsOf t 9 0 ∧ bitsOf t 9 0 ≤ 1000)

/-- A geometry against the limits, the partition and the pan slot (R102, R129). -/
def State.geomOk (s : State) (n geom subs : Nat) : Bool :=
  let cols := bitsOf geom 31 16
  let rows := bitsOf geom 15 0
  let units := s.get .PIP_CTX_LB_UNITS n
  let slots := s.get .PIP_CTX_CFG_PAN_SLOTS n
  decide (256 ≤ cols ∧ cols ≤ 16384 ∧ cols % 16 = 0 ∧ 64 ≤ rows ∧ rows ≤ 12288 ∧ rows % 2 = 0) &&
  (units == 0 || decide (cols ≤ colsMax units (inputDepth (s.rd .PIP_CTX_CFG n)) subs)) &&
  (slots == 0 || decide (panSlotBytes geom subs * slots ≤ s.poolAt (.pan n)))

/-- A change of SNS_CTX_CFG or SNS_CTX_SRC while the context is enabled (R92). -/
def State.ctxChange (s : State) (n cfg src : Nat) : Bool :=
  s.enabled n && (Reg.differs .SNS_CTX_CFG (s.rd .SNS_CTX_CFG n) cfg || Reg.differs .SNS_CTX_SRC (s.rd .SNS_CTX_SRC n) src)

/-- TRIG_DELAY is that of the head on the link named (R97). -/
def State.showTrigDelay (s : State) (n : Nat) : State :=
  s.set .SNS_CTX_SRC_TRIG_DELAY
    (if s.flag .SNS_CTX_CFG_SOURCE n then s.get .LNK_D_STAT_TRIG_DELAY (s.get .SNS_CTX_SRC_LINK n) else 0) n

/-- SNS_CTX_CFG in effect: another source powers the port down or up, and SUBSTREAMS enters COLS_MAX (R95, R133). -/
def State.applyCtxCfg (s : State) (n cfg : Nat) : State :=
  let old := s.get .SNS_CTX_CFG_SOURCE n
  let s := s.writeWord none .SNS_CTX_CFG cfg n 0
  let s := if s.get .SNS_CTX_CFG_SOURCE n = old then s else s.relock n
  let s := s.set .PIP_CTX_LB_COLS_MAX
    (colsMax (s.get .PIP_CTX_LB_UNITS n) (inputDepth (s.rd .PIP_CTX_CFG n)) (s.get .SNS_CTX_CFG_SUBSTREAMS n)) n
  s.showTrigDelay n

def State.applyCtxSrc (s : State) (n src : Nat) : State := (s.writeWord none .SNS_CTX_SRC src n 0).showTrigDelay n

def pktSnsCtxConfig (ctx : Nat) (cfg geom timing trig src : BitVec 32) : Packet where
  opcode := 0x0403
  cls := .configure
  params := fun s =>
    if 8 ≤ ctx ∨ !ctxCfgOk cfg.toNat ∨ !timingOk timing.toNat then .SNS_BAD_CONFIG
    else need (s.geomOk ctx geom.toNat (bitsOf cfg.toNat 24 24)) .SNS_BAD_GEOMETRY
  rights := fun _ s => ⟨.configure, .res (res 1 ctx)⟩ ::
    (if bitsOf cfg.toNat 28 28 = 1 then [⟨.use, .res (s.linkRes (bitsOf src.toNat 4 0))⟩] else [])
  checks := fun _ s => need (!s.ctxChange ctx cfg.toNat src.toNat) .SNS_CTX_ACTIVE
  run := fun _ s =>
    let s := if s.enabled ctx then s else (s.applyCtxCfg ctx cfg.toNat).applyCtxSrc ctx src.toNat
    let w := fun (s : State) (r : Reg) (v : BitVec 32) => s.writeWord (some (.ctx ctx)) r v.toNat ctx 0
    .done .empty (w (w (w s .SNS_GEOM geom) .SNS_CTX_TIMING timing) .SNS_CTX_TRIG trig)

/-- SNS_INFO: port status, configuration, frame, SOF, status word, the three count registers (R111). Here as in the other operations of
the group a context, bus or list number out of range is refused with SNS_BAD_CONFIG, which R112 gives for fields (DEDUCED, log 110). -/
def pktSnsInfo (ctx : Nat) : Packet where
  opcode := 0x0401
  params := fun _ => need (decide (ctx < 8)) .SNS_BAD_CONFIG
  run := fun _ s => .done (.values
    [s.rd .SNS_PORT_STAT ctx, s.rd .SNS_CTX_CFG ctx, s.rd .SNS_CTX_FRAME ctx,
      s.rd64 .SNS_CTX_SOF_LO .SNS_CTX_SOF_HI ctx, s.rd64 .SNS_CTX_STATUS_LO .SNS_CTX_STATUS_HI ctx,
      s.rd .SNS_CTX_CNT0 ctx, s.rd .SNS_CTX_CNT1 ctx, s.rd .SNS_CTX_CNT2 ctx]) s

/-! ### Triggers (R96 … R98, R107) -/

/-- A trigger cell to a context's head: 0 FRAME_START, 1 EXPOSE_START, 2 EXPOSE_END (R343). -/
def State.sendTrigger (s : State) (n kind exposure : Nat) : State :=
  s.sendCell ⟨s.get .SNS_CTX_SRC_LINK n, 2, s.get .SNS_CTX_SRC_CHANNEL n, 0,
    padTo 28 (le 1 0x20 ++ le 1 kind ++ le 1 exposure ++ [0] ++ le 8 s.now)⟩

def State.headFed (s : State) (n : Nat) : Bool := s.flag .SNS_CTX_CFG_SOURCE n

/-- A launch without a frame (R107). -/
def State.noFrame (s : State) (n : Nat) : State := (s.bump .SNS_CTX_CNT2_NO_FRAME n).raise .SNS_EVT_TRIGGER n

/-- FRAME_START: pin or trigger cell; in TRIGGERED mode the latch of a context that takes frames (R96 … R98, R107). -/
def State.frameStart (s : State) (n : Nat) : State :=
  let c := s.ctx n
  let s := if s.headFed n then s.sendTrigger n 0 0
    else if s.flag .SNS_CTX_TRIG_FRAME_EN n then
      s.setCtx n { c with framePinUntil := s.now + s.get .SNS_CTX_TIMING_WIDTH n * 300 }
    else s
  if !s.running n || s.flag .SNS_CTX_CFG_TRIG_MODE n then s else
  let s := if c.latch.isSome then s.noFrame n else s
  s.setCtx n { s.ctx n with latch := some s.now }

def evFrameStart (ctx : Fin 8) (s : State) : Out' := .next (s.frameStart ctx.val)

/-- The exposure triggers (R96, R97). -/
def State.expose (s : State) (n e : Nat) (on : Bool) : State :=
  if s.headFed n then s.sendTrigger n (if on then 1 else 2) e else
  let en := if e = 0 then s.flag .SNS_CTX_TRIG_EXP0_EN n else s.flag .SNS_CTX_TRIG_EXP1_EN n
  let c := s.ctx n
  s.setCtx n (if e = 0 then { c with exp0 := on && en } else { c with exp1 := on && en })

def evExposeStart (ctx : Fin 8) (exposure : Fin 2) (s : State) : Out' := .next (s.expose ctx.val exposure.val true)
def evExposeEnd (ctx : Fin 8) (exposure : Fin 2) (s : State) : Out' := .next (s.expose ctx.val exposure.val false)

/-- The last tick of a latch's window (R98). -/
def State.windowEnd (s : State) (n latch : Nat) : Nat := latch + s.get .SNS_CTX_TIMING_TRIG_WINDOW n * 300

/-- A pending latch whose window has passed is given up. -/
def State.expireLatch (s : State) (n : Nat) : State :=
  match (s.ctx n).latch with
  | some l => if s.windowEnd n l < s.now then (s.setCtx n { s.ctx n with latch := none }).noFrame n else s
  | none => s

def evTrigWindowExpiry (ctx : Fin 8) (s : State) : Out' :=
  let n := ctx.val
  .next <| if (s.ctx n).latch.isSome then (s.setCtx n { s.ctx n with latch := none }).noFrame n else s

/-! ### The in-line handover and pan slots (R136, R139) -/

/-- A pending switch names this context, no context is in-line, and none of its frames is begun and unfinished (R139). -/
def State.takesRole (s : State) (n : Nat) : Bool :=
  s.flag .PIP_INLINE_PENDING && s.get .PIP_INLINE_PENDING_CTX n == n && !s.flag .PIP_INLINE_VALID &&
  !((s.ctx n).frames.any Frame.begun)

/-- A frame in the pan is dropped: its slot is free. -/
def State.dropFromPan (s : State) (n : Nat) (f : Frame) (reason : Nat) : State :=
  (s.setCtx n ((s.ctx n).removeFrame f.id)).panDrop n f reason

/-- The context takes the in-line role at a start marker: its pan frames not begun are dropped (R139). -/
def State.handOver (s : State) (n : Nat) : State :=
  if !s.takesRole n then s else
  let s := ((s.ctx n).frames.filter Frame.notBegun).foldl (fun s f => s.dropFromPan n f 2) s
  let s := ((s.set .PIP_INLINE_PENDING 0).set .PIP_INLINE_VALID 1).set .PIP_INLINE_CONTEXT n
  ((s.showPan n).raise .PIP_EVT_SWITCH_DONE).complete (fun w => w == .inlineSwitch n) .DONE .empty

/-- The pan slot of an arriving frame: whether it has one, or is dropped; DROP_OLDEST frees one (R129, R136). -/
def State.panSlot (s : State) (n : Nat) (f : Frame) : Bool × State :=
  let slots := s.get .PIP_CTX_CFG_PAN_SLOTS n
  if slots = 0 then (false, s.panDrop n f 3)
  else if s.occupied n < slots then (true, s)
  else if s.flag .PIP_CTX_CFG_DROP_POLICY n then
    match (s.ctx n).frames.find? Frame.notBegun with
    | some old => (true, s.dropFromPan n old 1)
    | none => (false, s.panDrop n f 1)
  else (false, s.panDrop n f 1)

/-! ### Frame begin (R98, R99, R107) -/

/-- The head's trigger delay, 0 for a port (R97). -/
def State.headDelay (s : State) (n : Nat) : Nat := if s.headFed n then s.get .SNS_CTX_SRC_TRIG_DELAY n else 0

/-- The frame a start marker begins, before its pan slot (R16, R19, R42, R98, R107). -/
def State.newFrame (s : State) (n : Nat) : Frame :=
  let c := s.ctx n
  let master := s.flag .SNS_CTX_CFG_TRIG_MODE n
  let sof := match c.latch, master with
    | some l, false => (l + s.headDelay n) % 2 ^ 64
    | _, _ => (s.now + 2 ^ 64 - s.headDelay n) % 2 ^ 64
  let untriggered := !master && c.latch.isNone
  { id := c.serial, num := c.next % 2 ^ 32, sof := sof, start := s.now, lastRow := s.now
    cols := s.get .SNS_GEOM_COLS n, rows := s.get .SNS_GEOM_ROWS n, twoSubs := s.flag .SNS_CTX_CFG_SUBSTREAMS n
    params := s.frameParams n, timecode := s.labelAt sof, userBits := s.rd .DCK_LTC_OUT_UB
    untriggered := untriggered, dropped := untriggered, inline := false, slot := false }

/-- A frame begins: number, SOF, latch, in-line handover, pan slot or drop (R98, R99, R107, R136, R139). -/
def State.beginFrame (s : State) (n : Nat) : State :=
  let s := (s.expireLatch n).handOver n
  let f := s.newFrame n
  let c := s.ctx n
  let s := s.setCtx n { c with serial := c.serial + 1, next := c.next + 1, latch := none }
  let s := if f.untriggered then (s.bump .SNS_CTX_CNT1_UNTRIGGERED n).raise .SNS_EVT_TRIGGER n else s
  let (f, s) :=
    if f.untriggered then (f, s)
    else if s.isInline n then ({ f with inline := true }, s)
    else
      let (ok, s) := s.panSlot n f
      ({ f with slot := ok, dropped := !ok }, s)
  let c := s.ctx n
  (s.setCtx n { c with frames := c.frames ++ [f] }).showPan n

/-! ### Trailers (R100 … R107) -/

/-- Whether a frame's status has SHORT, LONG or LINE_FAULT. -/
def Frame.short (f : Frame) : Bool := decide (f.got < f.rows)
def Frame.long (f : Frame) : Bool := decide (0 < f.excess)
def Frame.malformed (f : Frame) : Bool := f.short || f.long || decide (0 < f.faults)

/-- The status word of R101. -/
def Frame.statusWord (f : Frame) : Nat :=
  let bit := fun (b : Bool) (k : Nat) => if b then 2 ^ k else 0
  if !f.malformed then 0 else
  bit f.short 63 + bit f.long 62 + bit (decide (0 < f.faults)) 61 + 2 ^ 60 + f.got * 2 ^ 32 +
    min f.excess 16383 * 2 ^ 16 + min f.faults 16383

/-- Outputs that were writing a frame give it up (R140). -/
def State.unwrite (s : State) (n id : Nat) : State :=
  (List.range 8).foldl (fun s o =>
    let k := s.output o
    if k.writing.any (fun w => w.source == n && w.id == id) then s.setOutput o { k with writing := none } else s) s

/-- The pipeline abandons an in-line frame (R140). -/
def State.abandonFrame (s : State) (n : Nat) (f : Frame) : State :=
  let s := (s.bump .PIP_CTX_DROP_ABANDONED n).set .PIP_CTX_LASTDROP_FRAME f.num n
  let s := ((s.raise .PIP_EVT_ABANDON n).dropRecord n f 4).pulseSource (0x10 + n)
  let s := (s.kernelAbandon n { f with status := f.statusWord }).codecAbandon n f.id
  let s := (s.unwrite n f.id).setCtx n (((s.unwrite n f.id).ctx n).removeFrame f.id)
  s.afterCoding

/-- The counts and flags of a malformed frame (R103, R104, R106). R107 removes an untriggered frame whatever its lines: it is counted as
UNTRIGGERED only (DESIGN CHOICE, log 110). -/
def State.countMalformed (s : State) (n : Nat) (f : Frame) : State :=
  if !f.malformed || f.untriggered then s else
  let s := if f.short then s.bump .SNS_CTX_CNT0_SHORT n else s
  let s := if f.long then s.bump .SNS_CTX_CNT0_LONG n else s
  let s := if s.flag .SNS_CTX_CFG_POLICY n then s.bump .SNS_CTX_CNT1_REMOVED n else s
  s.raise .SNS_EVT_MALFORMED n

/-- A kept frame is completed, and its products learn its status word (R100, R103). -/
def State.keepFrame (s : State) (n : Nat) (f : Frame) : State :=
  let g := { f.padded with closed := true, status := f.statusWord }
  let s := ((s.modFrame n f.id fun _ => g).noteBacklog.codecStatusWord n f.id g.status).afterCoding
  let s := s.kernelTrailer n f.id g.status
  match (s.ctx n).frames.find? (·.id == f.id) with
  | some g => if g.demosaicked then s.tapsDone n g else s
  | none => s

/-- The context's last boundary: it stops, and waits for its frames to leave the colour unit (R132). -/
def State.stopContext (s : State) (n : Nat) : State :=
  let s := s.setCtx n { s.ctx n with run := .draining, latch := none }
  let s := if s.isInline n then s.set .PIP_INLINE_VALID 0 else s
  s.drained n

/-- The trailer of a context's open frame, at the context's frame boundary (R100 … R107, R132, R139). -/
def State.trailer (s : State) (n : Nat) : State :=
  match (s.ctx n).openFrame with
  | none => s
  | some f =>
    let s := (s.set .SNS_CTX_FRAME_FRAME f.num n).wr64 .SNS_CTX_SOF_LO .SNS_CTX_SOF_HI f.sof n
    let s := (s.wr64 .SNS_CTX_STATUS_LO .SNS_CTX_STATUS_HI f.statusWord n).countMalformed n f
    let remove := f.malformed && s.flag .SNS_CTX_CFG_POLICY n
    let s :=
      if f.dropped || (remove && !f.inline) then (s.setCtx n ((s.ctx n).removeFrame f.id)).showPan n
      else if remove then s.abandonFrame n f
      else s.keepFrame n f
    let s := ((s.pulseSource (0x08 + n)).boundary n).kernelBoundary n
    let s := if s.flag .PIP_INLINE_PENDING && s.isInline n then s.set .PIP_INLINE_VALID 0 else s
    if (s.ctx n).run == .stopping then s.stopContext n else s

/-! ### What arrives (R99, R100, R102 … R105) -/

/-- A context takes markers and rows from its source: a port must be locked (R94, R99, R132). -/
def State.receiving (s : State) (n : Nat) : Bool :=
  s.running n && (s.headFed n || (s.portOn n && s.flag .SNS_PORT_STAT_LOCKED n))

/-- A frame start marker: a frame still open gets its trailer first (R100). -/
def State.startMarker (s : State) (n : Nat) : State :=
  if !s.receiving n then s else
  let s := s.trailer n
  if (s.ctx n).run == .running then s.beginFrame n else s

def evFrameStartMarker (ctx : Fin 8) (s : State) : Out' := .next (s.startMarker ctx.val)

/-- The sub-stream a line belongs to; none where the context does not take its virtual channel (R102). Lines of a frame so
far decide where the protocol carries no identity. -/
def State.subOf (s : State) (n : Nat) (vc soFar : Nat) : Option Nat :=
  let two := s.flag .SNS_CTX_CFG_SUBSTREAMS n
  if s.headFed n then (if vc = 0 then some 0 else if vc = 1 ∧ two then some 1 else none)
  else if s.get .SNS_PORT_CFG_PROTOCOL n = 1 then
    if vc = s.get .SNS_CTX_CFG_SUB0_ID n then some 0
    else if two ∧ vc = s.get .SNS_CTX_CFG_SUB1_ID n then some 1
    else none
  else some (if two then soFar % 2 else 0)

/-- A line as a row of its frame: completed, cut or replaced (R105). -/
def Frame.row (f : Frame) (sub : Nat) (l : Line) (now : Nat) : Row × Bool :=
  let row := (if sub = 0 then f.rows0 else f.rows1).length
  if l.fault ≠ .none then ({ px := f.blackFrom sub row 0, fill := true, tick := now }, true)
  else
    let px := l.px.take f.cols ++ f.blackFrom sub row l.px.length
    ({ px := px, fill := false, tick := now }, l.px.length != f.cols)

/-- A line accepted into the open frame, or beyond its rows (R104, R105). -/
def Frame.takeLine (f : Frame) (sub : Nat) (l : Line) (now : Nat) : Frame :=
  let full := decide (f.rows ≤ (if sub = 0 then f.got0 else f.got1))
  let f := { f with lastRow := now }
  if full then { f with excess := f.excess + 1 } else
  let (r, bad) := f.row sub l now
  let f := if bad then { f with faults := f.faults + 1 } else f
  if sub = 0 then { f with rows0 := f.rows0 ++ [r], got0 := f.got0 + 1 }
  else { f with rows1 := f.rows1 ++ [r], got1 := f.got1 + 1 }

/-- What a line's arrival counts on a port that is locked, whether or not its context takes lines (R105). -/
def State.countLine (s : State) (n : Nat) (l : Line) : State :=
  if !(s.portOn n && s.flag .SNS_PORT_STAT_LOCKED n) then s else
  let s := if l.eccFixed then s.bump .SNS_PORT_ERR_ECC_CORR n else s
  if l.fault = .check then s.bump .SNS_PORT_ERR_CHECK_FAIL n else s

/-- A line reaches a context (R99, R102, R104, R105); with the frame end marker the trailer follows. One of a virtual channel that the
context does not take belongs to no frame, whatever marker it carries. -/
def State.lineArrives (s : State) (n : Nat) (l : Line) : State :=
  let s := s.countLine n l
  if !s.receiving n then s else
  let s := if l.fault = .portFull then s.bump .MEM_P_STAT_OVERFLOW n else s
  let f := (s.ctx n).openFrame
  match s.subOf n l.vc ((f.map fun f => f.rows0.length + f.rows1.length + f.excess).getD 0), f with
  | none, _ => s.bump .SNS_CTX_CNT2_STRAY_ROWS n
  | some _, none => if (s.ctx n).next = 0 then s else s.bump .SNS_CTX_CNT2_STRAY_ROWS n
  | some sub, some f =>
    let s := (s.modFrame n f.id fun f => f.takeLine sub l s.now).noteBacklog
    if l.frameEnd then s.trailer n else s

def evLineArrival (ctx : Fin 8) (line : Line) (s : State) : Out' := .next (s.lineArrives ctx.val line)

/-- The frame end marker (R100). -/
def evTrailer (ctx : Fin 8) (s : State) : Out' := .next (if s.receiving ctx.val then s.trailer ctx.val else s)

/-- When TRAILER_WAIT has passed for the open frame (R100). -/
def State.trailerDue (s : State) (n : Nat) : Option Nat :=
  (s.ctx n).openFrame.map fun f => f.lastRow + s.get .SNS_CTX_TIMING_TRAILER_WAIT n * 300

def evTrailerWaitExpiry (ctx : Fin 8) (s : State) : Out' := .next (s.trailer ctx.val)

/-! ### Enable and disable (R131, R132) -/

/-- A disabled context with a partition is enabled: frame number 0, everything kept for it in effect, an empty record ring;
the first context brings a known-answer pass (R14, R99, R131, R141, R179). -/
def State.enableCtx (s : State) (n : Nat) : State :=
  let first := !(List.range 8).any s.enabled
  let s := s.setCtx n { s.ctx n with run := .running, next := 0, latch := none }
  let s := ((s.set .SNS_CTX_CFG_ENABLED 1 n).set .PIP_CTX_CFG_ENABLED 1 n).set .COL_CTX_CFG_ENABLED 1 n
  let s := { s with sta := { s.sta with rings := tdel s.sta.rings n } }
  let s := if first then { s with pip := { s.pip with katDue := [(s.pip.katCtx, s.pip.katFrame)] } } else s
  s.startBoundary n

def State.mayEnable (s : State) (n : Nat) : Bool := !s.enabled n && s.flag .PIP_CTX_LB_UNITS n

def evContextEnable (ctx : Fin 8) (s : State) : Out' :=
  .next (if s.mayEnable ctx.val then s.enableCtx ctx.val else s.raise .PIP_EVT_NOT_READY ctx.val)

def pktSnsCtxEnable (ctx : Nat) : Packet where
  opcode := 0x0404
  cls := .configure
  params := fun _ => need (decide (ctx < 8)) .SNS_BAD_CONFIG
  rights := cfgCtx ctx
  checks := fun _ s => need (s.mayEnable ctx) .WRONG_STATE
  run := fun _ s => .done .empty (s.enableCtx ctx)

/-- A disable of a running context: at its next trailer, or at once where no frame is open (R132). -/
def State.disableCtx (s : State) (n : Nat) : State :=
  if (s.ctx n).run ≠ .running then s
  else if (s.ctx n).openFrame.isSome then s.setCtx n { s.ctx n with run := .stopping }
  else ((s.boundary n).kernelBoundary n).stopContext n

def evContextDisable (ctx : Fin 8) (s : State) : Out' := .next (s.disableCtx ctx.val)

def pktSnsCtxDisable (ctx : Nat) : Packet where
  opcode := 0x0405
  cls := .configure
  params := fun _ => need (decide (ctx < 8)) .SNS_BAD_CONFIG
  rights := cfgCtx ctx
  run := fun _ s =>
    let t := s.disableCtx ctx
    if !s.enabled ctx then .done .empty s
    else if t.enabled ctx then .wait (.ctxDisabled ctx) t
    else .both .empty t

/-! ### A frame leaves the colour unit (R146, R152, R164, R178, R355) -/

/-- The three 0.16 codes of a pixel as one number. -/
def packCodes (p : Nat × Nat × Nat) : Nat := p.1 + p.2.1 * 2 ^ 16 + p.2.2 * 2 ^ 32

/-- The look paths' last frame, and the frame's image in the outputs that write it. -/
def State.looksDone (s : State) (n : Nat) (f : Frame) : State :=
  f.looks.foldl (fun s u =>
    let s := s.set .COL_LOOK_STAT_FRAME f.num u.out
    let p := s.lookParams u
    let img := f.work.map fun row => row.map fun q => packCodes (p.pixel q)
    (List.range 8).foldl (fun s o =>
      let k := s.output o
      match k.writing with
      | some w => if w.source = n ∧ w.id = f.id ∧ s.showsPath o u.out then
          s.setOutput o { k with writing := some { w with arrived := true, concealed := decide (f.status / 2 ^ 60 % 2 = 1), image := img } } else s
      | none => s) s) s

/-- FRAME_LEAVES_COLOUR: the context's oldest frame whose trailer is known leaves the colour unit. -/
def evFrameLeavesColour (ctx : Fin 8) (s : State) : Out' :=
  let n := ctx.val
  .next <| match (s.ctx n).frames.find? fun f => !f.coloured && !f.dropped with
  | none => s
  | some f =>
    if !f.demosaicked || !f.closed then s else
    let g := { s.colour n f with coloured := true, recordDue := s.flag .STA_CTX_CFG_EN n }
    let s := s.modFrame n f.id fun _ => g
    let s := ((s.set .COL_CTX_FRAME_FRAME g.num n).set .COL_CTX_STAT_WS g.ws n).set .COL_CTX_STAT_CLIPPED g.clipped n
    let s := s.looksDone n g
    let s := if g.devSlot then s.publishFrame n false g else s
    (s.forget n).drained n

/-! ### Sensor control buses (R108 … R112) -/

def scbOp (op : List Byte) : Nat := (op.headD 0).toNat / 16
/-- DATA_BYTES of an operation. -/
def scbCount (op : List Byte) : Nat := (op.headD 0).toNat % 4 + 1
def scbReads (op : List Byte) : Nat := if scbOp op = 2 then scbCount op else 0

/-- A known operation of 8 bytes with 0 … 2 address bytes; a WAIT of 1 … 65,535 µs (R109). R112 lists neither three address bytes nor a
WAIT out of its range: both are refused with SNS_BAD_LIST (DESIGN CHOICE, log 111). -/
def scbOpOk (op : List Byte) : Bool :=
  let k := scbOp op
  let wait := unle (slice op 4 4)
  (k == 1 || k == 2 || k == 3 || k == 15) && (op.headD 0).toNat / 4 % 4 != 3 &&
  (k != 3 || decide (1 ≤ wait ∧ wait ≤ 65535))

/-- A list: 1 … 256 operations, END last, READ data within 1 KiB (R109, R112). An END ahead of the last operation is accepted and ends the
run (DESIGN CHOICE, log 111). -/
def scbListOk (ops : List (List Byte)) : Bool :=
  decide (ops.length ≤ 256) && ops.all scbOpOk && ops.getLast?.any (fun o => scbOp o == 15) &&
  decide ((ops.map scbReads).foldl (· + ·) 0 ≤ 1024)

/-- What an operation puts on its bus: device and direction (not on SPI), register address, data of a WRITE; a READ with a register address
names the device again for the read (R108, R109). -/
def scbWire (spi : Bool) (op : List Byte) : List Byte :=
  let device := fun (r : Nat) => if spi then [] else le 1 ((op.getD 1 0).toNat % 128 * 2 + r)
  let n := (op.headD 0).toNat / 4 % 4
  let address := (le n (unle (slice op 2 2))).reverse
  match scbOp op with
  | 1 => device 0 ++ address ++ slice op 4 (scbCount op)
  | 2 => if n = 0 then device 1 else device 0 ++ address ++ device 1
  | _ => []

/-- The operations of a run up to its first END. -/
def scbRun (ops : List (List Byte)) : List (List Byte) := ops.takeWhile fun o => scbOp o != 15

/-- A list running or waiting to run. -/
def Bus.uses (b : Bus) (l : Nat) : Bool :=
  b.waitingList == some l || (match b.running with
    | some (.inl r) => r == l
    | _ => false)

/-- SNS_SCB_STAT shows what runs and waits. -/
def State.showBus (s : State) (b : Nat) : State :=
  let k := s.scb b
  let s := match k.running with
    | some (.inl l) => (s.set .SNS_SCB_STAT_RUNNING 1 b).set .SNS_SCB_STAT_LIST l b
    | _ => s.set .SNS_SCB_STAT_RUNNING 0 b
  s.set .SNS_SCB_STAT_WAITING (if k.waitingList.isSome then 1 else 0) b

/-- The next to run on an idle bus: the waiting list, then the operations queued behind it (R110). -/
def State.scbNext (s : State) (b : Nat) : State :=
  let k := s.scb b
  let k := match k.waitingList, k.xfers with
    | some l, _ => { k with running := some (.inl l), waitingList := none }
    | none, x :: t => { k with running := some (.inr x), xfers := t }
    | none, [] => { k with running := none }
  (s.setScb b k).showBus b

/-- An odd bus whose balls its even partner's SPI has claimed (R108). -/
def State.scbClaimed (s : State) (b : Nat) : Bool := b % 2 == 1 && s.get .SNS_SCB_CFG_MODE (b - 1) == 3

/-- A run that is dropped (R110). -/
def State.scbDrop (s : State) (b : Nat) : State := (s.bump .SNS_SCB_STAT_OVERLAP b).raise .SNS_SCB_EVT_BUS b

/-- SCB_RUN (R110). On a claimed bus the run is dropped (DESIGN CHOICE, log 111). -/
def evScbRun (bus : Fin 32) (list : Fin 16) (s : State) : Out' :=
  let b := bus.val
  let k := s.scb b
  .next <| if s.scbClaimed b then s.scbDrop b
  else if k.running.isNone then (s.setScb b { k with running := some (.inl list.val) }).showBus b
  else if k.waitingList.isNone then (s.setScb b { k with waitingList := some list.val }).showBus b
  else s.scbDrop b

/-- The operations of what runs on a bus: a list up to its END, or the one of an SNS_SCB_XFER. -/
def Bus.operations (k : Bus) : List (List Byte) :=
  match k.running with
  | none => []
  | some (.inl l) => scbRun (tgetD [] k.lists l)
  | some (.inr x) => scbRun [x.op]

/-- The end of what runs on a bus: `err` 0 none, 1 NACK, 2 timeout, with the operation that failed and the data the devices
gave: its operations have gone out in order up to the failed one, and READs took their bytes of the data (R109, R110). -/
def State.scbEnd (s : State) (b err op : Nat) (data : List Byte) : State :=
  let k := s.scb b
  let done := if err = 0 then k.operations else k.operations.take op
  let out := if err = 0 then k.operations else k.operations.take (op + 1)
  let data := data.take ((done.map scbReads).foldl (· + ·) 0)
  let k := { k with wire := out.map (scbWire (s.get .SNS_SCB_CFG_MODE b == 3)) }
  match k.running with
  | none => s
  | some r =>
    let s := if err = 0 then s.set .SNS_SCB_STAT_ERR_CODE 0 b
      else ((s.set .SNS_SCB_STAT_ERR_CODE err b).set .SNS_SCB_STAT_ERR_OP op b).raise .SNS_SCB_EVT_BUS b
    let s := match r with
      | .inl l => s.setScb b { k with running := none, results := tins (data, err, op) k.results l }
      | .inr x => (s.setScb b { k with running := none }).complete (fun w => w == WaitKind.scbXfer b x.id) .DONE (.bytes data)
    s.scbNext b

def evScbListEnd (bus : Fin 32) (nack : Bool) (op : Nat) (data : List Byte) (s : State) : Out' :=
  .next (s.scbEnd bus.val (if nack then 1 else 0) (if nack then op else 0) data)

def evScbOpTimeout (bus : Fin 32) (op : Nat) (data : List Byte) (s : State) : Out' := .next (s.scbEnd bus.val 2 op data)

def scbRights (cls : Cls) (b : Nat) : Nat → State → List Right := fun _ _ => [⟨cls, .res (res 12 b)⟩]

/-- Ranges of SNS_SCB_CFG, then the mode against R108. -/
def State.scbCfgStatus (s : State) (b cfg : Nat) : Status :=
  let mode := bitsOf cfg 3 0
  if bitsOf cfg 31 16 = 0 ∨ 3 < mode ∨ (mode = 1 ∧ 2 < bitsOf cfg 7 4) then .SNS_BAD_CONFIG
  else if mode ≠ 0 ∧ !s.bankOn 4 then .SNS_BAD_BUS_MODE
  else if b % 2 = 1 ∧ (mode = 3 ∨ (mode ≠ 0 ∧ s.scbClaimed b)) then .SNS_BAD_BUS_MODE
  else .DONE

def State.scbIdle (s : State) (b : Nat) : Bool := s.get .SNS_SCB_STAT_RUNNING b == 0 && s.get .SNS_SCB_STAT_WAITING b == 0

/-- Writable only while the bus has no running or waiting list (R113); SPI claims the odd bus, which must have none either (DESIGN CHOICE,
log 111). -/
def State.scbFree (s : State) (b cfg : Nat) : Status :=
  need (s.scbIdle b && (bitsOf cfg 3 0 != 3 || b % 2 == 1 || s.scbIdle (b + 1))) .SNS_LIST_BUSY

/-- SNS_SCB_CFG in effect: SPI takes the odd bus above, which is off from then on (R108; log 111). -/
def State.applyScbCfg (s : State) (b cfg : Nat) : State :=
  let s := s.writeWord none .SNS_SCB_CFG cfg b 0
  if b % 2 = 0 ∧ bitsOf cfg 3 0 = 3 then s.set .SNS_SCB_CFG_MODE 0 (b + 1) else s

def pktSnsScbConfig (bus : Nat) (cfg : BitVec 32) : Packet where
  opcode := 0x0406
  cls := .configure
  params := fun s => if 32 ≤ bus then .SNS_BAD_CONFIG else s.scbCfgStatus bus cfg.toNat
  rights := scbRights .configure bus
  checks := fun _ s => s.scbFree bus cfg.toNat
  run := fun _ s => .done .empty (s.applyScbCfg bus cfg.toNat)

def pktSnsScbListLoad (bus list : Nat) (ops : List (List Byte)) : Packet where
  opcode := 0x0407
  cls := .configure
  params := fun _ =>
    if ops.any (·.length != 8) then .BAD_LENGTH
    else if 32 ≤ bus ∨ 16 ≤ list then .SNS_BAD_CONFIG
    else need (scbListOk ops) .SNS_BAD_LIST
  rights := scbRights .configure bus
  checks := fun _ s => need (!(s.scb bus).uses list) .SNS_LIST_BUSY
  run := fun _ s => let k := s.scb bus; .done .empty (s.setScb bus { k with lists := tins ops k.lists list })

/-- SNS_SCB_XFER: one operation behind the running and waiting lists (R110); refused on a claimed bus (log 111). -/
def pktSnsScbXfer (bus : Nat) (op : List Byte) : Packet where
  opcode := 0x0408
  cls := .use
  params := fun _ =>
    if op.length ≠ 8 then .BAD_LENGTH
    else if 32 ≤ bus then .SNS_BAD_CONFIG
    else need (scbOpOk op) .SNS_BAD_LIST
  rights := scbRights .use bus
  checks := fun _ s => need (!s.scbClaimed bus) .SNS_BAD_BUS_MODE
  run := fun _ s =>
    let k := s.scb bus
    let s := s.setScb bus { k with xfers := k.xfers ++ [⟨k.nextXfer, op⟩], nextXfer := k.nextXfer + 1 }
    .wait (WaitKind.scbXfer bus k.nextXfer) (if k.running.isNone then s.scbNext bus else s)

/-- SNS_SCB_RESULT: the last completed run of a list (R111). -/
def pktSnsScbResult (bus list : Nat) : Packet where
  opcode := 0x0409
  params := fun _ => need (decide (bus < 32) && decide (list < 16)) .SNS_BAD_CONFIG
  run := fun _ s =>
    let (data, err, op) := tgetD ([], 0, 0) (s.scb bus).results list
    .done (.bytes (padTo 1024 data ++ le 4 err ++ le 4 op)) s

end Sys2Proof.Machine
end

