-- ==== Sys2Proof/Machine/Lnk.lean ====
section
/-!
DEFINITION. Serial lanes and Draxa links (14): quads, Ethernet interfaces, links from signal to enumeration and loss, cells,
figures of merit and PRBS checking.
-/
namespace Sys2Proof.Machine

/-! ### Quads (R325, R326) -/

def protoOff : Nat := 0
def protoPcie : Nat := 1
def protoEth : Nat := 2
def protoSdi : Nat := 3
def protoDraxa : Nat := 4
def protoTest : Nat := 5

/-- A quad's configuration against R325 and the ranges of LNK_Q_CFG. -/
def quadOk (q cfg : Nat) : Bool :=
  let p := bitsOf cfg 31 29
  let rate := bitsOf cfg 15 0
  decide (p ≤ 5) && (p != protoPcie || q == 8 || q == 9) &&
  (bitsOf cfg 28 28 == 0 || (p == protoTest && decide (q < 8))) &&
  decide (bitsOf cfg 27 24 ≤ 1) && decide (1250 ≤ rate ∧ rate ≤ 32000)

/-- Quads of `n` lanes from `first`. -/
def quadsOf (first n : Nat) : List Nat := ((List.range n).map fun i => (first + i) / 4).eraseDups

/-- Lanes of an Ethernet layout, and where it may start (R328). -/
def ethLanes (layout : Nat) : Nat := ([1, 4, 2, 1, 8, 4] : List Nat).getD layout 0
def ethPlace (layout first : Nat) : Bool :=
  match layout with
  | 0 => decide (first < 96)
  | 1 => first % 4 == 0 && decide (first < 96)
  | 2 => first % 2 == 0 && decide (first < 32)
  | 3 => decide (first < 32)
  | 4 => first % 8 == 0 && decide (first < 32)
  | 5 => first % 4 == 0 && decide (first < 32)
  | _ => false

def lanesOf (first n : Nat) : List Nat := (List.range n).map (first + ·)

/-- Lanes of an enabled link; of an enabled interface. -/
def State.linkLanes (s : State) (k : Nat) : List Nat :=
  if s.flag .LNK_D_CFG_EN k then lanesOf (s.get .LNK_D_CFG_FIRST_LANE k) (s.get .LNK_D_CFG_LANES k) else []
def State.ethLanesOf (s : State) (i : Nat) : List Nat :=
  if s.flag .LNK_E_CFG_EN i then lanesOf (s.get .LNK_E_CFG_FIRST_LANE i) (ethLanes (s.get .LNK_E_CFG_LAYOUT i)) else []

def State.linkOnQuad (s : State) (k q : Nat) : Bool := (s.linkLanes k).any fun l => l / 4 == q
def State.ethOnQuad (s : State) (i q : Nat) : Bool := (s.ethLanesOf i).any fun l => l / 4 == q

/-- The binding of a magazine in LNK_MAG (R345). -/
def State.magByte (s : State) (m : Nat) : Nat := s.rd .LNK_MAG / 2 ^ (8 * m) % 256
def magLink (b : Nat) : Option Nat := if b / 128 = 1 then some (b % 32) else none
/-- The magazine a link carries. -/
def State.magOn (s : State) (k : Nat) : Option Nat := (List.range 4).find? fun m => magLink (s.magByte m) == some k

/-- Quads an output's interface occupies: SDI lanes, an Ethernet interface, a Draxa link (R349, R350). -/
def State.interfaceQuads (s : State) (kind port : Nat) : List Nat :=
  match kind with
  | 1 => [port / 4]
  | 2 => ((s.ethLanesOf port).map (· / 4)).eraseDups
  | 3 => ((s.linkLanes port).map (· / 4)).eraseDups
  | _ => []

/-- What bars a change of a quad (R326). -/
def State.quadUsed (s : State) (q : Nat) : Bool :=
  ((List.range 8).any fun n => s.enabled n && s.headFed n && s.linkOnQuad (s.get .SNS_CTX_SRC_LINK n) q) ||
  ((List.range 4).any fun m => (magLink (s.magByte m)).any (s.linkOnQuad · q) &&
    s.magState m != magAbsent && s.magState m != magEjected) ||
  ((List.range 8).any fun o => s.flag .OUT_O_CFG_RUN o &&
    (s.interfaceQuads (s.get .OUT_O_CFG_KIND o) (s.get .OUT_O_CFG_PORT o)).contains q) ||
  ((List.range 8).any fun n => s.attached n && match s.get .CPI_SLOT_STATE_TRANSPORT n with
    | 1 => q == 8 || q == 9
    | 3 => s.linkOnQuad (s.get .CPI_SLOT_STATE_ENDPOINT n / 4) q
    | _ => false) ||
  (s.get .DCK_STATUS_ACTIVE_SRC == 1 && s.ethOnQuad (s.get .DCK_REF_CFG_PTP_IF) q)

def State.quadStatus (s : State) (q cfg : Nat) : Status :=
  if !quadOk q cfg then .LNK_BAD_CONFIG else need (!s.quadUsed q) .LNK_QUAD_BUSY

/-! ### Links down (R340) -/

def linkOff : Nat := 0
def linkLocking : Nat := 1
def linkAligning : Nat := 2
def linkEnumerating : Nat := 3
def linkUp : Nat := 4
def linkFailed : Nat := 5

def State.linkState (s : State) (k : Nat) : Nat := s.get .LNK_D_STAT_STATE k

/-- What is known of a link's partner goes; contexts fed from it show no trigger delay. -/
def State.forgetPartner (s : State) (k : Nat) : State :=
  let s := (s.setLink k {}).wr .LNK_D_STAT (withBits 0 31 29 (s.linkState k)) k
  let s := (List.range 4).foldl (fun s j => s.wr .LNK_D_SERIAL 0 k j) s
  (List.range 8).foldl State.showTrigDelay s

/-- A magazine's link is gone (R277, R300); one that was ejected only leaves. -/
def State.magGone (s : State) (m : Nat) : State :=
  if s.magState m = magAbsent then s
  else if s.magState m = magEjected then s.wr .MED_M_STATE 0 m
  else s.magLost m

/-- A link is lost, or returned to LOCKING: every user is told on the same tick (R340). -/
def State.linkDown (s : State) (k : Nat) : State :=
  if s.linkState k = linkOff ∨ s.linkState k = linkLocking then s else
  let s := match s.magOn k with
    | some m => if s.linkState k = linkUp then s.magGone m else s
    | none => s
  let s := ((s.raise .LNK_EVT_DOWN_DOWN k).pulseSource (0x60 + k)).set .LNK_D_STAT_STATE linkLocking k
  s.forgetPartner k

def evDraxaLinkLoss (link : Fin 32) (s : State) : Out' := .next (s.linkDown link.val)

/-- A link under a new configuration: a link that was in use is lost, then waits for signal, or is OFF. -/
def State.applyDrx (s : State) (k cfg : Nat) : State :=
  let s := (s.linkDown k).writeWord none .LNK_D_CFG cfg k 0
  (s.set .LNK_D_STAT_STATE (if bitsOf cfg 31 31 = 1 then linkLocking else linkOff) k).forgetPartner k

/-- A quad under a new configuration: links whose lanes are no longer DRAXA are lost (R326). -/
def State.applyQuad (s : State) (q cfg : Nat) : State :=
  let s := if bitsOf cfg 31 29 = protoDraxa then s else
    (List.range 32).foldl (fun s k => if s.linkOnQuad k q then s.linkDown k else s) s
  let s := { s with lnk := { s.lnk with checking := s.lnk.checking.filter fun l => l / 4 != q } }
  s.writeWord none .LNK_Q_CFG cfg q 0

/-- The stored configuration of a quad: LNK_Q_CFG, the LNK_D_CFG of every link whose first lane lies in it, and the bindings to
such links (R326, R456). -/
def State.persistQuad (s : State) (q : Nat) : State :=
  let ks := (List.range 32).filter fun k => s.get .LNK_D_CFG_FIRST_LANE k / 4 == q && s.rd .LNK_D_CFG k != 0
  let links := ks.foldl (fun t k => tput 0 t k (BitVec.ofNat 32 (s.rd .LNK_D_CFG k))) s.store.links
  let mags := (List.range 4).foldl (fun w m =>
    if (magLink (s.magByte m)).any ks.contains then withBits w (8 * m + 7) (8 * m) (s.magByte m) else w) s.store.mags.toNat
  { s with store := { s.store with
    quads := tins (BitVec.ofNat 32 (s.rd .LNK_Q_CFG q)) s.store.quads q, links := links, mags := BitVec.ofNat 32 mags } }

def pktLnkQuadConfig (quad : Nat) (cfg : BitVec 32) (persist : Nat) : Packet where
  opcode := 0x0C02
  cls := .configure
  params := fun _ => need (decide (quad < 24) && decide (persist < 2) && quadOk quad cfg.toNat) .LNK_BAD_CONFIG
  rights := fun _ _ => [⟨.configure, .res (res 11 quad)⟩]
  checks := fun _ s => need (!s.quadUsed quad) .LNK_QUAD_BUSY
  run := fun _ s =>
    let s := s.applyQuad quad cfg.toNat
    .done .empty (if persist = 1 then s.persistQuad quad else s)

/-! ### Links and interfaces (R328, R332, R345) -/

/-- The lanes of a link's configuration (R332). -/
def State.drxOk (s : State) (k cfg : Nat) : Bool :=
  let n := bitsOf cfg 12 8
  let first := bitsOf cfg 6 0
  let lanes := lanesOf first n
  bitsOf cfg 31 31 == 0 || (decide (1 ≤ n ∧ n ≤ 16 ∧ first + n ≤ 96) &&
    (lanes.all fun l => s.get .LNK_Q_CFG_PROTOCOL (l / 4) == protoDraxa) &&
    ((List.range 32).all fun j => j == k || !((s.linkLanes j).any lanes.contains)))

def drxRanges (cfg : Nat) : Bool := decide (bitsOf cfg 12 8 ≤ 16) && decide (bitsOf cfg 6 0 < 96)

/-- Configure on every quad of the lanes named and of those held (R346). -/
def quadRights (qs : List Nat) : List Right := qs.eraseDups.map fun q => ⟨.configure, .res (res 11 q)⟩

def pktLnkDrxConfig (link : Nat) (cfg : BitVec 32) : Packet where
  opcode := 0x0C03
  cls := .configure
  params := fun s =>
    if 32 ≤ link ∨ !drxRanges cfg.toNat then .LNK_BAD_CONFIG
    else need (s.drxOk link cfg.toNat) .LNK_BAD_LANES
  rights := fun _ s =>
    let w := cfg.toNat
    quadRights (bitsOf w 6 0 / 4 :: quadsOf (bitsOf w 6 0) (bitsOf w 12 8) ++ (s.linkLanes link).map (· / 4))
  run := fun _ s => .done .empty (s.applyDrx link cfg.toNat)

/-- The lanes of an interface's configuration (R328). -/
def State.ethOk (s : State) (i cfg : Nat) : Bool :=
  let layout := bitsOf cfg 30 28
  let first := bitsOf cfg 6 0
  let lanes := lanesOf first (ethLanes layout)
  bitsOf cfg 31 31 == 0 || (ethPlace layout first && (bitsOf cfg 27 27 == 0 || layout == 0) &&
    (lanes.all fun l => s.get .LNK_Q_CFG_PROTOCOL (l / 4) == protoEth) &&
    ((List.range 16).all fun j => j == i || !((s.ethLanesOf j).any lanes.contains)))

def ethRanges (cfg : Nat) : Bool := decide (bitsOf cfg 30 28 ≤ 5) && decide (bitsOf cfg 6 0 < 96)

def pktLnkEthConfig (eth : Nat) (cfg : BitVec 32) : Packet where
  opcode := 0x0C04
  cls := .configure
  params := fun s =>
    if 16 ≤ eth ∨ !ethRanges cfg.toNat then .LNK_BAD_CONFIG
    else need (s.ethOk eth cfg.toNat) .LNK_BAD_LANES
  rights := fun _ s =>
    let w := cfg.toNat
    quadRights (bitsOf w 6 0 / 4 :: quadsOf (bitsOf w 6 0) (ethLanes (bitsOf w 30 28)) ++ (s.ethLanesOf eth).map (· / 4))
  run := fun _ s => .done .empty (s.writeWord none .LNK_E_CFG cfg.toNat eth 0)

/-- A binding names a link of 4 lanes, and its magazine is neither present nor mounting (R345). -/
def State.bindStatus (s : State) (m b : Nat) : Status :=
  if (magLink b).any (fun k => s.get .LNK_D_CFG_LANES k != 4) then .LNK_BAD_CONFIG
  else need (s.magState m == magAbsent || s.magState m == magEjected) .LNK_QUAD_BUSY

def pktLnkMagMap (mag link : Nat) : Packet where
  opcode := 0x0C05
  cls := .configure
  params := fun s => need (decide (mag < 4) &&
    (link == 0xFF || (decide (link < 32) && s.get .LNK_D_CFG_LANES link == 4))) .LNK_BAD_CONFIG
  rights := fun _ s =>
    let k := if link = 0xFF then magLink (s.magByte mag) else some link
    ⟨.configure, .res (res 3 mag)⟩ :: (k.toList.map fun k => ⟨.configure, .res (s.linkRes k)⟩)
  checks := fun _ s => need (s.magState mag == magAbsent || s.magState mag == magEjected) .LNK_QUAD_BUSY
  run := fun _ s =>
    .done .empty (s.wr .LNK_MAG (withBits (s.rd .LNK_MAG) (8 * mag + 7) (8 * mag) (if link = 0xFF then 0 else 128 + link)))

def pktLnkInfo (kind index : Nat) : Packet where
  opcode := 0x0C01
  params := fun _ => need (decide ((kind = 0 ∧ index < 24) ∨ (kind = 1 ∧ index < 32) ∨ (kind = 2 ∧ index < 16))) .LNK_BAD_CONFIG
  run := fun _ s => .done (.values (match kind with
    | 0 => [s.rd .LNK_Q_CFG index, s.rd .LNK_Q_STAT index]
    | 1 => [s.rd .LNK_D_CFG index, s.rd .LNK_D_STAT index, s.rd .LNK_D_ERR index] ++
        (List.range 4).map fun j => s.rd .LNK_D_SERIAL index j
    | _ => [s.rd .LNK_E_CFG index, s.rd .LNK_E_STAT index])) s

/-- LNK_PARTNER_READ: the pages received, 28 bytes each, in page order (R346). -/
def pktLnkPartnerRead (link : Nat) : Packet where
  opcode := 0x0C06
  params := fun _ => need (decide (link < 32)) .LNK_BAD_CONFIG
  run := fun _ s => .done (.bytes ((s.link link).pages.flatMap (·.2))) s

def pktLnkLinkReset (link : Nat) : Packet where
  opcode := 0x0C09
  cls := .configure
  params := fun _ => need (decide (link < 32)) .LNK_BAD_CONFIG
  rights := fun _ s => [⟨.configure, .res (s.linkRes link)⟩]
  run := fun _ s => .done .empty (s.linkDown link)

/-! ### Figures of merit and PRBS (R330, R331) -/

/-- Lanes of a quad whose receiver has a figure of merit: PAM4, or NRZ above 12.5 Gb/s (R330). -/
def State.hasFom (s : State) (l : Nat) : Bool :=
  let q := l / 4
  match s.get .LNK_Q_CFG_PROTOCOL q with
  | 1 => s.flag .LNK_PCIE_CFG_LINK_UP && decide (4 ≤ s.get .LNK_PCIE_CFG_SPEED)
  | 2 => true
  | 4 => true
  | 5 => s.flag .LNK_Q_CFG_PAM4 q || decide (12500 < s.get .LNK_Q_CFG_TEST_RATE q)
  | _ => false

/-- Latch a lane's figure of merit: free (log 65). -/
def State.latchFom (s : State) (l : Nat) : State :=
  if !s.hasFom l then s else
  let (n, s) := s.draw
  let v := (Config.fom n l).toNat
  let s := (s.set .LNK_L_FOM_LAST v l).set .LNK_L_FOM_MIN (min v (s.get .LNK_L_FOM_MIN l)) l
  let q := l / 4
  let s := { s with val := { s.val with fomLow := tins (min v (tgetD 255 s.val.fomLow q)) s.val.fomLow q } }
  if v < s.get .LNK_Q_CFG_FOM_MIN q then s.raise .LNK_EVT2_FOM_LOW else s

def evFomSample (quad : Fin 24) (s : State) : Out' := .next ((lanesOf (quad.val * 4) 4).foldl State.latchFom s)

/-- PRBS checking runs only on an NRZ TEST quad of 12.5 Gb/s or less (R331). -/
def State.prbsOk (s : State) (q : Nat) : Bool :=
  s.get .LNK_Q_CFG_PROTOCOL q == protoTest && !s.flag .LNK_Q_CFG_PAM4 q && decide (s.get .LNK_Q_CFG_TEST_RATE q ≤ 12500)

/-- What running checkers have met: free (log 65). Wrong bits count once the lane has locked. -/
def State.checkLane (s : State) (l : Nat) : State :=
  let (n, s) := s.draw
  if s.flag .LNK_L_FOM_PRBS_LOCK l then s.bump .LNK_L_PRBS_ERRORS l (Config.prbsErrors n l)
  else s.set .LNK_L_FOM_PRBS_LOCK (if Config.prbsLock n l then 1 else 0) l

def State.checkLanes (s : State) : State := s.lnk.checking.foldl State.checkLane s

def State.prbsStart (s : State) (q : Nat) : State :=
  let ls := lanesOf (q * 4) 4
  let s := ls.foldl (fun s l => (s.set .LNK_L_PRBS_ERRORS 0 l).set .LNK_L_FOM_PRBS_LOCK 0 l) s
  { s with lnk := { s.lnk with checking := (s.lnk.checking.filter fun l => l / 4 != q) ++ ls } }

/-- Checking stops and the counters are held. -/
def State.prbsStop (s : State) (q : Nat) : State :=
  let s := (s.lnk.checking.filter fun l => l / 4 == q).foldl State.checkLane s
  { s with lnk := { s.lnk with checking := s.lnk.checking.filter fun l => l / 4 != q } }

/-- A pattern that is none of 0 … 2 selects nothing: the launch has no effect (DEDUCED, log 67). -/
def evPrbsStart (quad : Fin 24) (pattern : BitVec 32) (s : State) : Out' :=
  .next (if s.prbsOk quad.val ∧ pattern.toNat ≤ 2 then s.prbsStart quad.val else s.raise .LNK_EVT2_NOT_READY)

def evPrbsStop (quad : Fin 24) (s : State) : Out' :=
  .next (if s.prbsOk quad.val then s.prbsStop quad.val else s.raise .LNK_EVT2_NOT_READY)

def pktLnkPrbs (quad start pattern : Nat) : Packet where
  opcode := 0x0C07
  cls := .configure
  params := fun _ => need (decide (quad < 24 ∧ start < 2 ∧ (start = 0 ∨ pattern ≤ 2))) .LNK_BAD_CONFIG
  rights := fun _ _ => [⟨.configure, .res (res 11 quad)⟩]
  checks := fun _ s => need (s.prbsOk quad) .LNK_NOT_TEST
  run := fun _ s => .done .empty (if start = 1 then s.prbsStart quad else s.prbsStop quad)

def pktLnkFomRead (quad : Nat) : Packet where
  opcode := 0x0C08
  params := fun _ => need (decide (quad < 24)) .LNK_BAD_CONFIG
  run := fun _ s => .done (.values ((lanesOf (quad * 4) 4).map fun l => s.rd .LNK_L_FOM l)) s

/-! ### PCIe (R327) -/

def evPcieChange (up : Bool) (speed width : Nat) (s : State) : Out' :=
  .next <| if s.get .LNK_Q_CFG_PROTOCOL 8 ≠ protoPcie then s else
    let s := (s.set .LNK_PCIE_CFG_LINK_UP (if up then 1 else 0)).set .LNK_PCIE_CFG_SPEED (if up then speed else 0)
    (s.set .LNK_PCIE_CFG_WIDTH_NEG (if up then width else 0)).raise .LNK_EVT2_PCIE_CHANGE

/-! ### Bring-up and enumeration (R335, R337 … R339) -/

/-- A link management cell (channel 0) goes out once the link enumerates. -/
def State.manage (s : State) (k type flags : Nat) (payload : List Byte) : State :=
  if s.linkState k = linkEnumerating ∨ s.linkState k = linkUp then
    s.putCell ⟨k, type, 0, flags, padTo 28 payload⟩
  else s

/-- The TX9's one DISCOVER page: type 5, page count 1, protocol version 1, LANES, serial number (R338). -/
def State.sendPages (s : State) (k : Nat) : State :=
  s.manage k 3 0 ([5, 1, 1, BitVec.ofNat 8 (s.get .LNK_D_CFG_LANES k)] ++ padTo 16 Config.moduleSerial)

def evLinkSignalPresent (link : Fin 32) (s : State) : Out' :=
  let k := link.val
  .next (if s.linkState k = linkLocking then s.set .LNK_D_STAT_STATE linkAligning k else s)

/-- A link that cannot be used waits 100 ms for its next attempt (R335, R339). -/
def State.failLink (s : State) (k cause : Nat) : State :=
  let s := (s.set .LNK_D_STAT_STATE linkFailed k).set .LNK_D_STAT_CAUSE cause k
  s.setLink k { s.link k with retryAt := s.now + 100 * ticksPerMs }

def evAlignFound (link : Fin 32) (lanes skew : Nat) (s : State) : Out' :=
  let k := link.val
  .next <| if s.linkState k ≠ linkAligning then s
  else if lanes ≠ s.get .LNK_D_CFG_LANES k then s.failLink k 1
  else if 16 < skew then (s.set .LNK_D_STAT_SKEW (min skew 31) k).failLink k 2
  else
    let s := ((s.set .LNK_D_STAT_STATE linkEnumerating k).set .LNK_D_STAT_CAUSE 0 k).set .LNK_D_STAT_SKEW skew k
    s.sendPages k

def evLinkRetry (link : Fin 32) (s : State) : Out' :=
  let k := link.val
  .next <| if s.linkState k ≠ linkFailed then s else
    let cause := s.get .LNK_D_STAT_CAUSE k
    ((s.set .LNK_D_STAT_STATE linkLocking k).forgetPartner k).set .LNK_D_STAT_CAUSE cause k

def evDiscoverRepeat (link : Fin 32) (s : State) : Out' :=
  let k := link.val
  .next (if s.linkState k = linkEnumerating ∧ !(s.link k).acked then s.sendPages k else s)

/-- A byte of a partner's page. -/
def Link.byte (l : Link) (page i : Nat) : Nat := ((tgetD [] l.pages page).getD i 0).toNat
def Link.field (l : Link) (page i n : Nat) : Nat := unle (slice (tgetD [] l.pages page) i n)

/-- Every page that page 0 announces has come. -/
def Link.complete (l : Link) : Bool :=
  let n := l.byte 0 1
  (tget l.pages 0).isSome && decide (1 ≤ n) && (List.range (min n 15)).all fun p => (tget l.pages p).isSome

/-- A request for an echo: CTRL opcode 1 with the sender's deal time (R343). -/
def State.sendEcho (s : State) (k : Nat) (reply : Bool) (time turn : Nat) : State :=
  s.manage k 2 0 ([1, if reply then 1 else 0, 0, 0] ++ le 8 time ++ le 2 turn)

/-- A DISCOVER page or acknowledgement: with the last page the TX9 acknowledges, and measures a head's echoes (R338, R339). -/
def evDiscoverPage (link : Fin 32) (flags : Nat) (payload : List Byte) (crcOk : Bool) (s : State) : Out' :=
  let k := link.val
  .next <|
    if !crcOk then (if linkEnumerating ≤ s.linkState k ∧ s.linkState k ≤ linkUp then s.bump .LNK_D_ERR_CRC_FAIL k else s)
    else if s.linkState k ≠ linkEnumerating then s
    else
      let l := s.link k
      if flags = 15 then s.setLink k { l with acked := true } else
      let m := { l with pages := tins (padTo 28 payload) l.pages flags }
      let s := s.setLink k m
      if !m.complete then s else
      let s := s.manage k 3 15 [BitVec.ofNat 8 (m.byte 0 1)]
      if m.byte 0 0 = 1 ∧ !l.complete then (List.range 16).foldl (fun s _ => s.sendEcho k false s.now 0) s else s

def insertNat (a : Nat) : List Nat → List Nat
  | [] => [a]
  | b :: t => if a ≤ b then a :: b :: t else b :: insertNat a t

def sortNat : List Nat → List Nat
  | [] => []
  | a :: t => insertNat a (sortNat t)

/-- Half the median of the net round trips, rounded up; of an even count the mean of the middle two (DEDUCED, log 68). -/
def halfMedian (l : List Nat) : Nat :=
  let t := sortNat l
  let n := t.length
  if n = 0 then 0 else
  let a := t.getD ((n - 1) / 2) 0
  let b := t.getD (n / 2) 0
  (a + b + 3) / 4

/-- TRIG_DELAY of a head (R339). -/
def Link.trigDelay (l : Link) (trips : List Nat) : Nat := halfMedian ((l.echoes ++ trips).take 16) + l.field 1 7 2

/-- The capabilities R256 asks of a magazine. -/
def Link.magOk (l : Link) : Bool :=
  l.byte 1 0 == 32 && l.byte 1 1 == 2 && l.byte 1 2 == 64 && decide (4 ≤ l.byte 1 3) &&
  decide (l.field 1 4 4 ≤ 16000) && decide (70 ≤ l.field 1 8 2)

/-- A magazine partner on a bound link is mounted, or marked UNSUPPORTED; on an unbound link it is only reported (R256 … R258, R345). -/
def State.magArrives (s : State) (k : Nat) (l : Link) : State :=
  match s.magOn k with
  | none => s.set .LNK_D_STAT_UNBOUND 1 k
  | some m =>
    let s := s.set .MED_M_STATE_TOTAL (l.field 1 4 4 * 1000000000 / 67108864) m
    let s := s.setMag m { s.magz m with serial := slice (tgetD [] l.pages 0) 4 16 }
    s.set .MED_M_STATE_STATE (if l.magOk then magMounting else magUnsupported) m

/-- ENUMERATION_COMPLETE: the partner is refused, or the link goes UP (R338, R339). -/
def evEnumerationComplete (link : Fin 32) (trips : List Nat) (s : State) : Out' :=
  let k := link.val
  let l := s.link k
  .next <| if s.linkState k ≠ linkEnumerating ∨ !l.complete ∨ !l.acked then s else
    let type := l.byte 0 0
    let delay := if type = 1 then l.trigDelay trips else 0
    let s := s.set .LNK_D_STAT_PARTNER type k
    if type = 0 ∨ 5 ≤ type ∨ (type = 1 ∧ (delay < 60 ∨ 600 < delay)) then
      (s.failLink k 3).raise .LNK_EVT2_PARTNER_REFUSED
    else
      let s := (s.set .LNK_D_STAT_STATE linkUp k).set .LNK_D_STAT_TRIG_DELAY delay k
      let s := (List.range 4).foldl (fun s j => s.wr .LNK_D_SERIAL (l.field 0 (4 + 4 * j) 4) k j) s
      let s := (List.range 8).foldl State.showTrigDelay ((s.raise .LNK_EVT_ENUM_ENUM k).pulseSource (0x60 + k))
      let s := if type = 4 then (List.range (min 4 (l.byte 1 0))).foldl (fun s c =>
        s.setLink k ((s.link k).grant (c + 1) (Config.channelCells k (c + 1)).toNat)) s else s
      if type = 2 then s.magArrives k l else s

/-! ### Cells (R341 … R344) -/

/-- A link that carries traffic with a partner of a type. -/
def State.partnerUp (s : State) (k type : Nat) : Bool := s.linkState k == linkUp && s.get .LNK_D_STAT_PARTNER k == type

/-- Samples of a line's cells at a bit depth: a full line of the configured width drops its padding (R344). -/
def lineSamples (depth cols cells : Nat) (payload : List Byte) : List Nat :=
  let all := (groupsOf depth (payload.length * 8) (byteBits payload)).filter (·.length == depth)
  let px := all.map ofBits
  if cells = (cols * depth + 223) / 224 then px.take cols else px

/-- Contexts a head's cell belongs to, with the sub-stream (R344). -/
def State.fedBy (s : State) (k channel : Nat) : List (Nat × Nat) :=
  (List.range 8).filterMap fun n =>
    if !s.headFed n || s.get .SNS_CTX_SRC_LINK n != k then none
    else if s.get .SNS_CTX_SRC_CHANNEL n = channel then some (n, 0)
    else if s.get .SNS_CTX_SRC_CHANNEL n + 1 = channel ∧ s.flag .SNS_CTX_CFG_SUBSTREAMS n then some (n, 1)
    else none

/-- A line is handed to a context. -/
def State.handLine (s : State) (n sub cells : Nat) (payload : List Byte) (damaged last : Bool) : State :=
  let depth := 10 + 2 * s.get .SNS_CTX_CFG_BIT_DEPTH n
  let cols := match (s.ctx n).openFrame with
    | some f => f.cols
    | none => s.get .SNS_GEOM_COLS n
  s.lineArrives n ⟨sub, lineSamples depth cols cells payload, if damaged then .check else .none, false, last⟩

/-- A DATA cell of a head: markers and lines as from a port; a line that lost a cell is damaged, one whose last cell is lost ends
with the next line's first (R342, R344). -/
def State.dataCell (s : State) (k channel flags : Nat) (payload : List Byte) : State :=
  let bit := fun b => decide (flags / 2 ^ b % 2 = 1)
  let users := s.fedBy k channel
  let hand := fun (s : State) (e : List Byte × Nat × Bool) (bad last : Bool) =>
    users.foldl (fun s u => s.handLine u.1 u.2 e.2.1 e.1 (bad || e.2.2) last) s
  let setLine := fun (s : State) (t : Tab (List Byte × Nat × Bool)) => s.setLink k { s.link k with line := t }
  let old := tget (s.link k).line channel
  let s := match old with
    | some e => if bit 2 then hand (setLine s (tdel (s.link k).line channel)) e true false else s
    | none => s
  let s := if bit 3 then users.foldl (fun s u => if u.2 = 0 then s.startMarker u.1 else s) s else s
  let cur := match tget (s.link k).line channel with
    | some e => (e.1 ++ payload, e.2.1 + 1, e.2.2)
    | none => (payload, 1, !bit 2)
  if bit 1 then hand (setLine s (tdel (s.link k).line channel)) cur false (bit 0)
  else setLine s (tins cur (s.link k).line channel)

/-- A cell of a line is lost: the line is damaged. -/
def State.cellLost (s : State) (k channel : Nat) : State :=
  let l := s.link k
  let e := tgetD ([], 0, true) l.line channel
  s.setLink k { l with line := tins (e.1, e.2.1 + 1, true) l.line channel }

def evDataCell (link : Fin 32) (channel flags : Nat) (payload : List Byte) (crcOk : Bool) (s : State) : Out' :=
  let k := link.val
  .next <| if s.linkState k ≠ linkUp then s
  else if !crcOk then
    let s := s.bump .LNK_D_ERR_CRC_FAIL k
    if s.partnerUp k 1 ∧ !(s.fedBy k channel).isEmpty then s.cellLost k channel else s
  else if s.partnerUp k 1 ∧ !(s.fedBy k channel).isEmpty then s.dataCell k channel flags (padTo 28 payload)
  else s.bump .LNK_D_ERR_DISCARD k

/-- A lane realigns: what it discards damages the lines in progress (R342). -/
def evCellAlignmentLoss (link : Fin 32) (lane : Nat) (s : State) : Out' :=
  let k := link.val
  .next <| if s.linkState k ≠ linkUp ∨ s.get .LNK_D_CFG_LANES k ≤ lane then s else
    let s := s.bump .LNK_D_ERR_REALIGN k
    s.setLink k { s.link k with line := (s.link k).line.map fun (c, e) => (c, e.1, e.2.1, true) }

/-- FLOW: cumulative counts of cells granted, up to 7 entries (R341). -/
def evFlowCell (link : Fin 32) (grants : List (BitVec 32)) (crcOk : Bool) (s : State) : Out' :=
  let k := link.val
  .next <| if s.linkState k ≠ linkUp then s
  else if !crcOk then s.bump .LNK_D_ERR_CRC_FAIL k
  else
    let l := s.link k
    s.setLink k { l with granted := (grants.take 7).foldl (fun t g =>
      tins (bitsOf g.toNat 23 0) t (bitsOf g.toNat 31 24)) l.granted }

/-- ECHO: a request is answered with the TX9's turnaround, which is free (log 64); a reply is one of the net round trips of an
enumeration (R339, R343). -/
def evEcho (link : Fin 32) (reply : Bool) (time turnaround : Nat) (s : State) : Out' :=
  let k := link.val
  .next <| if s.linkState k ≠ linkEnumerating ∧ s.linkState k ≠ linkUp then s
  else if reply then s.setLink k { s.link k with echoes := (s.link k).echoes ++ [s.now - time - turnaround] }
  else
    let (n, s) := s.draw
    s.sendEcho k true time (Config.turnaround n).toNat

/-- The slot attached at an endpoint. -/
def State.slotAt (s : State) (e : Endpoint) : Option Nat :=
  (List.range 8).find? fun n => s.attached n && s.get .CPI_SLOT_STATE_TRANSPORT n == transportCode e.transport &&
    s.get .CPI_SLOT_STATE_ENDPOINT n == e.number

/-- A packet from a controller channel: into its slot's submission ring, or its mailbox (R68, R73). -/
def State.draxaPacket (s : State) (e : Endpoint) (b : List Byte) : State :=
  match s.slotAt e with
  | none => s.imageArrives (.mailbox e) b
  | some n =>
    let tail := s.get .CPI_SLOT_SQ_TAIL_INDEX n
    if 64 ≤ ringFill tail (s.get .CPI_SLOT_SQ_HEAD_INDEX n) then s.raise .CPI_EVT_RING_ERR n
    else if h : n < 8 then (s.set .CPI_SLOT_SQ_TAIL_INDEX (tail + 1) n).imageArrives (.ring ⟨n, h⟩) b
    else s

/-- CPI_SEG: segments in order; the one marked LAST submits the packet, any gap discards it (R343). -/
def evCpiSeg (link : Fin 32) (channel : Fin 4) (first last : Bool) (index : Nat) (data : List Byte) (s : State) : Out' :=
  let k := link.val
  let c := channel.val + 1
  .next <| if !s.partnerUp k 4 ∨ (s.link k).byte 1 0 < c then (if s.linkState k = linkUp then s.bump .LNK_D_ERR_DISCARD k else s)
  else
    let s := s.setLink k ((s.link k).grant c 1)
    let l := s.link k
    let cur := if first then (if index = 0 then some ([], 0) else none) else tget l.segments c
    match cur with
    | none => s.setLink k { l with segments := tdel l.segments c }
    | some (b, next) =>
      if index ≠ next ∨ 172 ≤ index then s.setLink k { l with segments := tdel l.segments c } else
      let b := b ++ padTo 24 data
      if !last then s.setLink k { l with segments := tins (b, next + 1) l.segments c }
      else (s.setLink k { l with segments := tdel l.segments c }).draxaPacket ⟨.draxa, 4 * k + channel.val⟩ b

/-- A reply's bytes become the CPI_SEG cells of an endpoint's channel, where no cell of an earlier one waits there (R68, R343). -/
def State.loadReply (s : State) (endpoint : Nat) (b : List Byte) : Option State :=
  let k := endpoint / 4
  let c := endpoint % 4 + 1
  let l := s.link k
  if s.partnerUp k 4 && (tgetD [] l.outgoing c).isEmpty then
    some (s.setLink k { l with outgoing := tput [] l.outgoing c (segmentsOf k c b) })
  else none

/-- The oldest reply of a Draxa host leaves its ring for the channel (R68). -/
def State.sendReply (s : State) (n : Nat) : State :=
  match (s.host n).replies with
  | [] => s
  | r :: rest =>
    if !s.attached n || s.get .CPI_SLOT_STATE_TRANSPORT n != 3 then s else
    match s.loadReply (s.get .CPI_SLOT_STATE_ENDPOINT n) r.bytes with
    | none => s
    | some s =>
      (s.setHost n { s.host n with replies := rest }).set .CPI_SLOT_RQ_HEAD_INDEX (s.get .CPI_SLOT_RQ_HEAD_INDEX n + 1) n

/-- The reply in a controller channel's mailbox leaves on the channel (R68, R73). -/
def State.sendMail (s : State) (e : Endpoint) (r : Reply) : State :=
  if e.transport ≠ .draxa then s else
  match s.loadReply e.number r.bytes with
  | none => s
  | some s => { s with cpi := { s.cpi with mail := s.cpi.mail.filter (·.1 != e) } }

/-- What leaves on the links in a tick: mailbox replies, waiting cells as their credit allows, FLOW for new grants (R341). -/
def State.sendChannels (s : State) : State :=
  let s := s.cpi.mail.foldl (fun s m => s.sendMail m.1 m.2) s
  s.lnk.links.foldl (fun s l =>
    (l.2.outgoing.foldl (fun s c => State.sendWaiting l.1 c.1 c.2.length s) s).sendFlow l.1) s

/-- The lanes of a quad that receive: of a DRAXA quad those of links past LOCKING, of a PCIE quad those of a trained link; SDI and OFF
quads receive nothing; of any other the state is free (R348; log 66). -/
def State.lanesUp (s : State) (q fresh : Nat) : Nat :=
  match s.get .LNK_Q_CFG_PROTOCOL q with
  | 4 => ((List.range 4).map fun j =>
      if (List.range 32).any fun k => (s.linkLanes k).contains (4 * q + j) && decide (linkAligning ≤ s.linkState k) then 2 ^ j else 0).foldl (· + ·) 0
  | 1 => if s.flag .LNK_PCIE_CFG_LINK_UP then 2 ^ (min 4 (s.get .LNK_PCIE_CFG_WIDTH_NEG - 4 * (q - 8))) - 1 else 0
  | 0 => 0
  | 3 => 0
  | _ => Config.lineState fresh 0 q % 16

end Sys2Proof.Machine
end

