-- ==== Sys2Proof/Machine/Out.lean ====
section
/-!
DEFINITION. Video outputs (15): formats, the scaler and the frame buffers, reference points, what each frame carries, overlays,
compressed streams; publication of decoded frames to outputs.
-/
namespace Sys2Proof.Machine

/-! ### Formats (R349 … R352) -/

/-- Frame periods by RATE [ticks] (R350). -/
def outPeriod (rate : Nat) : Nat :=
  ([12512500, 12500000, 12000000, 10010000, 10000000, 6256250, 6250000, 6000000, 5005000, 5000000, 2502500, 2500000] :
    List Nat).getD rate 12500000

/-- The raster of a FORMAT (R350, R351). -/
def rasterOf (format : Nat) : Nat × Nat :=
  if format ≤ 1 then (1920, 1080) else if format ≤ 3 then (3840, 2160) else (7680, 4320)

def outKind (cfg : Nat) : Nat := bitsOf cfg 30 28
def outRate (cfg : Nat) : Nat := bitsOf cfg 27 24
def outFormat (cfg : Nat) : Nat := bitsOf cfg 23 21
def outPort (cfg : Nat) : Nat := bitsOf cfg 6 0

/-- Ranges of OUT_O_CFG: KIND, RATE, FORMAT, PORT of its kind; quad-link on lane 0 of a quad; RTP options on IP only. -/
def outCfgOk (cfg : Nat) : Bool :=
  let port := outPort cfg
  decide (outKind cfg ≤ 3 ∧ outRate cfg ≤ 11 ∧ outFormat cfg ≤ 4) &&
  (match outKind cfg with
    | 1 => decide (port < 96) && (outFormat cfg != 4 || port % 4 == 0)
    | 2 => decide (port < 16)
    | 3 => decide (port < 32)
    | _ => true) &&
  (outKind cfg == 2 || (bitsOf cfg 17 17 == 0 && bitsOf cfg 16 16 == 0))

/-- SDI carries 4:2:2 at the combinations of R350. -/
def sdiOk (cfg : Nat) : Bool :=
  let rate := outRate cfg
  bitsOf cfg 20 20 == 0 && match outFormat cfg with
    | 0 => decide (rate ≤ 4)
    | 2 => decide (rate ≤ 4)
    | _ => decide (5 ≤ rate ∧ rate ≤ 9)

/-- Interface rates by layout [Gb/s] (R328). -/
def ethRate (layout : Nat) : Nat := ([25, 100, 100, 100, 400, 400] : List Nat).getD layout 0

/-- The context that codes for an output: the lowest whose destination it is (R231, R363). -/
def State.outCodec (s : State) (o : Nat) : Option Nat :=
  (List.range 64).find? fun h => s.get .MLS_C_CFG_DEST_KIND h == 2 && s.get .MLS_C_CFG_DEST_INDEX h == o

/-- Bits of one frame of an IP output's video: samples of the raster at 10 bits, or CEIL_MAX of its codec context (R351, R363;
DEDUCED, log 72). -/
def State.streamBits (s : State) (o cfg : Nat) : Nat :=
  let (w, h) := rasterOf (outFormat cfg)
  if bitsOf cfg 17 17 = 1 then
    match s.outCodec o with
    | some k => 8 * s.get .MLS_C_CEIL_CEIL_MAX k
    | none => 0
  else w * h * (if bitsOf cfg 20 20 = 1 then 30 else 20)

/-- Whether an IP output's streams stay within 90 % of the interface rate (R351). -/
def State.ipFits (s : State) (o cfg : Nat) : Bool :=
  decide (s.streamBits o cfg * 300000000 * 10 ≤ ethRate (s.get .LNK_E_CFG_LAYOUT (outPort cfg)) * 1000000000 * 9 * outPeriod (outRate cfg))

/-- Whether a viewfinder's pages 1 … 3 hold an entry of the raster, RATE and SAMPLING (R352). -/
def State.finderOk (s : State) (cfg : Nat) : Bool :=
  let l := s.link (outPort cfg)
  let (w, h) := rasterOf (outFormat cfg)
  s.partnerUp (outPort cfg) 3 && [1, 2, 3].any fun p => (List.range 4).any fun k =>
    l.field p (7 * k) 2 == w && l.field p (7 * k + 2) 2 == h && l.byte p (7 * k + 4) == outRate cfg &&
    l.byte p (7 * k + 5) == bitsOf cfg 20 20

def State.formatStatus (s : State) (o cfg : Nat) : Status :=
  if !outCfgOk cfg then .OUT_BAD_CONFIG else
  need (match outKind cfg with
    | 1 => sdiOk cfg
    | 2 => s.ipFits o cfg
    | 3 => s.finderOk cfg
    | _ => true) .OUT_BAD_FORMAT

/-! ### The scaler (R353 … R355) -/

/-- A source window or rectangle with 0 as the whole dimension (R354). -/
def windowOf (xy wh fullW fullH : Nat) : Nat × Nat × Nat × Nat :=
  let w := wh / 65536
  let h := wh % 65536
  (xy / 65536, xy % 65536, if w = 0 then fullW else w, if h = 0 then fullH else h)

/-- A 0.16 code as a 10-bit code of the output's range (R354). -/
def outCode (full : Bool) (v : Nat) : Nat :=
  if full then (1023 * v + 32768) / 65536 else 64 + (876 * v + 32768) / 65536

def channelOf (p c : Nat) : Nat := p / 2 ^ (16 * c) % 65536

/-- A buffer word from three 0.16 codes (R354). -/
def outWord (full : Bool) (p : Nat) : Nat :=
  outCode full (channelOf p 0) * 2 ^ 20 + outCode full (channelOf p 1) * 2 ^ 10 + outCode full (channelOf p 2)

/-- The buffer's words for a source image: the crop window scaled into the destination, the fill elsewhere (R354). A window of the
destination's size passes unchanged; the filter's result is free (log 69). -/
def State.scaleImage (s : State) (o : Nat) (img : List (List Nat)) : List (List Nat) :=
  let (w, h) := rasterOf (s.get .OUT_O_CFG_FORMAT o)
  let (cx, cy, cw, ch) := windowOf (s.rd .OUT_O_CROP0 o) (s.rd .OUT_O_CROP1 o) (img.headD []).length img.length
  let (dx, dy, dw, dh) := windowOf (s.rd .OUT_O_DEST0 o) (s.rd .OUT_O_DEST1 o) w h
  let win := ((img.drop cy).take ch).map fun row => (row.drop cx).take cw
  let full := s.flag .OUT_O_CFG_RANGE o
  let fill := s.rd .OUT_O_FILL o
  (List.range h).map fun y => (List.range w).map fun x =>
    if x < dx ∨ dx + dw ≤ x ∨ y < dy ∨ dy + dh ≤ y then fill
    else
      let i := x - dx
      let j := y - dy
      outWord full (if cw = dw ∧ ch = dh then at2 0 win j i
        else (List.range 3).foldl (fun a c => a + Config.scaled c dw dh i j win % 65536 * 2 ^ (16 * c)) 0)

/-- SCALER_FRAME_COMPLETE: the frame is READY; an older frame still READY is freed and counted (R355). Frozen memory takes no
frame (R364). -/
def evScalerFrameComplete (out : Fin 8) (s : State) : Out' :=
  let o := out.val
  let k := s.output o
  .next <| match k.writing with
  | none => s
  | some w =>
    if !w.arrived ∨ s.frozen ∨ s.flushing then s else
    let s := if k.ready.isSome then s.bump .OUT_O_STAT2_SKIPPED o else s
    s.setOutput o { k with writing := none, ready := some { w with image := s.scaleImage o w.image } }

/-! ### What a frame carries (R351, R358, R361, R362) -/

/-- User data words 0 … 7 of the flag packet (R361). -/
def State.flagPacket (s : State) (o : Nat) (repeated concealed : Bool) : List Nat :=
  let b := fun (x : Bool) (k : Nat) => if x then k else 0
  let tally := s.get .VAL_INT_STATUS_TALLY
  let frame := s.rd .OUT_O_SHOWN o
  [1, b s.safe 1 + b repeated 2 + b concealed 4, tally / 256, tally % 256] ++
    [frame / 2 ^ 24, frame / 2 ^ 16 % 256, frame / 2 ^ 8 % 256, frame % 256]

/-- The samples of a channel whose times lie in a period, shifted by DELAY, oldest first (R362). -/
def State.embedded (s : State) (o start stop chan : Nat) : List Nat :=
  let p := chan / 256
  let d := s.get .OUT_O_AUD_DELAY o * 6250
  (((s.port p).history.filter fun e => decide (start ≤ e.1 + d ∧ e.1 + d < stop)).map fun e =>
    tgetD 0 e.2 (chan % 256)).reverse

/-- The audio of the frame that ends at a reference point. -/
def State.frameAudio (s : State) (o : Nat) : List (List Nat) :=
  match (s.output o).lastRef with
  | some r => if s.flag .OUT_O_AUD_EN o then (s.output o).audioMap.map (s.embedded o r s.now) else []
  | none => []

/-! ### Reference points (R164, R353, R356 … R359) -/

/-- The source whose frames reach an output's scaler: a context, or 8 + a decoder session (R158, R353). -/
def State.outSource (s : State) (o : Nat) : Option Nat :=
  let m := s.get .OUT_O_SRC_INDEX o
  if s.flag .OUT_O_SRC_KIND o then some (8 + m)
  else if !s.flag .COL_LOOK_CFG_RUN m then none
  else if s.flag .OUT_O_SRC_KIND m then some (8 + s.get .OUT_O_SRC_INDEX m)
  else some (s.get .COL_LOOK_CFG_SRC_CTX m)

/-- Start-of-frame times of the frames of a source not yet shown: those of a context in hand, a session's frame in progress, and the
frame being written. -/
def State.sourceTimes (s : State) (o src : Nat) : List Nat :=
  let own := ((s.output o).writing.toList ++ (s.output o).ready.toList).filterMap fun (w : OutFrame) =>
    if w.source = src then some w.sof else none
  own ++ if src < 8 then ((s.ctx src).frames.filter fun f : Frame => !f.dropped).map (·.sof)
    else ((s.dec (src - 8)).inFrame.map (·.tag)).toList

/-- Whether a frame that is due and newer than the one shown exists (R357). -/
def State.dueFrame (s : State) (o : Nat) (shown : Option OutFrame) : Bool :=
  match s.outSource o with
  | none => false
  | some src =>
    let limit := s.now - s.get .OUT_O_LAT_LAT o
    decide (s.get .OUT_O_LAT_LAT o ≤ s.now) && (s.sourceTimes o src).any fun t =>
      decide (t ≤ limit) && match shown with
        | some f => f.source != src || decide (f.sof < t)
        | none => true

/-- Whether READY holds a frame newer than the one shown (R357). -/
def newerFrame (shown : Option OutFrame) (f : OutFrame) : Bool :=
  match shown with
  | some g => g.source != f.source || decide (g.sof < f.sof)
  | none => true

/-- Choose the frame of a reference point: one with a late line again, READY if newer, else a repeat; the counts of R357 … R359. -/
def State.chooseFrame (s : State) (o : Nat) : State :=
  let k := s.output o
  if s.flag .OUT_O_CFG_COMPRESSED o then s else
  if s.frozen ∨ s.flushing then s.setOutput o { k with repeated := false, lateLines := [] } else
  let fresh := if !k.lateLines.isEmpty then none else k.ready.filter (newerFrame k.shown)
  match fresh with
  | some f =>
    (s.setOutput o { k with shown := some f, ready := none, noNew := 0, noSource := false, repeated := false }).wr
      .OUT_O_SHOWN f.frame o
  | none =>
    let n := k.noNew + 1
    let hold := s.get .OUT_O_CFG_HOLD o
    let off := k.noSource || (hold != 0 && decide (hold < n))
    let rep := k.shown.isSome && !off
    let under := !k.lateLines.isEmpty || s.dueFrame o k.shown
    let s := s.setOutput o { k with noNew := n, noSource := off, lateLines := [], repeated := rep }
    let s := if off && !k.noSource then s.raise .OUT_EVT_NO_SOURCE o else s
    let s := if rep then s.bump .OUT_O_STAT_REPEATS o else s
    if under then (s.bump .OUT_O_STAT_UNDERRUN o).raise .OUT_EVT_UNDERRUN o else s

/-- The look bank swaps accepted before this tick become active (R164). -/
def State.swapLook (s : State) (o : Nat) : State :=
  let k := s.output o
  let (bank, rest) := dueSwap k.lookSwap s.now false
  match bank with
  | none => s
  | some b =>
    let s := ((s.setOutput o { k with lookSwap := rest }).set .COL_LOOK_BANK_ACTIVE b o).set .COL_LOOK_BANK_PENDING
      (if rest.isEmpty then 0 else 1) o
    let now := s.now
    s.complete (fun w => match w with
      | .lookSwap q since => q == o && decide (since < now)
      | _ => false) .DONE .empty

/-- An output stops: its buffers are empty; writes and swaps that still wait are kept for its next start (R14, R365). -/
def State.stopOutput (s : State) (o : Nat) : State :=
  let s := s.set .OUT_O_CFG_RUN 0 o
  let s := s.setOutput o { s.output o with
    lastRef := none, shown := none, ready := none, writing := none, noNew := 0, noSource := false, lateLines := []
    stopPending := false, packet := [], repeated := false, safeTally := none, packets := [] }
  let s := match s.outCodec o with
    | some h => if s.flag .OUT_O_CFG_COMPRESSED o then s.stopRun h else s
    | none => s
  s.complete (fun w => match w with
    | .outStop q => q == o
    | _ => false) .DONE .empty

/-- An output starts: what was kept for it takes effect (R14). -/
def State.startOutput (s : State) (o : Nat) : State :=
  let s := (s.commitAll (.out o)).set .OUT_O_CFG_RUN 1 o
  let k := s.output o
  let s := match k.lookSwap.getLast? with
    | some b => ((s.setOutput o { k with lookSwap := [] }).set .COL_LOOK_BANK_ACTIVE b.1 o).set .COL_LOOK_BANK_PENDING 0 o
    | none => s
  s.complete (fun w => match w with
    | .outSource q _ => q == o
    | .lookSwap q _ => q == o
    | _ => false) .DONE .empty

/-- A reference point: shadows and look swaps take effect, the source may change, a stop ends the output, else the frame of the
slot is chosen and what it carries formed (R164, R353, R356 … R361). -/
def State.refPoint (s : State) (o : Nat) : State :=
  let before := s.outSource o
  let audio := s.frameAudio o
  let s := (s.commit (.out o)).swapLook o
  let s := if s.outSource o = before then s else s.setOutput o { s.output o with writing := none }
  let s := s.retakeLooks o
  let now := s.now
  let s := s.complete (fun w => match w with
    | .outSource q since => q == o && decide (since < now)
    | _ => false) .DONE .empty
  if (s.output o).stopPending then s.stopOutput o else
  let s := s.chooseFrame o
  let k := s.output o
  let concealed := k.shown.any (·.concealed)
  s.setOutput o { k with
    lastRef := some now, audio := audio, rtp := now * 3 / 10000 % 2 ^ 32
    packet := if s.get .OUT_O_CFG_KIND o = 3 then [] else s.flagPacket o k.repeated concealed
    safeTally := if s.safe then some (s.get .VAL_INT_STATUS_TALLY) else none }

def evOutFrameStart (out : Fin 8) (s : State) : Out' :=
  let o := out.val
  .next <| if !s.outRunning o ∨ s.flushing then s else
    match (s.output o).lastRef with
    | some r => if s.now < r + outPeriod (s.get .OUT_O_CFG_RATE o) then s.bump .OUT_O_STAT2_EARLY o else s.refPoint o
    | none => s.refPoint o

/-- The tick an output begins a frame itself (R356). -/
def State.selfStartDue (s : State) (o : Nat) : Option Nat :=
  if !s.outRunning o ∨ s.flushing then none else (s.output o).lastRef.map (· + outPeriod (s.get .OUT_O_CFG_RATE o))

def evOutputSelfStart (out : Fin 8) (s : State) : Out' :=
  let o := out.val
  .next <| if !(s.selfStartDue o).any (fun t => decide (t ≤ s.now)) then s
  else if (s.output o).stopPending then s.refPoint o
  else ((s.bump .OUT_O_STAT2_START_MISSED o).raise .OUT_EVT_START_MISSED o).refPoint o

/-- LATE_LINE: the line before it, or for line 1 the fill, takes its place; the frame is sent again (R359). -/
def evLateLine (out : Fin 8) (line : Nat) (s : State) : Out' :=
  let o := out.val
  .next <| if (s.output o).shown.isNone ∨ (s.output o).lastRef.isNone ∨ line = 0 ∨
      (rasterOf (s.get .OUT_O_CFG_FORMAT o)).2 < line then s else
    let s := (s.bump .OUT_O_STAT2_LATE_LINES o).raise .OUT_EVT_LATE_LINE o
    s.setOutput o { s.output o with lateLines := (s.output o).lateLines ++ [line] }

/-- OUT_SOURCE_SWITCH: ARG's path becomes the source at the next reference point (R54, R353). -/
def evOutSourceSwitch (out path : Fin 8) (s : State) : Out' :=
  let o := out.val
  .next (s.writeWord (s.outUnit o) .OUT_O_SRC (path.val * 2 ^ 28) o 0)

/-! ### Scan-out (R357 … R360) -/

/-- Y′ of an R′G′B′ word with MATRIX's weights (R360). -/
def lumaCode (matrix w : Nat) : Nat :=
  let (kr, kb) := matrixWeights matrix
  let ch := fun (k : Nat) => Frac.ofInt (w / 2 ^ k % 1024 : Nat)
  let y := ((kr.mul (ch 20)).add (kb.mul (ch 0))).add ((Frac.one.sub (kr.add kb)).mul (ch 10))
  (y.add (.mk' 1 2)).floor.toNat

/-- Whether a frame line covers a pixel; a rectangle is x, y, w, h, colour, width (R360; log 69). -/
def onRect (r : List Nat) (x y : Nat) : Bool :=
  let a := r.getD 0 0
  let b := r.getD 1 0
  let w := r.getD 2 0
  let h := r.getD 3 0
  let t := r.getD 5 0
  decide (a ≤ x ∧ x < a + w ∧ b ≤ y ∧ y < b + h) &&
    (decide (x < a + t ∨ a + w ≤ x + t) || decide (y < b + t ∨ b + h ≤ y + t))

/-- The rectangles of an output, six values each. -/
def rectsOf : Nat → List Nat → List (List Nat)
  | 0, _ => []
  | n + 1, l => if l.isEmpty then [] else l.take 6 :: rectsOf n (l.drop 6)

/-- The R′G′B′ word an output sends for a pixel of a line that is not late: the shown frame or the fill, false colour, zebra, frame lines,
text, and in safe state the border (R357, R358, R360, R361, R364). -/
def State.scanOnTime (s : State) (o x y : Nat) : Nat :=
  let k := s.output o
  let fill := s.rd .OUT_O_FILL o
  let (w, h) := rasterOf (s.get .OUT_O_CFG_FORMAT o)
  let base := match k.shown with
    | some f => if k.noSource ∨ s.frozen then fill else at2 fill f.image y x
    | none => fill
  let luma := lumaCode (s.get .OUT_O_CFG_MATRIX o) base
  let v := if s.flag .OUT_O_OVL_FC_EN o then Config.bandWord (k.thresholds.filter (· ≤ luma)).length else base
  let v := if s.flag .OUT_O_OVL_ZEBRA_EN o && decide (s.get .OUT_O_OVL_ZEBRA o ≤ luma) && Config.stripe x y
    then Config.stripeWord x y else v
  let v := if s.flag .OUT_O_OVL_LINES_EN o then
      (rectsOf 4 k.rects).foldl (fun v r => if onRect r x y then r.getD 4 0 else v) v
    else v
  let lines := (if s.flag .OUT_O_OVL_TEXT_EN o then k.text else []) ++
    (if k.noSource then [(4, ascii "NO SOURCE")] else []) ++
    (match k.safeTally with
      | some t => [(5, ascii ("SAFE STATE " ++ toString t))]
      | none => [])
  let v := if Config.inText lines w h x y then Config.textWord lines w h x y else v
  if k.safeTally.isSome && decide (x < 16 ∨ w ≤ x + 16 ∨ y < 16 ∨ h ≤ y + 16) then Config.borderRed else v

/-- The word an output sends for a pixel: a late line is the line before it again, line 1 the fill (R359). -/
def State.scan (s : State) (o x : Nat) : Nat → Nat
  | 0 => if (s.output o).lateLines.contains 1 then s.rd .OUT_O_FILL o else s.scanOnTime o x 0
  | y + 1 => if (s.output o).lateLines.contains (y + 2) then s.scan o x y else s.scanOnTime o x (y + 1)

/-! ### Compressed output (R363) -/

/-- Pieces of at most 1,400 bytes as FRAME, offset, marker, payload. -/
def rtpPieces (frame : Nat) (ended : Bool) : Nat → Nat → List Byte → List (Nat × Nat × Bool × List Byte)
  | 0, _, _ => []
  | n + 1, off, b =>
    if b.isEmpty then [] else
    let rest := b.drop 1400
    (frame, off, ended && rest.isEmpty, b.take 1400) :: rtpPieces frame ended n (off + 1400) rest

/-- The frames being coded that have bytes in the context's byte sequence, with their positions: each begins where the one before it has
ended (R228). -/
def placed : Nat → List Coding → List (Nat × Coding)
  | _, [] => []
  | at_, c :: t => (at_, c) :: if c.ended.isSome then placed (at_ + c.used) t else []

/-- A context's frames of its present run as published so far: number, position, bytes, whether the end marker is written; of a held frame nothing before its
end marker (R220). -/
def Codec.published (c : Codec) : List (Nat × Nat × List Byte × Bool) :=
  ((c.records.take c.runRecords).reverse.map fun r => (r.frame, r.offset, r.unit, true)) ++
  (((placed c.position c.coding).filter fun (_, f) => !f.hold || f.ended.isSome).map fun (at_, f) => (f.num, at_, f.bytes, f.ended.isSome))

/-- A compressed output sends what its context has published since the last look (R363). -/
def State.sendUnits (s : State) (o : Nat) : State :=
  if !s.outRunning o || s.get .OUT_O_CFG_COMPRESSED o == 0 || s.flushing then s else
  match s.outCodec o with
  | none => s
  | some h =>
    let k := s.output o
    let new := (s.codec h).published.filter fun (_, off, b, _) => decide (k.sent < off + b.length)
    let packets := new.flatMap fun (num, off, b, ended) =>
      let skip := k.sent - off
      rtpPieces num ended (b.length + 1) skip (b.drop skip)
    let top := new.foldl (fun m (_, off, b, _) => max m (off + b.length)) k.sent
    s.setOutput o { k with sent := top, packets := packets }

/-! ### Decoded frames (R242, R250, R353) -/

/-- A decoded MX frame as the working-space image that enters a look path. -/
def Decoded.work (g : Decoded) : List (List (Nat × Nat × Nat)) :=
  let p := fun (i : Nat) => g.planes.getD i []
  (p 0).zipIdx.map fun (row, r) => row.zipIdx.map fun (a, c) =>
    let f := fun (v : Nat) => (toF24 (fp16 (orderedFp16 v))).1
    (f a, f (at2 0 (p 1) r c), f (at2 0 (p 2) r c))

/-- A decoded MP frame as three 0.16 codes: chroma repeated to full size, R′G′B′ by the header's MATRIX (R353). -/
def Decoded.rgb (g : Decoded) : List (List Nat) :=
  let (kr, kb) := matrixWeights g.matrix
  let unit := fun (q : Frac) => min 65535 (((Frac.clamp .zero .one q).scale 16).add (.mk' 1 2)).floor.toNat
  let chroma := fun (i r c : Nat) => Frac.mk' ((at2 512 (g.planes.getD i []) (r / 2) (c / 2) : Nat) - 512 : Int) 896
  let two := fun (k : Frac) => (Frac.ofInt 2).mul (Frac.one.sub k)
  (g.planes.getD 0 []).zipIdx.map fun (row, r) => row.zipIdx.map fun (y, c) =>
    let l := Frac.mk' ((y : Int) - 64) 876
    let red := l.add ((two kr).mul (chroma 2 r c))
    let blue := l.add ((two kb).mul (chroma 1 r c))
    let green := ((l.sub (kr.mul red)).sub (kb.mul blue)).div (Frac.one.sub (kr.add kb))
    packCodes (unit red, unit green, unit blue)

/-- A published frame reaches the outputs that show its session: MX through their look path, MP past it (R353). -/
def State.decodedOut (s : State) (d : Nat) (g : Decoded) : State :=
  let profile := s.get .MLS_D_CFG_PROFILE d
  let put := fun (s : State) (o : Nat) (img : List (List Nat)) =>
    s.setOutput o { s.output o with writing := some ⟨8 + d, g.frame, g.frame, g.tag, g.flags % 2 == 1, true, img⟩ }
  (List.range 8).foldl (fun s m =>
    if !s.showsSession m d then s
    else if profile = 2 then (if s.scales m then put s m g.rgb else s)
    else if !s.flag .COL_LOOK_CFG_RUN m then s
    else
      let p := s.lookParams (s.lookNow m)
      let img := g.work.map fun row => row.map fun q => packCodes (p.pixel q)
      (List.range 8).foldl (fun s o => if s.scales o && (o == m || s.showsPath o m) then put s o img else s)
        (s.set .COL_LOOK_STAT_FRAME g.frame m)) s

def evDecFramePublish (session : Fin 8) (s : State) : Out' :=
  let d := session.val
  .next <| match s.frameEnd d with
  | none => s
  | some t => match t.publishDecoded d false with
    | (t, some g) => t.decodedOut d g
    | (t, none) => t

/-- MLS_D_TIMEOUT.FRAME ms have passed since the header of the frame in progress (R250). -/
def State.frameLate (s : State) (d : Nat) : Bool :=
  (s.dec d).inFrame.any fun f => decide (f.started + s.get .MLS_D_TIMEOUT_FRAME d * ticksPerMs ≤ s.now)

/-- DEC_FRAME_TIMEOUT: no end marker came in time; the frame is published as it stands (R250). -/
def evDecFrameTimeout (session : Fin 8) (s : State) : Out' :=
  let d := session.val
  .next <| if !s.frameLate d then s else match s.publishDecoded d true with
  | (t, some g) => t.decodedOut d g
  | (t, none) => t

/-! ### Packets (R365) -/

def outOk (o : Nat) : Status := need (decide (o < 8)) .OUT_BAD_CONFIG

def pktOutInfo (out : Nat) : Packet where
  opcode := 0x0D01
  params := fun _ => outOk out
  run := fun _ s =>
    let regs : List Reg := [.OUT_O_CFG, .OUT_O_SRC, .OUT_O_CROP0, .OUT_O_CROP1, .OUT_O_DEST0, .OUT_O_DEST1, .OUT_O_FILL, .OUT_O_OVL,
      .OUT_O_AUD, .OUT_O_LAT, .OUT_O_SHOWN, .OUT_O_STAT, .OUT_O_STAT2]
    let k := s.output out
    .done (.values (regs.map (fun r => s.shadow r out) ++ k.thresholds ++
      (List.range 4).flatMap fun l => (tgetD [] k.text l).map (·.toNat))) s

/-- OUT_CONFIG's buffers: three of the raster at 4 bytes a pixel; KIND 0 releases them (R30, R355). -/
def outPool (cfg : Nat) : Nat :=
  let (w, h) := rasterOf (outFormat cfg)
  if outKind cfg = 0 then 0 else 3 * w * h * 4

def State.configOut (s : State) (o cfg lat : Nat) : State :=
  ((s.writeWord none .OUT_O_CFG cfg o 0).wr .OUT_O_LAT lat o).allocate (.output o) (outPool cfg)

def State.outCfgRights (s : State) (o cfg : Nat) : List Right :=
  ⟨.configure, .res (res 2 o)⟩ :: (s.interfaceQuads (outKind cfg) (outPort cfg)).map fun q => ⟨.use, .res (res 11 q)⟩

def pktOutConfig (out : Nat) (cfg lat : BitVec 32) : Packet where
  opcode := 0x0D02
  cls := .configure
  params := fun s => firstFail [outOk out, s.formatStatus out cfg.toNat]
  rights := fun _ s => s.outCfgRights out cfg.toNat
  checks := fun _ s => firstFail [need (!s.outRunning out) .OUT_RUNNING,
    need (s.poolFits (.output out) (s.payer (res 2 out)) (outPool cfg.toNat)) .OUT_NO_POOL]
  run := fun _ s => .done (.values [outPool cfg.toNat]) (s.configOut out cfg.toNat lat.toNat)

/-- The check of R233 before an output uses the codec: for a compressed output with a context. -/
def State.outCodecTime (s : State) (o : Nat) : Bool :=
  match s.outCodec o with
  | some h => !s.flag .OUT_O_CFG_COMPRESSED o || s.codecTime (s.activeWith h none)
  | none => true

/-- OUT_START: the buffers begin empty; a compressed output starts its codec context (R233, R235, R356, R363). -/
def pktOutStart (out : Nat) : Packet where
  opcode := 0x0D03
  cls := .configure
  params := fun _ => outOk out
  rights := cfgOut out
  checks := fun _ s => firstFail [need (!s.outRunning out) .OUT_RUNNING, need (s.flag .OUT_O_CFG_KIND out) .WRONG_STATE,
    need (s.outCodecTime out) .MLS_NO_CODEC_TIME]
  run := fun _ s =>
    let s := s.startOutput out
    .done .empty (match s.outCodec out with
      | some h => if s.flag .OUT_O_CFG_COMPRESSED out then
          (s.setOutput out { s.output out with sent := 0 }).startRun h else s
      | none => s)

def pktOutStop (out : Nat) : Packet where
  opcode := 0x0D04
  cls := .configure
  params := fun _ => outOk out
  rights := cfgOut out
  run := fun _ s =>
    if !s.outRunning out then .both .empty s
    else if (s.output out).lastRef.isNone ∨ s.flushing then .both .empty (s.stopOutput out)
    else .wait (.outStop out) (s.setOutput out { s.output out with stopPending := true })

/-- A source an output may take (R353). -/
def State.sourceStatus (s : State) (o src : Nat) : Status :=
  let d := bitsOf src 30 28
  need (bitsOf src 31 31 == 0 || (s.decMade d && (s.dec d).owner == res 2 o && s.get .MLS_D_CFG_PROFILE d != 0)) .OUT_BAD_SOURCE

/-- The Use right on the output of another look path (R353). -/
def srcRights (o src : Nat) : List Right :=
  let m := bitsOf src 30 28
  if bitsOf src 31 31 = 0 ∧ m ≠ o then [⟨.use, .res (res 2 m)⟩] else []

def pktOutSourceSet (out : Nat) (src : BitVec 32) : Packet where
  opcode := 0x0D05
  cls := .configure
  params := fun s => firstFail [outOk out, s.sourceStatus out src.toNat]
  rights := fun _ _ => ⟨.configure, .res (res 2 out)⟩ :: srcRights out src.toNat
  run := fun _ s =>
    let t := s.writeWord (s.outUnit out) .OUT_O_SRC src.toNat out 0
    if s.outRunning out then .wait (.outSource out s.now) t else .done .empty t

/-- The source dimensions an output's crop is held against: the context's, or the session's coded size (R354). -/
def State.sourceSize (s : State) (o : Nat) : Nat × Nat :=
  match s.outSource o with
  | none => (0, 0)
  | some src =>
    if src < 8 then (s.sget .SNS_GEOM_COLS src, s.sget .SNS_GEOM_ROWS src) else ((s.dec (src - 8)).cols, (s.dec (src - 8)).rows)

/-- Window, rectangle and ratio of R354; of a source that is not there the whole dimension is not known and only a stated window is
held against the ratio. -/
def State.scaleOk (s : State) (o crop0 crop1 dest0 dest1 : Nat) : Bool :=
  let (sw, sh) := s.sourceSize o
  let (w, h) := rasterOf (s.get .OUT_O_CFG_FORMAT o)
  let (cx, cy, cw, ch) := windowOf crop0 crop1 sw sh
  let (dx, dy, dw, dh) := windowOf dest0 dest1 w h
  let axis := fun (x stated full n : Nat) => (stated == 0 || decide (64 ≤ stated)) && (full == 0 || decide (x + n ≤ full))
  let ratio := fun (a b : Nat) => a == 0 || (decide (a ≤ 8 * b) && decide (b ≤ 8 * a))
  axis cx (crop1 / 65536) sw cw && axis cy (crop1 % 65536) sh ch && decide (dx + dw ≤ w) && decide (dy + dh ≤ h) &&
    ratio cw dw && ratio ch dh

def pktOutScaleSet (out : Nat) (crop0 crop1 dest0 dest1 fill : BitVec 32) : Packet where
  opcode := 0x0D06
  cls := .configure
  params := fun s => firstFail [outOk out, need (s.scaleOk out crop0.toNat crop1.toNat dest0.toNat dest1.toNat) .OUT_BAD_CONFIG]
  rights := cfgOut out
  run := fun _ s =>
    let u := s.outUnit out
    let s := (s.writeWord u .OUT_O_CROP0 crop0.toNat out 0).writeWord u .OUT_O_CROP1 crop1.toNat out 0
    let s := (s.writeWord u .OUT_O_DEST0 dest0.toNat out 0).writeWord u .OUT_O_DEST1 dest1.toNat out 0
    .done .empty (s.writeWord u .OUT_O_FILL fill.toNat out 0)

/-- Strictly rising. -/
def rising : List Nat → Bool
  | a :: b :: t => decide (a < b) && rising (b :: t)
  | _ => true

/-- Rectangles of six values with a width of 1 … 8, at most four; seven rising 10-bit thresholds (R360). -/
def overlayOk (rects thrs : List Nat) : Bool :=
  rects.length % 6 == 0 && decide (rects.length ≤ 24) &&
  ((rectsOf 4 rects).all fun r => decide (1 ≤ r.getD 5 0 ∧ r.getD 5 0 ≤ 8)) &&
  thrs.length == 7 && rising thrs && thrs.all fun t => decide (t < 1024)

def pktOutOverlaySet (out : Nat) (ovl : BitVec 32) (rects thrs : List Nat) : Packet where
  opcode := 0x0D07
  cls := .configure
  params := fun _ => firstFail [outOk out, need (overlayOk rects thrs) .OUT_BAD_CONFIG]
  rights := cfgOut out
  run := fun _ s =>
    let s := s.writeWord (s.outUnit out) .OUT_O_OVL ovl.toNat out 0
    .done .empty (s.setOutput out { s.output out with rects := rects, thresholds := thrs })

def pktOutTextSet (out line : Nat) (text : List Byte) : Packet where
  opcode := 0x0D08
  cls := .configure
  params := fun _ => firstFail [outOk out,
    need (decide (line < 4) && decide (text.length ≤ 64) && text.all fun b => decide (b.toNat < 128)) .OUT_BAD_CONFIG]
  rights := cfgOut out
  run := fun _ s => .done .empty (s.setOutput out { s.output out with text := tput [] (s.output out).text line text })

/-- Channels an interface carries (R362). -/
def State.audioLimit (s : State) (o : Nat) : Nat :=
  match s.get .OUT_O_CFG_KIND o with
  | 1 => if s.get .OUT_O_CFG_FORMAT o = 0 then 16 else 32
  | 2 => 8
  | _ => 0

/-- A channel map: ports at 48 kHz and their slots by line, CHANNELS of them (R362). -/
def State.audioOk (s : State) (o aud : Nat) (map : List Nat) : Bool :=
  let n := bitsOf aud 29 24
  if bitsOf aud 31 31 = 0 ∧ n = 0 then map.isEmpty else
  map.length == n && decide (1 ≤ n ∧ n ≤ s.audioLimit o) &&
    map.all fun c => decide (c / 256 < 16 ∧ c % 256 < 128) && s.get .AUD_P_CFG_RATE (c / 256) == 2 &&
      decide (c % 32 < s.get .AUD_P_FMT_SLOTS (c / 256))

def pktOutAudioSet (out : Nat) (aud : BitVec 32) (map : List Nat) : Packet where
  opcode := 0x0D09
  cls := .configure
  params := fun s => firstFail [outOk out, need (decide (bitsOf aud.toNat 15 0 ≤ 4800)) .OUT_BAD_CONFIG,
    need (s.audioOk out aud.toNat map) .OUT_BAD_AUDIO]
  rights := cfgOut out
  run := fun _ s =>
    let s := s.writeWord (s.outUnit out) .OUT_O_AUD aud.toNat out 0
    .done .empty (s.setOutput out { s.output out with audioMap := map })

def pktOutIpSet (out : Nat) (settings : List Byte) : Packet where
  opcode := 0x0D0A
  cls := .configure
  params := fun _ => outOk out
  rights := cfgOut out
  run := fun _ s => .done .empty (s.setOutput out { s.output out with ip := settings })

def pktOutSdpRead (out : Nat) : Packet where
  opcode := 0x0D0B
  params := fun _ => outOk out
  run := fun _ s => .done (.bytes (Config.sdp (BitVec.ofNat 32 (s.rd .OUT_O_CFG out)) (s.output out).ip)) s

end Sys2Proof.Machine
end

