-- ==== Sys2Proof/Machine/Evf.lean ====
section
/-!
DEFINITION. The event fabric (17): producers and their sources, channels with spacing and storm ceiling, task inputs, trick cells,
EVIO pins.
-/
namespace Sys2Proof.Machine

def State.modEvf (s : State) (g : Evf → Evf) : State := { s with evf := g s.evf }
def State.pin (s : State) (p : Nat) : Pin := tgetD {} s.evf.pins p
def State.setPin (s : State) (p : Nat) (k : Pin) : State := s.modEvf fun e => { e with pins := tput {} e.pins p k }
def State.cell (s : State) (k : Nat) : Cell := tgetD {} s.evf.cells k
def State.setCell (s : State) (k : Nat) (c : Cell) : State := s.modEvf fun e => { e with cells := tput {} e.cells k c }

/-- Whether a producer is enabled on a channel (R385). -/
def State.producerOn (s : State) (ch p : Nat) : Bool := s.rd .EVF_EN ch (p / 32) / 2 ^ (p % 32) % 2 == 1

/-- EVIO pins and trick cells, which the fabric clocks (R387). -/
def fastProducer (p : Nat) : Bool := decide (p < 256) || decide (352 ≤ p ∧ p < 416)

/-! ### Rights (R384 … R386, R408) -/

/-- The right a unit source needs; none for a code that is no source (R384, R408). -/
def State.sourceRight (s : State) (code : Nat) : Option Right :=
  let use := fun (id : Nat) => some (⟨.use, .res id⟩ : Right)
  if 0x08 ≤ code ∧ code < 0x20 then use (res 1 (code % 8))
  else if 0x20 ≤ code ∧ code < 0x40 then use (s.kernelRes (code - 0x20))
  else if 0x40 ≤ code ∧ code < 0x48 then use (s.decRes (code - 0x40))
  else if 0x48 ≤ code ∧ code < 0x50 then use (res 7 (code - 0x48))
  else if 0x50 ≤ code ∧ code < 0x58 then some ⟨.use, .cpiPort (code - 0x50)⟩
  else if 0x60 ≤ code ∧ code < 0x80 then use (s.linkRes (code - 0x60))
  else if 0x80 ≤ code ∧ code < 0x8A then use (res 9 (code % 2))
  else if 0x90 ≤ code ∧ code < 0xA0 then use (res 10 (code % 8))
  else if 0xC0 ≤ code ∧ code ≤ 0xC2 then some ⟨.observe, .res (globalRes 0x0F)⟩
  else none

/-- The right to name a task input as a consumer; none for a reserved input (R386). -/
def State.taskRight (s : State) (t : Nat) : Option Right :=
  let on := fun (c : Cls) => some (⟨c, .res (s.taskRes t)⟩ : Right)
  if t < 264 then on .configure
  else if t < 304 then on .use
  else if t < 310 then on .configure
  else if t = 312 ∨ t = 313 then on .use
  else if 320 ≤ t ∧ t < 384 then on .configure
  else none

/-- The right an enabled producer needs (R385); an unmapped slot needs none. -/
def State.producerRight (s : State) (p : Nat) : List Right :=
  if p < 256 then [⟨.use, .res (res 5 p)⟩]
  else if p < 352 then [⟨.use, portTarget (p - 256)⟩]
  else if p < 416 then [⟨.use, .res (res 13 (p - 352))⟩]
  else if s.flag .EVF_SRC_VALID (p - 416) then (s.sourceRight (s.get .EVF_SRC_SOURCE (p - 416))).toList
  else []

/-! ### LEVEL producers and loops (R389, R391) -/

/-- A producer that emits in every cycle while its source is active. -/
def State.levelProducer (s : State) (p : Nat) : Bool :=
  if p < 256 then s.get .EVF_PIN_DIR p == 1 && s.get .EVF_PIN_IN_MODE p == 3
  else if 352 ≤ p ∧ p < 416 then s.flag .EVF_CELL_CFG_OUT_MODE (p - 352)
  else false

/-- An EVIO output that follows its channel. -/
def State.levelOutput (s : State) (t : Nat) : Bool := decide (t < 256) && s.get .EVF_PIN_DIR t == 2 && s.get .EVF_PIN_OUT_MODE t == 2

/-- A consumer that may not see LEVEL producers (R389). -/
def State.countingTask (s : State) (t : Nat) : Bool := decide (t < 384) && !s.levelOutput t

/-- Cells without a flip-flop whose inputs read something: the ones a combinational loop can run through (R391). -/
def State.plainCells (s : State) : List Nat :=
  (List.range 64).filter fun k => s.get .EVF_CELL_CFG_FF_MODE k == 0 && s.flag .EVF_CELL_CFG_IN_EN k

/-- The channels a cell's enabled inputs read. -/
def State.cellReads (s : State) (k : Nat) : List Nat :=
  (bitList 4 (s.get .EVF_CELL_CFG_IN_EN k)).map fun j => s.rd .EVF_CELL_IN k / 256 ^ j % 256

/-- Cells left after removing, again and again, those that none of the rest feeds. -/
def State.loopCells (s : State) : Nat → List Nat → List Nat
  | 0, l => l
  | n + 1, l => s.loopCells n (l.filter fun k => (s.cellReads k).any fun ch => l.any fun i => s.producerOn ch (352 + i))

def State.hasLoop (s : State) : Bool := !(s.loopCells 64 s.plainCells).isEmpty

/-! ### Changes of configuration -/

/-- The other channels that a task input consumes. -/
def State.taskTaken (s : State) (ch t : Nat) : Bool :=
  (List.range 256).any fun c => c != ch && s.get .EVF_CH_CFG_CONSUMER c == t

/-- A channel's consumer against R385, R386, R389. -/
def State.consumerStatus (s : State) (ch t : Nat) : Status :=
  if t = 0x1FF then .DONE
  else if (s.taskRight t).isNone then .EVF_BAD_CONFIG
  else if s.countingTask t && (List.range 512).any fun p => s.levelProducer p && s.producerOn ch p then .EVF_BAD_CONFIG
  else need (!s.taskTaken ch t) .EVF_TASK_BUSY

def State.consumerRights (s : State) (t : Nat) : List Right := if t = 0x1FF then [] else (s.taskRight t).toList

/-- The enable bits of a channel changed. -/
def State.enableProducers (s : State) (ch : Nat) (on : Bool) (ps : List Nat) : State :=
  ps.foldl (fun s p =>
    let w := s.rd .EVF_EN ch (p / 32)
    s.wr .EVF_EN (withBits w (p % 32) (p % 32) (if on then 1 else 0)) ch (p / 32)) s

/-- Enabling producers against R389 and R391. -/
def State.enableStatus (s : State) (ch : Nat) (on : Bool) (ps : List Nat) : Status :=
  if on && s.countingTask (s.get .EVF_CH_CFG_CONSUMER ch) && ps.any s.levelProducer then .EVF_BAD_CONFIG
  else need (!(s.enableProducers ch on ps).hasLoop) .EVF_LOOP_COMBINATIONAL

/-- A cell's flip-flop and filter cleared (R388). -/
def State.clearCell (s : State) (k : Nat) : State := (s.setCell k {}).set .EVF_CELL_STAT_Q 0 k

/-- A cell under a new configuration starts from the cleared state. -/
def State.applyCell (s : State) (k cfg ins : Nat) : State :=
  (((s.writeWord none .EVF_CELL_CFG cfg k 0).wr .EVF_CELL_IN ins k).clearCell k).set .EVF_CELL_STAT_OUT 0 k

/-- A pin that a context's triggers drive (R96, R393). -/
def State.pinBusy (s : State) (p : Nat) : Bool :=
  (List.range 8).any fun n => s.get .SNS_CTX_CFG_SOURCE n == 0 &&
    ((s.flag .SNS_CTX_TRIG_FRAME_EN n && s.get .SNS_CTX_TRIG_FRAME_PIN n == p) ||
     (s.flag .SNS_CTX_TRIG_EXP0_EN n && s.get .SNS_CTX_TRIG_EXP0_PIN n == p) ||
     (s.flag .SNS_CTX_TRIG_EXP1_EN n && s.get .SNS_CTX_TRIG_EXP1_PIN n == p))

def pinCfgOk (cfg : Nat) : Bool := decide (bitsOf cfg 31 30 ≤ 2) && decide (bitsOf cfg 27 26 ≤ 2) && decide (1 ≤ bitsOf cfg 15 8)

def State.pinStatus (s : State) (p cfg : Nat) : Status :=
  if !pinCfgOk cfg || (bitsOf cfg 31 30 != 0 && !s.bankOn (1 + p / 128)) then .EVF_BAD_CONFIG
  else need (!s.pinBusy p) .EVF_PIN_BUSY

/-- A pin under a new configuration: no longer taken; an output starts low. -/
def State.applyPin (s : State) (p cfg : Nat) : State :=
  let was := s.get .EVF_PIN_DIR p
  let s := (s.writeWord none .EVF_PIN cfg p 0).set .EVF_PIN_TAKEN 0 p
  if was = 2 ∨ bitsOf cfg 31 30 = 2 then s.setPin p {} else s

/-! ### One fabric cycle (R385, R387 … R393) -/

/-- What a channel delivers of the events presented to it: nothing while quenched or too close to its last delivery; beyond the storm
ceiling it is quenched at the event that exceeds it (R392). -/
def State.deliverEvents (s : State) (ch n : Nat) : State × Nat :=
  let c := s.evf.cycle
  let close := match tget s.evf.lastDeliver ch with
    | some l => decide (c < l + s.get .EVF_CH_CFG_SPACING ch)
    | none => false
  if s.flag .EVF_CH_CFG_QUENCHED ch then (s, 0)
  else if close then ((s.bump .EVF_CH_STAT_CLOSE ch n).raise .EVF_EVT_CLOSE, 0)
  else
    let had := tgetD 0 s.evf.windowCount ch
    let ceil := s.get .EVF_CH_CEIL_CEILING ch
    let m := if ceil = 0 then n else min n (ceil - had)
    let s := s.modEvf fun e => { e with
      windowCount := tins (had + m) e.windowCount ch, lastDeliver := if m = 0 then e.lastDeliver else tins c e.lastDeliver ch }
    let s := s.set .EVF_CH_STAT_PEAK (max (s.get .EVF_CH_STAT_PEAK ch) (min (had + m) 65535)) ch
    if m < n then
      (((s.set .EVF_CH_CFG_QUENCHED 1 ch).raise .EVF_EVT_STORM).set .EVF_LAST_STORM_CHANNEL ch, m)
    else (s, m)

/-- A task input counts events, at most 3 pending; the rest are lost one by one (R390). -/
def State.countTask (s : State) (t n : Nat) : State :=
  let p := s.get .EVF_T_STAT_PENDING t
  let s := s.set .EVF_T_STAT_PENDING (min 3 (p + n)) t
  if p + n ≤ 3 then s
  else ((s.bump .EVF_T_STAT_OVERRUN t (p + n - 3)).set .EVF_LAST_OVERRUN_TASK t).raise .EVF_EVT_OVERRUN

/-- Deliver to every channel that a presented producer is enabled on; the events each delivered. -/
def State.deliverAll (s : State) (presented : List Nat) : State × Tab Nat :=
  if presented.isEmpty then (s, []) else
  (List.range 256).foldl (fun (acc : State × Tab Nat) ch =>
    let n := (presented.filter (acc.1.producerOn ch)).length
    if n = 0 then acc else
    let (s, m) := acc.1.deliverEvents ch n
    let t := s.get .EVF_CH_CFG_CONSUMER ch
    (if m ≠ 0 ∧ s.countingTask t then s.countTask t m else s, if m = 0 then acc.2 else tins m acc.2 ch)) (s, [])

/-- Pins that follow their channel, and pulses that run (R393). -/
def State.drivePins (s : State) (seen : Tab Nat) : State :=
  let s := (List.range 256).foldl (fun s ch =>
    let t := s.get .EVF_CH_CFG_CONSUMER ch
    if s.levelOutput t then s.setPin t { s.pin t with level := (tget seen ch).isSome } else s) s
  (s.evf.pins.map (·.1)).foldl (fun s p =>
    let k := s.pin p
    if k.pulseLeft = 0 then s else s.setPin p ⟨decide (1 < k.pulseLeft), k.pulseLeft - 1⟩) s

/-- Tasks start, at most one of each input in a cycle; a pulse only on a pin that was low (R386, R390, R393). The inputs that start. -/
def State.startTasks (s : State) (low : Nat → Bool) : State × List Nat :=
  (List.range 384).foldl (fun (acc : State × List Nat) t =>
    let s := acc.1
    let p := s.get .EVF_T_STAT_PENDING t
    if p = 0 ∨ (t < 256 ∧ s.get .EVF_PIN_DIR t = 2 ∧ s.get .EVF_PIN_OUT_MODE t = 0 ∧ !low t) then acc
    else (s.set .EVF_T_STAT_PENDING (p - 1) t, acc.2 ++ [t])) (s, [])

/-- A cell's cycle (R388): its state after it, its output, and its flip-flop's next value. -/
def cellCycle (cfg ins : Nat) (c : Cell) (q : Bool) (seen : Tab Nat) : Cell × Bool × Bool :=
  let bit := fun (j : Nat) => if cfg / 2 ^ j % 2 = 1 ∧ (tget seen (ins / 256 ^ j % 256)).isSome then 2 ^ j else 0
  let idx := bit 0 + bit 1 + bit 2 + bit 3
  let look := bitsOf cfg 31 16 / 2 ^ idx % 2 == 1
  let n := bitsOf cfg 15 8
  let held := decide (n ≤ c.run)
  let f := if n = 0 then look else if held then !c.filtered else c.filtered
  let run := if n = 0 ∨ look = f then 0 else if held then 1 else c.run + 1
  let ff := bitsOf cfg 7 6
  let next := if ff = 0 then false else if ff = 1 then f else if ff = 2 then xor q f else q || f
  (⟨run, f⟩, if ff = 0 then f else q, next)

/-- Every cell evaluates; the cells that emit (R388). -/
def State.runCells (s : State) (seen : Tab Nat) : State × List Nat :=
  (List.range 64).foldl (fun (acc : State × List Nat) k =>
    let (s, out) := acc
    let cfg := s.rd .EVF_CELL_CFG k
    if cfg = 0 then acc else
    let before := s.flag .EVF_CELL_STAT_OUT k
    let (c, o, q) := cellCycle cfg (s.rd .EVF_CELL_IN k) (s.cell k) (s.flag .EVF_CELL_STAT_Q k) seen
    let b := fun (x : Bool) => if x then 1 else 0
    let s := ((s.setCell k c).set .EVF_CELL_STAT_OUT (b o) k).set .EVF_CELL_STAT_Q (b q) k
    (s, if o && (s.flag .EVF_CELL_CFG_OUT_MODE k || !before) then out ++ [352 + k] else out)) (s, [])

/-- Pins in LEVEL input mode that are high. -/
def State.highPins (s : State) : List Nat := (s.evf.pins.filter fun p => p.2.level && s.levelProducer p.1).map (·.1)

/-- One event of each producer of a list, and what is left for the next cycle: only unit slots can have more. -/
def oneEach (l : List Nat) : List Nat × List Nat :=
  l.foldl (fun (a : List Nat × List Nat) p =>
    if !a.1.contains p then (a.1 ++ [p], a.2) else if 416 ≤ p then (a.1, a.2 ++ [p]) else a) ([], [])

/-- One cycle: events are delivered, pins follow, tasks start, cells evaluate (R388, R390). The task inputs that start. -/
def State.fabricCycle (s : State) : State × List Nat :=
  let w := s.now / (max 1 (s.rd .EVF_STORM))
  let s := if w = s.evf.window then s else s.modEvf fun e => { e with window := w, windowCount := [] }
  let (now, left) := oneEach s.evf.emitted
  let presented := (now.filter fastProducer ++ s.evf.delayed ++ s.highPins).eraseDups
  let lowPins := fun (p : Nat) => !(s.pin p).level
  let s := s.modEvf fun e => { e with emitted := left, delayed := now.filter fun p => !fastProducer p }
  let (s, seen) := s.deliverAll presented
  let (s, started) := (s.drivePins seen).startTasks lowPins
  let (s, out) := s.runCells seen
  (s.modEvf fun e => { e with emitted := out ++ e.emitted, cycle := e.cycle + 1 }, started)

/-! ### Pins, cells and tasks as commands -/

/-- EVIO_INPUT_EDGE: the pin's recognised level changes; its mode selects which edges emit (R393). -/
def evEvioInputEdge (pin : Fin 256) (high : Bool) (s : State) : Out' :=
  let p := pin.val
  .next <| if s.get .EVF_PIN_DIR p = 2 ∨ (s.pin p).level = high then s else
    let s := s.setPin p { s.pin p with level := high }
    let mode := s.get .EVF_PIN_IN_MODE p
    if s.get .EVF_PIN_DIR p = 1 ∧ ((mode = 0 ∧ high = true) ∨ (mode = 1 ∧ high = false) ∨ mode = 2) then s.pulse p else s

/-- An output event: the pin pulses or changes level (R393). -/
def State.pinTask (s : State) (p : Nat) : State :=
  if s.get .EVF_PIN_DIR p ≠ 2 then s else
  match s.get .EVF_PIN_OUT_MODE p with
  | 0 => s.setPin p ⟨true, s.get .EVF_PIN_WIDTH p⟩
  | 1 => s.setPin p { s.pin p with level := !(s.pin p).level }
  | _ => s

def evEvioOutputTask (pin : Fin 256) (s : State) : Out' := .next (s.pinTask pin.val)

def evCellReset (cell : Fin 64) (s : State) : Out' := .next (s.clearCell cell.val)
def evCellClearTask (cell : Fin 64) (s : State) : Out' := .next (s.clearCell cell.val)

/-- EVENT_PULSE: the port's producer is pulsed (R54). -/
def evEventPulse (port : Fin 96) (s : State) : Out' := .next (s.pulse (256 + port.val))

/-- FRAME_TRIGGER_TASK: as a FRAME_START launch on the tick the task starts (R386). -/
def evFrameTriggerTask (ctx : Fin 8) (s : State) : Out' := .next (s.frameStart ctx.val)

/-- TAKE_MARK of a task input: a marker with 0xFFFF_0000 + the channel's number on every take of the stream that records (R386). -/
def State.markTask (s : State) (st : Nat) : State :=
  let ch := ((List.range 256).find? fun c => s.get .EVF_CH_CFG_CONSUMER c == 264 + st).getD 0
  (s.takesWhere fun t => t.stream == st && t.state == 2).foldl (fun s t => s.mark t (0xFFFF0000 + ch)) s

def evTakeMarkTask (stream : Fin 8) (s : State) : Out' := .next (s.markTask stream.val)

/-! ### Packets (R395) -/

def pktEvfInfo (kind index : Nat) : Packet where
  opcode := 0x0F01
  params := fun _ => need (decide ((kind = 0 ∧ index < 256) ∨ (kind = 1 ∧ index < 64) ∨ (kind = 2 ∧ index < 256) ∨
    (kind = 3 ∧ index < 384) ∨ (kind = 4 ∧ index < 96))) .EVF_BAD_CONFIG
  run := fun _ s => .done (.values (match kind with
    | 0 => [s.rd .EVF_CH_CFG index, s.rd .EVF_CH_CEIL index, s.rd .EVF_CH_STAT index] ++
        (List.range 16).map fun w => s.rd .EVF_EN index w
    | 1 => [s.rd .EVF_CELL_CFG index, s.rd .EVF_CELL_IN index, s.rd .EVF_CELL_STAT index]
    | 2 => [s.rd .EVF_PIN index]
    | 3 => [s.rd .EVF_T_STAT index]
    | _ => [s.rd .EVF_SRC index])) s

def pktEvfChannelSet (chan consumer spacing ceiling : Nat) : Packet where
  opcode := 0x0F02
  cls := .configure
  params := fun s =>
    need (decide (chan < 256 ∧ spacing < 256 ∧ ceiling < 65536) && (consumer == 0x1FF || (s.taskRight consumer).isSome)) .EVF_BAD_CONFIG
  rights := fun _ s => ⟨.configure, .res (res 5 chan)⟩ :: s.consumerRights consumer
  checks := fun _ s => s.consumerStatus chan consumer
  run := fun _ s =>
    let s := (s.set .EVF_CH_CFG_CONSUMER consumer chan).set .EVF_CH_CFG_SPACING spacing chan
    .done .empty (s.set .EVF_CH_CEIL_CEILING ceiling chan)

def pktEvfEnableSet (chan enable : Nat) (producers : List Nat) : Packet where
  opcode := 0x0F03
  cls := .configure
  params := fun _ => need (decide (chan < 256 ∧ enable < 2 ∧ 1 ≤ producers.length ∧ producers.length ≤ 64) &&
    producers.all fun p => decide (p < 512)) .EVF_BAD_CONFIG
  rights := fun _ s => ⟨.configure, .res (res 5 chan)⟩ :: producers.flatMap s.producerRight
  checks := fun _ s => s.enableStatus chan (enable == 1) producers
  run := fun _ s => .done .empty (s.enableProducers chan (enable == 1) producers)

def pktEvfCellSet (cell : Nat) (cfg ins : BitVec 32) : Packet where
  opcode := 0x0F04
  cls := .configure
  params := fun _ => need (decide (cell < 64)) .EVF_BAD_CONFIG
  rights := fun _ _ => [⟨.configure, .res (res 13 cell)⟩]
  checks := fun _ s => need (!(s.applyCell cell cfg.toNat ins.toNat).hasLoop) .EVF_LOOP_COMBINATIONAL
  run := fun _ s => .done .empty (s.applyCell cell cfg.toNat ins.toNat)

def pktEvfPinSet (pin : Nat) (cfg : BitVec 32) : Packet where
  opcode := 0x0F05
  cls := .configure
  params := fun s => need (decide (pin < 256) && pinCfgOk cfg.toNat &&
    (bitsOf cfg.toNat 31 30 == 0 || s.bankOn (1 + pin / 128))) .EVF_BAD_CONFIG
  rights := fun _ _ => [⟨.configure, .res (res 5 pin)⟩]
  checks := fun _ s => s.pinStatus pin cfg.toNat
  run := fun _ s => .done .empty (s.applyPin pin cfg.toNat)

/-- The slot a source is mapped to. -/
def State.sourceSlot (s : State) (code : Nat) : Option Nat :=
  (List.range 96).find? fun u => s.flag .EVF_SRC_VALID u && s.get .EVF_SRC_SOURCE u == code

def sourceClass (code : Nat) : Cls := if 0xC0 ≤ code then .observe else .use

def pktEvfSourceSet (source : Nat) : Packet where
  opcode := 0x0F06
  cls := sourceClass source
  params := fun s => need (s.sourceRight source).isSome .EVF_BAD_CONFIG
  rights := fun _ s => (s.sourceRight source).toList
  checks := fun _ s =>
    need ((s.sourceSlot source).isSome || (List.range 96).any fun u => !s.flag .EVF_SRC_VALID u) .EVF_NO_SLOT
  run := fun _ s => match s.sourceSlot source with
    | some u => .done (.values [u]) s
    | none => match (List.range 96).find? fun u => !s.flag .EVF_SRC_VALID u with
      | some u => .done (.values [u]) (s.wr .EVF_SRC (2 ^ 31 + source) u)
      | none => .refuse .EVF_NO_SLOT s

/-- EVF_SOURCE_CLEAR: the slot is freed and its producer leaves every channel; a source without a slot has none to free. -/
def pktEvfSourceClear (source : Nat) : Packet where
  opcode := 0x0F07
  cls := sourceClass source
  params := fun s => need (s.sourceRight source).isSome .EVF_BAD_CONFIG
  rights := fun _ s => (s.sourceRight source).toList
  run := fun _ s => match s.sourceSlot source with
    | none => .done .empty s
    | some u => .done .empty ((List.range 256).foldl (fun s ch =>
        if s.producerOn ch (416 + u) then s.enableProducers ch false [416 + u] else s) (s.wr .EVF_SRC 0 u))

def pktEvfUnquench (chan : Nat) : Packet where
  opcode := 0x0F08
  cls := .configure
  params := fun _ => need (decide (chan < 256)) .EVF_BAD_CONFIG
  rights := fun _ _ => [⟨.configure, .res (res 5 chan)⟩]
  run := fun _ s => .done .empty (s.set .EVF_CH_CFG_QUENCHED 0 chan)

def stormOk (period : Nat) : Bool := decide (3000 ≤ period ∧ period ≤ 300000000)

def pktEvfStormSet (period : Nat) : Packet where
  opcode := 0x0F09
  cls := .configure
  params := fun _ => need (stormOk period) .EVF_BAD_CONFIG
  rights := fun _ _ => [⟨.configure, .res (globalRes 0x0F)⟩]
  run := fun _ s => .done .empty (s.wr .EVF_STORM period)

end Sys2Proof.Machine
end

