-- ==== Sys2Proof/Machine/Ptu.lean ====
section
/-!
DEFINITION. The position trigger unit (18): encoders, firing tables, engines, strobes with readback and handover.
-/
namespace Sys2Proof.Machine

def State.modPtu (s : State) (g : Ptu → Ptu) : State := { s with ptu := g s.ptu }
def State.count (s : State) (n : Nat) : Int := tgetD 0 s.ptu.counts n
def State.table (s : State) (t : Nat) : FireTable := tgetD {} s.ptu.tables t
def State.setTable (s : State) (t : Nat) (k : FireTable) : State := s.modPtu fun p => { p with tables := tput {} p.tables t k }
def State.fire (s : State) (e : Nat) : Fire := tgetD {} s.ptu.engines e
def State.setFire (s : State) (e : Nat) (k : Fire) : State := s.modPtu fun p => { p with engines := tput {} p.engines e k }
def State.strobe (s : State) (b : Nat) : Strobe := tgetD {} s.ptu.strobes b
def State.setStrobe (s : State) (b : Nat) (k : Strobe) : State := s.modPtu fun p => { p with strobes := tput {} p.strobes b k }

/-- A signed value in a LO and HI pair: HI copies the sign (R412). -/
def State.wrSigned (s : State) (lo hi : Reg) (v : Int) (i : Nat) : State := s.wr64 lo hi (v % 2 ^ 64).toNat i

def engIdle : Nat := 0
def engArmed : Nat := 1
def engRewind : Nat := 2
def engDone : Nat := 3

def State.engState (s : State) (e : Nat) : Nat := s.get .PTU_E_STATE_STATE e

/-- The position an engine sees (R402). -/
def State.position (s : State) (e : Nat) : Int :=
  let c := s.count (s.get .PTU_E_CFG_ENC e)
  if s.flag .PTU_E_CFG_DIR e then -c else c

def State.showPosition (s : State) (e : Nat) : State := s.wrSigned .PTU_E_POS_LO .PTU_E_POS_HI (s.position e) e

/-! ### Firing tables (R400, R401) -/

/-- The slot a table handle names. -/
def State.tableOf (s : State) (h : Nat) : Option Nat :=
  let t := handleSlot h
  if h < 65536 ∧ t < 4 ∧ (s.table t).live ∧ (s.table t).gen = handleGen h then some t else none

def State.tableHandle (s : State) (t : Nat) : Nat := handleOf (s.table t).gen t

def tableOk (h : Nat) (s : State) : Status := need (s.tableOf h).isSome .PTU_BAD_HANDLE

def tableRights (h : Nat) : Nat → State → List Right := fun _ s =>
  match s.tableOf h with
  | some t => [⟨.configure, .res (res 9 (s.table t).engine)⟩]
  | none => []

/-- A table that an engine is armed with. -/
def State.tableArmed (s : State) (t : Nat) : Bool :=
  let e := (s.table t).engine
  (s.engState e == engArmed || s.engState e == engRewind) && s.get .PTU_E_STATE_HANDLE e == s.tableHandle t

def FireTable.entry (k : FireTable) (i : Nat) : Nat := tgetD 0 k.entries i
def FireTable.offset (k : FireTable) (i : Nat) : Nat := k.entry i % 2 ^ 32
def FireTable.mask (k : FireTable) (i : Nat) : Nat := k.entry i / 2 ^ 32 % 2 ^ 16
def FireTable.expose (k : FireTable) (i : Nat) : Bool := k.entry i / 2 ^ 48 % 2 == 1

/-- The position of an entry of a pass (R400). -/
def FireTable.at (k : FireTable) (pass i : Nat) : Int := k.origin + ((pass * k.feed + k.offset i : Nat) : Int)

/-- The table's image, over which its seal is computed (R401). -/
def FireTable.image (k : FireTable) : List Byte := (List.range k.count).flatMap fun i => le 8 (k.entry i)

/-- Validation of R401. -/
def FireTable.valid (k : FireTable) : Bool :=
  ((List.range k.count).all fun i =>
    (i == 0 || decide (k.offset (i - 1) < k.offset i)) && (k.mask i != 0 || k.expose i) && decide (k.entry i / 2 ^ 49 = 0)) &&
  (decide (k.passes ≤ 1) || k.rewind || decide (k.offset (k.count - 1) < k.feed))

/-- Granules of a table (R400). -/
def tableSize (entries : Nat) : Nat := (entries * 8 + 65535) / 65536

def pktPtuTableCreate (engine cluster entries : Nat) (origin : Int) (feed passes width minInterval rewind : Nat) : Packet where
  opcode := 0x1005
  cls := .configure
  params := fun _ => need (decide (engine < 2 ∧ cluster < 32 ∧ 1 ≤ entries ∧ entries ≤ 65536 ∧ -(2 ^ 47) ≤ origin ∧ origin < 2 ^ 47) &&
    decide (feed < 2 ^ 31 ∧ 1 ≤ passes ∧ passes ≤ 65535 ∧ 1 ≤ width ∧ width ≤ 65535 ∧ minInterval < 2 ^ 32 ∧ rewind < 2)) .PTU_BAD_CONFIG
  rights := fun _ _ => [⟨.configure, .res (res 9 engine)⟩, ⟨.configure, .res (res 8 cluster)⟩]
  checks := fun _ s => firstFail [
    need (decide (((List.range 4).filter fun t => (s.table t).live && (s.table t).engine == engine).length < 2)) .PTU_NO_TABLE_SLOT,
    need (decide (tableSize entries ≤ s.granulesFree cluster)) .PTU_NO_SHARE]
  run := fun _ s => match (List.range 4).find? fun t => !(s.table t).live with
    | none => .refuse .PTU_NO_TABLE_SLOT s
    | some t =>
      let s := s.setTable t {
        live := true, gen := ((s.table t).gen + 1) % 256, engine := engine, cluster := cluster, count := entries, origin := origin
        feed := feed, passes := passes, width := width, minInterval := minInterval, rewind := rewind == 1 }
      let s := { s with eng := { s.eng with tableGranules := tmod 0 s.eng.tableGranules cluster (· + tableSize entries) } }
      .done (.values [s.tableHandle t]) s.showGranules

/-- PTU_TABLE_LOAD: entries written; the table is no longer sealed (R401). -/
def pktPtuTableLoad (handle first count : Nat) (entries : List Nat) : Packet where
  opcode := 0x1006
  cls := .configure
  params := fun s => firstFail [tableOk handle s, need (entries.length == count) .BAD_LENGTH,
    need (decide (1 ≤ count ∧ count ≤ 508) && (s.tableOf handle).any fun t => decide (first + count ≤ (s.table t).count)) .PTU_BAD_CONFIG]
  rights := tableRights handle
  checks := fun _ s => need (!(s.tableOf handle).any s.tableArmed) .PTU_TABLE_ARMED
  run := fun _ s => match s.tableOf handle with
    | none => .refuse .PTU_BAD_HANDLE s
    | some t =>
      let k := s.table t
      .done .empty (s.setTable t { k with
        sealed := false, entries := (entries.zipIdx).foldl (fun m (w, i) => tput 0 m (first + i) (w % 2 ^ 64)) k.entries })

def pktPtuTableSeal (handle : Nat) (crc : BitVec 32) : Packet where
  opcode := 0x1007
  cls := .configure
  params := tableOk handle
  rights := tableRights handle
  checks := fun _ s => need (!(s.tableOf handle).any s.tableArmed) .PTU_TABLE_ARMED
  run := fun _ s => match s.tableOf handle with
    | none => .refuse .PTU_BAD_HANDLE s
    | some t =>
      let k := s.table t
      let off := s.setTable t { k with sealed := false }
      if crc32c k.image ≠ crc.toNat then .refuse .PTU_BAD_SEAL off
      else if !k.valid then .refuse .PTU_BAD_TABLE off
      else .done .empty (s.setTable t { k with sealed := true })

def pktPtuTableFree (handle : Nat) : Packet where
  opcode := 0x100C
  cls := .configure
  params := tableOk handle
  rights := tableRights handle
  checks := fun _ s => need (!(s.tableOf handle).any s.tableArmed) .PTU_TABLE_ARMED
  run := fun _ s => match s.tableOf handle with
    | none => .refuse .PTU_BAD_HANDLE s
    | some t =>
      let k := s.table t
      let n := tableSize k.count
      let s := s.setTable t { gen := k.gen }
      let s := { s with eng := { s.eng with tableGranules := tmod 0 s.eng.tableGranules k.cluster (· - n) } }
      .done (.values [n]) s.showGranules

/-! ### Strobes (R406, R407) -/

/-- The strobe that takes a firing of strobe `b`: itself, its partner where it is DEAD, or none; with the count it earns. -/
def State.handOver1 (s : State) (b : Nat) : State × Option Nat :=
  if !s.flag .PTU_STB_STAT_DEAD b then (s, some b) else
  let p := s.get .PTU_STB_CFG_PARTNER b
  if p = b ∨ s.flag .PTU_STB_STAT_DEAD p then (s.bump .PTU_STB_STAT_DROPPED b, none)
  else (s.bump .PTU_STB_STAT_HANDED b, some p)

/-- A pulse; one that runs is not extended. The readback of the pulse before was good unless it was reported missing. -/
def State.pulseStrobe (s : State) (b width : Nat) : State :=
  let k := s.strobe b
  if s.now < k.highUntil then s else
  s.setStrobe b ⟨s.now + width, if k.missed then k.misses else 0, false⟩

/-- Strobes of an engine's mask fire once each, DEAD ones through their partner. -/
def State.fireStrobes (s : State) (e mask width : Nat) : State :=
  let (s, go) := (bitList 16 mask).foldl (fun (acc : State × List Nat) j =>
    let (s, b) := acc.1.handOver1 (16 * e + j)
    (s, acc.2 ++ b.toList)) (s, [])
  go.eraseDups.foldl (fun s b => s.pulseStrobe b width) s

/-- The width of a timed firing: the armed table's, else MANUAL.WIDTH (R407). -/
def State.strobeWidth (s : State) (e : Nat) : Nat :=
  match (List.range 4).find? fun t => (s.table t).engine == e && (s.table t).live && s.tableArmed t with
  | some t => (s.table t).width
  | none => s.get .PTU_E_MANUAL_WIDTH e

/-- A timed firing; none from a power fail on (R407, R409). -/
def State.timedFire (s : State) (e mask : Nat) : State :=
  if s.flushing then s else s.fireStrobes e (mask % 65536) (s.strobeWidth e)

def evStrobeFire (engine : Fin 2) (mask : BitVec 32) (s : State) : Out' := .next (s.timedFire engine.val mask.toNat)

/-- STROBE_READBACK_MISS: a miss counts where readback is checked; FAIL_LIMIT in a row make the strobe DEAD (R406). -/
def evStrobeReadbackMiss (strobe : Fin 32) (s : State) : Out' :=
  let b := strobe.val
  .next <| if !s.flag .PTU_STB_CFG_FB_EN b then s else
    let k := s.strobe b
    let n := k.misses + 1
    let s := ((s.setStrobe b { k with misses := n, missed := true }).bump .PTU_STB_STAT_FB_MISS b).pulseSource (0x88 + b / 16)
    if s.get .PTU_STB_CFG_FAIL_LIMIT b ≤ n ∧ !s.flag .PTU_STB_STAT_DEAD b then
      (s.set .PTU_STB_STAT_DEAD 1 b).raise .PTU_EVT_STROBE_DEAD (b / 16)
    else s

/-! ### Engines (R402 … R405) -/

/-- The table an engine is armed with. -/
def State.engTable (s : State) (e : Nat) : FireTable := s.table (handleSlot (s.get .PTU_E_STATE_HANDLE e))

/-- What follows an entry: the next entry; at the end of a pass the next pass, in REWIND where the table says so; after the last
pass DONE. -/
def State.advanceEntry (s : State) (e : Nat) : State :=
  let k := s.engTable e
  let i := s.get .PTU_E_PASS_ENTRY e + 1
  if i < k.count then s.set .PTU_E_PASS_ENTRY i e else
  let p := s.get .PTU_E_PASS_PASS e + 1
  if p < k.passes then
    let s := (s.set .PTU_E_PASS_ENTRY 0 e).set .PTU_E_PASS_PASS p e
    if k.rewind then s.set .PTU_E_STATE_STATE engRewind e else s
  else
    ((s.set .PTU_E_STATE_STATE engDone e).raise .PTU_EVT_TABLE_DONE e).pulseSource (0x86 + e)

/-- The position of an engine's next entry. -/
def State.nextAt (s : State) (e : Nat) : Int := (s.engTable e).at (s.get .PTU_E_PASS_PASS e) (s.get .PTU_E_PASS_ENTRY e)

/-- Entries at or below the mark at the arm: counted in PASSED, never fired (R402). -/
def State.passEntries (s : State) (e : Nat) (hwm : Int) : Nat → State
  | 0 => s
  | n + 1 =>
    if s.engState e ≠ engArmed ∨ hwm < s.nextAt e then s
    else ((s.bump .PTU_E_STAT_PASSED e).advanceEntry e).passEntries e hwm n

/-- Whether a table can be armed on an engine (R402). -/
def State.armable (s : State) (e h : Nat) : Bool :=
  s.engState e == engIdle && (s.tableOf h).any fun t => (s.table t).sealed && (s.table t).engine == e

def State.showMark (s : State) (e : Nat) : State := s.wrSigned .PTU_E_HWM_LO .PTU_E_HWM_HI (s.fire e).hwm e

/-- The arm: PTU_E_CFG takes effect, the mark is the position, and entries at or below it are passed (R402). -/
def State.arm (s : State) (e h : Nat) : State :=
  let s := (s.commit (.engine e)).showPosition e
  let x := s.position e
  let s := (s.setFire e { hwm := x }).showMark e
  let s := ((s.set .PTU_E_STATE_STATE engArmed e).set .PTU_E_STATE_HANDLE h e).wr .PTU_E_PASS 0 e
  let s := s.set .PTU_E_FIRED_COUNT 0 e
  let k := s.engTable e
  s.passEntries e x (k.count * k.passes)

def State.disarm (s : State) (e : Nat) : State := (s.set .PTU_E_STATE_STATE engIdle e).set .PTU_E_STATE_HANDLE 0 e

/-- An arm by a launch or a task: one that cannot take effect sets NOT_READY (R402). -/
def State.armLaunch (s : State) (e h : Nat) : State := if s.armable e h then s.arm e h else s.raise .PTU_EVT_NOT_READY

def evTableArm (engine : Fin 2) (handle : BitVec 32) (s : State) : Out' := .next (s.armLaunch engine.val handle.toNat)

def evTableDisarm (engine : Fin 2) (s : State) : Out' := .next (s.disarm engine.val)

/-- An entry that falls due: skipped too soon after the last firing, else fired (R405). -/
def State.fireOrSkip (s : State) (e : Nat) : State :=
  let k := s.engTable e
  let i := s.get .PTU_E_PASS_ENTRY e
  let f := s.fire e
  if f.lastFire.any fun t => decide (s.now < t + k.minInterval) then
    let s := (s.bump .PTU_E_STAT_OVERSPEED e).wrSigned .PTU_E_OVER_POS_LO .PTU_E_OVER_POS_HI (s.nextAt e) e
    (s.raise .PTU_EVT_OVERSPEED e).pulseSource (0x82 + e)
  else
    let s := (s.setFire e { f with lastFire := some s.now }).fireStrobes e (k.mask i) k.width
    let s := if k.expose i then s.frameStart (s.get .PTU_E_CFG_CTX e) else s
    (s.bump .PTU_E_FIRED_COUNT e).pulseSource (0x80 + e)

/-- An engine's view of a count change (R403, R404). -/
def State.engStep (s : State) (e : Nat) : State :=
  let x := s.position e
  let f := s.fire e
  let back : Int := s.get .PTU_E_CFG_BACKLASH e
  if s.engState e = engArmed then
    if f.hwm < x then
      let s := (s.setFire e { f with hwm := x, reversalOpen := false }).showMark e
      if s.nextAt e ≤ x then (s.fireOrSkip e).advanceEntry e else s
    else if back < f.hwm - x ∧ !f.reversalOpen then
      let s := (s.setFire e { f with reversalOpen := true }).bump .PTU_E_STAT_REVERSAL e
      let s := (s.raise .PTU_EVT_REVERSAL e).pulseSource (0x84 + e)
      if s.flag .PTU_E_CFG_REVERSAL_STOP e then s.disarm e else s
    else s
  else if s.engState e = engRewind ∧ x ≤ (s.engTable e).at (s.get .PTU_E_PASS_PASS e) 0 - back then
    ((s.setFire e { f with hwm := x }).showMark e).set .PTU_E_STATE_STATE engArmed e
  else s

/-! ### Encoders (R398, R399) -/

/-- A count set, with the positions of the engines that follow the encoder. -/
def State.setCount (s : State) (n : Nat) (v : Int) : State :=
  let s := (s.modPtu fun p => { p with counts := tput 0 p.counts n v }).wrSigned .PTU_ENC_COUNT_LO .PTU_ENC_COUNT_HI v n
  (List.range 2).foldl (fun s e => if s.get .PTU_E_CFG_ENC e = n then s.showPosition e else s) s

/-- ENCODER_COUNT_CHANGE: the count moves by 1, INVERT swapping the direction, and the engines see it; they fire nothing from a power
fail on (R398, R403, R409). -/
def evEncoderCountChange (enc : Fin 8) (up : Bool) (s : State) : Out' :=
  let n := enc.val
  let s := s.setCount n (s.count n + if up != s.flag .PTU_ENC_CFG_INVERT n then 1 else -1)
  .next <| if s.flushing then s else
    (List.range 2).foldl (fun s e => if s.get .PTU_E_CFG_ENC e = n then s.engStep e else s) s

/-- INDEX_EDGE: the count is latched; with INDEX_ZERO set it becomes 0, unless an engine that follows it is ARMED or REWIND (R399). -/
def evIndexEdge (enc : Fin 8) (s : State) : Out' :=
  let n := enc.val
  let s := ((s.wrSigned .PTU_ENC_IDX_LO .PTU_ENC_IDX_HI (s.count n) n).bump .PTU_ENC_STAT_INDEX n).pulseSource (0x90 + n)
  let armed := (List.range 2).any fun e =>
    s.get .PTU_E_CFG_ENC e == n && (s.engState e == engArmed || s.engState e == engRewind)
  .next (if s.flag .PTU_ENC_CFG_INDEX_ZERO n && !armed then (s.setCount n 0).set .PTU_ENC_CFG_INDEX_ZERO 0 n else s)

def evQuadratureError (enc : Fin 8) (s : State) : Out' :=
  .next (((s.bump .PTU_ENC_STAT_QUAD_ERR enc.val).raise .PTU_EVT_QUAD_ERR).pulseSource (0x98 + enc.val))

/-- POWER_FAIL: the engines stop firing and the strobes go inactive (R409). -/
def State.strobesOff (s : State) : State :=
  s.modPtu fun p => { p with strobes := p.strobes.map fun (b, k) => (b, { k with highUntil := 0 }) }

/-! ### Packets (R410) -/

def pktPtuInfo (kind index : Nat) : Packet where
  opcode := 0x1001
  params := fun s =>
    if kind = 3 then tableOk index s
    else need (decide ((kind = 0 ∧ index < 8) ∨ (kind = 1 ∧ index < 2) ∨ (kind = 2 ∧ index < 32))) .PTU_BAD_CONFIG
  run := fun _ s =>
    let regs := fun (l : List Reg) => l.map fun r => s.shadow r index
    .done (.values (match kind with
      | 0 => regs [.PTU_ENC_CFG, .PTU_ENC_COUNT_LO, .PTU_ENC_COUNT_HI, .PTU_ENC_IDX_LO, .PTU_ENC_IDX_HI, .PTU_ENC_STAT]
      | 1 => regs [.PTU_E_CFG, .PTU_E_STATE, .PTU_E_POS_LO, .PTU_E_POS_HI, .PTU_E_HWM_LO, .PTU_E_HWM_HI, .PTU_E_PASS, .PTU_E_STAT,
          .PTU_E_FIRED, .PTU_E_OVER_POS_LO, .PTU_E_OVER_POS_HI, .PTU_E_MANUAL]
      | 2 => regs [.PTU_STB_CFG, .PTU_STB_STAT]
      | _ =>
        let k := s.table (handleSlot index)
        [k.engine, k.cluster, k.count, (k.origin % 2 ^ 48).toNat, k.feed, k.passes, k.width, k.minInterval,
          if k.rewind then 1 else 0])) s

/-- Strobe and encoder balls lie in bank B5 (R471). -/
def State.ptuBank (s : State) : Status := need (s.bankOn 5) .PTU_BAD_CONFIG

def pktPtuEncConfig (enc : Nat) (cfg : BitVec 32) : Packet where
  opcode := 0x1002
  cls := .configure
  params := fun s => firstFail [need (decide (enc < 8)) .PTU_BAD_CONFIG, s.ptuBank]
  rights := fun _ _ => [⟨.configure, .res (res 10 enc)⟩]
  run := fun _ s => .done .empty (s.writeWord none .PTU_ENC_CFG cfg.toNat enc 0)

/-- Rights of an engine's configuration: the encoder it follows and the context it exposes (R402). -/
def engineRights (e cfg : Nat) : List Right :=
  [⟨.configure, .res (res 9 e)⟩, ⟨.use, .res (res 10 (bitsOf cfg 30 28))⟩, ⟨.configure, .res (res 1 (bitsOf cfg 26 24))⟩]

def pktPtuEngineConfig (engine : Nat) (cfg manual : BitVec 32) : Packet where
  opcode := 0x1003
  cls := .configure
  params := fun _ => need (decide (engine < 2)) .PTU_BAD_CONFIG
  rights := fun _ _ => engineRights engine cfg.toNat
  run := fun _ s =>
    .done .empty ((s.writeWord (some (.engine engine)) .PTU_E_CFG cfg.toNat engine 0).writeWord none .PTU_E_MANUAL manual.toNat engine 0)

/-- FAIL_LIMIT and FB_WINDOW in range, the partner on the same engine (R406). -/
def strobeCfgOk (b cfg : Nat) : Bool :=
  decide (1 ≤ bitsOf cfg 23 20) && decide (1 ≤ bitsOf cfg 7 0) && bitsOf cfg 28 24 / 16 == b / 16

def pktPtuStrobeConfig (strobe : Nat) (cfg : BitVec 32) : Packet where
  opcode := 0x1004
  cls := .configure
  params := fun s => firstFail [need (decide (strobe < 32) && strobeCfgOk strobe cfg.toNat) .PTU_BAD_CONFIG, s.ptuBank]
  rights := fun _ _ => [⟨.configure, .res (res 9 (strobe / 16))⟩]
  run := fun _ s => .done .empty (s.writeWord none .PTU_STB_CFG cfg.toNat strobe 0)

def pktPtuTableArm (handle : Nat) : Packet where
  opcode := 0x1008
  cls := .configure
  params := tableOk handle
  rights := tableRights handle
  checks := fun _ s => need ((s.tableOf handle).any fun t => s.armable (s.table t).engine handle) .WRONG_STATE
  run := fun _ s => match s.tableOf handle with
    | none => .refuse .PTU_BAD_HANDLE s
    | some t => .done .empty (s.arm (s.table t).engine handle)

def engineOk (e : Nat) : Status := need (decide (e < 2)) .PTU_BAD_CONFIG
def cfgEngine (e : Nat) : Nat → State → List Right := fun _ _ => [⟨.configure, .res (res 9 e)⟩]

def pktPtuTableDisarm (engine : Nat) : Packet where
  opcode := 0x1009
  cls := .configure
  params := fun _ => engineOk engine
  rights := cfgEngine engine
  run := fun _ s => .done .empty (s.disarm engine)

def pktPtuStrobeFire (engine mask : Nat) : Packet where
  opcode := 0x100A
  cls := .configure
  params := fun s => firstFail [need (decide (engine < 2 ∧ mask < 65536)) .PTU_BAD_CONFIG, s.ptuBank]
  rights := cfgEngine engine
  run := fun _ s => .done .empty (s.timedFire engine mask)

def pktPtuStrobeReset (engine mask : Nat) : Packet where
  opcode := 0x100B
  cls := .configure
  params := fun _ => need (decide (engine < 2 ∧ mask < 65536)) .PTU_BAD_CONFIG
  rights := cfgEngine engine
  run := fun _ s => .done .empty ((bitList 16 mask).foldl (fun s j =>
    let b := 16 * engine + j
    (s.set .PTU_STB_STAT_DEAD 0 b).setStrobe b { s.strobe b with misses := 0 }) s)

/-- The table a task arms on an engine: its sealed one; of two, either (log 74). -/
def State.taskHandle (s : State) (e : Nat) : Nat :=
  let l := (List.range 4).filter fun t => (s.table t).live && (s.table t).sealed && (s.table t).engine == e
  match l with
  | [] => 0
  | [t] => s.tableHandle t
  | t :: u :: _ => s.tableHandle (if Config.taskTable s.evf.cycle then u else t)

end Sys2Proof.Machine
end

