-- ==== Sys2Proof/Machine/Val.lean ====
section
/-!
DEFINITION. Valtu (19): telemetry, power fail, the hold-up bank, the thermal model and its throttle ladder, margin re-plan, monitors.
-/
namespace Sys2Proof.Machine

def State.modVal (s : State) (g : Val → Val) : State := { s with val := g s.val }

def valRight (cls : Cls) : Nat → State → List Right := fun _ _ => [⟨cls, .res (globalRes 0x11)⟩]

/-! ### Rails and lid sensors (R414 … R417) -/

/-- Rails that draw in the flush profile (R414). -/
def flushRails : List Nat := [0, 3, 4, 5, 6, 7, 8, 9, 11, 12, 13]

/-- The maximum of a rail in units of 10 µW (R414). -/
def railMax (r : Nat) : Nat :=
  ([600000, 2800000, 1400000, 600000, 400000, 700000, 400000, 100000, 700000, 400000, 400000, 40000, 40000, 40000] : List Nat).getD r 0

def State.railFlagged (s : State) (r : Nat) : Bool := s.flag .VAL_RAIL_STAT_IMPLAUSIBLE r

/-- Set or clear a bit of a field. -/
def State.setBit (s : State) (f : Fld) (b : Nat) (on : Bool) : State :=
  let v := s.get f
  if v / 2 ^ b % 2 = (if on then 1 else 0) then s else s.set f (if on then v + 2 ^ b else v - 2 ^ b)

/-- A rail is flagged implausible with its cause (R416). -/
def State.flagRail (s : State) (r cause : Nat) : State :=
  let s := ((s.set .VAL_RAIL_STAT_IMPLAUSIBLE 1 r).set .VAL_RAIL_STAT_CAUSE cause r).bump .VAL_RAIL_STAT_FLAGGED r
  ((s.setBit .VAL_STATUS_IMPLAUSIBLE r true).raise .VAL_EVT_RAIL_IMPLAUSIBLE).report 0x0F r cause

/-- A lid sensor is flagged implausible (R417). -/
def State.flagLid (s : State) (k cause : Nat) : State :=
  ((s.setBit .VAL_STATUS_LID_IMPLAUSIBLE k true).raise .VAL_EVT_LID_IMPLAUSIBLE).report 0x0F (0x10 + k) cause

def State.lidFlagged (s : State) (k : Nat) : Bool := s.get .VAL_STATUS_LID_IMPLAUSIBLE / 2 ^ k % 2 == 1

/-- A rail's check on one sample (R416); the maximum current is the maximum power at the set point (log 75). -/
def State.railCheck (s : State) (t : Telemetry) (r : Nat) : State :=
  let v := t.volts.getD r 0
  let i := t.amps.getD r 0
  let set := s.get .VAL_RAIL_SET_MV r
  let p := i * set
  let range := (s.val.railsOn.contains r && (decide (set * 11 < v * 10) || decide (v * 10 < set * 9))) ||
    decide (p * 100 < -2 * (railMax r : Int)) || decide (120 * (railMax r : Int) < p * 100)
  let off := decide (15 * railMax r < (i - t.estimate.getD r 0).natAbs * set * 100)
  let n := if off then tgetD 0 s.val.crossRail r + 1 else 0
  let s := s.modVal fun w => { w with crossRail := tput 0 w.crossRail r (min n 10) }
  let cause := if range then 1 else if t.stuckRails.contains r then 2 else if 10 ≤ n then 3 else 0
  let good := if cause ≠ 0 then 0 else tgetD 0 s.val.goodRail r + 1
  let s := s.modVal fun w => { w with goodRail := tput 0 w.goodRail r (min good 100) }
  if !s.railFlagged r then (if cause = 0 then s else s.flagRail r cause)
  else if 100 ≤ good then
    ((s.set .VAL_RAIL_STAT_IMPLAUSIBLE 0 r).set .VAL_RAIL_STAT_CAUSE 0 r).setBit .VAL_STATUS_IMPLAUSIBLE r false
  else s

/-- The median of the other three lid sensors. -/
def lidMedian (lids : List Int) (k : Nat) : Int :=
  match lids.eraseIdx k with
  | [a, b, c] => a + b + c - max a (max b c) - min a (min b c)
  | _ => 0

/-- A lid sensor's check on one sample (R417); causes 1 range, 2 stuck, 3 cross-check, 4 rate. -/
def State.lidCheck (s : State) (t : Telemetry) (k : Nat) : State :=
  let x := t.lids.getD k 0
  let before := s.val.sample.bind fun o => o.lids[k]?
  let n := if 150 < (x - lidMedian t.lids k).natAbs then tgetD 0 s.val.crossLid k + 1 else 0
  let s := s.modVal fun w => { w with crossLid := tput 0 w.crossLid k (min n 10) }
  let cause := if x < -450 ∨ 1300 < x then 1 else if t.stuckLids.contains k then 2 else if 10 ≤ n then 3
    else if before.any fun b => decide (20 < (x - b).natAbs) then 4 else 0
  let good := if cause ≠ 0 then 0 else tgetD 0 s.val.goodLid k + 1
  let s := s.modVal fun w => { w with goodLid := tput 0 w.goodLid k (min good 100) }
  if !s.lidFlagged k then (if cause = 0 then s else s.flagLid k cause)
  else if 100 ≤ good then s.setBit .VAL_STATUS_LID_IMPLAUSIBLE k false else s

/-- The rail powers of a sample in 10 µW, an implausible rail at its maximum (R416). -/
def State.railPowers (s : State) (t : Telemetry) : List Nat :=
  (List.range 14).map fun r => if s.railFlagged r then railMax r else (t.amps.getD r 0 * (t.volts.getD r 0 : Int)).toNat

/-- One sample in ten ends a millisecond, whose mean power is kept for 64 ms (R415). -/
def State.gather (s : State) (p : List Nat) : State :=
  s.modVal fun w =>
    let sums := if w.gathered = 0 then p else w.sums.zipWith (· + ·) p
    if w.gathered < 9 then { w with sums := sums, gathered := w.gathered + 1 }
    else { w with sums := [], gathered := 0, means := (sums :: w.means).take 64 }

/-- Latch a sample of every rail (R415). -/
def State.latchRails (s : State) : State :=
  match s.val.sample with
  | none => s
  | some t => (List.range 14).foldl (fun s r =>
    (s.set .VAL_RAIL_V_VOLTS (t.volts.getD r 0) r).set .VAL_RAIL_I_CURRENT ((t.amps.getD r 0) % 65536).toNat r) s

/-- HOLDUP_READY clears; takes that record are marked (R273, R420). -/
def State.clearHoldup (s : State) : State :=
  if s.flag .VAL_STATUS_HOLDUP_READY then (s.set .VAL_STATUS_HOLDUP_READY 0).holdupLost else s

/-- Whole milliseconds of an interval, rounded as log 20 says. -/
def elapsedMs (ticks : Nat) : Nat :=
  if ticks % ticksPerMs = 0 then ticks / ticksPerMs else ticks / ticksPerMs + (if Config.roundUp 6 ticks ticksPerMs then 1 else 0)

/-- HOLDUP_READY is set when the bank, its check and re-plan allow it (R420); the first time since the start its time is kept (R466). -/
def State.tryHoldup (s : State) : State :=
  let v := s.val
  if v.bankAbove && !v.bankBad && s.get .VAL_HOLDUP_C_MEAS != 0 && !s.flag .VAL_STATUS_REPLAN_RUNNING && v.replanDone &&
    v.powerFail.isNone && !s.flag .VAL_STATUS_HOLDUP_READY then
    let s := (s.set .VAL_STATUS_HOLDUP_READY 1).set .MED_HOLDUP_HOLDUP_READY 1
    let s := s.modVal fun w => { w with holdupSeen := true }
    if s.get .VAL_BOOT_TIME_HOLDUP_MS ≠ 0 then s
    else s.set .VAL_BOOT_TIME_HOLDUP_MS (min 65535 (elapsedMs (s.store.poweredTicks - s.boot.since)))
  else s

/-- The bank's voltage as a sample finds it [10 mV]: below 46.0 V HOLDUP_READY clears (R420). -/
def State.bankAt (s : State) (volts : Nat) : State :=
  let s := (s.set .VAL_BANK_VOLTS volts).modVal fun w => { w with bankAbove := decide (4700 ≤ volts) }
  if volts < 4600 ∧ s.flag .VAL_STATUS_HOLDUP_READY then s.clearHoldup.report 0x10 volts 0 else s.tryHoldup

/-- TELEMETRY_SAMPLE (R415 … R417, R420). -/
def evTelemetrySample (t : Telemetry) (s : State) : Out' :=
  let s := (List.range 14).foldl (fun s r => s.railCheck t r) s
  let s := (List.range 4).foldl (fun s k => s.lidCheck t k) s
  let s := (s.gather (s.railPowers t)).modVal fun w => { w with sample := some t }
  .next ((s.latchRails.set .VAL_VIN_VIN t.vin).bankAt t.bank)

/-- TELEMETRY_SNAPSHOT latches the newest sample (R415). -/
def evTelemetrySnapshot (s : State) : Out' := .next s.latchRails

/-! ### The thermal model and its levels (R422 … R427) -/

/-- The top of the grade's lid range in 0.1 °C (R422). -/
def lidTop : Int := if Config.gradeE then 950 else 850

/-- The lid readings the model takes (R422). -/
def State.lidNodes (s : State) : List Int :=
  (List.range 4).map fun k => if s.lidFlagged k then lidTop else ((s.val.sample.bind fun t => t.lids[k]?).getD lidTop)

/-- The node temperatures of an evaluation: 0 … 11 die, 12, 13 HBM3, 14 … 17 regulators, 18 bank, 19 substrate, 20 … 23 lid (R422). -/
def State.modelNodes (s : State) : List Int :=
  let gap := (s.now - s.val.lastEval.getD 0) / ticksPerMs
  let restart := s.val.nodes.isEmpty || decide (64 < gap)
  let eff := match s.store.replans.head? with
    | some r => (slice r.bytes 140 14).map (·.toNat)
    | none => (slice Config.factoryRecord 140 14).map (·.toNat)
  let means := if s.val.railsOn.isEmpty then [] else s.val.means
  let lids := s.lidNodes
  (List.range 20).map (fun n => (Config.nodeTemp n restart s.val.nodes gap means eff lids).toInt) ++ lids

/-- The hottest of the 14 die and HBM3 nodes. -/
def hottest : List Int → Int
  | [] => 0
  | [a] => a
  | a :: t => max a (hottest t)

/-- The ladder's step moved by an evaluation at `tj` in 0.1 °C (R427). -/
def ladderStep (step : Nat) (tj : Int) : Nat :=
  if 1050 ≤ tj then min 10 (step + 1) else if 1000 ≤ tj then step else step - 1

/-- PAN_FLOOR, engine and codec divisors of a step (R427). -/
def ladder (step : Nat) : Nat × Nat × Nat :=
  match step with
  | 0 => (0, 6, 8)
  | 1 => (1, 6, 8)
  | 2 => (2, 6, 8)
  | 3 => (3, 6, 8)
  | 4 => (4, 6, 8)
  | 5 => (4, 8, 8)
  | 6 => (4, 8, 10)
  | 7 => (4, 12, 10)
  | 8 => (4, 12, 12)
  | 9 => (4, 24, 12)
  | _ => (4, 24, 16)

/-- The step moves: PAN_FLOOR and the divisors follow it, and PIP and ENG flag a change of theirs (R138, R187, R427). -/
def State.setStep (s : State) (step : Nat) : State :=
  let (floor, engine, codec) := ladder step
  let t := (((s.set .VAL_STATUS_STEP step).set .PIP_THROTTLE_PAN_FLOOR floor).set .ENG_CLOCK_DIV engine).set .MLS_CLOCK_DIV codec
  let t := if floor = s.get .PIP_THROTTLE_PAN_FLOOR then t else t.raise .PIP_EVT_PAN_FLOOR_CHANGED
  if engine = s.get .ENG_CLOCK_DIV then t else t.raise .ENG_EVT2_CLOCK_CHANGED

/-- Threshold and hysteresis of a level in 0.1 °C (R424). -/
def threshold (level : Nat) : Int := ([0, 950, 1050, 1180] : List Int).getD level 0
def hysteresis (level : Nat) : Int := ([0, 50, 50, 100] : List Int).getD level 0

/-- The level entered at `tj`, or held under its hysteresis (R424); THROTTLE while the step is above 0 (R427). -/
def levelAt (old step : Nat) (tj : Int) : Nat :=
  let up := if 1180 ≤ tj then 3 else if 1050 ≤ tj then 2 else if 950 ≤ tj then 1 else 0
  let held := if old = 3 ∧ threshold 3 - hysteresis 3 ≤ tj then 3
    else if 2 ≤ old ∧ threshold 2 - hysteresis 2 ≤ tj then 2 else if 1 ≤ old ∧ threshold 1 - hysteresis 1 ≤ tj then 1 else 0
  max (max up held) (if step = 0 then 0 else 2)

/-- All rails turn off: nothing runs but Valtu (R414, R419, R428, R464). -/
def State.railsOff (s : State) (phase : BootPhase) : State :=
  let s := s.modVal fun v => { v with railsOn := [], shutdownAt := none }
  { s with
    boot := { s.boot with phase := phase }
    pins := { s.pins with highZ := true, linksHighZ := true } }

/-- Entry to SHUTDOWN: safe state is requested; in the flush all rails turn off at once (R426, R428). -/
def State.thermalShutdown (s : State) (tj : Int) : State :=
  let s := s.report 0x15 (tj % 2 ^ 64).toNat 0
  let s := { s with boot := { s.boot with thermalOff := true } }
  if s.flushing then (s.railsOff .off).modVal fun v => { v with powerFail := none }
  else s.modVal fun v => { v with shutdownAt := some (s.now + s.get .VAL_HOLDUP_W * ticksPerMs) }

/-- What an evaluation at `tj` moves: the step at most once per 10 ms and held in the flush, the level (R424, R426, R427). -/
def State.judgeTj (s : State) (tj : Int) : State :=
  let step := s.get .VAL_STATUS_STEP
  let next := if s.flushing || s.val.lastStep.any (fun t => decide (s.now < t + 3000000)) then step else ladderStep step tj
  let s := if next = step then s else (s.setStep next).modVal fun v => { v with lastStep := some s.now }
  let old := s.get .VAL_STATUS_LEVEL
  let level := levelAt old next tj
  if level = old then s else
  let s := ((s.set .VAL_STATUS_LEVEL level).raise .VAL_EVT_LEVEL_CHANGE).pulseSource 0xC2
  if level = 3 then s.thermalShutdown tj else s

/-- An evaluation of the model: a fresh result ends staleness (R422, R425). -/
def State.evaluate (s : State) : State :=
  let nodes := s.modelNodes
  let tj := hottest (nodes.take 14)
  let powers := (List.range 14).map fun r => if s.railFlagged r then railMax r * 10 else ((s.val.means.head?.bind (·[r]?)).getD 0)
  let s := s.modVal fun v => { v with nodes := nodes, powers := powers, lastEval := some s.now, staleNext := none }
  let s := ((s.set .VAL_THERM_TJ (tj % 65536).toNat).set .VAL_THERM_AGE 0).wr64 .VAL_THERM_TIME_LO .VAL_THERM_TIME_HI s.now
  (s.set .VAL_STATUS_STALE 0).judgeTj tj

def evThermalEval (s : State) : Out' := .next s.evaluate

/-- The age of the newest result in ms (R425). -/
def State.thermalAge (s : State) : Nat := min 65535 ((s.now - s.val.lastEval.getD 0) / ticksPerMs)

/-- THERMAL_STALE: STALE is set and reported once; each 10 ms counts as an evaluation at 105 °C (R425). -/
def State.goStale (s : State) : State :=
  let s := s.modVal fun v => { v with staleNext := some (s.now + 3000000) }
  let s := if s.flag .VAL_STATUS_STALE then s else
    ((s.set .VAL_STATUS_STALE 1).raise .VAL_EVT_STALE).report 0x0E s.thermalAge 0
  s.judgeTj 1050

def evThermalStale (s : State) : Out' := .next s.goStale

/-- Whether staleness acts on this tick. -/
def State.staleDue (s : State) : Bool :=
  match s.val.staleNext with
  | some t => decide (t ≤ s.now)
  | none => decide (s.val.lastEval.getD 0 + 15000000 < s.now)

/-- FLUSH_EVALUATION: Valtu evaluates by itself while nothing launches (R426). -/
def evFlushEvaluation (s : State) : Out' := .next s.evaluate

/-- The takes that keep the rails on (R428). -/
def State.takesOpen (s : State) : Bool := !(s.takesWhere fun t => decide (1 ≤ t.state ∧ t.state ≤ 3)).isEmpty

/-- SHUTDOWN_RAILS_OFF: takes closed, or W ms gone since the request (R428). -/
def evShutdownRailsOff (s : State) : Out' :=
  .next <| if s.val.shutdownAt.isNone then s else
    let s := s.railsOff .off
    { s with pins := { s.pins with faultN := false } }

/-! ### Power fail (R418, R419, R459) -/

/-- With the rails off, VIN below VIN_FAIL ends the off state of an orderly shutdown, and below 7.0 V Valtu stops too (R455, R464;
DEDUCED, log 89). -/
def State.vinPhase (s : State) (millivolts : Nat) : State :=
  if !s.val.railsOn.isEmpty then s
  else if millivolts < 7000 then { s with boot := { s.boot with phase := .unpowered } }
  else if s.boot.phase == .off && !s.boot.thermalOff && decide (millivolts < s.get .VAL_CFG_VIN_FAIL * 100) then
    { s with boot := { s.boot with phase := .valtu } }
  else s

def evVinDrop (millivolts : Nat) (s : State) : Out' :=
  .next (((s.set .VAL_VIN_VIN millivolts).vinPhase millivolts).modVal fun v =>
    { v with vinLow := if millivolts < s.get .VAL_CFG_VIN_FAIL * 100 then v.vinLow.or (some s.now) else v.vinLow })

/-- VIN_DIP: VIN returns within 20 µs (R418); after a declaration its return changes nothing (R419). -/
def evVinDip (millivolts : Nat) (s : State) : Out' :=
  let s := s.set .VAL_VIN_VIN millivolts
  .next <| if s.val.declared then s else
    ((s.bump .VAL_VIN_DIPS).raise .VAL_EVT_VIN_DIP).modVal fun v => { v with vinLow := none }

/-- The POWER_FAIL launch on all 96 ports, ahead of a power fail or of a reset (R53, R274, R364, R379, R409, R461). -/
def State.powerFailLaunch (s : State) : State :=
  let s := (List.range 96).foldl (fun s p => s.set .DCK_PORT_LAUNCH_LAUNCH s.now p) s
  let s := s.mediaPowerFail.channelPowerFail
  let s := ((List.range 2).foldl State.disarm s).strobesOff
  let s := (List.range 8).foldl (fun s o => if s.outRunning o then s.stopOutput o else s) s
  (List.range 16).foldl (fun s p => s.set .AUD_P_STAT_STATE audStopped p) s

/-- The tick after a declaration: POWER_FAIL launches ahead of every entry, unless it has launched ahead of a reset; the flush profile
is entered, and Valtu evaluates by itself (R53, R419, R426). -/
def State.dueFlush (s : State) : State :=
  match s.val.flushDue with
  | none => s
  | some launched =>
    let s := if launched then s else s.powerFailLaunch
    (s.modVal fun v => { v with flushDue := none, railsOn := v.railsOn.filter flushRails.contains }).evaluate

/-- POWER_FAIL_DECLARED; before HOLDUP_READY has been set once since t0 every rail turns off and nothing is flushed (R419, R459).
Takes are not marked by this clearing of HOLDUP_READY (R275; log 80). -/
def State.declarePowerFail (s : State) : State :=
  if s.val.declared || s.val.railsOn.isEmpty then s
  else if !s.val.holdupSeen then s.railsOff .valtu
  else
    let s := (s.set .VAL_STATUS_HOLDUP_READY 0).set .MED_HOLDUP_HOLDUP_READY 0
    let s := { s with pins := { s.pins with pwrFailN := false }, store := { s.store with powerFailBefore := true } }
    (s.pulseSource 0xC0).modVal fun v =>
      { v with declared := true, powerFail := some s.now, flushDue := some v.powerFail.isSome }

def evPowerFailDeclared (s : State) : Out' := .next s.declarePowerFail

/-- HOLDUP_WINDOW_END: all 14 rails off; Valtu waits for VIN to qualify (R419). -/
def State.windowOver (s : State) : State :=
  if !s.val.declared then s else s.railsOff .valtu

def evHoldupWindowEnd (s : State) : Out' := .next s.windowOver

/-! ### The hold-up bank (R420, R421) -/

/-- A re-plan starts: HOLDUP_READY is clear while it runs (R429). -/
def State.startReplan (s : State) (trigger : Nat) : State :=
  let s := ((s.set .VAL_STATUS_REPLAN_RUNNING 1).set .VAL_STATUS_REPLAN_DEFERRED 0).clearHoldup
  s.modVal fun v => { v with replanTrigger := trigger }

/-- The start-up re-plan begins once the bank is measured and memory is in SERVICE (R429, R456, R459). -/
def State.tryReplan (s : State) : State :=
  if s.get .VAL_HOLDUP_C_MEAS != 0 && s.boot.phase == .ready && !s.val.replanDone && !s.flag .VAL_STATUS_REPLAN_RUNNING &&
    s.memPhase == memService then s.startReplan 1 else s

/-- C = 0.04 × Δt / 30 in µF for a charge of `ticks`, rounded as log 20 says (R420). -/
def capacitance (ticks : Nat) : Nat :=
  if ticks % 225000 = 0 then ticks / 225000
  else ticks / 225000 + (if Config.roundUp 4 ticks 225000 then 1 else 0)

def evBankAt40v (ticks : Nat) (s : State) : Out' :=
  .next (((s.set .VAL_HOLDUP_C_MEAS (min 65535 (capacitance ticks))).set .VAL_BANK_VOLTS 4000).tryReplan)

def evHoldupReady (s : State) : Out' := .next (s.modVal fun v => { v with bankAbove := true }).tryHoldup

/-- The bank's check fails: HOLDUP_READY is never set (R420, R421, R441). -/
def State.bankFails (s : State) : State :=
  ((s.modVal fun v => { v with bankBad := true }).raise .VAL_EVT_HOLDUP_FAIL).report 0x11 (s.get .VAL_HOLDUP_C_MEAS) 0

def evChargeTimeout (s : State) : Out' := .next (if s.val.bankAbove then s else s.bankFails)

/-! ### Margin re-plan (R429 … R431, R202) -/

/-- The rail, the lowest and the highest set point, the first monitor and the number of monitors of a domain (R414, R430). -/
def domainOf (d : Nat) : Nat × Nat × Nat × Nat × Nat :=
  ([(1, 650, 850, 0, 16), (2, 700, 850, 16, 16), (3, 700, 850, 32, 16), (0, 700, 850, 48, 8), (4, 800, 900, 56, 8)] :
    List (Nat × Nat × Nat × Nat × Nat)).getD d (0, 0, 0, 0, 0)

def lowest (l : List Int) : Int := l.foldl min (l.headD 0)

/-- Raise a rail by 5 mV at a time while the lowest slack is below 30, at most 20 mV, within its range, measuring again each time. -/
def raiseRail (top d n : Nat) : Nat → Nat → Nat → List Int → Nat × Nat × List Int
  | 0, fresh, set, slack => (fresh, set, slack)
  | k + 1, fresh, set, slack =>
    if lowest slack < 30 ∧ set < top then
      raiseRail top d n k (fresh + 1) (set + 5) ((List.range n).map fun i => (Config.slackNow fresh (d + i)).toInt)
    else (fresh, set, slack)

/-- Retire an engine that failed its test: bits [8:0] its number, bit 9 a lost local store; one whose cluster holds a RUNNING or
STOPPING kernel is not tested (R202). -/
def State.retireEngine (s : State) (e : Nat) : State × Nat :=
  let c := e % 512 / 16
  let j := e % 16
  let k := s.get .ENG_CL_STAT_KERNEL c
  if (s.flag .ENG_CL_STAT_HELD c && (s.kState k == 3 || s.kState k == 4)) || (s.engSlot c j).lost then (s, 0) else
  let spare := decide (e < 512) && !s.eng.sparesUsed.contains (c / 2)
  let s := (s.modEngSlot c j fun g => { g with
    suspect := false, spare := spare, lost := !spare, store := if spare then g.store else [] }).showSuspects c
  if spare then
    ({ s.set .ENG_USABLE_SPARES_LEFT (s.get .ENG_USABLE_SPARES_LEFT - 1) with eng := { s.eng with sparesUsed := s.eng.sparesUsed ++ [c / 2] } }, 1)
  else ((s.set .ENG_CL_STAT_USABLE (s.get .ENG_CL_STAT_USABLE c - 1) c).set .ENG_USABLE_ENGINES (s.get .ENG_USABLE_ENGINES - 1), 1)

/-- A sealed kernel whose cluster falls below its ENGINES returns to LOADING (R202). -/
def State.losePlacements (s : State) : State :=
  (s.eng.kernels.filter fun p => s.kState p.1 == 2 && p.2.clusters.any fun c => decide (s.get .ENG_CL_STAT_USABLE c < p.2.engines)).foldl
    (fun s p => ((s.set .ENG_K_STATE_STATE 1 p.1).raise .ENG_EVT2_PLACEMENT_LOST).showGranules) s

/-- One domain of a re-plan (R430): its rail moves, its monitors show their slack, a shortfall outside ENG is reported. -/
def State.planDomain (s : State) (slack : List Int) (d : Nat) : State :=
  let (rail, bottom, top, m, n) := domainOf d
  let (fresh, set, found) := raiseRail top m n 4 s.fresh (s.get .VAL_RAIL_SET_MV rail) (slice slack m n)
  let worst := lowest found
  let set := if 60 < worst ∧ bottom < set then set - 5 else set
  let s := ({ s with fresh := fresh }).set .VAL_RAIL_SET_MV set rail
  let s := (List.range n).foldl (fun s i => s.set .VAL_PDM_SLACK (found.getD i 0 % 256).toNat (m + i)) s
  if worst < 30 ∧ d ≠ 0 then
    (s.raise .VAL_EVT_MARGIN_EXHAUSTED).report 0x13 (m + (found.takeWhile (· ≠ worst)).length) (worst % 2 ^ 32).toNat
  else s

/-- The hold-up window of a capacitance in µF (R421). -/
def holdupWindow (c : Nat) : Nat := min 60 (c * 462 / 10000)

/-- Set W from C_MEAS: a W below 30 ms fails the check (R421). -/
def State.planWindow (s : State) : State :=
  let c := s.get .VAL_HOLDUP_C_MEAS
  if c = 0 then s else
  let w := holdupWindow c
  if w < 30 then s.bankFails else (s.set .VAL_HOLDUP_W w).setWindow w

/-- HBM3 lanes to re-centre: a centre moved by more than 4 steps, or a width below 24 steps (R430). -/
def recentred (widths0 widths1 centres : List Nat) : List Nat :=
  (List.range 256).filter fun l => centres.contains l || decide ((if l < 128 then widths0.getD l 63 else widths1.getD (l - 128) 63) < 24)

/-- Measure both stacks, re-centre and repair lanes (R311, R430). -/
def State.planMemory (s : State) (widths0 widths1 centres : List Nat) : State :=
  let s := (s.storeMargins 0 widths0).storeMargins 1 widths1
  let (f, s) := s.draw
  let moved := recentred widths0 widths1 centres
  let narrow := (List.range 256).filter fun l => decide ((if l < 128 then widths0.getD l 63 else widths1.getD (l - 128) 63) < 16)
  let t := s.store.trained
  let delays := t.delays.zipIdx.map fun (x, i) => if i % 2 = 0 ∧ moved.contains (i / 2) then (Config.laneCentre f (i / 2)).toNat else x
  { s with store := { s.store with trained := { t with
    delays := delays
    repaired := t.repaired ++ narrow.filter fun l => !t.repaired.contains l } } }

/-- The 256-byte record of a re-plan (R431). -/
def State.replanBytes (s : State) (seq : Nat) (widths0 widths1 : List Nat) (moved retired : Nat) (exhausted lowered : Bool) (f : Nat) : List Byte :=
  let body := le 2 0x5652 ++ le 1 1 ++ le 1 s.val.replanTrigger ++ le 4 seq ++ le 8 s.now ++ le 4 (s.store.poweredTicks / 1080000000000) ++
    ((List.range 14).flatMap fun r => le 2 (s.get .VAL_RAIL_SET_MV r)) ++
    ((List.range 64).flatMap fun m => le 1 (s.get .VAL_PDM_SLACK m)) ++
    le 1 (narrowest widths0).1 ++ le 1 (narrowest widths1).1 ++ le 2 moved ++
    ((List.range 24).flatMap fun q => le 1 (tgetD 255 s.val.fomLow q)) ++
    ((List.range 14).map fun r => Config.efficiency f r) ++
    le 2 (s.get .VAL_HOLDUP_C_MEAS) ++ le 1 (s.get .VAL_HOLDUP_W) ++
    le 1 ((if exhausted then 1 else 0) + (if s.val.bankBad then 2 else 0) + (if lowered then 4 else 0)) ++
    le 2 (s.get .ENG_USABLE_ENGINES) ++ le 1 (s.get .ENG_USABLE_SPARES_LEFT) ++ le 1 retired
  let body := padTo 252 body
  body ++ le 4 (crc32c body)

/-- A re-plan ends: its record, the waiting packet's reply, HOLDUP_READY where nothing stands against it (R420, R429, R431). -/
def State.endReplan (s : State) (bytes : List Byte) : State :=
  let seq := s.store.nextReplan
  let r : ReplanRec := ⟨seq, s.val.replanTrigger, bytes⟩
  let s := { s with store := { s.store with
    replans := (r :: s.store.replans).take 4095
    nextReplan := (seq + 1) % 2 ^ 32 } }
  let s := (((s.set .VAL_STATUS_REPLAN_RUNNING 0).set .VAL_STATUS_REPLAN_DEFERRED 0).raise .VAL_EVT_REPLAN_DONE).modVal fun v =>
    { v with replanDone := true, fomLow := [] }
  (s.complete (fun (w : WaitKind) => w == WaitKind.replan) .DONE (.values [seq])).tryHoldup

/-- The steps of R430 on what they measured: the slack of the 64 monitors, the read eye widths of each stack, the byte
lanes whose centre moved by more than 4 steps, the engines that failed their test. -/
def State.replan (s : State) (slack : List Int) (widths0 widths1 centres failed : List Nat) : State :=
  let s := if s.flag .VAL_STATUS_REPLAN_RUNNING then s else s.startReplan (if s.val.replanDone then 2 else 1)
  let s := (List.range 5).foldl (fun s d => s.planDomain slack d) s
  let (s, retired) := failed.foldl (fun (acc : State × Nat) e => let (s, n) := acc.1.retireEngine e; (s, acc.2 + n)) (s, 0)
  let s := s.losePlacements.planMemory widths0 widths1 centres
  let ceilings := fun (s : State) => (List.range 4).map fun m => s.get .MED_M_CEIL_CEIL m
  let before := ceilings s
  let s := s.planWindow
  let (f, s) := s.draw
  let exhausted := (List.range 48).any fun i => decide (signed 8 (s.get .VAL_PDM_SLACK (16 + i)) < 30)
  s.endReplan (s.replanBytes s.store.nextReplan widths0 widths1 (recentred widths0 widths1 centres).length retired exhausted
    (before != ceilings s) f)

/-- MARGIN_REPLAN: a margin plan is made from what was measured (R430); while a take is recording it is deferred (R429). -/
def evMarginReplan (slack : List Int) (widths0 widths1 centres failed : List Nat) (s : State) : Out' :=
  .next (if s.recording then s.set .VAL_STATUS_REPLAN_DEFERRED 1 else s.replan slack widths0 widths1 centres failed)

def evDeferredReplanStart (s : State) : Out' :=
  .next (if s.flag .VAL_STATUS_REPLAN_DEFERRED && !s.recording then s.startReplan 2 else s)

/-! ### Monitor units (R432, R433) -/

def tapOk (t : Nat) : Bool :=
  decide (t < 0x0E) || decide (0x10 ≤ t ∧ t < 0x1E) || t == 0x20 || t == 0x21 || decide (0x30 ≤ t ∧ t < 0x48) ||
    decide (0x50 ≤ t ∧ t < 0x68) || t == 0x70 || t == 0x71 || decide (0x78 ≤ t ∧ t < 0xE4)

/-- A level tap is sampled every 300 ticks. -/
def levelTap (t : Nat) : Bool := decide (t < 0x30) || decide (0x50 ≤ t ∧ t < 0x70) || t == 0x71 || decide (0x78 ≤ t ∧ t < 0x80)

/-- The quantity at a level tap; one that no command reports is free (log 84). -/
def State.tapLevel (s : State) (t : Nat) : Int × State :=
  if t < 0x0E then (s.get .VAL_RAIL_V_VOLTS t, s)
  else if 0x10 ≤ t ∧ t < 0x1E then (signed 16 (s.get .VAL_RAIL_I_CURRENT (t - 0x10)), s)
  else if t = 0x20 then (s.get .VAL_VIN_VIN, s)
  else if t = 0x21 then (s.get .VAL_BANK_VOLTS, s)
  else if 0x78 ≤ t ∧ t < 0x80 then ((((s.ctx (t - 0x78)).frames.filter (·.slot)).length : Nat), s)
  else let (f, s) := s.draw
    ((Config.tapValue f t).toInt, s)

/-- The samples due on this tick of the level taps watched. -/
def State.sampleLevels (s : State) : State :=
  s.val.monitors.foldl (fun s (m, k) =>
    let t := s.get .VAL_MON_CFG_TAP m
    if s.flag .VAL_MON_CFG_RUNNING m && levelTap t && (s.now - k.starts) % 300 == 0 then
      let (v, s) := s.tapLevel t
      s.monitorSample m v
    else s) s

/-- A window starts: the unit's results are cleared. -/
def State.startMonitor (s : State) (m window : Nat) : State :=
  let s := ((s.set .VAL_MON_CFG_RUNNING 1 m).set .VAL_MON_CFG_DONE 0 m).wr .VAL_MON_MIN 0 m
  let s := (s.wr .VAL_MON_MAX 0 m).wr .VAL_MON_CNT 0 m
  s.modVal fun v => { v with monitors := tins { starts := s.now, ends := s.now + window } v.monitors m }

def evMonitorWindow (unit : Fin 64) (window : BitVec 32) (s : State) : Out' :=
  .next (if s.flag .VAL_MON_CFG_RUNNING unit.val then s.raise .VAL_EVT_NOT_READY else s.startMonitor unit.val window.toNat)

def evMonitorWindowEnd (unit : Fin 64) (s : State) : Out' :=
  .next (if !s.flag .VAL_MON_CFG_RUNNING unit.val then s
    else ((s.set .VAL_MON_CFG_RUNNING 0 unit.val).set .VAL_MON_CFG_DONE 1 unit.val).raise .VAL_EVT_MON_DONE)

/-! ### Packets (R434) -/

def pktValInfo : Packet where
  opcode := 0x1101
  length := some 0
  run := fun _ s => .done (.values ([s.rd .VAL_STATUS, s.rd .VAL_VIN, s.rd .VAL_HOLDUP,
    s.get .VAL_THERM_TJ * 65536 + s.thermalAge] ++
    (List.range 14).flatMap fun r => [s.rd .VAL_RAIL_V r, s.rd .VAL_RAIL_I r, s.rd .VAL_RAIL_SET r, s.rd .VAL_RAIL_STAT r])) s

/-- VIN_FAIL in range and below the present VIN minus 0.5 V (R418). -/
def State.valCfgOk (s : State) (cfg : Nat) : Bool :=
  let v := bitsOf cfg 8 0
  decide (80 ≤ v ∧ v ≤ 280) && decide (v * 100 + 500 < s.get .VAL_VIN_VIN)

/-- VAL_CFG is kept in Valtu flash (R457). -/
def State.applyValCfg (s : State) (cfg : Nat) : State :=
  let s := s.writeWord none .VAL_CFG cfg 0 0
  { s with store := { s.store with valCfg := some (BitVec.ofNat 32 (s.rd .VAL_CFG)) } }

def pktValConfig (cfg : BitVec 32) : Packet where
  opcode := 0x1102
  cls := .configure
  params := fun s => need (s.valCfgOk cfg.toNat) .VAL_BAD_CONFIG
  rights := valRight .configure
  run := fun _ s => .done .empty (s.applyValCfg cfg.toNat)

def pktValThermalEval : Packet where
  opcode := 0x1103
  length := some 0
  cls := .use
  rights := valRight .use
  run := fun _ s =>
    let s := s.evaluate
    .done (.values [s.get .VAL_THERM_TJ, s.rd64 .VAL_THERM_TIME_LO .VAL_THERM_TIME_HI, s.get .VAL_STATUS_LEVEL, s.get .VAL_STATUS_STEP]) s

def pktValThermalRead : Packet where
  opcode := 0x1104
  length := some 0
  run := fun _ s => .done (.values ((s.val.nodes.map fun t => (t % 65536).toNat) ++ s.val.powers)) s

def pktValReplan : Packet where
  opcode := 0x1105
  length := some 0
  cls := .configure
  rights := valRight .configure
  checks := fun _ s => need (!s.flag .VAL_STATUS_REPLAN_RUNNING && !s.flag .VAL_STATUS_REPLAN_DEFERRED) .VAL_REPLAN_BUSY
  run := fun _ s => .wait .replan (if s.recording then s.set .VAL_STATUS_REPLAN_DEFERRED 1 else s.startReplan 2)

/-- The prefix and bytes of a record kept in flash (R180). -/
def recordBytes (seq tick : Nat) (bytes : List Byte) (rd : ReadArgs) : List Byte :=
  le 4 seq ++ le 4 0 ++ le 8 tick ++ slice bytes rd.off rd.len

/-- The re-plan record a read names: SEQ and TIME, or the newest; record 0 is the factory record (R431). -/
def State.replanRec (s : State) (rd : ReadArgs) : Option (Nat × Nat × List Byte) :=
  let factory := padTo 256 Config.factoryRecord
  let all := (s.store.replans.map fun r => (r.seq, unle (slice r.bytes 8 8), r.bytes)) ++ [(0, unle (slice factory 8 8), factory)]
  if rd.latest then all.head? else all.find? fun r => r.1 == rd.frame && (rd.sof == 0 || r.2.1 == rd.sof)

def pktValRecordRead (rd : ReadArgs) : Packet where
  opcode := 0x1106
  params := fun _ => need (rangeOk rd 256) .VAL_BAD_CONFIG
  checks := fun _ s => need (s.replanRec rd).isSome .VAL_NOT_HELD
  run := fun _ s => match s.replanRec rd with
    | none => .refuse .VAL_NOT_HELD s
    | some (seq, time, bytes) => .done (.bytes (recordBytes seq time bytes rd)) s

def pktValMonConfig (unit tap shift : Nat) (base : BitVec 32) : Packet where
  opcode := 0x1107
  cls := .configure
  params := fun _ => firstFail [need (decide (unit < 64 ∧ shift < 32)) .VAL_BAD_CONFIG, need (tapOk tap) .VAL_BAD_TAP]
  rights := valRight .configure
  checks := fun _ s => need (!s.flag .VAL_MON_CFG_RUNNING unit) .VAL_MON_BUSY
  run := fun _ s => .done .empty (((s.set .VAL_MON_CFG_TAP tap unit).set .VAL_MON_CFG_SHIFT shift unit).wr .VAL_MON_BASE base.toNat unit)

def pktValMonStart (unit window : Nat) : Packet where
  opcode := 0x1108
  cls := .configure
  params := fun _ => need (decide (unit < 64 ∧ 1 ≤ window ∧ window < 2 ^ 32)) .VAL_BAD_CONFIG
  rights := valRight .configure
  checks := fun _ s => need (!s.flag .VAL_MON_CFG_RUNNING unit) .VAL_MON_BUSY
  run := fun _ s => .done .empty (s.startMonitor unit window)

def pktValMonRead (unit : Nat) : Packet where
  opcode := 0x1109
  params := fun _ => need (decide (unit < 64)) .VAL_BAD_CONFIG
  run := fun _ s =>
    let k : Monitor := tgetD {} s.val.monitors unit
    .done (.values ([s.rd .VAL_MON_MIN unit, s.rd .VAL_MON_MAX unit, s.rd .VAL_MON_CNT unit] ++ (List.range 32).map fun i => tgetD 0 k.bins i)) s

def pktValSnapshot : Packet where
  opcode := 0x110A
  length := some 0
  run := fun _ s =>
    let s := s.latchRails
    .done (.values ((List.range 14).flatMap fun r => [s.get .VAL_RAIL_V_VOLTS r, s.get .VAL_RAIL_I_CURRENT r])) s

end Sys2Proof.Machine
end

