-- ==== Sys2Proof/Machine/Integ.lean ====
section
/-!
DEFINITION. The integrity manager (20): mechanisms and their reactions, fault records, safe state, the key store, attestation.
-/
namespace Sys2Proof.Machine

def State.modInteg (s : State) (g : Integ → Integ) : State := { s with integ := g s.integ }

def intRight (cls : Cls) : Nat → State → List Right := fun _ _ => [⟨cls, .res (globalRes 0x12)⟩]

/-! ### Mechanisms (R438) -/

/-- The reactions of R441, as R446 numbers them; COUNT writes no record. -/
inductive Reaction where
  | safe | contain | throttle | model | atRisk | holdup | unsigned | count
deriving DecidableEq, Repr

def Reaction.code : Reaction → Nat
  | .safe => 0
  | .contain => 1
  | .throttle => 2
  | .model => 3
  | .atRisk => 4
  | .holdup => 5
  | .unsigned => 6
  | .count => 7

/-- A mechanism: its reaction, whether a cause is HALTED, its bound in ticks (0 for none). -/
structure Mechanism where
  reaction : Reaction
  halted : Bool
  bound : Nat
deriving DecidableEq, Repr

/-- The table of R438. -/
def mechanism (code : Nat) : Option Mechanism :=
  match code with
  | 0x01 => some ⟨.safe, true, 300⟩
  | 0x02 => some ⟨.safe, false, 300⟩
  | 0x03 => some ⟨.safe, false, 0⟩
  | 0x04 => some ⟨.contain, false, 0⟩
  | 0x05 => some ⟨.safe, true, 0⟩
  | 0x06 => some ⟨.safe, true, 0⟩
  | 0x07 => some ⟨.safe, false, 3000080⟩
  | 0x08 => some ⟨.safe, false, 3000080⟩
  | 0x09 => some ⟨.safe, false, 15000000⟩
  | 0x0A => some ⟨.safe, false, 15000000⟩
  | 0x0B => some ⟨.safe, false, 0⟩
  | 0x0C => some ⟨.count, false, 0⟩
  | 0x0D => some ⟨.safe, false, 300000⟩
  | 0x0E => some ⟨.throttle, false, 15000000⟩
  | 0x0F => some ⟨.model, false, 300000⟩
  | 0x10 => some ⟨.atRisk, false, 30000⟩
  | 0x11 => some ⟨.holdup, false, 0⟩
  | 0x12 => some ⟨.safe, true, 1500000⟩
  | 0x13 => some ⟨.safe, false, 0⟩
  | 0x14 => some ⟨.unsigned, false, 0⟩
  | 0x15 => some ⟨.safe, false, 3000000⟩
  | 0x20 => some ⟨.safe, false, 0⟩
  | _ => none

/-- Causes that only a reset ends (R448). -/
def blocking (code : Nat) : Bool := ([0x01, 0x02, 0x05, 0x06, 0x12, 0x13, 0x15] : List Nat).contains code

/-- Mechanisms without a passing check count as passed (R448; log 86). -/
def noCheck (code : Nat) : Bool := code == 0x03 || code == 0x20

/-- The bound of a detection: codes 0x07 and 0x08 have that of R141 for the context named (R438). -/
def State.faultBound (s : State) (code detail0 : Nat) (m : Mechanism) : Nat :=
  if code = 0x07 ∨ code = 0x08 then
    let rate := s.get .PIP_CTX_CFG_RATE_DECL (detail0 % 8)
    let period := if rate = 0 then 3000000
      else 30000000000 / rate + (if 30000000000 % rate ≠ 0 ∧ Config.roundUp 5 30000000000 rate then 1 else 0)
    min period 3000000 + 80
  else m.bound

/-! ### Fault records (R446, R447) -/

/-- The 48 bytes of a record. -/
def FaultRec.bytes (r : FaultRec) : List Byte :=
  let body := le 2 0x4946 ++ le 1 1 ++ le 1 r.code ++ le 4 r.seq ++ le 8 r.tick ++ le 8 (r.suspect % 2 ^ 64).toNat ++
    le 8 r.detail0 ++ le 4 r.detail1 ++ le 2 r.tally ++ le 1 r.reaction ++ le 1 r.flags ++ le 4 0
  body ++ le 4 (crc32c body)

/-- VAL_INT shows the newest record, the tally and the active causes. -/
def State.showInteg (s : State) : State :=
  let s := s.set .VAL_INT_STATUS_TALLY s.store.tally
  let s := match s.store.faults.head? with
    | some r => (s.set .VAL_INT_STATUS_LAST_CODE r.code).wr .VAL_INT_SEQ r.seq
    | none => s
  let bits := fun (lo : Nat) => ((s.integ.active.filter fun c => c / 32 == lo).map fun c => 2 ^ (c % 32)).foldl (· + ·) 0
  ((s.wr .VAL_INT_CAUSE0 (bits 0)).wr .VAL_INT_CAUSE1 (bits 1)).set .VAL_INT_STATUS_RESET_NEEDED
    (if s.integ.active.any blocking then 1 else 0)

/-- A record is appended: the oldest of 1,024 is overwritten, the tally saturates (R446, R447). -/
def State.writeFault (s : State) (code d0 d1 : Nat) (injected : Bool) (m : Mechanism) : State :=
  let tally := min 65535 (s.store.tally + 1)
  let flags := (if injected then 1 else 0) + (if s.val.declared then 2 else 0) + (if s.safe then 4 else 0)
  let r : FaultRec := {
    code := code, seq := s.store.nextFault, tick := s.now, suspect := (s.now : Int) - s.faultBound code d0 m
    detail0 := d0 % 2 ^ 64, detail1 := d1 % 2 ^ 32, tally := tally
    reaction := m.reaction.code + (if m.halted then 128 else 0), flags := flags }
  let s := { s with store := { s.store with
    faults := (r :: s.store.faults).take 1024
    nextFault := (r.seq + 1) % 2 ^ 32
    tally := tally } }
  s.raise .VAL_INT_EVT_RECORD

/-- FAULT_N asserted or released. -/
def State.setFault (s : State) (on : Bool) : State := { s with pins := { s.pins with faultN := !on } }

/-- A cause of reaction SAFE: it is active until its mechanism passes; the entry follows on the next tick, unless safe state
stands or power fail was declared before (R442, R445, R448). -/
def State.safeCause (s : State) (code : Nat) (halted : Bool) : State :=
  let s := s.modInteg fun k => { k with
    active := if k.active.contains code then k.active else k.active ++ [code]
    passed := (k.passed.filter (· ≠ code)) ++ (if noCheck code then [code] else [])
    halted := k.halted || halted }
  if s.safe then (if halted then s.mediaHalt else s)
  else if s.val.declared then s.setFault true
  else s.modInteg fun k => { k with due := true }

/-- A detection reaches the integrity manager (R438, R441). The reactions THROTTLE, MODEL, CONTAIN and HOLDUP are carried by the
unit that reports; AT_RISK and UNSIGNED are carried here too. -/
def State.detect (s : State) (code d0 d1 : Nat) (injected : Bool) : State :=
  match mechanism code with
  | none => s
  | some m =>
    if m.reaction = .count then s else
    let s := s.writeFault code d0 d1 injected m
    let s := match m.reaction with
      | .safe => s.safeCause code m.halted
      | .atRisk => s.clearHoldup
      | .unsigned => (s.set .VAL_INT_STATUS_KEY_OK 0).raise .VAL_INT_EVT_KEY_FAULT
      | _ => s
    s.showInteg

/-- The decoder's address guard suppresses a write of a session (R251). -/
def State.guardHit (s : State) : State := (s.bump .MLS_DEC_GUARD_COUNT).raise .MLS_DEC_EVT_GUARD

/-- FAULT_RECORD: a detection arrives, the first of its code on its way or one not on its way yet. -/
def evFaultRecord (code detail0 detail1 : Nat) (s : State) : Out' :=
  match s.integ.inbox.find? fun x => x.1 == code with
  | some x => .next ((s.modInteg fun k => { k with inbox := k.inbox.erase x }).detect code detail0 detail1 x.2.2.2)
  | none => .next ((if code = 0x0B then s.guardHit else s).detect code detail0 detail1 false)

/-- Every detection on its way arrives: at most 8 ticks after it was made (R442). -/
def State.takeDetections (s : State) : State :=
  let inbox := s.integ.inbox
  inbox.foldl (fun s x => s.detect x.1 x.2.1 x.2.2.1 x.2.2.2) (s.modInteg fun k => { k with inbox := [] })

/-! ### Entering and leaving safe state (R442 … R445, R448) -/

/-- The entry is complete (R442). -/
def State.entryComplete (s : State) : State :=
  if !s.flag .VAL_INT_STATUS_ENTERING then s else
  ((s.set .VAL_INT_STATUS_ENTERING 0).raise .VAL_INT_EVT_ENTERED).complete (fun (w : WaitKind) => w == WaitKind.safeEntry) .DONE .empty

/-- Safe state is entered: takes close as R443 lays down; a second cause does not restart the sequence (R442, R445). -/
def State.enterSafe (s : State) : State :=
  let s := s.modInteg fun k => { k with due := false }
  if s.safe then s else if s.val.declared then s.setFault true else
  let s := ((s.set .VAL_INT_STATUS_SAFE 1).set .VAL_INT_STATUS_ENTERING 1).wr64 .VAL_INT_ENTRY_LO .VAL_INT_ENTRY_HI s.now
  let s := ((s.setFault true).pulseSource 0xC1).notify .safeState 1
  if s.integ.halted then s.mediaHalt else s.mediaSafe

def evSafeStateEntry (s : State) : Out' := .next s.enterSafe

def evSafeEntryComplete (s : State) : Out' := .next s.entryComplete

/-- Whether the entry ends on this tick: every take CLOSED, or W ms gone (R442). -/
def State.entryDue (s : State) : Bool :=
  s.flag .VAL_INT_STATUS_ENTERING && (!s.takesOpen ||
    decide (s.rd64 .VAL_INT_ENTRY_LO .VAL_INT_ENTRY_HI + s.get .VAL_HOLDUP_W * ticksPerMs ≤ s.now))

/-- LOCKSTEP_MISMATCH of a control core pair (code 0x01) or of Valtu's core, whose latch asserts FAULT_N in the same cycle (R438, R442). -/
def evLockstepMismatch (valtu : Bool) (pair : Nat) (s : State) : Out' :=
  .next (if valtu then (s.setFault true).report 0x02 0 0 else s.report 0x01 pair 0)

/-- WATCHDOG_TIMEOUT: 5 ms without a heartbeat since `last` (R440). -/
def evWatchdogTimeout (last : Nat) (s : State) : Out' :=
  .next ((s.modInteg fun k => { k with lastHeartbeat := last }).report 0x12 last 0)

/-! ### Packets (R452) -/

def pktIntInfo : Packet where
  opcode := 0x1201
  length := some 0
  run := fun _ s => .done (.values [s.rd .VAL_INT_STATUS, s.rd .VAL_INT_EVT, s.rd .VAL_INT_CAUSE0, s.rd .VAL_INT_CAUSE1, s.rd .VAL_INT_SEQ,
    s.rd .VAL_INT_ENTRY_LO, s.rd .VAL_INT_ENTRY_HI]) s

def State.faultRec (s : State) (rd : ReadArgs) : Option FaultRec :=
  if rd.latest then s.store.faults.head? else s.store.faults.find? fun r => r.seq == rd.frame && (rd.sof == 0 || r.tick == rd.sof)

def pktIntFaultRead (rd : ReadArgs) : Packet where
  opcode := 0x1202
  params := fun _ => need (rangeOk rd 48) .INT_BAD_CODE
  checks := fun _ s => need (s.faultRec rd).isSome .INT_NOT_HELD
  run := fun _ s => match s.faultRec rd with
    | none => .refuse .INT_NOT_HELD s
    | some r => .done (.bytes (recordBytes r.seq r.tick r.bytes rd)) s

/-- INT_CLEAR is refused while the entry runs, or while an active cause blocks it or has not passed (R448). -/
def State.clearStatus (s : State) : Status :=
  if s.flag .VAL_INT_STATUS_ENTERING || s.integ.due || !s.integ.inbox.isEmpty then .INT_ENTERING
  else need (s.integ.active.all fun c => !blocking c && s.integ.passed.contains c) .INT_CAUSE_ACTIVE

/-- Safe state is left (R447, R448). -/
def State.clearSafe (s : State) (tallyReset : Bool) : State :=
  let was := s.safe
  let s := s.modInteg fun k => { k with active := [], passed := [], halted := false }
  let s := if tallyReset then { s with store := { s.store with tally := 0 } } else s
  let s := ((s.set .VAL_INT_STATUS_SAFE 0).setFault false).raise .VAL_INT_EVT_CLEARED
  (if was then s.notify .safeState 0 else s).showInteg

def pktIntClear (tallyReset : Nat) : Packet where
  opcode := 0x1203
  cls := .assign
  params := fun _ => need (decide (tallyReset < 2)) .INT_BAD_CODE
  rights := intRight .assign
  checks := fun _ s => s.clearStatus
  run := fun _ s => .done .empty (s.clearSafe (tallyReset == 1))

/-- INT_SAFE_ENTER: code 0x20 with the sender's slot; in safe state there is no entry to wait for. -/
def pktIntSafeEnter : Packet where
  opcode := 0x1204
  length := some 0
  cls := .assign
  rights := intRight .assign
  run := fun via s =>
    let s := s.detect 0x20 (slotOf via) 0 false
    if s.integ.due || s.flag .VAL_INT_STATUS_ENTERING then .wait .safeEntry s else .both .empty s

/-- What a built-in fault makes a mechanism do (R451): its own detection path, as its unit takes it; the DETAIL items it measures are free. -/
def State.injectFault (s : State) (code : Nat) : State :=
  let (f, s) := s.draw
  let x := fun (i : Nat) => (Config.injected f i).toNat
  match code with
  | 0x02 => (s.setFault true).report 0x02 0 0
  | 0x05 => s.freeze 1 (x 0 % 32) (x 1 * 32) (x 2)
  | 0x06 => s.freeze 3 (x 0 % 32) (x 1 * 32) (x 2)
  | 0x07 => (((s.set .PIP_KAT_LAST_OK 0).bump .PIP_KAT_FAILS).raise .PIP_EVT_KAT_FAIL).report 0x07 (x 0 % 8) (x 1)
  | 0x08 => (((s.set .COL_KAT_LAST_OK 0).bump .COL_KAT_FAILS).raise .COL_EVT_KAT_FAIL).report 0x08 (x 0 % 8) (x 1)
  | 0x09 => ((((s.set .MLS_RT_LAST_OK 0).bump .MLS_RT_FAILS).set .MLS_RT_FRAME_FRAME (x 1)).raise .MLS_EVT_RT_FAIL).report 0x09 (x 0 % 8) (x 1)
  | 0x0B => s.guardHit.report 0x0B (x 0 % 8) 0
  | 0x0D => s.crossCheckFail (if 45000 ≤ x 0 then 303001 + x 1 else 296999 - x 1)
  | 0x0E => s.goStale
  | 0x0F => s.flagRail (x 0 % 14) (1 + x 1 % 3)
  | 0x10 => s.clearHoldup.report 0x10 (x 0 % 4600) 0
  | 0x11 => s.bankFails
  | 0x12 => s.report 0x12 s.integ.lastHeartbeat 0
  | 0x13 => (s.raise .VAL_EVT_MARGIN_EXHAUSTED).report 0x13 (16 + x 0 % 48) (x 1)
  | 0x15 => s.judgeTj (1180 + (x 0 % 1000 : Nat))
  | c => s.report c (x 0) (x 1)

/-- The detection an injection made arrives marked INJECTED. -/
def State.inject (s : State) (code : Nat) : State :=
  let s := s.injectFault code
  match s.integ.inbox.getLast? with
  | some x => if x.1 = code then (s.modInteg fun k => { k with inbox := k.inbox.dropLast }).detect code x.2.1 x.2.2.1 true else s
  | none => s

def pktIntInject (code : Nat) : Packet where
  opcode := 0x1205
  cls := .assign
  params := fun _ => need ((mechanism code).isSome && code != 0x14 && code != 0x20) .INT_BAD_CODE
  rights := intRight .assign
  checks := fun _ s => need (s.takesWhere fun t => t.state == 1 || t.state == 2).isEmpty .CPI_RECORDING
  run := fun _ s =>
    let n := s.store.nextFault
    let s := s.inject code
    .done (if s.store.nextFault = n then .empty else .values [n]) s

/-- INT_KEY_READ: the public key of slot 0 or 1 or its certificate, which slot 2 holds (R449). -/
def pktIntKeyRead (slot : Nat) (certificate : Bool) (rd : ReadArgs) : Packet where
  opcode := 0x1206
  params := fun _ => need (decide (slot ≤ 2) && (!(certificate || slot == 2) || rangeOk rd 1024)) .INT_BAD_CODE
  run := fun _ s =>
    if certificate || slot == 2 then .done (.bytes (recordBytes 0 0 (padTo 1024 (Config.certificate slot)) rd)) s
    else .done (.bytes (publicKey slot)) s

/-- The SYS_IDENTITY body (R87). -/
def State.identity (s : State) : List Byte :=
  padTo 8 (ascii "EUMORAL") ++ padTo 8 (ascii "TX9") ++ padTo 16 (ascii (if Config.gradeE then "TX9-4608-E" else "TX9-4608-S")) ++
    le 1 0x42 ++ [(Config.firmware s.boot.image).extractLsb' 16 8, (Config.firmware s.boot.image).extractLsb' 8 8,
      (Config.firmware s.boot.image).extractLsb' 0 8] ++
    padTo 16 Config.moduleSerial ++ le 2 (s.get .ENG_USABLE_ENGINES) ++ le 2 (s.get .ENG_USABLE_SPARES_LEFT) ++ le 2 48 ++ le 6 0

def pktIntAttest (nonce : List Byte) : Packet where
  opcode := 0x1207
  cls := .use
  params := fun _ => need (decide (nonce.length = 32)) .BAD_LENGTH
  rights := intRight .use
  checks := fun _ s => need (s.flag .VAL_INT_STATUS_KEY_OK) .INT_KEY_FAULT
  run := fun _ s =>
    let (f, s) := s.draw
    let text := ascii "TX9A" ++ nonce ++ s.identity ++ le 4 (s.rd .VAL_INT_STATUS) ++ le 8 s.now
    .done (.bytes (le 8 s.now ++ ecdsaSign f 1 (sha256 text))) s

end Sys2Proof.Machine
end

