-- ==== Sys2Proof/Machine/Boot.lean ====
section
/-!
DEFINITION. Start-up and reset (21): the four kinds of start, the commit ahead of a reset, LIMITED mode, orderly shutdown; the test
access port (R477, R478).
-/
namespace Sys2Proof.Machine

def kindPower : Nat := 0
def kindPin : Nat := 1
def kindFull : Nat := 2
def kindModule : Nat := 3

/-! ### The reset proper (R460) -/

/-- What Valtu carries over a reset that does not restart it; the module's rails stay on in a MODULE reset only. -/
def Val.kept (v : Val) (kind : Nat) : Val :=
  if kind = kindPower then {} else
  { railsOn := if kind = kindModule then v.railsOn else []
    sample := v.sample
    crossRail := v.crossRail
    goodRail := v.goodRail
    crossLid := v.crossLid
    goodLid := v.goodLid
    sums := v.sums
    gathered := v.gathered
    means := v.means
    vinLow := v.vinLow
    bankAbove := v.bankAbove
    bankBad := v.bankBad
    holdupSeen := v.holdupSeen }

/-- What NAND keeps of a magazine. -/
def Mag.kept (m : Mag) : Mag := { label := m.label, stripes := m.stripes, slots := m.slots, ring := m.ring }

/-- TAP instructions that take effect only during the reset proper drive the balls, or leave them high-impedance (R478). -/
def TapInstr.drives (i : TapInstr) : Bool := i == .extest || i == .extestPulse || i == .extestTrain || i == .clamp

/-- The reset proper of a kind: everything returns to its reset value but what NOR, Valtu flash and NAND keep, and what R460 keeps for
the kind. Deal time starts from 0 with the next start. -/
def State.restart (s : State) (kind : Nat) : State :=
  let t : State := { State.reset with
    fresh := s.fresh
    pending := s.pending
    med := { mags := s.med.mags.map fun (m, k) => (m, k.kept) }
    store := { s.store with frozenBefore := s.store.frozenBefore || s.frozen }
    val := s.val.kept kind
    boot := { endpoint := s.boot.endpoint, resetLow := s.boot.resetLow, straps := s.boot.straps }
    tap := s.tap
    pins :=
      let quiet := !(s.boot.resetLow && s.tap.loaded.drives)
      { highZ := quiet, linksHighZ := quiet } }
  let t := if kind = kindPower then t else t.set .VAL_HOLDUP_C_MEAS (s.get .VAL_HOLDUP_C_MEAS)
  let t := if kind = kindModule then t.wr .LNK_PCIE_CFG (s.rd .LNK_PCIE_CFG) else t
  let t := match s.store.valCfg with
    | some w => t.wr .VAL_CFG w.toNat
    | none => t
  let t := if t.store.frozenBefore then t.set .MEM_STATUS_PHASE memRecovery
    else if kind = kindModule then t.set .MEM_STATUS_PHASE memService else t
  ((t.set .VAL_BOOT_KIND kind).set .VAL_BOOT_STARTS t.store.starts).showInteg

/-! ### The commit ahead of a reset (R461, R462) -/

/-- A reset other than POWER is requested: what power fail would commit is committed first, unless HOLDUP_READY is clear. -/
def State.requestReset (s : State) (kind : Nat) : State :=
  if s.flag .VAL_STATUS_HOLDUP_READY then
    ({ s with boot := { s.boot with phase := .preReset kind } }.modVal fun v => { v with powerFail := some s.now }).powerFailLaunch
  else s.restart kind

/-- What is being committed has ended: every take CLOSED and PENDING 0 on every magazine, or W ms gone since the launch. -/
def State.commitOver (s : State) : Bool :=
  match s.val.powerFail with
  | none => false
  | some t => (!s.takesOpen && (List.range 4).all fun m => s.get .MED_M_PENDING_PENDING m == 0) ||
      decide (t + s.get .VAL_HOLDUP_W * ticksPerMs ≤ s.now)

/-- RESET_PROPER: the pre-reset commit is over (R461). -/
def State.resetProper (s : State) : State :=
  match s.boot.phase with
  | .preReset kind => s.restart kind
  | _ => s

def evResetProper (s : State) : Out' := .next s.resetProper

/-- RESET_N falls: READY falls and every signal ball but those of magazine links goes high-impedance. A start-up sequence under way
stops, and keeps its kind; before t0, and in a flush or a commit that runs already, the reset follows what is under way (R459, R462,
R464; DEDUCED, log 90). -/
def evResetNAssert (s : State) : Out' :=
  let t : State := { s with
    boot := { s.boot with resetLow := true }
    pins := { s.pins with highZ := true } }
  .next <| match s.boot.phase with
  | .ready => if s.val.declared then t else t.requestReset kindPin
  | .limited => t.restart kindPin
  | .off => t.restart kindPin
  | .starting => t.restart (s.get .VAL_BOOT_KIND)
  | _ => t

/-- The reset proper holds: the instruction loaded is in effect. -/
def State.tapEffect (s : State) : Bool := s.boot.resetLow && s.boot.phase == .starting

/-- RESET_N rises: start-up may continue, and the TAP returns to BYPASS from an instruction in effect (R462, R478). -/
def evResetNRelease (s : State) : Out' :=
  let kept := s.tap.loaded == .idcode || s.tap.loaded == .bypass
  .next { s with
    boot := { s.boot with resetLow := false }
    pins := if kept then s.pins else { s.pins with highZ := true, linksHighZ := s.tapEffect || s.pins.linksHighZ }
    tap := if kept then s.tap else { s.tap with loaded := .bypass, dataOut := 0 } }

/-- SYS_RESET: DONE now, the reset on the following tick (R463). With LIMITED cause 3 every kind is a FULL start (R458). -/
def pktSysReset (kind : Nat) : Packet where
  opcode := 0x0106
  cls := .assign
  params := fun _ => need (decide (kind ≤ 1)) .CPI_BAD_PARAM
  rights := fun _ _ => [⟨.assign, .res (globalRes 1)⟩]
  checks := fun _ s => need (!s.recording) .CPI_RECORDING
  run := fun _ s =>
    let k := if kind = 1 ∧ s.get .VAL_BOOT_LIMITED_CAUSE ≠ 3 then kindModule else kindFull
    .done .empty { s with boot := { s.boot with phase := .preReset k } }

/-- The tick after a SYS_RESET begins its commit; a commit that is over makes way for the reset proper. -/
def State.advanceReset (s : State) : State :=
  match s.boot.phase with
  | .preReset kind =>
    if s.val.powerFail.isNone then
      s.requestReset kind
    else if s.commitOver then s.resetProper else s
  | _ => s

/-! ### Start-up (R456 … R459) -/

/-- A time of the R456 table in ticks. -/
def msTicks (ms : Nat) : Nat := ms * ticksPerMs

/-- LIMITED mode: READY stays deasserted and FAULT_N is asserted (R458). -/
def State.limit (s : State) (cause : Nat) : State :=
  let s := ((s.set .VAL_BOOT_LIMITED 1).set .VAL_BOOT_LIMITED_CAUSE cause).setFault true
  { s with boot := { s.boot with phase := .limited } }

/-- The persisted lane configurations take effect, quads first, then links and bindings (R326, R456). -/
def State.applyLanes (s : State) : State :=
  let s := s.store.quads.foldl (fun s (q, w) => s.applyQuad q w.toNat) s
  let s := s.store.links.foldl (fun s (k, w) => s.applyDrx k w.toNat) s
  s.wr .LNK_MAG s.store.mags.toNat

/-- The THERMAL_EVAL that repeats every 10 ms on DP84 (R423, R457). -/
def thermalEntry (time : Nat) : Entry :=
  { plainEntry time 0x78 0 with w4 := 3000000 }

/-- READY is asserted (R457): memory is in SERVICE and the key store check has ended. -/
def State.becomeReady (s : State) : State :=
  let s := (s.set .MEM_STATUS_PHASE memService).set .MEM_STATUS_ORDER s.store.order
  let s := (List.range 64).foldl (fun s i =>
    s.set .VAL_PDM_SLACK_REF ((Config.factoryRecord.getD (48 + i) 0).toNat) i) s
  let s : State := { s with
    boot := { s.boot with phase := .ready }
    pins := { s.pins with highZ := false, linksHighZ := false }
    store := { s.store with frozenBefore := false } }
  let s := s.modVal fun v => { v with lastEval := some s.now }
  let s := s.modInteg fun k => { k with lastHeartbeat := s.now }
  (s.enqueue 84 (newEntry (thermalEntry (s.now + 3000000)) 0 s.now none)).tryReplan

/-- The steps of one start, once the reset proper has taken place and RESET_N is high (R456). Deal time counts from the PLL's lock,
10 ms after the rails begin, or from the reset where the rails were kept. -/
def State.startUp (s : State) (o : StartOutcome) : State :=
  let kind := s.get .VAL_BOOT_KIND
  let starts := min 65535 (s.store.starts + 1)
  let failed := s.store.powerFailBefore
  let s : State := { s with
    dealTime := BitVec.ofNat 64 (msTicks (o.readyMs - (if kind = kindModule then 0 else 10)))
    boot := { s.boot with
      endpoint := s.store.bootEndpoint
      straps := if kind = kindPower then o.straps else s.boot.straps
      since := s.store.poweredTicks }
    store := { s.store with starts := starts, powerFailBefore := false, poweredTicks := s.store.poweredTicks + msTicks o.readyMs } }
  let s := s.set .VAL_BOOT_STARTS starts
  let s := if failed then s.raise .VAL_EVT_POWER_FAIL else s
  if !o.railsOk then
    ({ s with dealTime := 0 }.modVal fun v => { v with railsOn := [] }).limit 3
  else
    let s := s.modVal fun v => { v with railsOn := List.range 14 }
    let s := { s with pins := { s.pins with highZ := false, linksHighZ := false } }
    if !o.activeImageOk && !o.previousImageOk then s.limit 1 else
    let s := if o.activeImageOk then s else s.set .VAL_BOOT_IMAGE_FALLBACK 1
    let s : State := { s with boot := { s.boot with image := if o.activeImageOk then s.store.activeImage else s.store.previousImage } }
    let s := match o.keyFault with
      | some k => s.report 0x14 k 0
      | none => s
    let s := s.applyLanes
    let s := if s.store.frozenBefore then s.set .VAL_BOOT_RECOVERY 1 else s
    if !o.memoryOk || s.memPhase == memFailed then (s.set .MEM_STATUS_PHASE memFailed).limit 2
    else (s.set .VAL_BOOT_TIME_READY_MS o.readyMs).becomeReady

/-- START_UP: nothing starts while RESET_N is low; from any phase but the one a reset leaves, t0 begins a POWER start (R455). -/
def evStartUp (outcome : StartOutcome) (s : State) : Out' :=
  .next <| if s.boot.resetLow then s
    else (if s.boot.phase == .starting then s else s.restart kindPower).startUp outcome

/-- VALTU_BOOT: Valtu boots from its flash; every main rail is off until t0 (R455). -/
def evValtuBoot (s : State) : Out' :=
  .next <| if !s.val.railsOn.isEmpty then s else
    let s := s.restart kindPower
    { s with boot := { s.boot with phase := .valtu } }

/-- AUTO_RESTART: Tj is below 108 °C after a thermal shutdown (R428); the start is one of kind POWER (R455). -/
def evAutoRestart (s : State) : Out' :=
  .next (if s.boot.phase == .off && s.boot.thermalOff && s.flag .VAL_CFG_AUTO_RESTART then s.restart kindPower else s)

/-! ### Orderly shutdown (R464, R465) -/

def pktSysShutdown : Packet where
  opcode := 0x0107
  length := some 0
  immediate := true
  cls := .assign
  rights := fun _ _ => [⟨.assign, .res (globalRes 1)⟩]
  run := fun _ s =>
    let s := { s with cpi := { s.cpi with shuttingDown := some 1 } }
    let s := (s.takesWhere fun t => t.state == 2).foldl (fun s t => s.closeTake t 1) s
    .wait .shutdown ((List.range 16).foldl (fun s t => s.freeTake t .WRONG_STATE) s)

def State.shutStep (s : State) (k : Nat) : State := { s with cpi := { s.cpi with shuttingDown := some k } }

/-- Streams, decoder sessions and kernels stop, firing engines are disarmed. -/
def State.stopWork (s : State) : State :=
  let s := (List.range 8).foldl (fun s st => if s.streamOn st then s.stopStream st else s) s
  let s := (List.range 8).foldl (fun s d => if s.decRunning d then s.stopDec d else s) s
  let s := (List.range 32).foldl (fun s k => if s.kState k = 3 then s.stopKernel k else s) s
  ((List.range 2).foldl State.disarm s).settleTakes

/-- Nothing that step 2 stopped still runs. -/
def State.workStopped (s : State) : Bool :=
  (List.range 8).all (fun n => !s.streamOn n && !s.decRunning n) && (List.range 32).all fun k => s.kState k != 3 && s.kState k != 4

/-- Outputs stop at their reference points, audio ports at their frame syncs. -/
def State.stopPorts (s : State) : State :=
  let s := (List.range 8).foldl (fun s o =>
    if !s.outRunning o then s else if (s.output o).lastRef.isNone then s.stopOutput o
    else s.setOutput o { s.output o with stopPending := true }) s
  (List.range 16).foldl (fun s p => if s.audState p = audStopped then s else
    s.modPort p fun a => { a with dataStop := s.audState p == audRunning, clockStop := true, dataStart := none }) s

def State.portsStopped (s : State) : Bool :=
  (List.range 8).all (fun o => !s.outRunning o) && (List.range 16).all fun p => s.audState p == audStopped

/-- Every mounted magazine that may be written is ejected. -/
def State.ejectAll (s : State) : State :=
  (List.range 4).foldl (fun s m => if s.magState m = magReady then
    (if (s.magz m).ejecting then s else s.modMag m fun k => { k with ejecting := true }).settleEject m else s) s

/-- One step of the shutdown where the one before has ended; a declared power fail takes over (R465). -/
def State.advanceShutdown (s : State) : State :=
  if s.flushing then s else
  match s.cpi.shuttingDown with
  | some 1 => if s.takesOpen then s else s.stopWork.shutStep 2
  | some 2 => if s.workStopped then s.stopPorts.shutStep 3 else s
  | some 3 => if s.portsStopped then s.ejectAll.shutStep 4 else s
  | some 4 =>
    let s := s.ejectAll
    if (List.range 4).any fun m => s.magState m == magReady then s else
    let s := (s.complete (fun (w : WaitKind) => w == WaitKind.shutdown) .DONE .empty).shutStep 5
    { s with boot := { s.boot with offAt := some (s.now + ticksPerMs) } }
  | some _ => if s.boot.offAt.any fun t => decide (t ≤ s.now) then s.railsOff .off else s
  | none => s

/-! ### The test access port (R477, R478) -/

/-- An instruction loaded through the TAP; one other than BYPASS and IDCODE acts as BYPASS while RESET_N is high. -/
def State.loadTap (s : State) (i : TapInstr) : TapInstr := if s.boot.resetLow || i == .idcode then i else .bypass

/-- An instruction is loaded: what TDO shows, and, while the reset proper holds, whether the balls are driven. The data registers
of IEEE 1149.1 are PRESUMED (log 88): the sample in the boundary register is free, IDCODE and bypass registers are as they are there. -/
def State.tapLoad (s : State) (i : TapInstr) : State :=
  let i := s.loadTap i
  let (f, s) := s.draw
  let scan := i == .samplePreload || i == .extest || i == .extestPulse || i == .extestTrain
  let out := if i == .idcode then 0x109493A7 else if scan then Config.boundary f else 0
  { s with
    tap := { s.tap with loaded := i, dataOut := out, testLogicReset := false }
    pins := if s.tapEffect then { s.pins with highZ := !i.drives, linksHighZ := !i.drives } else s.pins }

def evBypass (s : State) : Out' := .next (s.tapLoad .bypass)
def evIdcode (s : State) : Out' := .next (s.tapLoad .idcode)

def evSamplePreload (preload : List Bool) (s : State) : Out' :=
  let t := s.tapLoad .samplePreload
  .next (if t.tap.loaded == .samplePreload then { t with tap := { t.tap with preload := preload } } else t)

def evExtest (s : State) : Out' := .next (s.tapLoad .extest)
def evExtestPulse (s : State) : Out' := .next (s.tapLoad .extestPulse)
def evExtestTrain (s : State) : Out' := .next (s.tapLoad .extestTrain)
def evClamp (s : State) : Out' := .next (s.tapLoad .clamp)
def evHighz (s : State) : Out' := .next (s.tapLoad .highz)

/-- TRST_N low: Test-Logic-Reset, which selects IDCODE. -/
def evTrstNAssert (s : State) : Out' :=
  .next { s with
    tap := { s.tap with loaded := .idcode, dataOut := 0x109493A7, testLogicReset := true }
    pins := if s.tapEffect then { s.pins with highZ := true, linksHighZ := true } else s.pins }

end Sys2Proof.Machine
end

