-- ==== Sys2Proof/Machine/Registers.lean ====
section
/-!
DEFINITION. Register access by hosts (R9 … R14, R17, R67, R78, R79, R86): what a read shows and clears, the checks a write makes as its
matching opcode makes them, what it puts into effect; ring indices; BAR0.
-/
namespace Sys2Proof.Machine

def Reg.is (r q : Reg) : Bool := r.base == q.base
def Reg.among (r : Reg) (l : List Reg) : Bool := l.any r.is

/-! ### Ring indices (R67, R72) -/

/-- A write of SQ_TAIL that neither moves it backwards nor makes the ring hold more than 64 slots. -/
def State.tailOk (s : State) (n v : Nat) : Bool :=
  let tail := s.get .CPI_SLOT_SQ_TAIL_INDEX n
  decide (ringFill tail (s.get .CPI_SLOT_SQ_HEAD_INDEX n) + ringFill (v % 128) tail ≤ 64)

/-- SQ_TAIL written by a host: packets are submitted; a faulty index is ignored and flagged. -/
def State.ringTail (s : State) (n v : Nat) : State :=
  if s.tailOk n v then s.set .CPI_SLOT_SQ_TAIL_INDEX v n else s.raise .CPI_EVT_RING_ERR n

/-- The replies that a write of RQ_HEAD says its host has read. -/
def State.headMove (s : State) (n v : Nat) : Nat := ringFill (v % 128) (s.get .CPI_SLOT_RQ_HEAD_INDEX n)

/-- A write of RQ_HEAD that does not pass RQ_TAIL. -/
def State.headOk (s : State) (n v : Nat) : Bool :=
  decide (s.headMove n v ≤ ringFill (s.get .CPI_SLOT_RQ_TAIL_INDEX n) (s.get .CPI_SLOT_RQ_HEAD_INDEX n))

/-- RQ_HEAD written by a host: replies it has read leave the ring; a faulty index is ignored and flagged. -/
def State.ringHead (s : State) (n v : Nat) : State :=
  if s.headOk n v then
    (s.set .CPI_SLOT_RQ_HEAD_INDEX v n).setHost n { s.host n with replies := (s.host n).replies.drop (s.headMove n v) }
  else s.raise .CPI_EVT_RING_ERR n

/-- The records that a write of MED_T_CQ_HEAD says its host has read. -/
def State.cqMove (s : State) (n v : Nat) : Nat := (v % 512 + 512 - s.get .MED_T_CQ_HEAD_INDEX n) % 512

/-- MED_T_CQ_HEAD written by a host, under the same rules with 256 (R292). -/
def State.cqHead (s : State) (n v : Nat) : State :=
  if s.cqMove n v ≤ s.cqUsed n then
    (s.set .MED_T_CQ_HEAD_INDEX v n).setHost n { s.host n with completions := (s.host n).completions.drop (s.cqMove n v) }
  else s.raise .CPI_EVT_RING_ERR n

/-- A write of a ring index register that the TX9 ignores (R67, R292). -/
def State.indexFaulty (s : State) (r : Reg) (i v : Nat) : Bool :=
  if r.is .CPI_SLOT_SQ_TAIL then !s.tailOk i v
  else if r.is .CPI_SLOT_RQ_HEAD then !s.headOk i v
  else r.is .MED_T_CQ_HEAD && decide (s.cqUsed i < s.cqMove i v)

/-! ### Reads (R9 … R12, R79, R86) -/

/-- A lease that remains, in ms (R89); the rounding of a part is free (log 20). -/
def State.leaseLeft (s : State) (n : Nat) : Nat :=
  if !s.attached n then 0 else
  let h := s.host n
  let t := h.renewed + h.leaseMs * ticksPerMs - s.now
  min 65535 (t / ticksPerMs + (if t % ticksPerMs ≠ 0 ∧ Config.roundUp 7 t ticksPerMs then 1 else 0))

/-- The value in effect as a read finds it: a quantity that is not kept in its register is formed here. -/
def State.current (s : State) (r : Reg) (i j fresh : Nat) : Nat :=
  let v := s.rd r i j
  match r.base / 2 ^ 24 with
  | 0x00 =>
    if r.is .CPI_SLOT_STATE then withBits v 31 16 (s.leaseLeft i)
    else if r.is .CPI_SLOT_STAT then withBits v 31 24 (s.pendingOf i) else v
  | 0x01 =>
    if r.is .DCK_TIME_LO then s.now % 2 ^ 32
    else if r.is .DCK_TIME_HI then s.now / 2 ^ 32
    else v
  | 0x03 => if r.is .PIP_INLINE then s.inlineWord else v
  | 0x09 => if r.is .MEM_P_STAT ∧ trumps i then withBits v 15 0 (Config.lineState fresh 4 i) else v
  | 0x0A =>
    if r.is .LNK_Q_STAT then withBits v 3 0 (s.lanesUp i fresh)
    else if r.is .LNK_E_STAT ∧ s.flag .LNK_E_CFG_EN i then
      withBits (withBits v 31 31 (Config.lineState fresh 1 i)) 15 0 (Config.lineState fresh 2 i)
    else v
  | 0x0F => if r.is .VAL_THERM then withBits v 15 0 s.thermalAge else v
  | _ => v

/-- Whether the host in slot `n` may clear RC fields and write a register's copy (R78, R79). -/
def State.ownsReg (s : State) (n : Nat) (r : Reg) (i : Nat) : Bool := s.judge n ⟨.configure, s.regTarget r i⟩ == .DONE

/-- A read of one word by the host in slot `n`: the latched high word or the value now; the low word of a pair latches the high
word; RC fields clear for a host that may configure the register; LNK_L_FOM.MIN starts again from its reset value (R330). -/
def State.readReg (s : State) (n a : Nat) : Nat × State :=
  match regAt a with
  | none => (0, s)
  | some (r, i, j) =>
    let (f, s) := s.draw
    let key := (n, a)
    match alook s.latches key with
    | some w => (w.toNat &&& r.mask fun _ => true, { s with latches := adel s.latches key })
    | none =>
      let v := (s.readWord r (s.current r i j f) i j - s.gained r i j) &&& r.mask fun _ => true
      let s := match (if r.pair then regAt (a + 4) else none) with
        | some (q, k, l) => { s with latches := aput s.latches (n, a + 4) (BitVec.ofNat 32 (s.readWord q (s.current q k l f) k l)) }
        | none => s
      if !s.ownsReg n r i then (v, s)
      else if r.is .LNK_L_FOM then (v, s.set .LNK_L_FOM_MIN 0xFF i)
      else (v, s.clearRc r i j)

/-- Words at consecutive addresses. -/
def State.readRegs (n a : Nat) : Nat → State → List Nat × State
  | 0, s => ([], s)
  | k + 1, s =>
    let (v, s) := s.readReg n a
    let (vs, s) := State.readRegs n (a + 4) k s
    (v :: vs, s)

/-- A register address outside the space, or not a multiple of 4 (R9, R26). -/
def addrStatus (a count : Nat) : Status := need (a % 4 == 0 && decide (a + 4 * count ≤ 0x10000000)) .CPI_BAD_ADDRESS

/-- REG_READ; with LIMITED cause 3 only the Valtu block can be read (R458). -/
def pktRegRead (addr count : Nat) : Packet where
  opcode := 0x0103
  params := fun _ => firstFail [addrStatus addr 1, need (decide (1 ≤ count ∧ count ≤ 1024)) .CPI_BAD_PARAM, addrStatus addr count]
  checks := fun _ s => need (!(s.boot.phase == .limited && s.get .VAL_BOOT_LIMITED_CAUSE == 3) || addr / 2 ^ 24 == 0x0F) .WRONG_STATE
  run := fun via s =>
    let (vs, s) := State.readRegs (slotOf via) addr count s
    .done (.words vs) s

/-! ### What a write puts into effect (R10 … R14) -/

/-- The unit whose commit point a register's RWS fields wait for; none where the unit does not run and R14 has them take effect at
once. -/
def State.commitUnit (s : State) (r : Reg) (i : Nat) : Option CUnit :=
  match r.commit with
  | .none => none
  | .tc => some .tc
  | .ctx => some (.ctx i)
  | .out => s.outUnit i
  | .codec => some (.codec i)
  | .dec => some (.dec i)
  | .aud => if s.audState i = audStopped then none else some (.aud i)
  | .engine => some (.engine i)

def taskRegisters : List Reg := [.MED_T_CMD, .MED_T_LBA, .MED_T_COUNT, .MED_T_BUF_LO, .MED_T_BUF_HI]

/-- One word written to a register's copy by the host in slot `n`: as the matching opcode or command has it where there is one. -/
def State.putReg (s : State) (n : Nat) (r : Reg) (i j v : Nat) : State :=
  let plain := s.writeWord (s.commitUnit r i) r v i j
  match r.base / 2 ^ 24 with
  | 0x00 =>
    if r.is .CPI_SLOT_SQ_TAIL then s.ringTail i v
    else if r.is .CPI_SLOT_RQ_HEAD then s.ringHead i v else plain
  | 0x01 =>
    if r.is .DCK_PUSH then s.push n v
    else if r.among [.DCK_SRC, .DCK_REF_CFG, .DCK_CTRL] then plain.clockSet else plain
  | 0x02 =>
    if r.among [.SNS_PORT_CFG, .SNS_PORT_MAP, .SNS_PORT_SYNC] then (if s.enabled i then s else plain.relock i)
    else if r.is .SNS_SCB_CFG then s.applyScbCfg i v
    else if r.is .SNS_CTX_CFG then (if s.enabled i then s else s.applyCtxCfg i v)
    else if r.is .SNS_CTX_SRC then (if s.enabled i then s else s.applyCtxSrc i v) else plain
  | 0x03 =>
    if r.is .PIP_CTX_CFG then s.applyPip i v (s.get .PIP_CTX_LB_UNITS i)
    else if r.is .PIP_CTX_LB then s.applyPip i (s.rd .PIP_CTX_CFG i) (bitsOf v 24 16) else plain
  | 0x04 =>
    if r.is .COL_CTX_CFG then s.applyColCtx i (bitsOf v 30 30) (bitsOf v 29 27)
    else if r.is .COL_LOOK_CFG then s.applyLookCfg i v else plain
  | 0x05 => if r.is .STA_CTX_CFG then s.applyStaCtx i (bitsOf v 31 31) (bitsOf v 6 0) else plain
  | 0x08 =>
    if r.is .MED_M_CEIL then plain.showPending i
    else if r.among taskRegisters then s.writeWord none r v i j
    else if r.is .MED_T_GO then (if v % 2 = 1 || s.flag .MED_T_STAT_BUSY i then (s.submit i).2 else s)
    else if r.is .MED_T_RESET then (s.resetQueue i (bitsOf v 1 0) (bitsOf v 4 4 == 1)).1
    else if r.is .MED_T_CQ_HEAD then s.cqHead i v else plain
  | 0x09 => if r.is .MEM_P_CFG then s.writeWord none r (portCfg i v) i j else plain
  | 0x0A =>
    if r.is .LNK_Q_CFG then s.applyQuad i v
    else if r.is .LNK_D_CFG then s.applyDrx i v else plain
  | 0x0B => if r.is .OUT_O_CFG then s.configOut i v (s.rd .OUT_O_LAT i) else plain
  | 0x0D =>
    if r.is .EVF_CELL_CFG then s.applyCell i v (s.rd .EVF_CELL_IN i)
    else if r.is .EVF_CELL_IN then s.applyCell i (s.rd .EVF_CELL_CFG i) v
    else if r.is .EVF_PIN then s.applyPin i v else plain
  | 0x0F => if r.is .VAL_CFG then s.applyValCfg v else plain
  | _ => plain

/-- The word of a pair that a high word completes: the host's pending low word, else the one in effect (R11). -/
def State.lowHalf (s : State) (n : Nat) (q : Reg) (k l a : Nat) : Nat :=
  match alook s.lowHalves (n, a) with
  | some w => w.toNat
  | none => s.rd q k l

/-- A write of one word by the host in slot `n` (R10, R11): nothing at an unimplemented address; a low word waits for its high word,
which takes both; a command register of the media channel takes neither while BUSY (R289). -/
def State.writeReg (s : State) (n a v : Nat) : State :=
  match regAt a with
  | none => s
  | some (r, i, j) =>
    if r.among taskRegisters && s.flag .MED_T_STAT_BUSY i then s.raise .MED_T_STAT_COLLIDE 0 i else
    if r.pair ∧ (r.mask fun x => x = .rw || x = .rws) ≠ 0 then { s with lowHalves := aput s.lowHalves (n, a) (BitVec.ofNat 32 v) } else
    match regAt (a - 4) with
    | some (q, k, l) =>
      if q.pair ∧ 4 ≤ a then
        let low := s.lowHalf n q k l (a - 4)
        (({ s with lowHalves := adel s.lowHalves (n, a - 4) }).putReg n q k l low).putReg n r i j v
      else s.putReg n r i j v
    | none => s.putReg n r i j v

/-! ### The checks of a write (R78, R79, R86 and the chapters' registers) -/

/-- The rights a word needs beyond those of its own resource, as the matching opcode needs them. -/
def State.moreRights (s : State) (r : Reg) (i j v : Nat) : List Right :=
  match r.base / 2 ^ 24 with
  | 0x02 =>
    if r.is .SNS_CTX_SRC ∧ s.flag .SNS_CTX_CFG_SOURCE i then [⟨.use, .res (s.linkRes (bitsOf v 4 0))⟩]
    else if r.is .SNS_CTX_CFG ∧ bitsOf v 28 28 = 1 then [⟨.use, .res (s.linkRes (s.get .SNS_CTX_SRC_LINK i))⟩] else []
  | 0x04 => if r.is .COL_LOOK_CFG then [⟨.use, .res (res 1 (bitsOf v 30 28))⟩] else []
  | 0x0A =>
    if r.is .LNK_D_CFG then quadRights (bitsOf v 6 0 / 4 :: quadsOf (bitsOf v 6 0) (bitsOf v 12 8) ++ (s.linkLanes i).map (· / 4))
    else if r.is .LNK_E_CFG then
      quadRights (bitsOf v 6 0 / 4 :: quadsOf (bitsOf v 6 0) (ethLanes (bitsOf v 30 28)) ++ (s.ethLanesOf i).map (· / 4))
    else if r.is .LNK_MAG then
      (List.range 4).flatMap fun m =>
        let b := v / 2 ^ (8 * m) % 256
        if b = s.magByte m then [] else
        ⟨.configure, .res (res 3 m)⟩ :: ((magLink b).or (magLink (s.magByte m))).toList.map fun k => ⟨.configure, .res (s.linkRes k)⟩
    else []
  | 0x0B =>
    if r.is .OUT_O_CFG then s.outCfgRights i v else if r.is .OUT_O_SRC then srcRights i v else []
  | 0x0D =>
    if r.is .EVF_CH_CFG then s.consumerRights (bitsOf v 24 16)
    else if r.is .EVF_EN then ((bitList 32 v).filter fun b => !s.producerOn i (32 * j + b)).flatMap fun b => s.producerRight (32 * j + b)
    else []
  | 0x0E => if r.is .PTU_E_CFG then engineRights i v else []
  | _ => []

/-- Sensor and pipeline registers (R91 … R93, R102, R109, R112, R113, R144); `post` is the state the whole write would leave. -/
def State.frontStatus (s post : State) (r : Reg) (i j v : Nat) : Status :=
  if r.base / 2 ^ 24 = 2 then
    let still := need (!(s.enabled i && r.differs (s.rd r i j) v)) .SNS_CTX_ACTIVE
    if r.is .SNS_PORT_CFG then firstFail [s.portCfgStatus i v, still]
    else if r.is .SNS_PORT_MAP then firstFail [post.mapStatus i, still]
    else if r.is .SNS_PORT_SYNC then still
    else if r.is .SNS_CTX_CFG then
      firstFail [need (ctxCfgOk v) .SNS_BAD_CONFIG, need (post.geomOk i (post.shadow .SNS_GEOM i) (bitsOf v 24 24)) .SNS_BAD_GEOMETRY,
        need (!s.ctxChange i v (s.rd .SNS_CTX_SRC i)) .SNS_CTX_ACTIVE]
    else if r.is .SNS_CTX_SRC then need (!s.ctxChange i (s.rd .SNS_CTX_CFG i) v) .SNS_CTX_ACTIVE
    else if r.is .SNS_GEOM then need (post.geomOk i v (post.get .SNS_CTX_CFG_SUBSTREAMS i)) .SNS_BAD_GEOMETRY
    else if r.is .SNS_CTX_TIMING then need (timingOk v) .SNS_BAD_CONFIG
    else if r.is .SNS_SCB_CFG then firstFail [s.scbCfgStatus i v, s.scbFree i v]
    else .DONE
  else if r.is .PIP_CTX_CFG then
    let units := post.get .PIP_CTX_LB_UNITS i
    firstFail [need (pipRanges v units) .PIP_BAD_CONFIG, s.pipStatus i v units]
  else if r.is .PIP_CTX_LB then
    let units := bitsOf v 24 16
    firstFail [need (pipRanges (post.rd .PIP_CTX_CFG i) units) .PIP_BAD_CONFIG, s.pipStatus i (post.rd .PIP_CTX_CFG i) units]
  else if r.commit = .ctx then need (post.pipParamsOk i) .PIP_BAD_CONFIG
  else .DONE

/-- Colour, statistics, codec and media registers (R157, R163, R169, R175, R183, R223, R239, R255, R283, R299). -/
def State.backStatus (s post : State) (n : Nat) (r : Reg) (i j v : Nat) : Status :=
  match r.base / 2 ^ 24 with
  | 0x04 =>
    if r.is .COL_CTX_CFG then
      firstFail [need (colCtxRanges (bitsOf v 29 27)) .COL_BAD_CONFIG, s.colCtxStatus i (bitsOf v 30 30) (bitsOf v 29 27)]
    else if r.is .COL_LOOK_CFG then
      firstFail [need (decide (bitsOf v 27 26 ≤ 2)) .COL_BAD_CONFIG, s.lookCfgStatus i (bitsOf v 27 26)]
    else if r.is .COL_LOOK_MODE then need (post.lookParamsOk i) .COL_BAD_CONFIG
    else if r.commit = .out then need (post.lookRangesOk i) .COL_BAD_CONFIG else .DONE
  | 0x05 =>
    if r.is .STA_CTX_CFG then
      firstFail [need (decide (2 ≤ bitsOf v 6 0 ∧ bitsOf v 6 0 ≤ 64)) .STA_BAD_CONFIG, s.staCtxStatus i (bitsOf v 6 0)]
    else if r.among staBankRegs then
      firstFail [need (post.staBankOk i j) .STA_BAD_CONFIG, need (!s.staBankBusy i j) .STA_BANK_BUSY]
    else .DONE
  | 0x06 => need (!r.is .ENG_K_CFG || decide (1 ≤ v % 65536)) .ENG_BAD_CONFIG
  | 0x07 =>
    if r.commit = .codec then
      if !s.codecMade i then .WRONG_STATE else
      firstFail [post.codecStatus i, need (!(s.flag .MLS_C_CFG_ACTIVE i && r.is .MLS_C_MP &&
        (bitsOf v 31 30 != s.sget .MLS_C_MP_SCALE i || bitsOf v 23 23 != s.sget .MLS_C_MP_MATRIX i))) .MLS_STREAM_ACTIVE]
    else if r.commit = .dec then
      if !s.decMade i then .WRONG_STATE else need (!r.is .MLS_D_TIMEOUT || decide (1 ≤ v % 65536)) .MLS_DEC_BAD_CONFIG
    else .DONE
  | 0x08 =>
    if r.is .MED_M_CEIL then need (decide (v ≤ s.get .MED_M_CEIL_MAX_CEIL_MAX i)) .MED_BAD_CONFIG
    else if r.is .MED_T_RESET then need (bitsOf v 4 4 == 0 || n == 0) .CPI_MASTER_ONLY
    else .DONE
  | _ => .DONE

/-- Memory, lane, output, audio, fabric, trigger and Valtu registers (R314, R323, R325 … R328, R332, R345, R353, R354, R362, R374,
R397, R406, R418, R432 … R434, R471). -/
def State.edgeStatus (s post : State) (r : Reg) (i j v : Nat) : Status :=
  match r.base / 2 ^ 24 with
  | 0x09 => if r.is .MEM_P_CFG then firstFail [need (s.portOk i v) .MEM_BAD_CONFIG, s.notFrozen] else .DONE
  | 0x0A =>
    if r.is .LNK_Q_CFG then s.quadStatus i v
    else if r.is .LNK_D_CFG then firstFail [need (drxRanges v) .LNK_BAD_CONFIG, need (s.drxOk i v) .LNK_BAD_LANES]
    else if r.is .LNK_E_CFG then firstFail [need (ethRanges v) .LNK_BAD_CONFIG, need (s.ethOk i v) .LNK_BAD_LANES]
    else if r.is .LNK_MAG then
      firstFail ((List.range 4).map fun m => let b := v / 2 ^ (8 * m) % 256; if b = s.magByte m then .DONE else s.bindStatus m b)
    else if r.is .LNK_PCIE_CFG then need (([1, 2, 4, 8] : List Nat).contains (bitsOf v 3 0)) .LNK_BAD_CONFIG
    else .DONE
  | 0x0B =>
    if r.is .OUT_O_CFG then
      firstFail [s.formatStatus i v, need (!s.outRunning i) .OUT_RUNNING,
        need (s.poolFits (.output i) (s.payer (res 2 i)) (outPool v)) .OUT_NO_POOL]
    else if r.is .OUT_O_SRC then s.sourceStatus i v
    else if r.among [.OUT_O_CROP0, .OUT_O_CROP1, .OUT_O_DEST0, .OUT_O_DEST1] then
      need (post.scaleOk i (post.shadow .OUT_O_CROP0 i) (post.shadow .OUT_O_CROP1 i) (post.shadow .OUT_O_DEST0 i)
        (post.shadow .OUT_O_DEST1 i)) .OUT_BAD_CONFIG
    else if r.is .OUT_O_AUD then
      firstFail [need (decide (bitsOf v 15 0 ≤ 4800)) .OUT_BAD_CONFIG, need (s.audioOk i v (s.output i).audioMap) .OUT_BAD_AUDIO]
    else .DONE
  | 0x0C =>
    if r.among [.AUD_P_CFG, .AUD_P_FMT] then
      firstFail [s.audBank, need (audConfigOk (post.rd .AUD_P_CFG i) (s.get .AUD_P_RING_CAP i) (s.get .AUD_P_RING_PLAY i)) .AUD_BAD_CONFIG,
        need (audFormatOk (post.rd .AUD_P_CFG i) (post.rd .AUD_P_FMT i)) .AUD_BAD_FORMAT, need (s.audState i == audStopped) .AUD_RUNNING]
    else if r.is .AUD_P_MASK then need (decide (v < 2 ^ s.get .AUD_P_FMT_SLOTS i)) .AUD_BAD_CONFIG else .DONE
  | 0x0D =>
    if r.is .EVF_CH_CFG then s.consumerStatus i (bitsOf v 24 16)
    else if r.is .EVF_EN then
      s.enableStatus i true (((bitList 32 v).map (32 * j + ·)).filter fun p => !s.producerOn i p)
    else if r.among [.EVF_CELL_CFG, .EVF_CELL_IN] then need (!post.hasLoop) .EVF_LOOP_COMBINATIONAL
    else if r.is .EVF_PIN then s.pinStatus i v
    else if r.is .EVF_STORM then need (stormOk v) .EVF_BAD_CONFIG else .DONE
  | 0x0E =>
    if r.is .PTU_ENC_CFG then s.ptuBank
    else if r.is .PTU_STB_CFG then firstFail [need (strobeCfgOk i v) .PTU_BAD_CONFIG, s.ptuBank] else .DONE
  | _ =>
    if r.is .VAL_CFG then need (s.valCfgOk v) .VAL_BAD_CONFIG
    else if r.is .VAL_MON_CFG then
      firstFail [need (tapOk (bitsOf v 23 16)) .VAL_BAD_TAP, need (!s.flag .VAL_MON_CFG_RUNNING i) .VAL_MON_BUSY]
    else if r.is .VAL_MON_BASE then need (!s.flag .VAL_MON_CFG_RUNNING i) .VAL_MON_BUSY
    else .DONE

/-- Control and deal clock registers (R41, R59, R89). -/
def State.baseStatus (s post : State) (r : Reg) (i : Nat) : Status :=
  if r.among [.CPI_SLOT_SQ_BASE_LO, .CPI_SLOT_SQ_BASE_HI, .CPI_SLOT_RQ_BASE_LO, .CPI_SLOT_RQ_BASE_HI] then
    need (s.get .CPI_SLOT_STATE_TRANSPORT i == 1 && s.get .CPI_SLOT_SQ_TAIL_INDEX i == s.get .CPI_SLOT_SQ_HEAD_INDEX i &&
      s.get .CPI_SLOT_RQ_TAIL_INDEX i == s.get .CPI_SLOT_RQ_HEAD_INDEX i) .WRONG_STATE
  else if r.among [.DCK_SRC, .DCK_REF_CFG, .DCK_CTRL] then
    need (dckSourceOk (post.rd .DCK_SRC) (post.rd .DCK_REF_CFG) (post.rd .DCK_CTRL)) .DCK_BAD_SOURCE
  else if r.among [.DCK_TC_CFG, .DCK_TC_ANCHOR] then
    need (tcPairOk (post.shadow .DCK_TC_CFG) (post.shadow .DCK_TC_ANCHOR)) .DCK_BAD_ENTRY
  else .DONE

/-- The rights and the register's own rules for one word: `s` is the state before it, `post` what the whole write would leave. An
unimplemented address belongs to its block's global resource (R10, R78). -/
def State.wordStatus (s post : State) (n a v : Nat) : Status :=
  match regAt a with
  | none =>
    let b := a / 2 ^ 24
    s.judge n ⟨.configure, .res (globalRes (if b = 0 then 1 else b + 2))⟩
  | some (r, i, j) =>
    let own := s.judgeAll n (⟨.configure, s.regTarget r i⟩ :: s.moreRights r i j v)
    if own ≠ .DONE then own else
    let b := r.base / 2 ^ 24
    if b ≤ 1 then s.baseStatus post r i
    else if b ≤ 3 then s.frontStatus post r i j v
    else if b ≤ 8 then s.backStatus post n r i j v
    else s.edgeStatus post r i j v

/-- The status of a write of several words: the first that fails, in address order; each is held against the state the words before it
leave, so that allocations add up (R30, R86). -/
def State.wordsStatus (post : State) (n : Nat) : List (Nat × Nat) → State → Status
  | [], _ => .DONE
  | (a, v) :: t, s =>
    let st := s.wordStatus post n a v
    if st ≠ .DONE then st else State.wordsStatus post n t (s.writeReg n a v)

def State.writeRegs (s : State) (n : Nat) (ws : List (Nat × Nat)) : State := ws.foldl (fun s (a, v) => s.writeReg n a v) s

/-- Address and value of each word of a write. -/
def wordsFrom : Nat → List (BitVec 32) → List (Nat × Nat)
  | _, [] => []
  | a, w :: t => (a, w.toNat) :: wordsFrom (a + 4) t

/-- The resources a write of words acts on (R71). -/
def State.wordActs (s : State) (ws : List (Nat × Nat)) : List Nat :=
  ws.flatMap fun (a, v) => match regAt a with
    | some (r, i, j) => actsOn (⟨.configure, s.regTarget r i⟩ :: s.moreRights r i j v)
    | none => []

/-- REG_WRITE: all words or none (R86). -/
def pktRegWrite (addr count : Nat) (words : List (BitVec 32)) : Packet where
  opcode := 0x0104
  cls := .configure
  params := fun _ => firstFail [addrStatus addr 1, need (decide (1 ≤ count ∧ count ≤ 1022)) .CPI_BAD_PARAM,
    need (words.length == count) .BAD_LENGTH, addrStatus addr count]
  checks := fun n s => State.wordsStatus (s.writeRegs n (wordsFrom addr words)) n (wordsFrom addr words) s
  acts := fun _ s => s.wordActs (wordsFrom addr words)
  run := fun via s => .done .empty (s.writeRegs (slotOf via) (wordsFrom addr words))

/-- The word REG_MODIFY writes: the old word outside the mask, but no W1C or WO bit outside it (R86). -/
def State.modified (s : State) (a mask value : Nat) : Nat × Nat :=
  match regAt a with
  | none => (0, 0)
  | some (r, i, j) =>
    let old := s.readWord r (s.current r i j s.fresh) i j
    let kept := r.mask fun x => x = .rw || x = .rws
    (old, mergeBits (old &&& kept) value mask)

/-- REG_MODIFY: its read clears nothing and is one step with the write; the result is the old word and the new one (DEDUCED, log 93). -/
def pktRegModify (addr : Nat) (mask value : BitVec 32) : Packet where
  opcode := 0x0105
  cls := .configure
  params := fun _ => addrStatus addr 1
  checks := fun n s =>
    let w := (s.modified addr mask.toNat value.toNat).2
    s.wordStatus (s.writeReg n addr w) n addr w
  acts := fun _ s => s.wordActs [(addr, (s.modified addr mask.toNat value.toNat).2)]
  run := fun via s =>
    let (old, w) := s.modified addr mask.toNat value.toNat
    .done (.words [old, mergeBits old value.toNat mask.toNat]) ((s.draw.2).writeReg (slotOf via) addr w)

/-! ### BAR0 (R9, R17, R73, R79) -/

/-- The attach mailbox in the control block (R73): a one-packet slot and a one-reply slot. -/
def mailboxBase : Nat := 0x10000
def ringSlotBytes : Nat := 4160
def inMailbox (a : Nat) : Bool := decide (mailboxBase ≤ a ∧ a < mailboxBase + 2 * ringSlotBytes)

/-- What an endpoint finds at an offset of its mailbox: the packet as written, then the reply. -/
def State.mailByte (s : State) (e : Endpoint) (off : Nat) : Byte :=
  if off < ringSlotBytes then ((alook s.cpi.mailIn e).getD []).getD off 0
  else ((alook s.cpi.mail e).map Reply.bytes |>.getD []).getD (off - ringSlotBytes) 0

/-- Bytes over others from an offset on; what lies before them and was not written is 0. -/
def patch (old : List Byte) (off : Nat) (new : List Byte) : List Byte := padTo off old ++ new ++ old.drop (off + new.length)

/-- An endpoint writes into the packet slot of its mailbox. -/
def State.mailWrite (s : State) (e : Endpoint) (off : Nat) (bs : List Byte) : State :=
  { s with cpi := { s.cpi with mailIn := aput s.cpi.mailIn e (patch ((alook s.cpi.mailIn e).getD []) off (bs.take (ringSlotBytes - off))) } }

/-- A BAR0 write that the TX9 refuses. -/
def State.barDenied (s : State) (pf a : Nat) : State :=
  let s := (s.wr .CPI_BAR_DENIED (pf * 2 ^ 30 + a % 2 ^ 28 / 4 * 4)).raise .CPI_EVT_BAR_DENIED
  if a / 2 ^ 24 = 0x0D then s.raise .EVF_EVT_CONFIG_REFUSED else s

/-- Whether a write of one word by the host in slot `n` is accepted (R79). -/
def State.barStatus (s : State) (n a v : Nat) : Status :=
  if s.cpi.shuttingDown.isSome then .WRONG_STATE else s.wordStatus (s.writeReg n a v) n a v

/-- A write to the index registers of a ring is ignored where it is faulty; through BAR0 it is a refused write too (R67, R79). -/
def State.barIgnored (s : State) (a v : Nat) : Bool :=
  match regAt a with
  | some (r, i, _) => s.indexFaulty r i v
  | none => false

/-- BAR0 serves a physical function: the part is in service and the function is enabled. -/
def State.barServes (s : State) (pf : Nat) : Bool := s.boot.phase == .ready && s.get .LNK_PCIE_CFG_PF_EN / 2 ^ pf % 2 == 1

/-- BAR0_WRITE by a physical function: into its mailbox, into a register, or refused. Nothing is served before READY. -/
def evBar0Write (pf : Fin 4) (addr bytes : Nat) (value : BitVec 32) (s : State) : Out' :=
  let a := addr
  let v := value.toNat
  .next <| if !s.barServes pf.val then s
    else if inMailbox a then
      (if a < mailboxBase + ringSlotBytes then s.mailWrite ⟨.pcie, pf.val⟩ (a - mailboxBase) (le (min bytes 4) v) else s)
    else if bytes ≠ 4 ∨ a % 4 ≠ 0 ∨ 0x10000000 ≤ a then s.barDenied pf.val a
    else match s.slotAt ⟨.pcie, pf.val⟩ with
      | none => s.barDenied pf.val a
      | some n =>
        if s.barStatus n a v ≠ .DONE then s.barDenied pf.val a
        else if s.barIgnored a v then (s.writeReg n a v).barDenied pf.val a
        else s.writeReg n a v

/-- A read of `bytes` bytes at an address of BAR0 by a physical function: what it returns, and the state it leaves. One that is not a
whole word at a multiple of 4 completes with 0 (R9); a word has the latch of R11, and clears RC fields for a host that may configure the
register (R79). A function without a slot reads its mailbox only (R73). The opcode table has no row for a BAR0 read, so no command makes
one (log 107). -/
def State.bar0Read (s : State) (pf a bytes : Nat) : Nat × State :=
  if !s.barServes pf then (0, s)
  else if inMailbox a then (unle ((List.range bytes).map fun k => s.mailByte ⟨.pcie, pf⟩ (a - mailboxBase + k)), s)
  else if bytes ≠ 4 ∨ a % 4 ≠ 0 ∨ 0x10000000 ≤ a then (0, s)
  else match s.slotAt ⟨.pcie, pf⟩ with
    | none => (0, s)
    | some n => s.readReg n a

end Sys2Proof.Machine
end

