-- ==== Sys2Proof/Machine/Cpi.lean ====
section
/-!
DEFINITION. The control complex (03): system and host packets, sessions and leases, resources and quotas, rings and what signals
them.
-/
namespace Sys2Proof.Machine

/-! ### System packets (R86, R87) -/

/-- The right of an Assign operation of group 0x01. -/
def assignSys : Nat → State → List Right := fun _ _ => [⟨.assign, .res (globalRes 1)⟩]

def pktSysIdentity : Packet where
  opcode := 0x0101
  length := some 0
  immediate := true
  run := fun _ s => .done (.bytes s.identity) s

/-- Takes that record. -/
def State.takesRecording (s : State) : Nat := (s.takesWhere fun t => t.state == 2 || t.state == 3).length

def pktSysStatus : Packet where
  opcode := 0x0102
  length := some 0
  run := fun _ s => .done (.values [if s.boot.phase == .ready then 1 else 0, s.get .VAL_STATUS_HOLDUP_READY,
    s.get .VAL_INT_STATUS_SAFE, s.get .VAL_STATUS_LEVEL, s.get .DCK_STATUS_STATE, s.takesRecording,
    s.get .ENG_USABLE_ENGINES]) s

/-- NOR holds 64 MiB (chapter 00). -/
def norBytes : Nat := 64 * mib

/-- FW_BEGIN: a new load replaces one that was not committed; a length NOR cannot hold fails the length check (DEDUCED, log 91). -/
def pktFwBegin (len : Nat) : Packet where
  opcode := 0x0108
  immediate := true
  cls := .assign
  params := fun _ => need (decide (1 ≤ len ∧ len ≤ norBytes)) .CPI_BAD_IMAGE
  rights := assignSys
  run := fun _ s => .done .empty { s with cpi := { s.cpi with fw := some ⟨len, [], false⟩ } }

def pktFwData (off : Nat) (data : List Byte) : Packet where
  opcode := 0x0109
  immediate := true
  cls := .assign
  rights := assignSys
  checks := fun _ s => match s.cpi.fw with
    | none => .WRONG_STATE
    | some f => need (decide (off + data.length ≤ f.length)) .CPI_BAD_PARAM
  run := fun _ s => .done .empty { s with cpi := { s.cpi with fw := s.cpi.fw.map fun f => { f with data := f.data ++ [(off, data)] } } }

/-- The first byte, from 0, that the parts of an image do not cover. -/
def covered (parts : List (Nat × List Byte)) : Nat :=
  parts.foldl (fun p _ => parts.foldl (fun p (o, b) => if o ≤ p then max p (o + b.length) else p) p) 0

def pktFwCommit : Packet where
  opcode := 0x010A
  length := some 0
  immediate := true
  cls := .assign
  rights := assignSys
  checks := fun _ s => firstFail [need s.cpi.fw.isSome .WRONG_STATE, need (!s.recording) .CPI_RECORDING]
  run := fun _ s => .wait .fwCommit { s with cpi := { s.cpi with fw := s.cpi.fw.map fun f => { f with committing := true } } }

/-- FW_COMMIT_COMPLETE: `ok` says that hash and signature verify. A whole image that passes is stored, and the one before it kept. -/
def evFwCommitComplete (ok : Bool) (s : State) : Out' :=
  .next <| match s.cpi.fw with
  | none => s
  | some f =>
    if !f.committing then s else
    let good := ok && decide (f.length ≤ covered f.data)
    let s : State := { s with
      cpi := { s.cpi with fw := none }
      store := if good then { s.store with activeImage := f.data, previousImage := s.store.activeImage } else s.store }
    s.complete (fun (w : WaitKind) => w == WaitKind.fwCommit) (if good then .DONE else .CPI_BAD_IMAGE) .empty

def pktSysSubscribe (mask : BitVec 32) : Packet where
  opcode := 0x010B
  immediate := true
  params := fun _ => need (decide (mask.toNat < 32)) .CPI_BAD_PARAM
  run := fun via s => .done .empty (s.setHost (slotOf via) { s.host (slotOf via) with notices := mask.toNat })

/-- An endpoint by its transport code and number (R68, R89). -/
def endpointOf (transport number : Nat) : Option Endpoint :=
  let e := fun (t : Transport) (n : Nat) => if number < n then some (⟨t, number⟩ : Endpoint) else none
  match transport with
  | 1 => e .pcie 4
  | 2 => e .spi 2
  | 3 => e .draxa 128
  | _ => none

/-- SYS_BOOT_SET: the boot record names H0's endpoint from the next reset on (R75). -/
def pktSysBootSet (transport number : Nat) : Packet where
  opcode := 0x010D
  immediate := true
  cls := .assign
  params := fun _ => need (endpointOf transport number).isSome .CPI_BAD_PARAM
  rights := assignSys
  checks := fun _ s => need (!s.recording) .CPI_RECORDING
  run := fun _ s => .done .empty { s with store := { s.store with
    bootEndpoint := (endpointOf transport number).getD s.store.bootEndpoint } }

/-! ### Sessions (R64, R73 … R75, R81 … R83, R88) -/

/-- FREE, as the slots H1 … H7 are until they attach (R89). -/
def State.slotFree (s : State) (n : Nat) : Bool := s.get .CPI_SLOT_STATE_STATE n == 0

/-- A slot of an endpoint begins a session: rings empty, quotas zero, nothing subscribed. A final reply that an earlier session in
the slot still waits for goes nowhere. The registers of the rings begin at their reset values (DESIGN CHOICE, log 92). -/
def State.beginSession (s : State) (n : Nat) (e : Endpoint) (lease : Nat) (name : List Byte) : State :=
  let s := [Reg.CPI_SLOT_SQ_BASE_LO, .CPI_SLOT_SQ_BASE_HI, .CPI_SLOT_RQ_BASE_LO, .CPI_SLOT_RQ_BASE_HI, .CPI_SLOT_SQ_TAIL,
    .CPI_SLOT_SQ_HEAD, .CPI_SLOT_RQ_TAIL, .CPI_SLOT_RQ_HEAD].foldl (fun s r => s.wr r 0 n) s
  let old := s.host n
  let s := s.setHost n {
    name := name, leaseMs := lease, renewed := s.now, msi := e.transport == .pcie
    completions := old.completions, cqSet := old.cqSet, bufMib := old.bufMib, deliveries := old.deliveries }
  let s : State := { s with cpi := { s.cpi with
    waiting := s.cpi.waiting.map fun w => if sentBy n w.via then { w with ended := true } else w } }
  let s := ((s.set .CPI_SLOT_STATE_STATE 1 n).set .CPI_SLOT_STATE_TRANSPORT (transportCode e.transport) n).set
    .CPI_SLOT_STATE_ENDPOINT e.number n
  s.notify .slotChange n (some n)

/-- The slot a new session of an endpoint takes: H0 on the boot endpoint, else the lowest free of H1 … H7. -/
def State.slotFor (s : State) (e : Endpoint) : Option Nat :=
  if e = s.boot.endpoint then some 0 else (List.range 8).find? fun n => n != 0 && s.slotFree n

/-- A host's resources return to H0 (R80). -/
def State.disown (s : State) (n : Nat) : State :=
  if n ≠ 0 ∧ s.cpi.owners.any (fun p => p.2 == n) then
    { s with cpi := { s.cpi with owners := s.cpi.owners.filter fun p => p.2 != n } }.notify .ownership 0 (some n)
  else s

/-- What a session's end discards: packets left in the ring or not begun, latched and pending register halves; its scheduled
packets are cancelled (R57, R83). -/
def State.dropSession (s : State) (n : Nat) : State :=
  let held := s.cpi.deferred.filter fun d => sentBy n d.via && d.scheduled
  let s : State := { s with
    cpi := { s.cpi with
      deferred := s.cpi.deferred.filter fun d => !sentBy n d.via
      untaken := s.cpi.untaken.filter fun p => p.1 != n
      resuming := s.cpi.resuming.filter fun p => !sentBy n p.1
      taking := s.cpi.taking.filter fun p => !sentBy n p.1 }
    latches := s.latches.filter fun p => p.1.1 != n
    lowHalves := s.lowHalves.filter fun p => p.1.1 != n }
  let (mine, others) := s.cpi.launched.partition fun d => sentBy n d.via
  let s := (held ++ mine).foldl (fun s d => s.dropTaken .DCK_CANCELLED d) { s with cpi := { s.cpi with launched := others } }
  (s.cancelPort (87 + n) 0xFFFF).2

/-- The end of the session in slot `n`: H0's slot becomes DETACHED and keeps what it owns, any other becomes FREE and keeps nothing
(R74, R75, R81, R83, R300, R304). A FREE slot keeps the name of its last session, which HOST_LIST shows: R88 says nothing of the name of a
FREE slot (DESIGN CHOICE, log 11). -/
def State.endSession (s : State) (n : Nat) : State :=
  let s := (s.dropSession n).disown n
  let s :=
    if n = 0 then (s.dropBusy 0).set .CPI_SLOT_STATE_STATE 2 0
    else
      let s := (s.freeTaskRegs n).wr .CPI_SLOT_STATE 0 n
      s.setHost n { s.host n with poolQuota := 0, clusterQuota := 0, deliveries := [] }
  (s.setHost n { s.host n with notices := 0 }).notify .slotChange n (some n)

/-- LEASE_EXPIRY (R83). -/
def State.expire (s : State) (n : Nat) : State :=
  if !s.attached n then s else ((s.raise .CPI_EVT_LEASE_EXPIRED n).endSession n).notify .leaseExpired n (some n)

def evLeaseExpiry (slot : Fin 8) (s : State) : Out' := .next (s.expire slot.val)

/-- The tick a lease runs out has come (R82). -/
def State.leaseOver (s : State) (n : Nat) : Bool :=
  s.attached n && decide ((s.host n).renewed + (s.host n).leaseMs * ticksPerMs ≤ s.now)

def leaseOk (lease : Nat) : Bool := decide (100 ≤ lease ∧ lease ≤ 60000)

/-- The module address of a slot's submission (0) or reply (1) ring (R66, R68): aligned to 4 KiB; free, and within the four address bytes of
a SPI transaction above the register space (DESIGN CHOICE, log 60). -/
def ringBase (what n : Nat) : Nat := 0x10000000 + Config.moduleAddr what n % 982975 * 4096

/-- HOST_ATTACH: ring addresses in the result for SPI and Draxa hosts (R68, R74, R75). On a ring, the endpoint holds a slot. -/
def pktHostAttach (lease : Nat) (name : List Byte) : Packet where
  opcode := 0x0201
  immediate := true
  cls := .none
  params := fun _ => firstFail [need (name.length == 16) .BAD_LENGTH, need (leaseOk lease) .CPI_BAD_LEASE]
  run := fun via s => match via with
    | .ring _ => .refuse .CPI_ALREADY_ATTACHED s
    | .mailbox e =>
      if (s.slotAt e).isSome then .refuse .CPI_ALREADY_ATTACHED s else
      match s.slotFor e with
      | none => .refuse .HOST_TABLE_FULL (s.raise .CPI_EVT_ATTACH_REFUSED)
      | some n =>
        let rings := if e.transport == .pcie then [] else [ringBase 0 n, ringBase 1 n]
        .done (.values ([n, lease] ++ rings)) (s.beginSession n e lease name)

def pktHostDetach : Packet where
  opcode := 0x0202
  length := some 0
  immediate := true
  cls := .none
  run := fun via s => .done .empty (s.endSession (slotOf via))

def pktHostHeartbeat : Packet where
  opcode := 0x0203
  length := some 0
  immediate := true
  cls := .none
  run := fun via s => .done (.values [s.leaseLeft (slotOf via)]) s

/-- The identifiers with an owner, after their count. -/
def State.owned (s : State) (n : Nat) : List Nat :=
  let l := resources.filter fun id => s.owner id == n
  l.length :: l

def pktHostList : Packet where
  opcode := 0x0204
  length := some 0
  run := fun _ s =>
    let slot := fun (n : Nat) => [s.get .CPI_SLOT_STATE_STATE n, s.get .CPI_SLOT_STATE_TRANSPORT n, s.get .CPI_SLOT_STATE_ENDPOINT n] ++
      (padTo 16 (s.host n).name).map (·.toNat) ++ [s.leaseLeft n] ++ s.owned n
    .done (.values ((List.range 8).flatMap slot ++ [shared] ++ s.owned shared)) s

def pktLeaseSet (slot lease : Nat) : Packet where
  opcode := 0x0205
  immediate := true
  cls := .none
  params := fun _ => firstFail [need (decide (slot ≤ 7)) .CPI_BAD_TARGET, need (leaseOk lease) .CPI_BAD_LEASE]
  checks := fun n s => firstFail [need (n == slot || n == 0) .CPI_MASTER_ONLY, need (!s.slotFree slot) .WRONG_STATE]
  run := fun _ s => .done .empty (s.setHost slot { s.host slot with leaseMs := lease })

/-! ### Resources and quotas (R76, R77, R80, R81, R88) -/

/-- The checks of a list of identifiers. -/
def idsStatus (ids : List Nat) : Status :=
  firstFail [need (decide (1 ≤ ids.length ∧ ids.length ≤ 256)) .BAD_LENGTH, need (ids.all validResource) .CPI_BAD_RESOURCE]

/-- All listed resources pass to `n` at one cut point. -/
def State.assignAll (s : State) (n : Nat) (ids : List Nat) : State :=
  let t := ids.foldl (fun s id => s.setOwner id n) s
  if ids.any fun id => s.owner id != n then t.notify .ownership n else t

def pktResAssign (target : Nat) (ids : List Nat) : Packet where
  opcode := 0x0206
  cls := .assign
  params := fun _ => firstFail [need (decide (target ≤ 7) || target == shared) .CPI_BAD_TARGET, idsStatus ids]
  rights := fun _ _ => ids.map fun id => ⟨.assign, .res id⟩
  checks := fun _ s => need (target == shared || target == 0 || !s.slotFree target) .WRONG_STATE
  run := fun _ s => .done (.values [s.now]) (s.assignAll target ids)

/-- RES_RELEASE acts on what the sender itself owns. -/
def pktResRelease (ids : List Nat) : Packet where
  opcode := 0x0207
  cls := .none
  params := fun _ => idsStatus ids
  checks := fun n s => need (ids.all fun id => s.owner id == n) .NOT_OWNER
  acts := fun _ _ => ids
  run := fun _ s => .done (.values [s.now]) (s.assignAll 0 ids)

def pktResQuery (ids : List Nat) : Packet where
  opcode := 0x0208
  params := fun _ => idsStatus ids
  run := fun _ s => .done (.values (ids.map s.owner)) s

def pktPartSet (slot pool clusters : Nat) : Packet where
  opcode := 0x0209
  cls := .assign
  params := fun _ => need (decide (slot ≤ 7)) .CPI_BAD_TARGET
  rights := fun _ _ => [⟨.assign, .h0⟩]
  checks := fun _ s => need (!s.slotFree slot) .WRONG_STATE
  run := fun _ s => .done .empty (s.setHost slot { s.host slot with poolQuota := pool, clusterQuota := clusters })

/-! ### Rings and their signals (R67 … R69, R72) -/

/-- A faulty index write that a PCIe host made through BAR0 is a refused BAR0 write (R79). -/
def State.ringDenied (s : State) (r : Reg) (n : Nat) : State :=
  if s.get .CPI_SLOT_STATE_TRANSPORT n = 1 then s.barDenied (s.get .CPI_SLOT_STATE_ENDPOINT n) (r.addr n 0) else s

/-- The images a host has put into its submission ring from a count on, at their slots (R66, R67). -/
def State.placeImages (n : Nat) : Nat → List (List Byte) → State → State
  | _, [], s => s
  | k, b :: t, s => State.placeImages n (k + 1) t (s.setHost n { s.host n with sqSlots := tput [] (s.host n).sqSlots (k % 64) b })

/-- SQ_TAIL_DOORBELL: a host's write of SQ_TAIL and the images it has put in the ring; a Draxa host's indices are the TX9's. -/
def evSqTailDoorbell (slot : Fin 8) (index : BitVec 32) (images : List (List Byte)) (s : State) : Out' :=
  let n := slot.val
  .next <| if !s.serves (.ring slot) || s.get .CPI_SLOT_STATE_TRANSPORT n == 3 then s
  else if !s.tailOk n index.toNat then (s.ringTail n index.toNat).ringDenied .CPI_SLOT_SQ_TAIL n
  else
    let tail := s.get .CPI_SLOT_SQ_TAIL_INDEX n
    let new := images.take (ringFill (index.toNat % 128) tail)
    new.foldl (fun s b => s.imageArrives (.ring slot) b) (State.placeImages n tail new (s.ringTail n index.toNat))

def evRqHeadAdvance (slot : Fin 8) (index : BitVec 32) (s : State) : Out' :=
  let n := slot.val
  .next <| if !s.serves (.ring slot) || s.get .CPI_SLOT_STATE_TRANSPORT n == 3 then s
  else if !s.headOk n index.toNat then (s.ringHead n index.toNat).ringDenied .CPI_SLOT_RQ_HEAD n
  else s.ringHead n index.toNat

/-- Held replies go into the reply ring while it has room, in completion order (R72). -/
def State.writeHeld (s : State) (n : Nat) : State :=
  let h := s.host n
  if h.held.isEmpty || decide (64 ≤ h.replies.length) then s else
  let k := 64 - h.replies.length
  let s := s.setHost n { h with held := [] }
  let s := (h.held.take k).foldl (fun s r => s.ringReply n (if r.opcode = 0x010C then 1 else 0) r) s
  s.setHost n { s.host n with held := h.held.drop k }

def evHeldReplyWrite (slot : Fin 8) (s : State) : Out' := .next (s.writeHeld slot.val)

/-- The reply ring of the host at a SPI port is not empty: SPIn_IRQ_N is low (R68). -/
def State.spiIrq (s : State) (p : Nat) : Bool :=
  match s.slotAt ⟨.spi, p⟩ with
  | none => false
  | some n => s.get .CPI_SLOT_RQ_TAIL_INDEX n != s.get .CPI_SLOT_RQ_HEAD_INDEX n

/-- Whether the part answers at its SPI ports: in service or in LIMITED mode. -/
def State.spiServes (s : State) : Bool := s.boot.phase == .ready || s.boot.phase == .limited

/-- SPI_STATUS: the byte the STATUS transaction shifts out (R69); nothing answers before the part serves. -/
def evSpiStatus (port : Fin 2) (s : State) : Out' :=
  let bit := fun (b : Bool) (k : Nat) => if b then 2 ^ k else 0
  let v := bit (s.spiIrq port.val) 0 + bit (s.slotAt ⟨.spi, port.val⟩).isSome 1 + bit s.safe 2
  .next (if s.spiServes then
    { s with cpi := { s.cpi with spiOut := tput 0 s.cpi.spiOut port.val v } } else s)

/-! ### SPI transactions (R69) -/

/-- A byte of a ring in module memory, at an offset from its base. -/
def ringByte (slots : Tab (List Byte)) (off : Nat) : Byte := (tgetD [] slots (off / ringSlotBytes)).getD (off % ringSlotBytes) 0

/-- Bytes a ring occupies (R66). -/
def ringBytes : Nat := 64 * ringSlotBytes

/-- The module memory a SPI host may reach: its own two rings; zeros anywhere else. -/
def State.spiByte (s : State) (n a : Nat) : Byte :=
  let h := s.host n
  if ringBase 0 n ≤ a ∧ a < ringBase 0 n + ringBytes then ringByte h.sqSlots (a - ringBase 0 n)
  else if ringBase 1 n ≤ a ∧ a < ringBase 1 n + ringBytes then ringByte h.rqSlots (a - ringBase 1 n)
  else 0

/-- Four bytes at an address, as a READ of the host at SPI port `p` finds them: the endpoint's mailbox, a register, its own rings, zeros
elsewhere. -/
def State.spiGroup (s : State) (p a : Nat) : List Byte × State :=
  if inMailbox a then ((List.range 4).map fun k => s.mailByte ⟨.spi, p⟩ (a - mailboxBase + k), s) else
  match s.slotAt ⟨.spi, p⟩ with
  | none => (List.replicate 4 0, s)
  | some n =>
    if a < 0x10000000 then
      if a % 4 ≠ 0 then (List.replicate 4 0, s) else
      let (v, s) := s.readReg n a
      (le 4 v, s)
    else ((List.range 4).map fun k => s.spiByte n (a + k), s)

/-- `k` groups of four bytes from an address on. -/
def State.spiGroups (p : Nat) : Nat → Nat → State → List Byte × State
  | 0, _, s => ([], s)
  | k + 1, a, s =>
    let (b, s) := s.spiGroup p a
    let (bs, s) := State.spiGroups p k (a + 4) s
    (b ++ bs, s)

/-- READ (0x0B): `count` data bytes from an address on. A register is read as a word; the opcode table has no row for the transaction, so
no command makes one (log 107). -/
def State.spiRead (s : State) (p a count : Nat) : List Byte × State :=
  if !s.spiServes then (List.replicate count 0, s) else
  let (b, s) := State.spiGroups p ((count + 3) / 4) a s
  (b.take count, s)

/-- Bytes a SPI host writes into a slot of its submission or reply ring. -/
def State.spiRingWrite (s : State) (n a : Nat) (bs : List Byte) : State :=
  let put := fun (slots : Tab (List Byte)) (off : Nat) =>
    let k := off / ringSlotBytes
    tput [] slots k (patch (tgetD [] slots k) (off % ringSlotBytes) (bs.take (ringSlotBytes - off % ringSlotBytes)))
  let h := s.host n
  if ringBase 0 n ≤ a ∧ a < ringBase 0 n + ringBytes then s.setHost n { h with sqSlots := put h.sqSlots (a - ringBase 0 n) }
  else if ringBase 1 n ≤ a ∧ a < ringBase 1 n + ringBytes then s.setHost n { h with rqSlots := put h.rqSlots (a - ringBase 1 n) }
  else s

/-- At most four bytes of a WRITE: into the mailbox, into a register as a whole word under the rules of R78, into the host's rings, nowhere
else. -/
def State.spiPut (s : State) (p a : Nat) (bs : List Byte) : State :=
  if inMailbox a then (if a < mailboxBase + ringSlotBytes then s.mailWrite ⟨.spi, p⟩ (a - mailboxBase) bs else s) else
  match s.slotAt ⟨.spi, p⟩ with
  | none => s
  | some n =>
    if a < 0x10000000 then
      if a % 4 = 0 ∧ bs.length = 4 ∧ s.barStatus n a (unle bs) = .DONE then s.writeReg n a (unle bs) else s
    else s.spiRingWrite n a bs

/-- Data bytes four at a time from an address on. -/
def State.spiPuts (p : Nat) : Nat → Nat → List Byte → State → State
  | 0, _, _, s => s
  | k + 1, a, bs, s => State.spiPuts p k (a + 4) (bs.drop 4) (s.spiPut p a (bs.take 4))

/-- WRITE (0x02): data bytes from an address on (R69). -/
def State.spiWrite (s : State) (p a : Nat) (bs : List Byte) : State :=
  if s.spiServes then State.spiPuts p ((bs.length + 3) / 4) a bs s else s

/-! ### What a command leaves to be seen -/

/-- READY is high in service, until the tick after a SYS_RESET, unless RESET_N is low or memory is FAILED (R310, R457, R458, R462, R463). -/
def State.readyHigh (s : State) : Bool :=
  !s.boot.resetLow && s.memPhase != memFailed && (match s.boot.phase with
    | .ready => true
    | .preReset _ => s.val.powerFail.isNone
    | _ => false)

/-- The levels of the trigger pins of the port-fed contexts: asserted is high, or low with POLARITY 1 (R96). -/
def State.triggerLevels (s : State) : Tab Bool :=
  (List.range 8).foldl (fun t n =>
    if s.flag .SNS_CTX_CFG_SOURCE n then t else
    let c := s.ctx n
    let low := s.flag .SNS_CTX_TRIG_POLARITY n
    let pin := fun (t : Tab Bool) (en : Bool) (p : Nat) (on : Bool) => if en then tins (on != low) t p else t
    let t := pin t (s.flag .SNS_CTX_TRIG_FRAME_EN n) (s.get .SNS_CTX_TRIG_FRAME_PIN n) (decide (s.now < c.framePinUntil))
    let t := pin t (s.flag .SNS_CTX_TRIG_EXP0_EN n) (s.get .SNS_CTX_TRIG_EXP0_PIN n) c.exp0
    pin t (s.flag .SNS_CTX_TRIG_EXP1_EN n) (s.get .SNS_CTX_TRIG_EXP1_PIN n) c.exp1) []

/-- The strobe balls that are high: a pulse runs with POL 0, or none with POL 1 (R406). -/
def State.strobeLevels (s : State) : Tab Bool :=
  (List.range 32).filterMap fun b =>
    if decide (s.now < (tgetD {} s.ptu.strobes b).highUntil) != s.flag .PTU_STB_CFG_POL b then some (b, true) else none

/-- READY, SPIn_IRQ_N, the trigger pins and the strobe balls show what the state has come to. -/
def State.showPins (s : State) : State :=
  { s with pins := { s.pins with
      ready := s.readyHigh
      spi0IrqN := !s.spiIrq 0
      spi1IrqN := !s.spiIrq 1
      triggers := s.triggerLevels
      strobes := s.strobeLevels } }

/-- What was set on a tick is remembered while packets that begin on it are still to run. -/
def State.settle (s : State) : State := { s with raised := if s.cpi.resuming.isEmpty then [] else s.raised }

/-- What a command leaves: its effect on everything but the queue, with the pins that show it. -/
def State.shown (s t : State) : State := { t.showPins.settle with pending := s.pending }

/-- A command's answer. -/
def State.answer (s : State) : Out' → Out'
  | .next t => .next (s.shown t)
  | .fault f => .fault f
  | .refused r => .refused r

end Sys2Proof.Machine
end

