-- ==== Sys2Proof/Machine/Tasks.lean ====
section
/-!
DEFINITION. What the task inputs of the event fabric start (R386), and a fabric cycle with its tasks (R387, R388).
-/
namespace Sys2Proof.Machine

/-- A started task input acts on its unit (R386). -/
def State.runTask (s : State) (t : Nat) : State :=
  if t < 256 then s.pinTask t
  else if t < 264 then s.frameStart (t - 256)
  else if t < 272 then s.markTask (t - 264)
  else if t < 304 then s.ringKernel (t - 272)
  else if t < 306 then s.armLaunch (t - 304) (s.taskHandle (t - 304))
  else if t < 308 then s.disarm (t - 306)
  else if t < 310 then s.timedFire (t - 308) (s.get .PTU_E_MANUAL_MASK (t - 308))
  else if t = 312 then s.evaluate
  else if t = 313 then s.latchRails
  else if 320 ≤ t ∧ t < 384 then s.clearCell (t - 320)
  else s

/-- A disarm comes before anything else that starts with it (R403). -/
def taskOrder (ts : List Nat) : List Nat := ts.filter (fun t => t == 306 || t == 307) ++ ts.filter fun t => t != 306 && t != 307

/-- One fabric cycle with the tasks it starts. -/
def State.fabric (s : State) : State :=
  let (s, started) := s.fabricCycle
  (taskOrder started).foldl State.runTask s

def evFabricCycle (s : State) : Out' := .next s.fabric

/-- Nothing moves in the fabric: no event is on its way, no pin is high, and no register of its block is away from reset. -/
def State.fabricQuiet (s : State) : Bool :=
  s.evf.emitted.isEmpty && s.evf.delayed.isEmpty && s.evf.pins.isEmpty && s.regs.all fun r => r.1 / 2 ^ 24 != 0x0D

/-- The two fabric cycles of a tick (R387). -/
def State.fabricTick (s : State) : State :=
  if s.fabricQuiet then s.modEvf fun e => { e with cycle := e.cycle + 2 } else s.fabric.fabric

end Sys2Proof.Machine
end

