-- ==== Sys2Proof/Machine/Execs.lean ====
section
/-!
DEFINITION. The meaning of each command. A packet's header goes through the checks of R65, then the packet of its row does what its chapter
says; an event has the effect its chapter's file gives it. Each answers with the pins that show what it has come to, and leaves the queue
as it was. Beside them, the packet a command carries, and PACKET_EXEC.
-/
namespace Sys2Proof.Machine

def execSysIdentity (h : Hdr) (s : State) : Out' :=
  s.answer (s.packet h (.sysIdentity h) pktSysIdentity)

def execSysStatus (h : Hdr) (s : State) : Out' :=
  s.answer (s.packet h (.sysStatus h) pktSysStatus)

def execRegRead (h : Hdr) (addr : Nat) (count : Nat) (s : State) : Out' :=
  s.answer (s.packet h (.regRead h addr count) (pktRegRead addr count))

def execRegWrite (h : Hdr) (addr : Nat) (count : Nat) (words : List (BitVec 32)) (s : State) : Out' :=
  s.answer (s.packet h (.regWrite h addr count words) (pktRegWrite addr count words))

def execRegModify (h : Hdr) (addr : Nat) (mask : BitVec 32) (value : BitVec 32) (s : State) : Out' :=
  s.answer (s.packet h (.regModify h addr mask value) (pktRegModify addr mask value))

def execSysReset (h : Hdr) (kind : Nat) (s : State) : Out' :=
  s.answer (s.packet h (.sysReset h kind) (pktSysReset kind))

def execSysShutdown (h : Hdr) (s : State) : Out' :=
  s.answer (s.packet h (.sysShutdown h) pktSysShutdown)

def execFwBegin (h : Hdr) (len : Nat) (s : State) : Out' :=
  s.answer (s.packet h (.fwBegin h len) (pktFwBegin len))

def execFwData (h : Hdr) (off : Nat) (data : List Byte) (s : State) : Out' :=
  s.answer (s.packet h (.fwData h off data) (pktFwData off data))

def execFwCommit (h : Hdr) (s : State) : Out' :=
  s.answer (s.packet h (.fwCommit h) pktFwCommit)

def execSysSubscribe (h : Hdr) (mask : BitVec 32) (s : State) : Out' :=
  s.answer (s.packet h (.sysSubscribe h mask) (pktSysSubscribe mask))

def execSysBootSet (h : Hdr) (transport : Nat) (number : Nat) (s : State) : Out' :=
  s.answer (s.packet h (.sysBootSet h transport number) (pktSysBootSet transport number))

def execHostAttach (h : Hdr) (lease : Nat) (name : List Byte) (s : State) : Out' :=
  s.answer (s.packet h (.hostAttach h lease name) (pktHostAttach lease name))

def execHostDetach (h : Hdr) (s : State) : Out' :=
  s.answer (s.packet h (.hostDetach h) pktHostDetach)

def execHostHeartbeat (h : Hdr) (s : State) : Out' :=
  s.answer (s.packet h (.hostHeartbeat h) pktHostHeartbeat)

def execHostList (h : Hdr) (s : State) : Out' :=
  s.answer (s.packet h (.hostList h) pktHostList)

def execLeaseSet (h : Hdr) (slot : Nat) (lease : Nat) (s : State) : Out' :=
  s.answer (s.packet h (.leaseSet h slot lease) (pktLeaseSet slot lease))

def execResAssign (h : Hdr) (target : Nat) (ids : List Nat) (s : State) : Out' :=
  s.answer (s.packet h (.resAssign h target ids) (pktResAssign target ids))

def execResRelease (h : Hdr) (ids : List Nat) (s : State) : Out' :=
  s.answer (s.packet h (.resRelease h ids) (pktResRelease ids))

def execResQuery (h : Hdr) (ids : List Nat) (s : State) : Out' :=
  s.answer (s.packet h (.resQuery h ids) (pktResQuery ids))

def execPartSet (h : Hdr) (slot : Nat) (pool : Nat) (clusters : Nat) (s : State) : Out' :=
  s.answer (s.packet h (.partSet h slot pool clusters) (pktPartSet slot pool clusters))

def execDckInfo (h : Hdr) (s : State) : Out' :=
  s.answer (s.packet h (.dckInfo h) pktDckInfo)

def execDckSourceSet (h : Hdr) (src : BitVec 32) (ref : BitVec 32) (ctrl : BitVec 32) (s : State) : Out' :=
  s.answer (s.packet h (.dckSourceSet h src ref ctrl) (pktDckSourceSet src ref ctrl))

def execDckStep (h : Hdr) (time : Nat) (s : State) : Out' :=
  s.answer (s.packet h (.dckStep h time) (pktDckStep time))

def execDealQueue (h : Hdr) (entries : List (Nat × Entry)) (s : State) : Out' :=
  s.answer (s.packet h (.dealQueue h entries) (pktDealQueue entries))

def execDealCancel (h : Hdr) (port : Nat) (tag : Nat) (s : State) : Out' :=
  s.answer (s.packet h (.dealCancel h port tag) (pktDealCancel port tag))

def execDealPortSet (h : Hdr) (port : Nat) (ctrl : BitVec 32) (s : State) : Out' :=
  s.answer (s.packet h (.dealPortSet h port ctrl) (pktDealPortSet port ctrl))

def execTcSet (h : Hdr) (cfg : BitVec 32) (anchor : BitVec 32) (time : Nat) (ub : BitVec 32) (jam : Bool) (s : State) : Out' :=
  s.answer (s.packet h (.tcSet h cfg anchor time ub jam) (pktTcSet cfg anchor time ub jam))

def execDealList (h : Hdr) (port : Nat) (s : State) : Out' :=
  s.answer (s.packet h (.dealList h port) (pktDealList port))

def execSnsInfo (h : Hdr) (ctx : Nat) (s : State) : Out' :=
  s.answer (s.packet h (.snsInfo h ctx) (pktSnsInfo ctx))

def execSnsPortConfig (h : Hdr) (ctx : Nat) (cfg : BitVec 32) (maps : List (BitVec 32)) (sync : BitVec 32) (s : State) : Out' :=
  s.answer (s.packet h (.snsPortConfig h ctx cfg maps sync) (pktSnsPortConfig ctx cfg maps sync))

def execSnsCtxConfig (h : Hdr) (ctx : Nat) (cfg : BitVec 32) (geom : BitVec 32) (timing : BitVec 32) (trig : BitVec 32) (src : BitVec 32) (s : State) : Out' :=
  s.answer (s.packet h (.snsCtxConfig h ctx cfg geom timing trig src) (pktSnsCtxConfig ctx cfg geom timing trig src))

def execSnsCtxEnable (h : Hdr) (ctx : Nat) (s : State) : Out' :=
  s.answer (s.packet h (.snsCtxEnable h ctx) (pktSnsCtxEnable ctx))

def execSnsCtxDisable (h : Hdr) (ctx : Nat) (s : State) : Out' :=
  s.answer (s.packet h (.snsCtxDisable h ctx) (pktSnsCtxDisable ctx))

def execSnsScbConfig (h : Hdr) (bus : Nat) (cfg : BitVec 32) (s : State) : Out' :=
  s.answer (s.packet h (.snsScbConfig h bus cfg) (pktSnsScbConfig bus cfg))

def execSnsScbListLoad (h : Hdr) (bus : Nat) (list : Nat) (ops : List (List Byte)) (s : State) : Out' :=
  s.answer (s.packet h (.snsScbListLoad h bus list ops) (pktSnsScbListLoad bus list ops))

def execSnsScbXfer (h : Hdr) (bus : Nat) (op : List Byte) (s : State) : Out' :=
  s.answer (s.packet h (.snsScbXfer h bus op) (pktSnsScbXfer bus op))

def execSnsScbResult (h : Hdr) (bus : Nat) (list : Nat) (s : State) : Out' :=
  s.answer (s.packet h (.snsScbResult h bus list) (pktSnsScbResult bus list))

def execPipInfo (h : Hdr) (ctx : Nat) (s : State) : Out' :=
  s.answer (s.packet h (.pipInfo h ctx) (pktPipInfo ctx))

def execPipCtxConfig (h : Hdr) (ctx : Nat) (cfg : BitVec 32) (units : Nat) (s : State) : Out' :=
  s.answer (s.packet h (.pipCtxConfig h ctx cfg units) (pktPipCtxConfig ctx cfg units))

def execPipParamSet (h : Hdr) (ctx : Nat) (params : List (BitVec 32)) (s : State) : Out' :=
  s.answer (s.packet h (.pipParamSet h ctx params) (pktPipParamSet ctx params))

def execPipDefectLoad (h : Hdr) (ctx : Nat) (bank : Nat) (first : Nat) (count : Nat) (last : Bool) (entries : List (BitVec 32)) (s : State) : Out' :=
  s.answer (s.packet h (.pipDefectLoad h ctx bank first count last entries) (pktPipDefectLoad ctx bank first count last entries))

def execPipShadeLoad (h : Hdr) (ctx : Nat) (bank : Nat) (plane : Nat) (first : Nat) (count : Nat) (gains : List Nat) (s : State) : Out' :=
  s.answer (s.packet h (.pipShadeLoad h ctx bank plane first count gains) (pktPipShadeLoad ctx bank plane first count gains))

def execPipTapConfig (h : Hdr) (ctx : Nat) (slots : Nat) (s : State) : Out' :=
  s.answer (s.packet h (.pipTapConfig h ctx slots) (pktPipTapConfig ctx slots))

def execPipInlineSet (h : Hdr) (ctx : Nat) (s : State) : Out' :=
  s.answer (s.packet h (.pipInlineSet h ctx) (pktPipInlineSet ctx))

def execPipBankSwap (h : Hdr) (ctx : Nat) (bank : Nat) (s : State) : Out' :=
  s.answer (s.packet h (.pipBankSwap h ctx bank) (pktPipBankSwap ctx bank))

def execPipDropLog (h : Hdr) (ctx : Nat) (s : State) : Out' :=
  s.answer (s.packet h (.pipDropLog h ctx) (pktPipDropLog ctx))

def execColInfo (h : Hdr) (isOutput : Bool) (index : Nat) (s : State) : Out' :=
  s.answer (s.packet h (.colInfo h isOutput index) (pktColInfo isOutput index))

def execColCtxConfig (h : Hdr) (ctx : Nat) (calAlloc : Nat) (devSlots : Nat) (s : State) : Out' :=
  s.answer (s.packet h (.colCtxConfig h ctx calAlloc devSlots) (pktColCtxConfig ctx calAlloc devSlots))

def execColCalLoad (h : Hdr) (ctx : Nat) (bank : Nat) (region : Nat) (first : Nat) (count : Nat) (data : List Nat) (s : State) : Out' :=
  s.answer (s.packet h (.colCalLoad h ctx bank region first count data) (pktColCalLoad ctx bank region first count data))

def execColCalSeal (h : Hdr) (ctx : Nat) (bank : Nat) (crc : BitVec 32) (s : State) : Out' :=
  s.answer (s.packet h (.colCalSeal h ctx bank crc) (pktColCalSeal ctx bank crc))

def execColCalSwap (h : Hdr) (ctx : Nat) (bank : Nat) (s : State) : Out' :=
  s.answer (s.packet h (.colCalSwap h ctx bank) (pktColCalSwap ctx bank))

def execColLookConfig (h : Hdr) (out : Nat) (src : Nat) (banks : Nat) (run : Nat) (s : State) : Out' :=
  s.answer (s.packet h (.colLookConfig h out src banks run) (pktColLookConfig out src banks run))

def execColLookLoad (h : Hdr) (out : Nat) (bank : Nat) (part : Nat) (first : Nat) (count : Nat) (data : List Nat) (s : State) : Out' :=
  s.answer (s.packet h (.colLookLoad h out bank part first count data) (pktColLookLoad out bank part first count data))

def execColLookSeal (h : Hdr) (out : Nat) (bank : Nat) (crc : BitVec 32) (s : State) : Out' :=
  s.answer (s.packet h (.colLookSeal h out bank crc) (pktColLookSeal out bank crc))

def execColLookSwap (h : Hdr) (out : Nat) (bank : Nat) (s : State) : Out' :=
  s.answer (s.packet h (.colLookSwap h out bank) (pktColLookSwap out bank))

def execColLookParam (h : Hdr) (out : Nat) (mode : BitVec 32) (mats : List (BitVec 32)) (lo : BitVec 32) (hi : BitVec 32) (tfs : List (BitVec 32)) (s : State) : Out' :=
  s.answer (s.packet h (.colLookParam h out mode mats lo hi tfs) (pktColLookParam out mode mats lo hi tfs))

def execStaInfo (h : Hdr) (ctx : Nat) (s : State) : Out' :=
  s.answer (s.packet h (.staInfo h ctx) (pktStaInfo ctx))

def execStaCtxConfig (h : Hdr) (ctx : Nat) (en : Nat) (slots : Nat) (s : State) : Out' :=
  s.answer (s.packet h (.staCtxConfig h ctx en slots) (pktStaCtxConfig ctx en slots))

def execStaCfgSet (h : Hdr) (ctx : Nat) (bank : Nat) (values : List (BitVec 32)) (s : State) : Out' :=
  s.answer (s.packet h (.staCfgSet h ctx bank values) (pktStaCfgSet ctx bank values))

def execStaCfgSwap (h : Hdr) (ctx : Nat) (bank : Nat) (s : State) : Out' :=
  s.answer (s.packet h (.staCfgSwap h ctx bank) (pktStaCfgSwap ctx bank))

def execStaRead (h : Hdr) (ctx : Nat) (rd : ReadArgs) (s : State) : Out' :=
  s.answer (s.packet h (.staRead h ctx rd) (pktStaRead ctx rd))

def execStaDeliver (h : Hdr) (ctx : Nat) (addr : Nat) (slots : Nat) (s : State) : Out' :=
  s.answer (s.packet h (.staDeliver h ctx addr slots) (pktStaDeliver ctx addr slots))

def execEngInfo (h : Hdr) (isKernel : Bool) (id : Nat) (s : State) : Out' :=
  s.answer (s.packet h (.engInfo h isKernel id) (pktEngInfo isKernel id))

def execEngKernelCreate (h : Hdr) (clusters : List Nat) (len : Nat) (s : State) : Out' :=
  s.answer (s.packet h (.engKernelCreate h clusters len) (pktEngKernelCreate clusters len))

def execEngKernelData (h : Hdr) (handle : Nat) (off : Nat) (data : List Byte) (s : State) : Out' :=
  s.answer (s.packet h (.engKernelData h handle off data) (pktEngKernelData handle off data))

def execEngKernelSeal (h : Hdr) (handle : Nat) (s : State) : Out' :=
  s.answer (s.packet h (.engKernelSeal h handle) (pktEngKernelSeal handle))

def execEngInputAttach (h : Hdr) (handle : Nat) (input : Nat) (frameKind : Bool) (ctx : Nat) (tap : Nat) (fmt : Nat) (rows : Nat) (granules : Nat) (s : State) : Out' :=
  s.answer (s.packet h (.engInputAttach h handle input frameKind ctx tap fmt rows granules) (pktEngInputAttach handle input frameKind ctx tap fmt rows granules))

def execEngOutputConfig (h : Hdr) (handle : Nat) (output : Nat) (slots : Nat) (bytes : Nat) (s : State) : Out' :=
  s.answer (s.packet h (.engOutputConfig h handle output slots bytes) (pktEngOutputConfig handle output slots bytes))

def execEngKernelStart (h : Hdr) (handle : Nat) (s : State) : Out' :=
  s.answer (s.packet h (.engKernelStart h handle) (pktEngKernelStart handle))

def execEngKernelStop (h : Hdr) (handle : Nat) (s : State) : Out' :=
  s.answer (s.packet h (.engKernelStop h handle) (pktEngKernelStop handle))

def execEngKernelFree (h : Hdr) (handle : Nat) (s : State) : Out' :=
  s.answer (s.packet h (.engKernelFree h handle) (pktEngKernelFree handle))

def execEngResultRead (h : Hdr) (handle : Nat) (output : Nat) (rd : ReadArgs) (s : State) : Out' :=
  s.answer (s.packet h (.engResultRead h handle output rd) (pktEngResultRead handle output rd))

def execMlsInfo (h : Hdr) (isStream : Bool) (id : Nat) (s : State) : Out' :=
  s.answer (s.packet h (.mlsInfo h isStream id) (pktMlsInfo isStream id))

def execMlsCtxCreate (h : Hdr) (profile : Nat) (src : Nat) (dest : Nat) (index : Nat) (hostMib : Nat) (target : BitVec 32) (ceil : BitVec 32) (rc : BitVec 32) (mp : BitVec 32) (tfp : BitVec 32) (s : State) : Out' :=
  s.answer (s.packet h (.mlsCtxCreate h profile src dest index hostMib target ceil rc mp tfp) (pktMlsCtxCreate profile src dest index hostMib target ceil rc mp tfp))

def execMlsCtxSet (h : Hdr) (handle : Nat) (target : BitVec 32) (ceil : BitVec 32) (rc : BitVec 32) (mp : BitVec 32) (tfp : BitVec 32) (s : State) : Out' :=
  s.answer (s.packet h (.mlsCtxSet h handle target ceil rc mp tfp) (pktMlsCtxSet handle target ceil rc mp tfp))

def execMlsCtxDelete (h : Hdr) (handle : Nat) (s : State) : Out' :=
  s.answer (s.packet h (.mlsCtxDelete h handle) (pktMlsCtxDelete handle))

def execMlsStreamBind (h : Hdr) (stream : Nat) (handle : Nat) (s : State) : Out' :=
  s.answer (s.packet h (.mlsStreamBind h stream handle) (pktMlsStreamBind stream handle))

def execMlsStreamStart (h : Hdr) (stream : Nat) (s : State) : Out' :=
  s.answer (s.packet h (.mlsStreamStart h stream) (pktMlsStreamStart stream))

def execMlsStreamStop (h : Hdr) (stream : Nat) (s : State) : Out' :=
  s.answer (s.packet h (.mlsStreamStop h stream) (pktMlsStreamStop stream))

def execMlsSwitch (h : Hdr) (stream : Nat) (handle : Nat) (s : State) : Out' :=
  s.answer (s.packet h (.mlsSwitch h stream handle) (pktMlsSwitch stream handle))

def execMlsPlanSet (h : Hdr) (handle : Nat) (ceiling : Nat) (quants : List Nat) (s : State) : Out' :=
  s.answer (s.packet h (.mlsPlanSet h handle ceiling quants) (pktMlsPlanSet handle ceiling quants))

def execMlsRecordRead (h : Hdr) (handle : Nat) (rd : ReadArgs) (s : State) : Out' :=
  s.answer (s.packet h (.mlsRecordRead h handle rd) (pktMlsRecordRead handle rd))

def execMlsCtxRun (h : Hdr) (handle : Nat) (start : Bool) (s : State) : Out' :=
  s.answer (s.packet h (.mlsCtxRun h handle start) (pktMlsCtxRun handle start))

def execMlsDecInfo (h : Hdr) (handle : Nat) (s : State) : Out' :=
  s.answer (s.packet h (.mlsDecInfo h handle) (pktMlsDecInfo handle))

def execMlsDecCreate (h : Hdr) (owner : Nat) (source : Nat) (srcIndex : Nat) (profile : Nat) (cols : Nat) (rows : Nat) (slots : Nat) (ring : Nat) (inMib : Nat) (rate : Nat) (conceal : Nat) (timeout : Nat) (s : State) : Out' :=
  s.answer (s.packet h (.mlsDecCreate h owner source srcIndex profile cols rows slots ring inMib rate conceal timeout) (pktMlsDecCreate owner source srcIndex profile cols rows slots ring inMib rate conceal timeout))

def execMlsDecStart (h : Hdr) (handle : Nat) (s : State) : Out' :=
  s.answer (s.packet h (.mlsDecStart h handle) (pktMlsDecStart handle))

def execMlsDecStop (h : Hdr) (handle : Nat) (s : State) : Out' :=
  s.answer (s.packet h (.mlsDecStop h handle) (pktMlsDecStop handle))

def execMlsDecDelete (h : Hdr) (handle : Nat) (s : State) : Out' :=
  s.answer (s.packet h (.mlsDecDelete h handle) (pktMlsDecDelete handle))

def execMlsDecFeed (h : Hdr) (handle : Nat) (count : Nat) (tag : Nat) (data : List Byte) (s : State) : Out' :=
  s.answer (s.packet h (.mlsDecFeed h handle count tag data) (pktMlsDecFeed handle count tag data))

def execMlsDecRead (h : Hdr) (handle : Nat) (rd : ReadArgs) (s : State) : Out' :=
  s.answer (s.packet h (.mlsDecRead h handle rd) (pktMlsDecRead handle rd))

def execMlsDecRecordRead (h : Hdr) (handle : Nat) (rd : ReadArgs) (s : State) : Out' :=
  s.answer (s.packet h (.mlsDecRecordRead h handle rd) (pktMlsDecRecordRead handle rd))

def execMlsDecSet (h : Hdr) (handle : Nat) (conceal : Nat) (timeout : Nat) (s : State) : Out' :=
  s.answer (s.packet h (.mlsDecSet h handle conceal timeout) (pktMlsDecSet handle conceal timeout))

def execMedInfo (h : Hdr) (isStream : Bool) (index : Nat) (s : State) : Out' :=
  s.answer (s.packet h (.medInfo h isStream index) (pktMedInfo isStream index))

def execMedMagFormat (h : Hdr) (mag : Nat) (spare : Option Nat) (s : State) : Out' :=
  s.answer (s.packet h (.medMagFormat h mag spare) (pktMedMagFormat mag spare))

def execMedMagEject (h : Hdr) (mag : Nat) (s : State) : Out' :=
  s.answer (s.packet h (.medMagEject h mag) (pktMedMagEject mag))

def execMedTakePrepare (h : Hdr) (stream : Nat) (primary : Nat) (secondary : Nat) (takeId : List Byte) (metadata : List Byte) (s : State) : Out' :=
  s.answer (s.packet h (.medTakePrepare h stream primary secondary takeId metadata) (pktMedTakePrepare stream primary secondary takeId metadata))

def execMedTakeStart (h : Hdr) (handle : Nat) (s : State) : Out' :=
  s.answer (s.packet h (.medTakeStart h handle) (pktMedTakeStart handle))

def execMedTakeStop (h : Hdr) (handle : Nat) (s : State) : Out' :=
  s.answer (s.packet h (.medTakeStop h handle) (pktMedTakeStop handle))

def execMedTakeMark (h : Hdr) (handle : Nat) (code : Nat) (s : State) : Out' :=
  s.answer (s.packet h (.medTakeMark h handle code) (pktMedTakeMark handle code))

def execMedTakeList (h : Hdr) (mag : Nat) (first : Nat) (count : Nat) (s : State) : Out' :=
  s.answer (s.packet h (.medTakeList h mag first count) (pktMedTakeList mag first count))

def execMedTakeRead (h : Hdr) (mag : Nat) (entry : Nat) (seq : Nat) (off : Nat) (len : Nat) (s : State) : Out' :=
  s.answer (s.packet h (.medTakeRead h mag entry seq off len) (pktMedTakeRead mag entry seq off len))

def execMedTakeDelete (h : Hdr) (mag : Nat) (entry : Nat) (s : State) : Out' :=
  s.answer (s.packet h (.medTakeDelete h mag entry) (pktMedTakeDelete mag entry))

def execMedCeilSet (h : Hdr) (mag : Nat) (ceil : Nat) (s : State) : Out' :=
  s.answer (s.packet h (.medCeilSet h mag ceil) (pktMedCeilSet mag ceil))

def execMedPlay (h : Hdr) (session : Nat) (mag : Nat) (entry : Nat) (first : Nat) (s : State) : Out' :=
  s.answer (s.packet h (.medPlay h session mag entry first) (pktMedPlay session mag entry first))

def execMedTask (h : Hdr) (cmd : BitVec 32) (lba : BitVec 32) (count : BitVec 32) (bufLo : BitVec 32) (bufHi : BitVec 32) (s : State) : Out' :=
  s.answer (s.packet h (.medTask h cmd lba count bufLo bufHi) (pktMedTask cmd lba count bufLo bufHi))

def execMedQueueReset (h : Hdr) (mag : Nat) (all : Nat) (s : State) : Out' :=
  s.answer (s.packet h (.medQueueReset h mag all) (pktMedQueueReset mag all))

def execMedCqSet (h : Hdr) (base : Nat) (s : State) : Out' :=
  s.answer (s.packet h (.medCqSet h base) (pktMedCqSet base))

def execMedMagTarget (h : Hdr) (mag : Nat) (on : Nat) (s : State) : Out' :=
  s.answer (s.packet h (.medMagTarget h mag on) (pktMedMagTarget mag on))

def execMedBufAlloc (h : Hdr) (mib : Nat) (s : State) : Out' :=
  s.answer (s.packet h (.medBufAlloc h mib) (pktMedBufAlloc mib))

def execMemInfo (h : Hdr) (s : State) : Out' :=
  s.answer (s.packet h (.memInfo h) pktMemInfo)

def execMemPortSet (h : Hdr) (port : Nat) (cfg : BitVec 32) (s : State) : Out' :=
  s.answer (s.packet h (.memPortSet h port cfg) (pktMemPortSet port cfg))

def execMemMargin (h : Hdr) (stack : Nat) (s : State) : Out' :=
  s.answer (s.packet h (.memMargin h stack) (pktMemMargin stack))

def execMemMarginRead (h : Hdr) (stack : Nat) (s : State) : Out' :=
  s.answer (s.packet h (.memMarginRead h stack) (pktMemMarginRead stack))

def execMemTrainRead (h : Hdr) (stack : Nat) (s : State) : Out' :=
  s.answer (s.packet h (.memTrainRead h stack) (pktMemTrainRead stack))

def execMemOrderSet (h : Hdr) (tx5 : Nat) (s : State) : Out' :=
  s.answer (s.packet h (.memOrderSet h tx5) (pktMemOrderSet tx5))

def execMemTest (h : Hdr) (pattern : Nat) (mask : Nat) (s : State) : Out' :=
  s.answer (s.packet h (.memTest h pattern mask) (pktMemTest pattern mask))

def execMemDiagRead (h : Hdr) (retry : Bool) (addr : Nat) (count : Nat) (pc : Nat) (s : State) : Out' :=
  s.answer (s.packet h (.memDiagRead h retry addr count pc) (pktMemDiagRead retry addr count pc))

def execLnkInfo (h : Hdr) (kind : Nat) (index : Nat) (s : State) : Out' :=
  s.answer (s.packet h (.lnkInfo h kind index) (pktLnkInfo kind index))

def execLnkQuadConfig (h : Hdr) (quad : Nat) (cfg : BitVec 32) (persist : Nat) (s : State) : Out' :=
  s.answer (s.packet h (.lnkQuadConfig h quad cfg persist) (pktLnkQuadConfig quad cfg persist))

def execLnkDrxConfig (h : Hdr) (link : Nat) (cfg : BitVec 32) (s : State) : Out' :=
  s.answer (s.packet h (.lnkDrxConfig h link cfg) (pktLnkDrxConfig link cfg))

def execLnkEthConfig (h : Hdr) (eth : Nat) (cfg : BitVec 32) (s : State) : Out' :=
  s.answer (s.packet h (.lnkEthConfig h eth cfg) (pktLnkEthConfig eth cfg))

def execLnkMagMap (h : Hdr) (mag : Nat) (link : Nat) (s : State) : Out' :=
  s.answer (s.packet h (.lnkMagMap h mag link) (pktLnkMagMap mag link))

def execLnkPartnerRead (h : Hdr) (link : Nat) (s : State) : Out' :=
  s.answer (s.packet h (.lnkPartnerRead h link) (pktLnkPartnerRead link))

def execLnkPrbs (h : Hdr) (quad : Nat) (start : Nat) (pattern : Nat) (s : State) : Out' :=
  s.answer (s.packet h (.lnkPrbs h quad start pattern) (pktLnkPrbs quad start pattern))

def execLnkFomRead (h : Hdr) (quad : Nat) (s : State) : Out' :=
  s.answer (s.packet h (.lnkFomRead h quad) (pktLnkFomRead quad))

def execLnkLinkReset (h : Hdr) (link : Nat) (s : State) : Out' :=
  s.answer (s.packet h (.lnkLinkReset h link) (pktLnkLinkReset link))

def execOutInfo (h : Hdr) (out : Nat) (s : State) : Out' :=
  s.answer (s.packet h (.outInfo h out) (pktOutInfo out))

def execOutConfig (h : Hdr) (out : Nat) (cfg : BitVec 32) (lat : BitVec 32) (s : State) : Out' :=
  s.answer (s.packet h (.outConfig h out cfg lat) (pktOutConfig out cfg lat))

def execOutStart (h : Hdr) (out : Nat) (s : State) : Out' :=
  s.answer (s.packet h (.outStart h out) (pktOutStart out))

def execOutStop (h : Hdr) (out : Nat) (s : State) : Out' :=
  s.answer (s.packet h (.outStop h out) (pktOutStop out))

def execOutSourceSet (h : Hdr) (out : Nat) (src : BitVec 32) (s : State) : Out' :=
  s.answer (s.packet h (.outSourceSet h out src) (pktOutSourceSet out src))

def execOutScaleSet (h : Hdr) (out : Nat) (crop0 : BitVec 32) (crop1 : BitVec 32) (dest0 : BitVec 32) (dest1 : BitVec 32) (fill : BitVec 32) (s : State) : Out' :=
  s.answer (s.packet h (.outScaleSet h out crop0 crop1 dest0 dest1 fill) (pktOutScaleSet out crop0 crop1 dest0 dest1 fill))

def execOutOverlaySet (h : Hdr) (out : Nat) (ovl : BitVec 32) (rects : List Nat) (thrs : List Nat) (s : State) : Out' :=
  s.answer (s.packet h (.outOverlaySet h out ovl rects thrs) (pktOutOverlaySet out ovl rects thrs))

def execOutTextSet (h : Hdr) (out : Nat) (line : Nat) (text : List Byte) (s : State) : Out' :=
  s.answer (s.packet h (.outTextSet h out line text) (pktOutTextSet out line text))

def execOutAudioSet (h : Hdr) (out : Nat) (aud : BitVec 32) (map : List Nat) (s : State) : Out' :=
  s.answer (s.packet h (.outAudioSet h out aud map) (pktOutAudioSet out aud map))

def execOutIpSet (h : Hdr) (out : Nat) (settings : List Byte) (s : State) : Out' :=
  s.answer (s.packet h (.outIpSet h out settings) (pktOutIpSet out settings))

def execOutSdpRead (h : Hdr) (out : Nat) (s : State) : Out' :=
  s.answer (s.packet h (.outSdpRead h out) (pktOutSdpRead out))

def execAudInfo (h : Hdr) (port : Nat) (s : State) : Out' :=
  s.answer (s.packet h (.audInfo h port) (pktAudInfo port))

def execAudConfig (h : Hdr) (port : Nat) (cfg : BitVec 32) (fmt : BitVec 32) (cap : Nat) (play : Nat) (s : State) : Out' :=
  s.answer (s.packet h (.audConfig h port cfg fmt cap play) (pktAudConfig port cfg fmt cap play))

def execAudMaskSet (h : Hdr) (port : Nat) (m0 : BitVec 32) (m1 : BitVec 32) (m2 : BitVec 32) (m3 : BitVec 32) (s : State) : Out' :=
  s.answer (s.packet h (.audMaskSet h port m0 m1 m2 m3) (pktAudMaskSet port m0 m1 m2 m3))

def execAudStart (h : Hdr) (mask : Nat) (time : Nat) (s : State) : Out' :=
  s.answer (s.packet h (.audStart h mask time) (pktAudStart mask time))

def execAudStop (h : Hdr) (mask : Nat) (s : State) : Out' :=
  s.answer (s.packet h (.audStop h mask) (pktAudStop mask))

def execAudRead (h : Hdr) (port : Nat) (pos : Nat) (len : Nat) (s : State) : Out' :=
  s.answer (s.packet h (.audRead h port pos len) (pktAudRead port pos len))

def execAudWrite (h : Hdr) (port : Nat) (count : Nat) (data : List Byte) (s : State) : Out' :=
  s.answer (s.packet h (.audWrite h port count data) (pktAudWrite port count data))

def execEvfInfo (h : Hdr) (kind : Nat) (index : Nat) (s : State) : Out' :=
  s.answer (s.packet h (.evfInfo h kind index) (pktEvfInfo kind index))

def execEvfChannelSet (h : Hdr) (chan : Nat) (consumer : Nat) (spacing : Nat) (ceiling : Nat) (s : State) : Out' :=
  s.answer (s.packet h (.evfChannelSet h chan consumer spacing ceiling) (pktEvfChannelSet chan consumer spacing ceiling))

def execEvfEnableSet (h : Hdr) (chan : Nat) (enable : Nat) (producers : List Nat) (s : State) : Out' :=
  s.answer (s.packet h (.evfEnableSet h chan enable producers) (pktEvfEnableSet chan enable producers))

def execEvfCellSet (h : Hdr) (cell : Nat) (cfg : BitVec 32) (ins : BitVec 32) (s : State) : Out' :=
  s.answer (s.packet h (.evfCellSet h cell cfg ins) (pktEvfCellSet cell cfg ins))

def execEvfPinSet (h : Hdr) (pin : Nat) (cfg : BitVec 32) (s : State) : Out' :=
  s.answer (s.packet h (.evfPinSet h pin cfg) (pktEvfPinSet pin cfg))

def execEvfSourceSet (h : Hdr) (source : Nat) (s : State) : Out' :=
  s.answer (s.packet h (.evfSourceSet h source) (pktEvfSourceSet source))

def execEvfSourceClear (h : Hdr) (source : Nat) (s : State) : Out' :=
  s.answer (s.packet h (.evfSourceClear h source) (pktEvfSourceClear source))

def execEvfUnquench (h : Hdr) (chan : Nat) (s : State) : Out' :=
  s.answer (s.packet h (.evfUnquench h chan) (pktEvfUnquench chan))

def execEvfStormSet (h : Hdr) (period : Nat) (s : State) : Out' :=
  s.answer (s.packet h (.evfStormSet h period) (pktEvfStormSet period))

def execPtuInfo (h : Hdr) (kind : Nat) (index : Nat) (s : State) : Out' :=
  s.answer (s.packet h (.ptuInfo h kind index) (pktPtuInfo kind index))

def execPtuEncConfig (h : Hdr) (enc : Nat) (cfg : BitVec 32) (s : State) : Out' :=
  s.answer (s.packet h (.ptuEncConfig h enc cfg) (pktPtuEncConfig enc cfg))

def execPtuEngineConfig (h : Hdr) (engine : Nat) (cfg : BitVec 32) (manual : BitVec 32) (s : State) : Out' :=
  s.answer (s.packet h (.ptuEngineConfig h engine cfg manual) (pktPtuEngineConfig engine cfg manual))

def execPtuStrobeConfig (h : Hdr) (strobe : Nat) (cfg : BitVec 32) (s : State) : Out' :=
  s.answer (s.packet h (.ptuStrobeConfig h strobe cfg) (pktPtuStrobeConfig strobe cfg))

def execPtuTableCreate (h : Hdr) (engine : Nat) (cluster : Nat) (entries : Nat) (origin : Int) (feed : Nat) (passes : Nat) (width : Nat) (minInterval : Nat) (rewind : Nat) (s : State) : Out' :=
  s.answer (s.packet h (.ptuTableCreate h engine cluster entries origin feed passes width minInterval rewind) (pktPtuTableCreate engine cluster entries origin feed passes width minInterval rewind))

def execPtuTableLoad (h : Hdr) (handle : Nat) (first : Nat) (count : Nat) (entries : List Nat) (s : State) : Out' :=
  s.answer (s.packet h (.ptuTableLoad h handle first count entries) (pktPtuTableLoad handle first count entries))

def execPtuTableSeal (h : Hdr) (handle : Nat) (crc : BitVec 32) (s : State) : Out' :=
  s.answer (s.packet h (.ptuTableSeal h handle crc) (pktPtuTableSeal handle crc))

def execPtuTableArm (h : Hdr) (handle : Nat) (s : State) : Out' :=
  s.answer (s.packet h (.ptuTableArm h handle) (pktPtuTableArm handle))

def execPtuTableDisarm (h : Hdr) (engine : Nat) (s : State) : Out' :=
  s.answer (s.packet h (.ptuTableDisarm h engine) (pktPtuTableDisarm engine))

def execPtuStrobeFire (h : Hdr) (engine : Nat) (mask : Nat) (s : State) : Out' :=
  s.answer (s.packet h (.ptuStrobeFire h engine mask) (pktPtuStrobeFire engine mask))

def execPtuStrobeReset (h : Hdr) (engine : Nat) (mask : Nat) (s : State) : Out' :=
  s.answer (s.packet h (.ptuStrobeReset h engine mask) (pktPtuStrobeReset engine mask))

def execPtuTableFree (h : Hdr) (handle : Nat) (s : State) : Out' :=
  s.answer (s.packet h (.ptuTableFree h handle) (pktPtuTableFree handle))

def execValInfo (h : Hdr) (s : State) : Out' :=
  s.answer (s.packet h (.valInfo h) pktValInfo)

def execValConfig (h : Hdr) (cfg : BitVec 32) (s : State) : Out' :=
  s.answer (s.packet h (.valConfig h cfg) (pktValConfig cfg))

def execValThermalEval (h : Hdr) (s : State) : Out' :=
  s.answer (s.packet h (.valThermalEval h) pktValThermalEval)

def execValThermalRead (h : Hdr) (s : State) : Out' :=
  s.answer (s.packet h (.valThermalRead h) pktValThermalRead)

def execValReplan (h : Hdr) (s : State) : Out' :=
  s.answer (s.packet h (.valReplan h) pktValReplan)

def execValRecordRead (h : Hdr) (rd : ReadArgs) (s : State) : Out' :=
  s.answer (s.packet h (.valRecordRead h rd) (pktValRecordRead rd))

def execValMonConfig (h : Hdr) (unit : Nat) (tap : Nat) (shift : Nat) (base : BitVec 32) (s : State) : Out' :=
  s.answer (s.packet h (.valMonConfig h unit tap shift base) (pktValMonConfig unit tap shift base))

def execValMonStart (h : Hdr) (unit : Nat) (window : Nat) (s : State) : Out' :=
  s.answer (s.packet h (.valMonStart h unit window) (pktValMonStart unit window))

def execValMonRead (h : Hdr) (unit : Nat) (s : State) : Out' :=
  s.answer (s.packet h (.valMonRead h unit) (pktValMonRead unit))

def execValSnapshot (h : Hdr) (s : State) : Out' :=
  s.answer (s.packet h (.valSnapshot h) pktValSnapshot)

def execIntInfo (h : Hdr) (s : State) : Out' :=
  s.answer (s.packet h (.intInfo h) pktIntInfo)

def execIntFaultRead (h : Hdr) (rd : ReadArgs) (s : State) : Out' :=
  s.answer (s.packet h (.intFaultRead h rd) (pktIntFaultRead rd))

def execIntClear (h : Hdr) (tallyReset : Nat) (s : State) : Out' :=
  s.answer (s.packet h (.intClear h tallyReset) (pktIntClear tallyReset))

def execIntSafeEnter (h : Hdr) (s : State) : Out' :=
  s.answer (s.packet h (.intSafeEnter h) pktIntSafeEnter)

def execIntInject (h : Hdr) (code : Nat) (s : State) : Out' :=
  s.answer (s.packet h (.intInject h code) (pktIntInject code))

def execIntKeyRead (h : Hdr) (slot : Nat) (certificate : Bool) (rd : ReadArgs) (s : State) : Out' :=
  s.answer (s.packet h (.intKeyRead h slot certificate rd) (pktIntKeyRead slot certificate rd))

def execIntAttest (h : Hdr) (nonce : List Byte) (s : State) : Out' :=
  s.answer (s.packet h (.intAttest h nonce) (pktIntAttest nonce))

/-- The header and packet of a packet command. -/
def packetOf : Instr → Option (Hdr × Packet)
  | .sysIdentity h => some (h, pktSysIdentity)
  | .sysStatus h => some (h, pktSysStatus)
  | .regRead h addr count => some (h, pktRegRead addr count)
  | .regWrite h addr count words => some (h, pktRegWrite addr count words)
  | .regModify h addr mask value => some (h, pktRegModify addr mask value)
  | .sysReset h kind => some (h, pktSysReset kind)
  | .sysShutdown h => some (h, pktSysShutdown)
  | .fwBegin h len => some (h, pktFwBegin len)
  | .fwData h off data => some (h, pktFwData off data)
  | .fwCommit h => some (h, pktFwCommit)
  | .sysSubscribe h mask => some (h, pktSysSubscribe mask)
  | .sysBootSet h transport number => some (h, pktSysBootSet transport number)
  | .hostAttach h lease name => some (h, pktHostAttach lease name)
  | .hostDetach h => some (h, pktHostDetach)
  | .hostHeartbeat h => some (h, pktHostHeartbeat)
  | .hostList h => some (h, pktHostList)
  | .leaseSet h slot lease => some (h, pktLeaseSet slot lease)
  | .resAssign h target ids => some (h, pktResAssign target ids)
  | .resRelease h ids => some (h, pktResRelease ids)
  | .resQuery h ids => some (h, pktResQuery ids)
  | .partSet h slot pool clusters => some (h, pktPartSet slot pool clusters)
  | .dckInfo h => some (h, pktDckInfo)
  | .dckSourceSet h src ref ctrl => some (h, pktDckSourceSet src ref ctrl)
  | .dckStep h time => some (h, pktDckStep time)
  | .dealQueue h entries => some (h, pktDealQueue entries)
  | .dealCancel h port tag => some (h, pktDealCancel port tag)
  | .dealPortSet h port ctrl => some (h, pktDealPortSet port ctrl)
  | .tcSet h cfg anchor time ub jam => some (h, pktTcSet cfg anchor time ub jam)
  | .dealList h port => some (h, pktDealList port)
  | .snsInfo h ctx => some (h, pktSnsInfo ctx)
  | .snsPortConfig h ctx cfg maps sync => some (h, pktSnsPortConfig ctx cfg maps sync)
  | .snsCtxConfig h ctx cfg geom timing trig src => some (h, pktSnsCtxConfig ctx cfg geom timing trig src)
  | .snsCtxEnable h ctx => some (h, pktSnsCtxEnable ctx)
  | .snsCtxDisable h ctx => some (h, pktSnsCtxDisable ctx)
  | .snsScbConfig h bus cfg => some (h, pktSnsScbConfig bus cfg)
  | .snsScbListLoad h bus list ops => some (h, pktSnsScbListLoad bus list ops)
  | .snsScbXfer h bus op => some (h, pktSnsScbXfer bus op)
  | .snsScbResult h bus list => some (h, pktSnsScbResult bus list)
  | .pipInfo h ctx => some (h, pktPipInfo ctx)
  | .pipCtxConfig h ctx cfg units => some (h, pktPipCtxConfig ctx cfg units)
  | .pipParamSet h ctx params => some (h, pktPipParamSet ctx params)
  | .pipDefectLoad h ctx bank first count last entries => some (h, pktPipDefectLoad ctx bank first count last entries)
  | .pipShadeLoad h ctx bank plane first count gains => some (h, pktPipShadeLoad ctx bank plane first count gains)
  | .pipTapConfig h ctx slots => some (h, pktPipTapConfig ctx slots)
  | .pipInlineSet h ctx => some (h, pktPipInlineSet ctx)
  | .pipBankSwap h ctx bank => some (h, pktPipBankSwap ctx bank)
  | .pipDropLog h ctx => some (h, pktPipDropLog ctx)
  | .colInfo h isOutput index => some (h, pktColInfo isOutput index)
  | .colCtxConfig h ctx calAlloc devSlots => some (h, pktColCtxConfig ctx calAlloc devSlots)
  | .colCalLoad h ctx bank region first count data => some (h, pktColCalLoad ctx bank region first count data)
  | .colCalSeal h ctx bank crc => some (h, pktColCalSeal ctx bank crc)
  | .colCalSwap h ctx bank => some (h, pktColCalSwap ctx bank)
  | .colLookConfig h out src banks run => some (h, pktColLookConfig out src banks run)
  | .colLookLoad h out bank part first count data => some (h, pktColLookLoad out bank part first count data)
  | .colLookSeal h out bank crc => some (h, pktColLookSeal out bank crc)
  | .colLookSwap h out bank => some (h, pktColLookSwap out bank)
  | .colLookParam h out mode mats lo hi tfs => some (h, pktColLookParam out mode mats lo hi tfs)
  | .staInfo h ctx => some (h, pktStaInfo ctx)
  | .staCtxConfig h ctx en slots => some (h, pktStaCtxConfig ctx en slots)
  | .staCfgSet h ctx bank values => some (h, pktStaCfgSet ctx bank values)
  | .staCfgSwap h ctx bank => some (h, pktStaCfgSwap ctx bank)
  | .staRead h ctx rd => some (h, pktStaRead ctx rd)
  | .staDeliver h ctx addr slots => some (h, pktStaDeliver ctx addr slots)
  | .engInfo h isKernel id => some (h, pktEngInfo isKernel id)
  | .engKernelCreate h clusters len => some (h, pktEngKernelCreate clusters len)
  | .engKernelData h handle off data => some (h, pktEngKernelData handle off data)
  | .engKernelSeal h handle => some (h, pktEngKernelSeal handle)
  | .engInputAttach h handle input frameKind ctx tap fmt rows granules => some (h, pktEngInputAttach handle input frameKind ctx tap fmt rows granules)
  | .engOutputConfig h handle output slots bytes => some (h, pktEngOutputConfig handle output slots bytes)
  | .engKernelStart h handle => some (h, pktEngKernelStart handle)
  | .engKernelStop h handle => some (h, pktEngKernelStop handle)
  | .engKernelFree h handle => some (h, pktEngKernelFree handle)
  | .engResultRead h handle output rd => some (h, pktEngResultRead handle output rd)
  | .mlsInfo h isStream id => some (h, pktMlsInfo isStream id)
  | .mlsCtxCreate h profile src dest index hostMib target ceil rc mp tfp => some (h, pktMlsCtxCreate profile src dest index hostMib target ceil rc mp tfp)
  | .mlsCtxSet h handle target ceil rc mp tfp => some (h, pktMlsCtxSet handle target ceil rc mp tfp)
  | .mlsCtxDelete h handle => some (h, pktMlsCtxDelete handle)
  | .mlsStreamBind h stream handle => some (h, pktMlsStreamBind stream handle)
  | .mlsStreamStart h stream => some (h, pktMlsStreamStart stream)
  | .mlsStreamStop h stream => some (h, pktMlsStreamStop stream)
  | .mlsSwitch h stream handle => some (h, pktMlsSwitch stream handle)
  | .mlsPlanSet h handle ceiling quants => some (h, pktMlsPlanSet handle ceiling quants)
  | .mlsRecordRead h handle rd => some (h, pktMlsRecordRead handle rd)
  | .mlsCtxRun h handle start => some (h, pktMlsCtxRun handle start)
  | .mlsDecInfo h handle => some (h, pktMlsDecInfo handle)
  | .mlsDecCreate h owner source srcIndex profile cols rows slots ring inMib rate conceal timeout => some (h, pktMlsDecCreate owner source srcIndex profile cols rows slots ring inMib rate conceal timeout)
  | .mlsDecStart h handle => some (h, pktMlsDecStart handle)
  | .mlsDecStop h handle => some (h, pktMlsDecStop handle)
  | .mlsDecDelete h handle => some (h, pktMlsDecDelete handle)
  | .mlsDecFeed h handle count tag data => some (h, pktMlsDecFeed handle count tag data)
  | .mlsDecRead h handle rd => some (h, pktMlsDecRead handle rd)
  | .mlsDecRecordRead h handle rd => some (h, pktMlsDecRecordRead handle rd)
  | .mlsDecSet h handle conceal timeout => some (h, pktMlsDecSet handle conceal timeout)
  | .medInfo h isStream index => some (h, pktMedInfo isStream index)
  | .medMagFormat h mag spare => some (h, pktMedMagFormat mag spare)
  | .medMagEject h mag => some (h, pktMedMagEject mag)
  | .medTakePrepare h stream primary secondary takeId metadata => some (h, pktMedTakePrepare stream primary secondary takeId metadata)
  | .medTakeStart h handle => some (h, pktMedTakeStart handle)
  | .medTakeStop h handle => some (h, pktMedTakeStop handle)
  | .medTakeMark h handle code => some (h, pktMedTakeMark handle code)
  | .medTakeList h mag first count => some (h, pktMedTakeList mag first count)
  | .medTakeRead h mag entry seq off len => some (h, pktMedTakeRead mag entry seq off len)
  | .medTakeDelete h mag entry => some (h, pktMedTakeDelete mag entry)
  | .medCeilSet h mag ceil => some (h, pktMedCeilSet mag ceil)
  | .medPlay h session mag entry first => some (h, pktMedPlay session mag entry first)
  | .medTask h cmd lba count bufLo bufHi => some (h, pktMedTask cmd lba count bufLo bufHi)
  | .medQueueReset h mag all => some (h, pktMedQueueReset mag all)
  | .medCqSet h base => some (h, pktMedCqSet base)
  | .medMagTarget h mag on => some (h, pktMedMagTarget mag on)
  | .medBufAlloc h mib => some (h, pktMedBufAlloc mib)
  | .memInfo h => some (h, pktMemInfo)
  | .memPortSet h port cfg => some (h, pktMemPortSet port cfg)
  | .memMargin h stack => some (h, pktMemMargin stack)
  | .memMarginRead h stack => some (h, pktMemMarginRead stack)
  | .memTrainRead h stack => some (h, pktMemTrainRead stack)
  | .memOrderSet h tx5 => some (h, pktMemOrderSet tx5)
  | .memTest h pattern mask => some (h, pktMemTest pattern mask)
  | .memDiagRead h retry addr count pc => some (h, pktMemDiagRead retry addr count pc)
  | .lnkInfo h kind index => some (h, pktLnkInfo kind index)
  | .lnkQuadConfig h quad cfg persist => some (h, pktLnkQuadConfig quad cfg persist)
  | .lnkDrxConfig h link cfg => some (h, pktLnkDrxConfig link cfg)
  | .lnkEthConfig h eth cfg => some (h, pktLnkEthConfig eth cfg)
  | .lnkMagMap h mag link => some (h, pktLnkMagMap mag link)
  | .lnkPartnerRead h link => some (h, pktLnkPartnerRead link)
  | .lnkPrbs h quad start pattern => some (h, pktLnkPrbs quad start pattern)
  | .lnkFomRead h quad => some (h, pktLnkFomRead quad)
  | .lnkLinkReset h link => some (h, pktLnkLinkReset link)
  | .outInfo h out => some (h, pktOutInfo out)
  | .outConfig h out cfg lat => some (h, pktOutConfig out cfg lat)
  | .outStart h out => some (h, pktOutStart out)
  | .outStop h out => some (h, pktOutStop out)
  | .outSourceSet h out src => some (h, pktOutSourceSet out src)
  | .outScaleSet h out crop0 crop1 dest0 dest1 fill => some (h, pktOutScaleSet out crop0 crop1 dest0 dest1 fill)
  | .outOverlaySet h out ovl rects thrs => some (h, pktOutOverlaySet out ovl rects thrs)
  | .outTextSet h out line text => some (h, pktOutTextSet out line text)
  | .outAudioSet h out aud map => some (h, pktOutAudioSet out aud map)
  | .outIpSet h out settings => some (h, pktOutIpSet out settings)
  | .outSdpRead h out => some (h, pktOutSdpRead out)
  | .audInfo h port => some (h, pktAudInfo port)
  | .audConfig h port cfg fmt cap play => some (h, pktAudConfig port cfg fmt cap play)
  | .audMaskSet h port m0 m1 m2 m3 => some (h, pktAudMaskSet port m0 m1 m2 m3)
  | .audStart h mask time => some (h, pktAudStart mask time)
  | .audStop h mask => some (h, pktAudStop mask)
  | .audRead h port pos len => some (h, pktAudRead port pos len)
  | .audWrite h port count data => some (h, pktAudWrite port count data)
  | .evfInfo h kind index => some (h, pktEvfInfo kind index)
  | .evfChannelSet h chan consumer spacing ceiling => some (h, pktEvfChannelSet chan consumer spacing ceiling)
  | .evfEnableSet h chan enable producers => some (h, pktEvfEnableSet chan enable producers)
  | .evfCellSet h cell cfg ins => some (h, pktEvfCellSet cell cfg ins)
  | .evfPinSet h pin cfg => some (h, pktEvfPinSet pin cfg)
  | .evfSourceSet h source => some (h, pktEvfSourceSet source)
  | .evfSourceClear h source => some (h, pktEvfSourceClear source)
  | .evfUnquench h chan => some (h, pktEvfUnquench chan)
  | .evfStormSet h period => some (h, pktEvfStormSet period)
  | .ptuInfo h kind index => some (h, pktPtuInfo kind index)
  | .ptuEncConfig h enc cfg => some (h, pktPtuEncConfig enc cfg)
  | .ptuEngineConfig h engine cfg manual => some (h, pktPtuEngineConfig engine cfg manual)
  | .ptuStrobeConfig h strobe cfg => some (h, pktPtuStrobeConfig strobe cfg)
  | .ptuTableCreate h engine cluster entries origin feed passes width minInterval rewind => some (h, pktPtuTableCreate engine cluster entries origin feed passes width minInterval rewind)
  | .ptuTableLoad h handle first count entries => some (h, pktPtuTableLoad handle first count entries)
  | .ptuTableSeal h handle crc => some (h, pktPtuTableSeal handle crc)
  | .ptuTableArm h handle => some (h, pktPtuTableArm handle)
  | .ptuTableDisarm h engine => some (h, pktPtuTableDisarm engine)
  | .ptuStrobeFire h engine mask => some (h, pktPtuStrobeFire engine mask)
  | .ptuStrobeReset h engine mask => some (h, pktPtuStrobeReset engine mask)
  | .ptuTableFree h handle => some (h, pktPtuTableFree handle)
  | .valInfo h => some (h, pktValInfo)
  | .valConfig h cfg => some (h, pktValConfig cfg)
  | .valThermalEval h => some (h, pktValThermalEval)
  | .valThermalRead h => some (h, pktValThermalRead)
  | .valReplan h => some (h, pktValReplan)
  | .valRecordRead h rd => some (h, pktValRecordRead rd)
  | .valMonConfig h unit tap shift base => some (h, pktValMonConfig unit tap shift base)
  | .valMonStart h unit window => some (h, pktValMonStart unit window)
  | .valMonRead h unit => some (h, pktValMonRead unit)
  | .valSnapshot h => some (h, pktValSnapshot)
  | .intInfo h => some (h, pktIntInfo)
  | .intFaultRead h rd => some (h, pktIntFaultRead rd)
  | .intClear h tallyReset => some (h, pktIntClear tallyReset)
  | .intSafeEnter h => some (h, pktIntSafeEnter)
  | .intInject h code => some (h, pktIntInject code)
  | .intKeyRead h slot certificate rd => some (h, pktIntKeyRead slot certificate rd)
  | .intAttest h nonce => some (h, pktIntAttest nonce)
  | _ => none

/-- A scheduled packet launches: it begins, with its rights and the state as they stand now, unless FENCE or a packet on one of its
resources holds it (R56, R70, R71). -/
def State.launchTaken (s : State) (d : Taken) : State :=
  match packetOf d.cmd with
  | none => s
  | some (h, m) =>
    if s.mayBegin (linePlace d.via d.scheduled d.accepted s.cpi.deferred).1 d.via d.order true d.fence d.resources
    then s.begin h m true d.order else s.defer d

/-- PACKET_EXEC: the packet with this SEQ whose entry has launched; where none has, the first that waits on DP87 + n launches now. -/
def evPacketExec (slot : Fin 8) (seq : BitVec 32) (s : State) : Out' :=
  let n := slot.val
  let hit := fun (d : Taken) => slotOf d.via == n && d.seq == seq
  match s.cpi.launched.find? hit with
  | some d => .next ({ s with cpi := { s.cpi with launched := s.cpi.launched.eraseP hit } }.launchTaken d)
  | none =>
    let q := s.queue (87 + n)
    match q.findSome? fun e => e.packet.filter hit with
    | some d => .next ((s.putQueue (87 + n) (q.eraseP fun e => e.packet.any hit)).launchTaken d)
    | none => .fault .noLaunchedPacket

/-! ### Events -/

def execLeaseExpiry (slot : Fin 8) (s : State) : Out' := s.answer (evLeaseExpiry slot s)

def execSqTailDoorbell (slot : Fin 8) (index : BitVec 32) (images : List (List Byte)) (s : State) : Out' := s.answer (evSqTailDoorbell slot index images s)

def execRqHeadAdvance (slot : Fin 8) (index : BitVec 32) (s : State) : Out' := s.answer (evRqHeadAdvance slot index s)

def execHeldReplyWrite (slot : Fin 8) (s : State) : Out' := s.answer (evHeldReplyWrite slot s)

def execSpiStatus (port : Fin 2) (s : State) : Out' := s.answer (evSpiStatus port s)

def execBar0Write (pf : Fin 4) (addr : Nat) (bytes : Nat) (value : BitVec 32) (s : State) : Out' := s.answer (evBar0Write pf addr bytes value s)

def execDckPush (slot : Fin 8) (value : BitVec 32) (s : State) : Out' := s.answer (evDckPush slot value s)

def execLockGained (src : Nat) (phase : Int) (freq : Int) (s : State) : Out' := s.answer (evLockGained src phase freq s)

def execLockLost (s : State) : Out' := s.answer (evLockLost s)

def execSwitchDelayExpiry (s : State) : Out' := s.answer (evSwitchDelayExpiry s)

def execSourceReturn (src : Nat) (s : State) : Out' := s.answer (evSourceReturn src s)

def execXchkWindow (count : Nat) (s : State) : Out' := s.answer (evXchkWindow count s)

def execLtcFrameDecoded (label : BitVec 32) (ub : BitVec 32) (boundary : Nat) (s : State) : Out' := s.answer (evLtcFrameDecoded label ub boundary s)

def execLtcLoss (s : State) : Out' := s.answer (evLtcLoss s)

def execJamTimeout (s : State) : Out' := s.answer (evJamTimeout s)

def execTcFrameBoundary (s : State) : Out' := s.answer (evTcFrameBoundary s)

def execDealMissed (port : Fin 96) (s : State) : Out' := s.answer (evDealMissed port s)

def execTcJam (s : State) : Out' := s.answer (evTcJam s)

def execTcAnchor (label : BitVec 32) (s : State) : Out' := s.answer (evTcAnchor label s)

def execPpsPulse (width : BitVec 32) (s : State) : Out' := s.answer (evPpsPulse width s)

def execWclkStart (rate : BitVec 32) (s : State) : Out' := s.answer (evWclkStart rate s)

def execWclkStop (s : State) : Out' := s.answer (evWclkStop s)

def execFrameStart (ctx : Fin 8) (s : State) : Out' := s.answer (evFrameStart ctx s)

def execContextEnable (ctx : Fin 8) (s : State) : Out' := s.answer (evContextEnable ctx s)

def execContextDisable (ctx : Fin 8) (s : State) : Out' := s.answer (evContextDisable ctx s)

def execExposeStart (ctx : Fin 8) (exposure : Fin 2) (s : State) : Out' := s.answer (evExposeStart ctx exposure s)

def execExposeEnd (ctx : Fin 8) (exposure : Fin 2) (s : State) : Out' := s.answer (evExposeEnd ctx exposure s)

def execScbRun (bus : Fin 32) (list : Fin 16) (s : State) : Out' := s.answer (evScbRun bus list s)

def execInlineSwitch (ctx : Fin 8) (s : State) : Out' := s.answer (evInlineSwitch ctx s)

def execPipeTableSwap (ctx : Fin 8) (bank : BitVec 32) (s : State) : Out' := s.answer (evPipeTableSwap ctx bank s)

def execLookSwap (out : Fin 8) (bank : BitVec 32) (s : State) : Out' := s.answer (evLookSwap out bank s)

def execCalSwap (ctx : Fin 8) (bank : BitVec 32) (s : State) : Out' := s.answer (evCalSwap ctx bank s)

def execStatsConfigSwap (ctx : Fin 8) (bank : BitVec 32) (s : State) : Out' := s.answer (evStatsConfigSwap ctx bank s)

def execKernelStart (handle : BitVec 32) (s : State) : Out' := s.answer (evKernelStart handle s)

def execKernelStop (handle : BitVec 32) (s : State) : Out' := s.answer (evKernelStop handle s)

def execCodecSwitch (stream : Fin 8) (handle : BitVec 32) (s : State) : Out' := s.answer (evCodecSwitch stream handle s)

def execStreamStart (stream : Fin 8) (s : State) : Out' := s.answer (evStreamStart stream s)

def execStreamStop (stream : Fin 8) (s : State) : Out' := s.answer (evStreamStop stream s)

def execTakeStart (mag : Fin 4) (stream : Fin 8) (handle : BitVec 32) (s : State) : Out' := s.answer (evTakeStart mag stream handle s)

def execTakeStop (mag : Fin 4) (stream : Fin 8) (s : State) : Out' := s.answer (evTakeStop mag stream s)

def execTakeMark (mag : Fin 4) (stream : Fin 8) (code : BitVec 32) (s : State) : Out' := s.answer (evTakeMark mag stream code s)

def execMarginMeasure (stack : Fin 2) (s : State) : Out' := s.answer (evMarginMeasure stack s)

def execFomSample (quad : Fin 24) (s : State) : Out' := s.answer (evFomSample quad s)

def execPrbsStart (quad : Fin 24) (pattern : BitVec 32) (s : State) : Out' := s.answer (evPrbsStart quad pattern s)

def execPrbsStop (quad : Fin 24) (s : State) : Out' := s.answer (evPrbsStop quad s)

def execOutFrameStart (out : Fin 8) (s : State) : Out' := s.answer (evOutFrameStart out s)

def execOutSourceSwitch (out : Fin 8) (path : Fin 8) (s : State) : Out' := s.answer (evOutSourceSwitch out path s)

def execAudClockStart (port : Fin 16) (s : State) : Out' := s.answer (evAudClockStart port s)

def execAudDataStart (port : Fin 16) (s : State) : Out' := s.answer (evAudDataStart port s)

def execAudDataStop (port : Fin 16) (s : State) : Out' := s.answer (evAudDataStop port s)

def execAudClockStop (port : Fin 16) (s : State) : Out' := s.answer (evAudClockStop port s)

def execEventPulse (port : Fin 96) (s : State) : Out' := s.answer (evEventPulse port s)

def execCellReset (cell : Fin 64) (s : State) : Out' := s.answer (evCellReset cell s)

def execTableArm (engine : Fin 2) (handle : BitVec 32) (s : State) : Out' := s.answer (evTableArm engine handle s)

def execTableDisarm (engine : Fin 2) (s : State) : Out' := s.answer (evTableDisarm engine s)

def execStrobeFire (engine : Fin 2) (mask : BitVec 32) (s : State) : Out' := s.answer (evStrobeFire engine mask s)

def execThermalEval (s : State) : Out' := s.answer (evThermalEval s)

def execTelemetrySnapshot (s : State) : Out' := s.answer (evTelemetrySnapshot s)

def execMonitorWindow (unit : Fin 64) (window : BitVec 32) (s : State) : Out' := s.answer (evMonitorWindow unit window s)

def execPacketExec (slot : Fin 8) (seq : BitVec 32) (s : State) : Out' := s.answer (evPacketExec slot seq s)

def execScbListEnd (bus : Fin 32) (nack : Bool) (op : Nat) (data : List Byte) (s : State) : Out' := s.answer (evScbListEnd bus nack op data s)

def execScbOpTimeout (bus : Fin 32) (op : Nat) (data : List Byte) (s : State) : Out' := s.answer (evScbOpTimeout bus op data s)

def execPortLock (port : Fin 8) (skew : Nat) (lanes : Nat) (s : State) : Out' := s.answer (evPortLock port skew lanes s)

def execPortLockLost (port : Fin 8) (deskew : Bool) (skew : Nat) (lanes : Nat) (s : State) : Out' := s.answer (evPortLockLost port deskew skew lanes s)

def execFrameStartMarker (ctx : Fin 8) (s : State) : Out' := s.answer (evFrameStartMarker ctx s)

def execLineArrival (ctx : Fin 8) (line : Line) (s : State) : Out' := s.answer (evLineArrival ctx line s)

def execTrailer (ctx : Fin 8) (s : State) : Out' := s.answer (evTrailer ctx s)

def execTrailerWaitExpiry (ctx : Fin 8) (s : State) : Out' := s.answer (evTrailerWaitExpiry ctx s)

def execTrigWindowExpiry (ctx : Fin 8) (s : State) : Out' := s.answer (evTrigWindowExpiry ctx s)

def execPipelineArbitration (s : State) : Out' := s.answer (evPipelineArbitration s)

def execFrameLeavesDemosaic (ctx : Fin 8) (s : State) : Out' := s.answer (evFrameLeavesDemosaic ctx s)

def execKatPass (pipOk : Bool) (colOk : Bool) (s : State) : Out' := s.answer (evKatPass pipOk colOk s)

def execFrameLeavesColour (ctx : Fin 8) (s : State) : Out' := s.answer (evFrameLeavesColour ctx s)

def execStatsPublish (ctx : Fin 8) (s : State) : Out' := s.answer (evStatsPublish ctx s)

def execResultPublish (slot : Fin 32) (output : Fin 4) (input : Fin 4) (frame : Nat) (data : List Byte) (s : State) : Out' := s.answer (evResultPublish slot output input frame data s)

def execKernelDoneWord (slot : Fin 32) (s : State) : Out' := s.answer (evKernelDoneWord slot s)

def execDrainExpiry (slot : Fin 32) (s : State) : Out' := s.answer (evDrainExpiry slot s)

def execKernelFault (slot : Fin 32) (cause : Fin 4) (cluster : Fin 32) (engine : Fin 16) (pc : Nat) (s : State) : Out' := s.answer (evKernelFault slot cause cluster engine pc s)

def execEncodeBoundary (idx : Fin 64) (s : State) : Out' := s.answer (evEncodeBoundary idx s)

def execContextSpill (idx : Fin 64) (s : State) : Out' := s.answer (evContextSpill idx s)

def execSliceEmit (idx : Fin 64) (s : State) : Out' := s.answer (evSliceEmit idx s)

def execFrameRecordPublish (idx : Fin 64) (s : State) : Out' := s.answer (evFrameRecordPublish idx s)

def execPlanQueue (idx : Fin 64) (s : State) : Out' := s.answer (evPlanQueue idx s)

def execRoundTripCheck (idx : Fin 64) (ok : Bool) (s : State) : Out' := s.answer (evRoundTripCheck idx ok s)

def execKnownAnswerSlice (core : Fin 4) (ok : Bool) (s : State) : Out' := s.answer (evKnownAnswerSlice core ok s)

def execDecFrameHeader (session : Fin 8) (s : State) : Out' := s.answer (evDecFrameHeader session s)

def execDecSlotFreed (session : Fin 8) (s : State) : Out' := s.answer (evDecSlotFreed session s)

def execDecSlice (session : Fin 8) (s : State) : Out' := s.answer (evDecSlice session s)

def execDecFramePublish (session : Fin 8) (s : State) : Out' := s.answer (evDecFramePublish session s)

def execDecFrameTimeout (session : Fin 8) (s : State) : Out' := s.answer (evDecFrameTimeout session s)

def execMount (mag : Fin 4) (found : Option MountFound) (s : State) : Out' := s.answer (evMount mag found s)

def execStripeProgrammed (mag : Fin 4) (chan : Bool) (frame : Nat) (s : State) : Out' := s.answer (evStripeProgrammed mag chan frame s)

def execJournalPageProgrammed (mag : Fin 4) (s : State) : Out' := s.answer (evJournalPageProgrammed mag s)

def execProgramFailure (mag : Fin 4) (superblock : Nat) (erase : Bool) (frame : FrameStripe) (others : Bool) (s : State) : Out' :=
  s.answer (evProgramFailure mag superblock erase frame others s)

def execRead (slot : Fin 8) (mag : Fin 4) (tag : Fin 32) (s : State) : Out' := s.answer (evRead slot mag tag s)

def execWrite (slot : Fin 8) (mag : Fin 4) (tag : Fin 32) (data : List Byte) (s : State) : Out' := s.answer (evWrite slot mag tag data s)

def execFlush (slot : Fin 8) (mag : Fin 4) (tag : Fin 32) (s : State) : Out' := s.answer (evFlush slot mag tag s)

def execTrim (slot : Fin 8) (mag : Fin 4) (tag : Fin 32) (s : State) : Out' := s.answer (evTrim slot mag tag s)

def execIdentify (slot : Fin 8) (mag : Fin 4) (tag : Fin 32) (s : State) : Out' := s.answer (evIdentify slot mag tag s)

def execPowerState (slot : Fin 8) (mag : Fin 4) (tag : Fin 32) (s : State) : Out' := s.answer (evPowerState slot mag tag s)

def execTaskAccept (slot : Fin 8) (s : State) : Out' := s.answer (evTaskAccept slot s)

def execTaskComplete (slot : Fin 8) (mag : Fin 4) (tag : Fin 32) (s : State) : Out' := s.answer (evTaskComplete slot mag tag s)

def execQueueReset (slot : Fin 8) (value : BitVec 32) (s : State) : Out' := s.answer (evQueueReset slot value s)

def execResetRecord (slot : Fin 8) (s : State) : Out' := s.answer (evResetRecord slot s)

def execPowerStateReached (mag : Fin 4) (s : State) : Out' := s.answer (evPowerStateReached mag s)

def execMarginDone (stack : Fin 2) (widths : List Nat) (s : State) : Out' := s.answer (evMarginDone stack widths s)

def execPatrolScrub (addr : Nat) (result : Fin 3) (syndrome : Nat) (s : State) : Out' := s.answer (evPatrolScrub addr result syndrome s)

def execHbmFreeze (cause : Fin 4) (port : Fin 32) (addr : Nat) (syndrome : Nat) (s : State) : Out' := s.answer (evHbmFreeze cause port addr syndrome s)

def execParityReplay (pc : Fin 64) (failed : Bool) (s : State) : Out' := s.answer (evParityReplay pc failed s)

def execTrainingComplete (ok : Bool) (sweeps0 sweeps1 again0 again1 : List (Nat × Nat)) (s : State) : Out' :=
  s.answer (evTrainingComplete ok sweeps0 sweeps1 again0 again1 s)

def execAlignFound (link : Fin 32) (lanes : Nat) (skew : Nat) (s : State) : Out' := s.answer (evAlignFound link lanes skew s)

def execDiscoverPage (link : Fin 32) (flags : Nat) (payload : List Byte) (crcOk : Bool) (s : State) : Out' := s.answer (evDiscoverPage link flags payload crcOk s)

def execEnumerationComplete (link : Fin 32) (trips : List Nat) (s : State) : Out' := s.answer (evEnumerationComplete link trips s)

def execDiscoverRepeat (link : Fin 32) (s : State) : Out' := s.answer (evDiscoverRepeat link s)

def execLinkRetry (link : Fin 32) (s : State) : Out' := s.answer (evLinkRetry link s)

def execDraxaLinkLoss (link : Fin 32) (s : State) : Out' := s.answer (evDraxaLinkLoss link s)

def execDataCell (link : Fin 32) (channel : Nat) (flags : Nat) (payload : List Byte) (crcOk : Bool) (s : State) : Out' := s.answer (evDataCell link channel flags payload crcOk s)

def execFlowCell (link : Fin 32) (grants : List (BitVec 32)) (crcOk : Bool) (s : State) : Out' := s.answer (evFlowCell link grants crcOk s)

def execEcho (link : Fin 32) (reply : Bool) (time : Nat) (turnaround : Nat) (s : State) : Out' := s.answer (evEcho link reply time turnaround s)

def execCpiSeg (link : Fin 32) (channel : Fin 4) (first : Bool) (last : Bool) (index : Nat) (data : List Byte) (s : State) : Out' := s.answer (evCpiSeg link channel first last index data s)

def execPcieChange (up : Bool) (speed : Nat) (width : Nat) (s : State) : Out' := s.answer (evPcieChange up speed width s)

def execOutputSelfStart (out : Fin 8) (s : State) : Out' := s.answer (evOutputSelfStart out s)

def execScalerFrameComplete (out : Fin 8) (s : State) : Out' := s.answer (evScalerFrameComplete out s)

def execLateLine (out : Fin 8) (line : Nat) (s : State) : Out' := s.answer (evLateLine out line s)

def execAudioFrameSync (port : Fin 16) (samples : List Nat) (s : State) : Out' := s.answer (evAudioFrameSync port samples s)

def execEvioInputEdge (pin : Fin 256) (high : Bool) (s : State) : Out' := s.answer (evEvioInputEdge pin high s)

def execFabricCycle (s : State) : Out' := s.answer (evFabricCycle s)

def execFrameTriggerTask (ctx : Fin 8) (s : State) : Out' := s.answer (evFrameTriggerTask ctx s)

def execTakeMarkTask (stream : Fin 8) (s : State) : Out' := s.answer (evTakeMarkTask stream s)

def execKernelDoorbell (slot : Fin 32) (s : State) : Out' := s.answer (evKernelDoorbell slot s)

def execEvioOutputTask (pin : Fin 256) (s : State) : Out' := s.answer (evEvioOutputTask pin s)

def execCellClearTask (cell : Fin 64) (s : State) : Out' := s.answer (evCellClearTask cell s)

def execEncoderCountChange (enc : Fin 8) (up : Bool) (s : State) : Out' := s.answer (evEncoderCountChange enc up s)

def execIndexEdge (enc : Fin 8) (s : State) : Out' := s.answer (evIndexEdge enc s)

def execStrobeReadbackMiss (strobe : Fin 32) (s : State) : Out' := s.answer (evStrobeReadbackMiss strobe s)

def execTelemetrySample (sample : Telemetry) (s : State) : Out' := s.answer (evTelemetrySample sample s)

def execVinDrop (millivolts : Nat) (s : State) : Out' := s.answer (evVinDrop millivolts s)

def execPowerFailDeclared (s : State) : Out' := s.answer (evPowerFailDeclared s)

def execVinDip (millivolts : Nat) (s : State) : Out' := s.answer (evVinDip millivolts s)

def execHoldupWindowEnd (s : State) : Out' := s.answer (evHoldupWindowEnd s)

def execBankAt40v (ticks : Nat) (s : State) : Out' := s.answer (evBankAt40v ticks s)

def execHoldupReady (s : State) : Out' := s.answer (evHoldupReady s)

def execChargeTimeout (s : State) : Out' := s.answer (evChargeTimeout s)

def execThermalStale (s : State) : Out' := s.answer (evThermalStale s)

def execFlushEvaluation (s : State) : Out' := s.answer (evFlushEvaluation s)

def execShutdownRailsOff (s : State) : Out' := s.answer (evShutdownRailsOff s)

def execAutoRestart (s : State) : Out' := s.answer (evAutoRestart s)

def execMarginReplan (slack : List Int) (widths0 : List Nat) (widths1 : List Nat) (centres : List Nat) (failed : List Nat) (s : State) : Out' := s.answer (evMarginReplan slack widths0 widths1 centres failed s)

def execDeferredReplanStart (s : State) : Out' := s.answer (evDeferredReplanStart s)

def execMonitorWindowEnd (unit : Fin 64) (s : State) : Out' := s.answer (evMonitorWindowEnd unit s)

def execSafeStateEntry (s : State) : Out' := s.answer (evSafeStateEntry s)

def execFaultRecord (code : Nat) (detail0 : Nat) (detail1 : Nat) (s : State) : Out' := s.answer (evFaultRecord code detail0 detail1 s)

def execSafeEntryComplete (s : State) : Out' := s.answer (evSafeEntryComplete s)

def execLockstepMismatch (valtu : Bool) (pair : Nat) (s : State) : Out' := s.answer (evLockstepMismatch valtu pair s)

def execWatchdogTimeout (last : Nat) (s : State) : Out' := s.answer (evWatchdogTimeout last s)

def execStartUp (outcome : StartOutcome) (s : State) : Out' := s.answer (evStartUp outcome s)

def execResetNAssert (s : State) : Out' := s.answer (evResetNAssert s)

def execResetNRelease (s : State) : Out' := s.answer (evResetNRelease s)

def execResetProper (s : State) : Out' := s.answer (evResetProper s)

def execBypass (s : State) : Out' := s.answer (evBypass s)

def execIdcode (s : State) : Out' := s.answer (evIdcode s)

def execSamplePreload (preload : List Bool) (s : State) : Out' := s.answer (evSamplePreload preload s)

def execExtest (s : State) : Out' := s.answer (evExtest s)

def execExtestPulse (s : State) : Out' := s.answer (evExtestPulse s)

def execExtestTrain (s : State) : Out' := s.answer (evExtestTrain s)

def execClamp (s : State) : Out' := s.answer (evClamp s)

def execHighz (s : State) : Out' := s.answer (evHighz s)

def execTrstNAssert (s : State) : Out' := s.answer (evTrstNAssert s)

def execSourcePresent (src : Nat) (s : State) : Out' := s.answer (evSourcePresent src s)

def execReadCountAdvance (slot : Fin 32) (input : Fin 4) (count : Nat) (s : State) : Out' := s.answer (evReadCountAdvance slot input count s)

def execFrameAcquire (slot : Fin 32) (input : Fin 4) (s : State) : Out' := s.answer (evFrameAcquire slot input s)

def execFrameRelease (slot : Fin 32) (input : Fin 4) (s : State) : Out' := s.answer (evFrameRelease slot input s)

def execMemTestComplete (failing : Nat) (s : State) : Out' := s.answer (evMemTestComplete failing s)

def execLinkSignalPresent (link : Fin 32) (s : State) : Out' := s.answer (evLinkSignalPresent link s)

def execCellAlignmentLoss (link : Fin 32) (lane : Nat) (s : State) : Out' := s.answer (evCellAlignmentLoss link lane s)

def execQuadratureError (enc : Fin 8) (s : State) : Out' := s.answer (evQuadratureError enc s)

def execFwCommitComplete (ok : Bool) (s : State) : Out' := s.answer (evFwCommitComplete ok s)

def execFormatComplete (mag : Fin 4) (bad : List Nat) (s : State) : Out' := s.answer (evFormatComplete mag bad s)

def execValtuBoot (s : State) : Out' := s.answer (evValtuBoot s)

end Sys2Proof.Machine
end

