-- ==== Sys2Proof/Machine/Dispatch.lean ====
section
/-!
DEFINITION. The dispatch: one arm per command, each a direct call of that command's meaning.
-/
namespace Sys2Proof.Machine

def exec (i : Instr) (s : State) : Host.Outcome State Fault Refusal :=
  match i with
  | .sysIdentity h => Sys2Proof.Machine.execSysIdentity h s
  | .sysStatus h => Sys2Proof.Machine.execSysStatus h s
  | .regRead h addr count => Sys2Proof.Machine.execRegRead h addr count s
  | .regWrite h addr count words => Sys2Proof.Machine.execRegWrite h addr count words s
  | .regModify h addr mask value => Sys2Proof.Machine.execRegModify h addr mask value s
  | .sysReset h kind => Sys2Proof.Machine.execSysReset h kind s
  | .sysShutdown h => Sys2Proof.Machine.execSysShutdown h s
  | .fwBegin h len => Sys2Proof.Machine.execFwBegin h len s
  | .fwData h off data => Sys2Proof.Machine.execFwData h off data s
  | .fwCommit h => Sys2Proof.Machine.execFwCommit h s
  | .sysSubscribe h mask => Sys2Proof.Machine.execSysSubscribe h mask s
  | .sysBootSet h transport number => Sys2Proof.Machine.execSysBootSet h transport number s
  | .hostAttach h lease name => Sys2Proof.Machine.execHostAttach h lease name s
  | .hostDetach h => Sys2Proof.Machine.execHostDetach h s
  | .hostHeartbeat h => Sys2Proof.Machine.execHostHeartbeat h s
  | .hostList h => Sys2Proof.Machine.execHostList h s
  | .leaseSet h slot lease => Sys2Proof.Machine.execLeaseSet h slot lease s
  | .resAssign h target ids => Sys2Proof.Machine.execResAssign h target ids s
  | .resRelease h ids => Sys2Proof.Machine.execResRelease h ids s
  | .resQuery h ids => Sys2Proof.Machine.execResQuery h ids s
  | .partSet h slot pool clusters => Sys2Proof.Machine.execPartSet h slot pool clusters s
  | .dckInfo h => Sys2Proof.Machine.execDckInfo h s
  | .dckSourceSet h src ref ctrl => Sys2Proof.Machine.execDckSourceSet h src ref ctrl s
  | .dckStep h time => Sys2Proof.Machine.execDckStep h time s
  | .dealQueue h entries => Sys2Proof.Machine.execDealQueue h entries s
  | .dealCancel h port tag => Sys2Proof.Machine.execDealCancel h port tag s
  | .dealPortSet h port ctrl => Sys2Proof.Machine.execDealPortSet h port ctrl s
  | .tcSet h cfg anchor time ub jam => Sys2Proof.Machine.execTcSet h cfg anchor time ub jam s
  | .dealList h port => Sys2Proof.Machine.execDealList h port s
  | .snsInfo h ctx => Sys2Proof.Machine.execSnsInfo h ctx s
  | .snsPortConfig h ctx cfg maps sync => Sys2Proof.Machine.execSnsPortConfig h ctx cfg maps sync s
  | .snsCtxConfig h ctx cfg geom timing trig src => Sys2Proof.Machine.execSnsCtxConfig h ctx cfg geom timing trig src s
  | .snsCtxEnable h ctx => Sys2Proof.Machine.execSnsCtxEnable h ctx s
  | .snsCtxDisable h ctx => Sys2Proof.Machine.execSnsCtxDisable h ctx s
  | .snsScbConfig h bus cfg => Sys2Proof.Machine.execSnsScbConfig h bus cfg s
  | .snsScbListLoad h bus list ops => Sys2Proof.Machine.execSnsScbListLoad h bus list ops s
  | .snsScbXfer h bus op => Sys2Proof.Machine.execSnsScbXfer h bus op s
  | .snsScbResult h bus list => Sys2Proof.Machine.execSnsScbResult h bus list s
  | .pipInfo h ctx => Sys2Proof.Machine.execPipInfo h ctx s
  | .pipCtxConfig h ctx cfg units => Sys2Proof.Machine.execPipCtxConfig h ctx cfg units s
  | .pipParamSet h ctx params => Sys2Proof.Machine.execPipParamSet h ctx params s
  | .pipDefectLoad h ctx bank first count last entries => Sys2Proof.Machine.execPipDefectLoad h ctx bank first count last entries s
  | .pipShadeLoad h ctx bank plane first count gains => Sys2Proof.Machine.execPipShadeLoad h ctx bank plane first count gains s
  | .pipTapConfig h ctx slots => Sys2Proof.Machine.execPipTapConfig h ctx slots s
  | .pipInlineSet h ctx => Sys2Proof.Machine.execPipInlineSet h ctx s
  | .pipBankSwap h ctx bank => Sys2Proof.Machine.execPipBankSwap h ctx bank s
  | .pipDropLog h ctx => Sys2Proof.Machine.execPipDropLog h ctx s
  | .colInfo h isOutput index => Sys2Proof.Machine.execColInfo h isOutput index s
  | .colCtxConfig h ctx calAlloc devSlots => Sys2Proof.Machine.execColCtxConfig h ctx calAlloc devSlots s
  | .colCalLoad h ctx bank region first count data => Sys2Proof.Machine.execColCalLoad h ctx bank region first count data s
  | .colCalSeal h ctx bank crc => Sys2Proof.Machine.execColCalSeal h ctx bank crc s
  | .colCalSwap h ctx bank => Sys2Proof.Machine.execColCalSwap h ctx bank s
  | .colLookConfig h out src banks run => Sys2Proof.Machine.execColLookConfig h out src banks run s
  | .colLookLoad h out bank part first count data => Sys2Proof.Machine.execColLookLoad h out bank part first count data s
  | .colLookSeal h out bank crc => Sys2Proof.Machine.execColLookSeal h out bank crc s
  | .colLookSwap h out bank => Sys2Proof.Machine.execColLookSwap h out bank s
  | .colLookParam h out mode mats lo hi tfs => Sys2Proof.Machine.execColLookParam h out mode mats lo hi tfs s
  | .staInfo h ctx => Sys2Proof.Machine.execStaInfo h ctx s
  | .staCtxConfig h ctx en slots => Sys2Proof.Machine.execStaCtxConfig h ctx en slots s
  | .staCfgSet h ctx bank values => Sys2Proof.Machine.execStaCfgSet h ctx bank values s
  | .staCfgSwap h ctx bank => Sys2Proof.Machine.execStaCfgSwap h ctx bank s
  | .staRead h ctx rd => Sys2Proof.Machine.execStaRead h ctx rd s
  | .staDeliver h ctx addr slots => Sys2Proof.Machine.execStaDeliver h ctx addr slots s
  | .engInfo h isKernel id => Sys2Proof.Machine.execEngInfo h isKernel id s
  | .engKernelCreate h clusters len => Sys2Proof.Machine.execEngKernelCreate h clusters len s
  | .engKernelData h handle off data => Sys2Proof.Machine.execEngKernelData h handle off data s
  | .engKernelSeal h handle => Sys2Proof.Machine.execEngKernelSeal h handle s
  | .engInputAttach h handle input frameKind ctx tap fmt rows granules => Sys2Proof.Machine.execEngInputAttach h handle input frameKind ctx tap fmt rows granules s
  | .engOutputConfig h handle output slots bytes => Sys2Proof.Machine.execEngOutputConfig h handle output slots bytes s
  | .engKernelStart h handle => Sys2Proof.Machine.execEngKernelStart h handle s
  | .engKernelStop h handle => Sys2Proof.Machine.execEngKernelStop h handle s
  | .engKernelFree h handle => Sys2Proof.Machine.execEngKernelFree h handle s
  | .engResultRead h handle output rd => Sys2Proof.Machine.execEngResultRead h handle output rd s
  | .mlsInfo h isStream id => Sys2Proof.Machine.execMlsInfo h isStream id s
  | .mlsCtxCreate h profile src dest index hostMib target ceil rc mp tfp => Sys2Proof.Machine.execMlsCtxCreate h profile src dest index hostMib target ceil rc mp tfp s
  | .mlsCtxSet h handle target ceil rc mp tfp => Sys2Proof.Machine.execMlsCtxSet h handle target ceil rc mp tfp s
  | .mlsCtxDelete h handle => Sys2Proof.Machine.execMlsCtxDelete h handle s
  | .mlsStreamBind h stream handle => Sys2Proof.Machine.execMlsStreamBind h stream handle s
  | .mlsStreamStart h stream => Sys2Proof.Machine.execMlsStreamStart h stream s
  | .mlsStreamStop h stream => Sys2Proof.Machine.execMlsStreamStop h stream s
  | .mlsSwitch h stream handle => Sys2Proof.Machine.execMlsSwitch h stream handle s
  | .mlsPlanSet h handle ceiling quants => Sys2Proof.Machine.execMlsPlanSet h handle ceiling quants s
  | .mlsRecordRead h handle rd => Sys2Proof.Machine.execMlsRecordRead h handle rd s
  | .mlsCtxRun h handle start => Sys2Proof.Machine.execMlsCtxRun h handle start s
  | .mlsDecInfo h handle => Sys2Proof.Machine.execMlsDecInfo h handle s
  | .mlsDecCreate h owner source srcIndex profile cols rows slots ring inMib rate conceal timeout => Sys2Proof.Machine.execMlsDecCreate h owner source srcIndex profile cols rows slots ring inMib rate conceal timeout s
  | .mlsDecStart h handle => Sys2Proof.Machine.execMlsDecStart h handle s
  | .mlsDecStop h handle => Sys2Proof.Machine.execMlsDecStop h handle s
  | .mlsDecDelete h handle => Sys2Proof.Machine.execMlsDecDelete h handle s
  | .mlsDecFeed h handle count tag data => Sys2Proof.Machine.execMlsDecFeed h handle count tag data s
  | .mlsDecRead h handle rd => Sys2Proof.Machine.execMlsDecRead h handle rd s
  | .mlsDecRecordRead h handle rd => Sys2Proof.Machine.execMlsDecRecordRead h handle rd s
  | .mlsDecSet h handle conceal timeout => Sys2Proof.Machine.execMlsDecSet h handle conceal timeout s
  | .medInfo h isStream index => Sys2Proof.Machine.execMedInfo h isStream index s
  | .medMagFormat h mag spare => Sys2Proof.Machine.execMedMagFormat h mag spare s
  | .medMagEject h mag => Sys2Proof.Machine.execMedMagEject h mag s
  | .medTakePrepare h stream primary secondary takeId metadata => Sys2Proof.Machine.execMedTakePrepare h stream primary secondary takeId metadata s
  | .medTakeStart h handle => Sys2Proof.Machine.execMedTakeStart h handle s
  | .medTakeStop h handle => Sys2Proof.Machine.execMedTakeStop h handle s
  | .medTakeMark h handle code => Sys2Proof.Machine.execMedTakeMark h handle code s
  | .medTakeList h mag first count => Sys2Proof.Machine.execMedTakeList h mag first count s
  | .medTakeRead h mag entry seq off len => Sys2Proof.Machine.execMedTakeRead h mag entry seq off len s
  | .medTakeDelete h mag entry => Sys2Proof.Machine.execMedTakeDelete h mag entry s
  | .medCeilSet h mag ceil => Sys2Proof.Machine.execMedCeilSet h mag ceil s
  | .medPlay h session mag entry first => Sys2Proof.Machine.execMedPlay h session mag entry first s
  | .medTask h cmd lba count bufLo bufHi => Sys2Proof.Machine.execMedTask h cmd lba count bufLo bufHi s
  | .medQueueReset h mag all => Sys2Proof.Machine.execMedQueueReset h mag all s
  | .medCqSet h base => Sys2Proof.Machine.execMedCqSet h base s
  | .medMagTarget h mag on => Sys2Proof.Machine.execMedMagTarget h mag on s
  | .medBufAlloc h mib => Sys2Proof.Machine.execMedBufAlloc h mib s
  | .memInfo h => Sys2Proof.Machine.execMemInfo h s
  | .memPortSet h port cfg => Sys2Proof.Machine.execMemPortSet h port cfg s
  | .memMargin h stack => Sys2Proof.Machine.execMemMargin h stack s
  | .memMarginRead h stack => Sys2Proof.Machine.execMemMarginRead h stack s
  | .memTrainRead h stack => Sys2Proof.Machine.execMemTrainRead h stack s
  | .memOrderSet h tx5 => Sys2Proof.Machine.execMemOrderSet h tx5 s
  | .memTest h pattern mask => Sys2Proof.Machine.execMemTest h pattern mask s
  | .memDiagRead h retry addr count pc => Sys2Proof.Machine.execMemDiagRead h retry addr count pc s
  | .lnkInfo h kind index => Sys2Proof.Machine.execLnkInfo h kind index s
  | .lnkQuadConfig h quad cfg persist => Sys2Proof.Machine.execLnkQuadConfig h quad cfg persist s
  | .lnkDrxConfig h link cfg => Sys2Proof.Machine.execLnkDrxConfig h link cfg s
  | .lnkEthConfig h eth cfg => Sys2Proof.Machine.execLnkEthConfig h eth cfg s
  | .lnkMagMap h mag link => Sys2Proof.Machine.execLnkMagMap h mag link s
  | .lnkPartnerRead h link => Sys2Proof.Machine.execLnkPartnerRead h link s
  | .lnkPrbs h quad start pattern => Sys2Proof.Machine.execLnkPrbs h quad start pattern s
  | .lnkFomRead h quad => Sys2Proof.Machine.execLnkFomRead h quad s
  | .lnkLinkReset h link => Sys2Proof.Machine.execLnkLinkReset h link s
  | .outInfo h out => Sys2Proof.Machine.execOutInfo h out s
  | .outConfig h out cfg lat => Sys2Proof.Machine.execOutConfig h out cfg lat s
  | .outStart h out => Sys2Proof.Machine.execOutStart h out s
  | .outStop h out => Sys2Proof.Machine.execOutStop h out s
  | .outSourceSet h out src => Sys2Proof.Machine.execOutSourceSet h out src s
  | .outScaleSet h out crop0 crop1 dest0 dest1 fill => Sys2Proof.Machine.execOutScaleSet h out crop0 crop1 dest0 dest1 fill s
  | .outOverlaySet h out ovl rects thrs => Sys2Proof.Machine.execOutOverlaySet h out ovl rects thrs s
  | .outTextSet h out line text => Sys2Proof.Machine.execOutTextSet h out line text s
  | .outAudioSet h out aud map => Sys2Proof.Machine.execOutAudioSet h out aud map s
  | .outIpSet h out settings => Sys2Proof.Machine.execOutIpSet h out settings s
  | .outSdpRead h out => Sys2Proof.Machine.execOutSdpRead h out s
  | .audInfo h port => Sys2Proof.Machine.execAudInfo h port s
  | .audConfig h port cfg fmt cap play => Sys2Proof.Machine.execAudConfig h port cfg fmt cap play s
  | .audMaskSet h port m0 m1 m2 m3 => Sys2Proof.Machine.execAudMaskSet h port m0 m1 m2 m3 s
  | .audStart h mask time => Sys2Proof.Machine.execAudStart h mask time s
  | .audStop h mask => Sys2Proof.Machine.execAudStop h mask s
  | .audRead h port pos len => Sys2Proof.Machine.execAudRead h port pos len s
  | .audWrite h port count data => Sys2Proof.Machine.execAudWrite h port count data s
  | .evfInfo h kind index => Sys2Proof.Machine.execEvfInfo h kind index s
  | .evfChannelSet h chan consumer spacing ceiling => Sys2Proof.Machine.execEvfChannelSet h chan consumer spacing ceiling s
  | .evfEnableSet h chan enable producers => Sys2Proof.Machine.execEvfEnableSet h chan enable producers s
  | .evfCellSet h cell cfg ins => Sys2Proof.Machine.execEvfCellSet h cell cfg ins s
  | .evfPinSet h pin cfg => Sys2Proof.Machine.execEvfPinSet h pin cfg s
  | .evfSourceSet h source => Sys2Proof.Machine.execEvfSourceSet h source s
  | .evfSourceClear h source => Sys2Proof.Machine.execEvfSourceClear h source s
  | .evfUnquench h chan => Sys2Proof.Machine.execEvfUnquench h chan s
  | .evfStormSet h period => Sys2Proof.Machine.execEvfStormSet h period s
  | .ptuInfo h kind index => Sys2Proof.Machine.execPtuInfo h kind index s
  | .ptuEncConfig h enc cfg => Sys2Proof.Machine.execPtuEncConfig h enc cfg s
  | .ptuEngineConfig h engine cfg manual => Sys2Proof.Machine.execPtuEngineConfig h engine cfg manual s
  | .ptuStrobeConfig h strobe cfg => Sys2Proof.Machine.execPtuStrobeConfig h strobe cfg s
  | .ptuTableCreate h engine cluster entries origin feed passes width minInterval rewind => Sys2Proof.Machine.execPtuTableCreate h engine cluster entries origin feed passes width minInterval rewind s
  | .ptuTableLoad h handle first count entries => Sys2Proof.Machine.execPtuTableLoad h handle first count entries s
  | .ptuTableSeal h handle crc => Sys2Proof.Machine.execPtuTableSeal h handle crc s
  | .ptuTableArm h handle => Sys2Proof.Machine.execPtuTableArm h handle s
  | .ptuTableDisarm h engine => Sys2Proof.Machine.execPtuTableDisarm h engine s
  | .ptuStrobeFire h engine mask => Sys2Proof.Machine.execPtuStrobeFire h engine mask s
  | .ptuStrobeReset h engine mask => Sys2Proof.Machine.execPtuStrobeReset h engine mask s
  | .ptuTableFree h handle => Sys2Proof.Machine.execPtuTableFree h handle s
  | .valInfo h => Sys2Proof.Machine.execValInfo h s
  | .valConfig h cfg => Sys2Proof.Machine.execValConfig h cfg s
  | .valThermalEval h => Sys2Proof.Machine.execValThermalEval h s
  | .valThermalRead h => Sys2Proof.Machine.execValThermalRead h s
  | .valReplan h => Sys2Proof.Machine.execValReplan h s
  | .valRecordRead h rd => Sys2Proof.Machine.execValRecordRead h rd s
  | .valMonConfig h unit tap shift base => Sys2Proof.Machine.execValMonConfig h unit tap shift base s
  | .valMonStart h unit window => Sys2Proof.Machine.execValMonStart h unit window s
  | .valMonRead h unit => Sys2Proof.Machine.execValMonRead h unit s
  | .valSnapshot h => Sys2Proof.Machine.execValSnapshot h s
  | .intInfo h => Sys2Proof.Machine.execIntInfo h s
  | .intFaultRead h rd => Sys2Proof.Machine.execIntFaultRead h rd s
  | .intClear h tallyReset => Sys2Proof.Machine.execIntClear h tallyReset s
  | .intSafeEnter h => Sys2Proof.Machine.execIntSafeEnter h s
  | .intInject h code => Sys2Proof.Machine.execIntInject h code s
  | .intKeyRead h slot certificate rd => Sys2Proof.Machine.execIntKeyRead h slot certificate rd s
  | .intAttest h nonce => Sys2Proof.Machine.execIntAttest h nonce s
  | .leaseExpiry slot => Sys2Proof.Machine.execLeaseExpiry slot s
  | .sqTailDoorbell slot index images => Sys2Proof.Machine.execSqTailDoorbell slot index images s
  | .rqHeadAdvance slot index => Sys2Proof.Machine.execRqHeadAdvance slot index s
  | .heldReplyWrite slot => Sys2Proof.Machine.execHeldReplyWrite slot s
  | .spiStatus port => Sys2Proof.Machine.execSpiStatus port s
  | .bar0Write pf addr bytes value => Sys2Proof.Machine.execBar0Write pf addr bytes value s
  | .dckPush slot value => Sys2Proof.Machine.execDckPush slot value s
  | .lockGained src phase freq => Sys2Proof.Machine.execLockGained src phase freq s
  | .lockLost => Sys2Proof.Machine.execLockLost s
  | .switchDelayExpiry => Sys2Proof.Machine.execSwitchDelayExpiry s
  | .sourceReturn src => Sys2Proof.Machine.execSourceReturn src s
  | .xchkWindow count => Sys2Proof.Machine.execXchkWindow count s
  | .ltcFrameDecoded label ub boundary => Sys2Proof.Machine.execLtcFrameDecoded label ub boundary s
  | .ltcLoss => Sys2Proof.Machine.execLtcLoss s
  | .jamTimeout => Sys2Proof.Machine.execJamTimeout s
  | .tcFrameBoundary => Sys2Proof.Machine.execTcFrameBoundary s
  | .dealMissed port => Sys2Proof.Machine.execDealMissed port s
  | .tcJam => Sys2Proof.Machine.execTcJam s
  | .tcAnchor label => Sys2Proof.Machine.execTcAnchor label s
  | .ppsPulse width => Sys2Proof.Machine.execPpsPulse width s
  | .wclkStart rate => Sys2Proof.Machine.execWclkStart rate s
  | .wclkStop => Sys2Proof.Machine.execWclkStop s
  | .frameStart ctx => Sys2Proof.Machine.execFrameStart ctx s
  | .contextEnable ctx => Sys2Proof.Machine.execContextEnable ctx s
  | .contextDisable ctx => Sys2Proof.Machine.execContextDisable ctx s
  | .exposeStart ctx exposure => Sys2Proof.Machine.execExposeStart ctx exposure s
  | .exposeEnd ctx exposure => Sys2Proof.Machine.execExposeEnd ctx exposure s
  | .scbRun bus list => Sys2Proof.Machine.execScbRun bus list s
  | .inlineSwitch ctx => Sys2Proof.Machine.execInlineSwitch ctx s
  | .pipeTableSwap ctx bank => Sys2Proof.Machine.execPipeTableSwap ctx bank s
  | .lookSwap out bank => Sys2Proof.Machine.execLookSwap out bank s
  | .calSwap ctx bank => Sys2Proof.Machine.execCalSwap ctx bank s
  | .statsConfigSwap ctx bank => Sys2Proof.Machine.execStatsConfigSwap ctx bank s
  | .kernelStart handle => Sys2Proof.Machine.execKernelStart handle s
  | .kernelStop handle => Sys2Proof.Machine.execKernelStop handle s
  | .codecSwitch stream handle => Sys2Proof.Machine.execCodecSwitch stream handle s
  | .streamStart stream => Sys2Proof.Machine.execStreamStart stream s
  | .streamStop stream => Sys2Proof.Machine.execStreamStop stream s
  | .takeStart mag stream handle => Sys2Proof.Machine.execTakeStart mag stream handle s
  | .takeStop mag stream => Sys2Proof.Machine.execTakeStop mag stream s
  | .takeMark mag stream code => Sys2Proof.Machine.execTakeMark mag stream code s
  | .marginMeasure stack => Sys2Proof.Machine.execMarginMeasure stack s
  | .fomSample quad => Sys2Proof.Machine.execFomSample quad s
  | .prbsStart quad pattern => Sys2Proof.Machine.execPrbsStart quad pattern s
  | .prbsStop quad => Sys2Proof.Machine.execPrbsStop quad s
  | .outFrameStart out => Sys2Proof.Machine.execOutFrameStart out s
  | .outSourceSwitch out path => Sys2Proof.Machine.execOutSourceSwitch out path s
  | .audClockStart port => Sys2Proof.Machine.execAudClockStart port s
  | .audDataStart port => Sys2Proof.Machine.execAudDataStart port s
  | .audDataStop port => Sys2Proof.Machine.execAudDataStop port s
  | .audClockStop port => Sys2Proof.Machine.execAudClockStop port s
  | .eventPulse port => Sys2Proof.Machine.execEventPulse port s
  | .cellReset cell => Sys2Proof.Machine.execCellReset cell s
  | .tableArm engine handle => Sys2Proof.Machine.execTableArm engine handle s
  | .tableDisarm engine => Sys2Proof.Machine.execTableDisarm engine s
  | .strobeFire engine mask => Sys2Proof.Machine.execStrobeFire engine mask s
  | .thermalEval => Sys2Proof.Machine.execThermalEval s
  | .telemetrySnapshot => Sys2Proof.Machine.execTelemetrySnapshot s
  | .monitorWindow unit window => Sys2Proof.Machine.execMonitorWindow unit window s
  | .packetExec slot seq => Sys2Proof.Machine.execPacketExec slot seq s
  | .scbListEnd bus nack op data => Sys2Proof.Machine.execScbListEnd bus nack op data s
  | .scbOpTimeout bus op data => Sys2Proof.Machine.execScbOpTimeout bus op data s
  | .portLock port skew lanes => Sys2Proof.Machine.execPortLock port skew lanes s
  | .portLockLost port deskew skew lanes => Sys2Proof.Machine.execPortLockLost port deskew skew lanes s
  | .frameStartMarker ctx => Sys2Proof.Machine.execFrameStartMarker ctx s
  | .lineArrival ctx line => Sys2Proof.Machine.execLineArrival ctx line s
  | .trailer ctx => Sys2Proof.Machine.execTrailer ctx s
  | .trailerWaitExpiry ctx => Sys2Proof.Machine.execTrailerWaitExpiry ctx s
  | .trigWindowExpiry ctx => Sys2Proof.Machine.execTrigWindowExpiry ctx s
  | .pipelineArbitration => Sys2Proof.Machine.execPipelineArbitration s
  | .frameLeavesDemosaic ctx => Sys2Proof.Machine.execFrameLeavesDemosaic ctx s
  | .katPass pipOk colOk => Sys2Proof.Machine.execKatPass pipOk colOk s
  | .frameLeavesColour ctx => Sys2Proof.Machine.execFrameLeavesColour ctx s
  | .statsPublish ctx => Sys2Proof.Machine.execStatsPublish ctx s
  | .resultPublish slot output input frame data => Sys2Proof.Machine.execResultPublish slot output input frame data s
  | .kernelDoneWord slot => Sys2Proof.Machine.execKernelDoneWord slot s
  | .drainExpiry slot => Sys2Proof.Machine.execDrainExpiry slot s
  | .kernelFault slot cause cluster engine pc => Sys2Proof.Machine.execKernelFault slot cause cluster engine pc s
  | .encodeBoundary idx => Sys2Proof.Machine.execEncodeBoundary idx s
  | .contextSpill idx => Sys2Proof.Machine.execContextSpill idx s
  | .sliceEmit idx => Sys2Proof.Machine.execSliceEmit idx s
  | .frameRecordPublish idx => Sys2Proof.Machine.execFrameRecordPublish idx s
  | .planQueue idx => Sys2Proof.Machine.execPlanQueue idx s
  | .roundTripCheck idx ok => Sys2Proof.Machine.execRoundTripCheck idx ok s
  | .knownAnswerSlice core ok => Sys2Proof.Machine.execKnownAnswerSlice core ok s
  | .decFrameHeader session => Sys2Proof.Machine.execDecFrameHeader session s
  | .decSlotFreed session => Sys2Proof.Machine.execDecSlotFreed session s
  | .decSlice session => Sys2Proof.Machine.execDecSlice session s
  | .decFramePublish session => Sys2Proof.Machine.execDecFramePublish session s
  | .decFrameTimeout session => Sys2Proof.Machine.execDecFrameTimeout session s
  | .mount mag found => Sys2Proof.Machine.execMount mag found s
  | .stripeProgrammed mag chan frame => Sys2Proof.Machine.execStripeProgrammed mag chan frame s
  | .journalPageProgrammed mag => Sys2Proof.Machine.execJournalPageProgrammed mag s
  | .programFailure mag superblock erase frame others => Sys2Proof.Machine.execProgramFailure mag superblock erase frame others s
  | .read slot mag tag => Sys2Proof.Machine.execRead slot mag tag s
  | .write slot mag tag data => Sys2Proof.Machine.execWrite slot mag tag data s
  | .flush slot mag tag => Sys2Proof.Machine.execFlush slot mag tag s
  | .trim slot mag tag => Sys2Proof.Machine.execTrim slot mag tag s
  | .identify slot mag tag => Sys2Proof.Machine.execIdentify slot mag tag s
  | .powerState slot mag tag => Sys2Proof.Machine.execPowerState slot mag tag s
  | .taskAccept slot => Sys2Proof.Machine.execTaskAccept slot s
  | .taskComplete slot mag tag => Sys2Proof.Machine.execTaskComplete slot mag tag s
  | .queueReset slot value => Sys2Proof.Machine.execQueueReset slot value s
  | .resetRecord slot => Sys2Proof.Machine.execResetRecord slot s
  | .powerStateReached mag => Sys2Proof.Machine.execPowerStateReached mag s
  | .marginDone stack widths => Sys2Proof.Machine.execMarginDone stack widths s
  | .patrolScrub addr result syndrome => Sys2Proof.Machine.execPatrolScrub addr result syndrome s
  | .hbmFreeze cause port addr syndrome => Sys2Proof.Machine.execHbmFreeze cause port addr syndrome s
  | .parityReplay pc failed => Sys2Proof.Machine.execParityReplay pc failed s
  | .trainingComplete ok sweeps0 sweeps1 again0 again1 => Sys2Proof.Machine.execTrainingComplete ok sweeps0 sweeps1 again0 again1 s
  | .alignFound link lanes skew => Sys2Proof.Machine.execAlignFound link lanes skew s
  | .discoverPage link flags payload crcOk => Sys2Proof.Machine.execDiscoverPage link flags payload crcOk s
  | .enumerationComplete link trips => Sys2Proof.Machine.execEnumerationComplete link trips s
  | .discoverRepeat link => Sys2Proof.Machine.execDiscoverRepeat link s
  | .linkRetry link => Sys2Proof.Machine.execLinkRetry link s
  | .draxaLinkLoss link => Sys2Proof.Machine.execDraxaLinkLoss link s
  | .dataCell link channel flags payload crcOk => Sys2Proof.Machine.execDataCell link channel flags payload crcOk s
  | .flowCell link grants crcOk => Sys2Proof.Machine.execFlowCell link grants crcOk s
  | .echo link reply time turnaround => Sys2Proof.Machine.execEcho link reply time turnaround s
  | .cpiSeg link channel first last index data => Sys2Proof.Machine.execCpiSeg link channel first last index data s
  | .pcieChange up speed width => Sys2Proof.Machine.execPcieChange up speed width s
  | .outputSelfStart out => Sys2Proof.Machine.execOutputSelfStart out s
  | .scalerFrameComplete out => Sys2Proof.Machine.execScalerFrameComplete out s
  | .lateLine out line => Sys2Proof.Machine.execLateLine out line s
  | .audioFrameSync port samples => Sys2Proof.Machine.execAudioFrameSync port samples s
  | .evioInputEdge pin high => Sys2Proof.Machine.execEvioInputEdge pin high s
  | .fabricCycle => Sys2Proof.Machine.execFabricCycle s
  | .frameTriggerTask ctx => Sys2Proof.Machine.execFrameTriggerTask ctx s
  | .takeMarkTask stream => Sys2Proof.Machine.execTakeMarkTask stream s
  | .kernelDoorbell slot => Sys2Proof.Machine.execKernelDoorbell slot s
  | .evioOutputTask pin => Sys2Proof.Machine.execEvioOutputTask pin s
  | .cellClearTask cell => Sys2Proof.Machine.execCellClearTask cell s
  | .encoderCountChange enc up => Sys2Proof.Machine.execEncoderCountChange enc up s
  | .indexEdge enc => Sys2Proof.Machine.execIndexEdge enc s
  | .strobeReadbackMiss strobe => Sys2Proof.Machine.execStrobeReadbackMiss strobe s
  | .telemetrySample sample => Sys2Proof.Machine.execTelemetrySample sample s
  | .vinDrop millivolts => Sys2Proof.Machine.execVinDrop millivolts s
  | .powerFailDeclared => Sys2Proof.Machine.execPowerFailDeclared s
  | .vinDip millivolts => Sys2Proof.Machine.execVinDip millivolts s
  | .holdupWindowEnd => Sys2Proof.Machine.execHoldupWindowEnd s
  | .bankAt40v ticks => Sys2Proof.Machine.execBankAt40v ticks s
  | .holdupReady => Sys2Proof.Machine.execHoldupReady s
  | .chargeTimeout => Sys2Proof.Machine.execChargeTimeout s
  | .thermalStale => Sys2Proof.Machine.execThermalStale s
  | .flushEvaluation => Sys2Proof.Machine.execFlushEvaluation s
  | .shutdownRailsOff => Sys2Proof.Machine.execShutdownRailsOff s
  | .autoRestart => Sys2Proof.Machine.execAutoRestart s
  | .marginReplan slack widths0 widths1 centres failed => Sys2Proof.Machine.execMarginReplan slack widths0 widths1 centres failed s
  | .deferredReplanStart => Sys2Proof.Machine.execDeferredReplanStart s
  | .monitorWindowEnd unit => Sys2Proof.Machine.execMonitorWindowEnd unit s
  | .safeStateEntry => Sys2Proof.Machine.execSafeStateEntry s
  | .faultRecord code detail0 detail1 => Sys2Proof.Machine.execFaultRecord code detail0 detail1 s
  | .safeEntryComplete => Sys2Proof.Machine.execSafeEntryComplete s
  | .lockstepMismatch valtu pair => Sys2Proof.Machine.execLockstepMismatch valtu pair s
  | .watchdogTimeout last => Sys2Proof.Machine.execWatchdogTimeout last s
  | .startUp outcome => Sys2Proof.Machine.execStartUp outcome s
  | .resetNAssert => Sys2Proof.Machine.execResetNAssert s
  | .resetNRelease => Sys2Proof.Machine.execResetNRelease s
  | .resetProper => Sys2Proof.Machine.execResetProper s
  | .bypass => Sys2Proof.Machine.execBypass s
  | .idcode => Sys2Proof.Machine.execIdcode s
  | .samplePreload preload => Sys2Proof.Machine.execSamplePreload preload s
  | .extest => Sys2Proof.Machine.execExtest s
  | .extestPulse => Sys2Proof.Machine.execExtestPulse s
  | .extestTrain => Sys2Proof.Machine.execExtestTrain s
  | .clamp => Sys2Proof.Machine.execClamp s
  | .highz => Sys2Proof.Machine.execHighz s
  | .trstNAssert => Sys2Proof.Machine.execTrstNAssert s
  | .sourcePresent src => Sys2Proof.Machine.execSourcePresent src s
  | .readCountAdvance slot input count => Sys2Proof.Machine.execReadCountAdvance slot input count s
  | .frameAcquire slot input => Sys2Proof.Machine.execFrameAcquire slot input s
  | .frameRelease slot input => Sys2Proof.Machine.execFrameRelease slot input s
  | .memTestComplete failing => Sys2Proof.Machine.execMemTestComplete failing s
  | .linkSignalPresent link => Sys2Proof.Machine.execLinkSignalPresent link s
  | .cellAlignmentLoss link lane => Sys2Proof.Machine.execCellAlignmentLoss link lane s
  | .quadratureError enc => Sys2Proof.Machine.execQuadratureError enc s
  | .fwCommitComplete ok => Sys2Proof.Machine.execFwCommitComplete ok s
  | .formatComplete mag bad => Sys2Proof.Machine.execFormatComplete mag bad s
  | .valtuBoot => Sys2Proof.Machine.execValtuBoot s

end Sys2Proof.Machine
end

