-- ==== Sys2Proof/Machine/Tick.lean ====
section
/-!
DEFINITION. One tick of deal time with no command waiting (DESIGN CHOICE, log 1): deal time advances by one, entries launch, the event
fabric runs its two cycles, what the state says is due on this tick takes place, and packets that may now begin join the queue. What the
spec only bounds in time waits for the command of its own event.
-/
namespace Sys2Proof.Machine

/-- A meaning performed within the tick. -/
def thenDo (f : State → Out') (s : State) : State :=
  match f s with
  | .next t => t
  | .fault _ => s
  | .refused _ => s

def thenIf (c : Bool) (f : State → State) (s : State) : State := if c then f s else s

/-! ### Launches (R48, R50, R52, R54) -/

/-- The action of an entry that launches on port `p`: the units of the signal path. -/
def State.performSignal (s : State) (p : Nat) (e : Entry) : State :=
  let ctx := Fin.ofNat 8 e.target
  match e.action with
  | 0x01 => s.startJam
  | 0x02 => thenDo (evTcAnchor e.w3) s
  | 0x03 => thenDo (evPpsPulse e.w3) s
  | 0x04 => thenDo (evWclkStart e.w3) s
  | 0x05 => thenDo evWclkStop s
  | 0x10 => s.frameStart p
  | 0x11 => thenDo (evContextEnable (Fin.ofNat 8 p)) s
  | 0x12 => s.disableCtx p
  | 0x14 => s.expose (p - 8) e.target true
  | 0x15 => s.expose (p - 8) e.target false
  | 0x18 => thenDo (evScbRun (Fin.ofNat 32 e.target) (Fin.ofNat 16 e.arg)) s
  | 0x20 => thenDo (evInlineSwitch (Fin.ofNat 8 e.arg)) s
  | 0x21 => thenDo (evPipeTableSwap ctx e.w3) s
  | 0x28 => thenDo (evLookSwap ctx e.w3) s
  | 0x29 => thenDo (evCalSwap ctx e.w3) s
  | 0x2C => thenDo (evStatsConfigSwap ctx e.w3) s
  | 0x30 => thenDo (evKernelStart e.w3) s
  | 0x31 => thenDo (evKernelStop e.w3) s
  | 0x38 => thenDo (evCodecSwitch ctx e.w3) s
  | 0x39 => thenDo (evStreamStart ctx) s
  | 0x3A => thenDo (evStreamStop ctx) s
  | _ => s

/-- The action of an entry that launches on port `p`: media, memory, lanes, outputs, audio, events, triggers, Valtu. A scheduled packet
is taken up where packets begin. -/
def State.performUnits (s : State) (p : Nat) (e : Entry) : State :=
  let mag := Fin.ofNat 4 (p - 41)
  let stream := Fin.ofNat 8 e.target
  let quad := Fin.ofNat 24 e.target
  let out := Fin.ofNat 8 (p - 50)
  let aud := Fin.ofNat 16 (p - 58)
  match e.action with
  | 0x40 => thenDo (evTakeStart mag stream e.w3) s
  | 0x41 => thenDo (evTakeStop mag stream) s
  | 0x42 => thenDo (evTakeMark mag stream e.w3) s
  | 0x48 => thenDo (evMarginMeasure (Fin.ofNat 2 e.target)) s
  | 0x50 => thenDo (evFomSample quad) s
  | 0x51 => thenDo (evPrbsStart quad e.w3) s
  | 0x52 => thenDo (evPrbsStop quad) s
  | 0x58 => thenDo (evOutFrameStart out) s
  | 0x59 => thenDo (evOutSourceSwitch out (Fin.ofNat 8 e.arg)) s
  | 0x60 => thenDo (evAudClockStart aud) s
  | 0x61 => thenDo (evAudDataStart aud) s
  | 0x62 => thenDo (evAudDataStop aud) s
  | 0x63 => thenDo (evAudClockStop aud) s
  | 0x68 => s.pulse (256 + p)
  | 0x69 => s.clearCell e.target
  | 0x70 => s.armLaunch (p - 82) e.arg
  | 0x71 => s.disarm (p - 82)
  | 0x72 => s.timedFire (p - 82) e.arg
  | 0x78 => s.evaluate
  | 0x79 => s.latchRails
  | 0x7A => thenDo (evMonitorWindow (Fin.ofNat 64 e.target) e.w3) s
  | _ => s

def State.perform (s : State) (p : Nat) (e : Entry) : State :=
  if e.action < 0x40 then s.performSignal p e else s.performUnits p e

/-- Missed occurrences, then the launch, of one port; nothing launches or is missed after POWER_FAIL (R53). -/
def State.runPort (s : State) (p : Nat) : State :=
  if s.dealsStopped then s else
  let s := s.missed p
  match s.launchPort p with
  | none => s
  | some (e, s) => s.perform p e.entry

def State.runPorts (s : State) : State := (s.dck.queues.map (·.1)).foldl State.runPort s

/-! ### What is due on a tick -/

/-- The genlock signal in this tick: a frame start in it is time-stamped in DCK_GEN_SOF within one tick (R36, R60; log 66). -/
def State.genlockTick (s : State) : State :=
  if !s.dck.present.contains 2 then s else
    let (f, s) := s.draw
    match Config.genStart f with
    | none => s
    | some k => s.wr64 .DCK_GEN_SOF_LO .DCK_GEN_SOF_HI (s.now + k.val - 1)

/-- Clock and timecode (R36, R37, R43, R44, R60). -/
def State.dueClock (s : State) : State :=
  let s := s.genlockTick
  let s := thenIf s.fallbackDue (thenDo evSwitchDelayExpiry) s
  let s := thenIf (s.dck.jam.any fun t => decide (t ≤ s.now)) (thenDo evJamTimeout) s
  let s := thenIf s.ltcLossDue (thenDo evLtcLoss) s
  thenIf (((s.shadows.any fun x => x.owner == .tc) || s.flag .DCK_TC_CFG_LTC_OUT_EN || s.dck.ltcOut.isSome) && s.tcBoundary)
    State.tcCommit s

/-- One sensor context: its trailer wait and its trigger window (R98, R100). -/
def State.dueCtx (s : State) (n : Nat) : State :=
  (thenIf ((s.trailerDue n).any fun t => decide (t ≤ s.now)) (fun s => s.trailer n) s).expireLatch n

/-- Deadlines of the units and what runs on every tick in them: prefilter, kernel drain, link retry, checkers, background relocation, stalled decoder frames, outputs and monitor
units (R192, R250, R279, R335, R339, R345, R356, R432). -/
def State.dueUnits (s : State) : State :=
  let s := (s.ctxs.map (·.1)).foldl State.dueCtx s
  let s := s.eng.kernels.foldl (fun s (k, e) =>
    thenIf (e.deadline.any fun t => decide (t ≤ s.now)) (thenDo (evDrainExpiry (Fin.ofNat 32 k))) s) s
  let s := s.lnk.links.foldl (fun s (k, l) =>
    thenIf (s.linkState k == linkFailed && decide (l.retryAt ≤ s.now)) (thenDo (evLinkRetry (Fin.ofNat 32 k))) s) s
  let s := (List.range 4).foldl State.relocate s.checkLanes
  let s := (s.mls.decs.map (·.1)).foldl (fun s d => thenIf (s.frameLate d) (thenDo (evDecFrameTimeout (Fin.ofNat 8 d))) s) s
  let s := (s.out.outs.map (·.1)).foldl (fun s o =>
    let s := thenIf ((s.selfStartDue o).any fun t => decide (t ≤ s.now)) (thenDo (evOutputSelfStart (Fin.ofNat 8 o))) s
    s.sendUnits o) s
  let s := s.sampleLevels
  s.val.monitors.foldl (fun s (m, k) =>
    thenIf (s.flag .VAL_MON_CFG_RUNNING m && decide (k.ends ≤ s.now)) (thenDo (evMonitorWindowEnd (Fin.ofNat 64 m))) s) s

/-- Ten milliseconds without a known-answer pass while a context is enabled (R141). -/
def State.katOver (s : State) : Bool :=
  s.pip.katDue.isEmpty && (List.range 8).any s.enabled && decide (s.pip.lastKat + 3000000 ≤ s.now)

/-- The pipeline: a pass that is due by time; PIP_LOAD.BUSY for the second that ends, 1.2 × 10⁹ pipeline clocks (R141, R144; log 112). -/
def State.duePipeline (s : State) : State :=
  let s := if s.katOver then { s with pip := { s.pip with katDue := [(s.pip.katCtx, s.pip.katFrame)] } } else s
  if s.now % 300000000 ≠ 0 then s else
  { s.set .PIP_LOAD_BUSY (min 1000 (s.pip.busy / 1200000)) with pip := { s.pip with busy := 0 } }

/-- The integrity manager (R438, R442). -/
def State.dueInteg (s : State) : State :=
  let s := thenIf s.integ.due State.enterSafe s
  let s := thenIf s.entryDue State.entryComplete s
  thenIf (!s.integ.inbox.isEmpty) State.takeDetections s

/-- Power fail is due: VIN has stood below VIN_FAIL for 6,000 ticks (R418). -/
def State.vinDue (s : State) : Bool := s.val.vinLow.any fun t => decide (t + 6000 ≤ s.now)

/-- Valtu (R418, R419, R425, R426, R428, R429). -/
def State.dueValtu (s : State) : State :=
  let s := thenIf s.vinDue (fun s => s.declarePowerFail.modVal fun v => { v with vinLow := none }) s
  let s := thenIf (s.boot.phase == .ready && s.staleDue) State.goStale s
  let s := thenIf (s.val.declared && s.val.lastEval.all fun t => decide (t + 3000000 ≤ s.now)) State.evaluate s
  let s := thenIf (s.val.declared && s.val.powerFail.any fun t => decide (t + s.get .VAL_HOLDUP_W * ticksPerMs ≤ s.now)) State.windowOver s
  let s := thenIf (s.val.shutdownAt.any fun t => (s.safe && !s.takesOpen) || decide (t ≤ s.now)) (thenDo evShutdownRailsOff) s
  thenIf (s.flag .VAL_STATUS_REPLAN_DEFERRED && !s.recording) (thenDo evDeferredReplanStart) s

/-! ### Packets that begin (R56, R70 … R72) -/

/-- A packet's command joins the queue, marked as one that has had its ACCEPTED reply. -/
def State.resume (s : State) (d : Taken) : State :=
  { s with
    cpi := { s.cpi with resuming := s.cpi.resuming ++ [(d.via, d.seq)] }
    pending := s.pending ++ [d.cmd] }

/-- Scheduled packets whose entries have launched join the packets that wait to begin (R56, R71). -/
def State.beginLaunched (s : State) : State :=
  s.cpi.launched.foldl State.defer { s with cpi := { s.cpi with launched := [] } }

/-- The first packet a host left in its ring is taken once its reply ring has room; images that no command follows go first (R72). -/
def State.takeLeft (s : State) (n : Fin 8) : State :=
  let s := s.drain n
  let h := s.host n.val
  if 64 ≤ h.replies.length ∨ !h.held.isEmpty ∨ s.cpi.taking.any (fun p => sentBy n.val p.1) then s else
  match s.cpi.untaken.find? (·.1 == n.val) with
  | some (k, .inl cmd) =>
    match packetOf cmd with
    | none => s
    | some (h, _) =>
      { s with
        cpi := { s.cpi with untaken := s.cpi.untaken.erase (k, .inl cmd), taking := s.cpi.taking ++ [(h.via, h.seq)] }
        pending := s.pending ++ [cmd] }
  | _ => s

/-- Leases that end, replies that were held or leave on a channel (R68, R72, R82, R83). -/
def State.dueHost (s : State) (n : Nat) : State :=
  ((thenIf (s.leaseOver n) (fun s => s.expire n) s).writeHeld n).sendReply n

def State.duePackets (s : State) : State :=
  let s := ((s.cpi.slots.map (·.1)).foldl State.dueHost s).sendChannels
  let s := s.beginLaunched
  let s := s.unblocked.foldl State.resume s
  (List.finRange 8).foldl State.takeLeft s

/-! ### The tick -/

/-- Whether deal time runs: from READY on, in LIMITED mode of a control complex that runs, and in the commit ahead of a reset. -/
def State.timeRuns (s : State) : Bool :=
  match s.boot.phase with
  | .ready => true
  | .preReset _ => true
  | .limited => s.get .VAL_BOOT_LIMITED_CAUSE != 3
  | _ => false

/-- Deal time and the time the part has been powered advance by one tick; what went out on the last tick is gone, and what was set on
it is no longer new. -/
def State.advance (s : State) : State :=
  { s with
    dealTime := s.dealTime + 1
    store := { s.store with poweredTicks := s.store.poweredTicks + 1 }
    lnk := { s.lnk with tx := [], lanes := s.lnk.lanes.map fun (l, x) => (l, { x with line := [] }) }
    raised := [] }

def State.tick (s : State) : State :=
  if s.timeRuns then
    s.writeRecords.advance.dueFlush.runPorts.fabricTick.dueClock.duePipeline.dueUnits.dueInteg.dueValtu.advanceReset.advanceShutdown.duePackets.showPins.settle
  else s

end Sys2Proof.Machine
end

