-- ==== Sys2Proof/Safety.lean ====
section
/-!
DEFINITION. The terms statements use: pins that show the state, the form of the register file, when a packet reaches its checks and when it
begins, and what it leaves.
-/
namespace Sys2Proof.Machine

/-- READY and SPIn_IRQ_N show what the state has come to (R68, R457). -/
abbrev PinsShow (s : State) : Prop :=
  s.pins.ready = s.readyHigh ∧ s.pins.spi0IrqN = !s.spiIrq 0 ∧ s.pins.spi1IrqN = !s.spiIrq 1

/-- Entries are listed at rising keys. -/
abbrev Rising {α : Type} (l : Tab α) : Prop := l.Pairwise fun a b => a.1 < b.1

/-- Every unit but the control processor interface stands as it stood, and no shadow copy has changed. -/
abbrev SameUnits (s t : State) : Prop :=
  (t.dealTime = s.dealTime ∧ t.shadows = s.shadows ∧ t.dck = s.dck ∧ t.ctxs = s.ctxs ∧ t.buses = s.buses ∧ t.pip = s.pip ∧
    t.col = s.col ∧ t.sta = s.sta) ∧
  (t.eng = s.eng ∧ t.mls = s.mls ∧ t.med = s.med ∧ t.mem = s.mem ∧ t.lnk = s.lnk ∧ t.out = s.out ∧ t.aud = s.aud ∧ t.evf = s.evf) ∧
  t.ptu = s.ptu ∧ t.val = s.val ∧ t.integ = s.integ ∧ t.store = s.store ∧ t.boot = s.boot ∧ t.tap = s.tap

/-- Every register reads as before but those at the addresses `but`. -/
abbrev SameRegs (s t : State) (but : List Nat) : Prop := ∀ (r : Reg) (i j : Nat), r.addr i j ∉ but → t.rd r i j = s.rd r i j

/-- The registers of slot `n` that taking a packet and replying to it move (R67, R89). -/
def ringRegs (n : Nat) : List Nat :=
  [Reg.addr .CPI_SLOT_SQ_TAIL n 0, Reg.addr .CPI_SLOT_SQ_HEAD n 0, Reg.addr .CPI_SLOT_RQ_TAIL n 0, Reg.addr .CPI_SLOT_STAT n 0]

/-- A command has the effect `e`: it answers a next state, which is `e` but for the queue of commands, the pins that show the state, and
the record of what the current tick has set. -/
abbrev Leaves (c : Instr) (s e : State) : Prop := exec c s = .next (s.shown e)

/-! ### Packets -/

/-- A packet has left slot `n`'s ring: the doorbell has been rung, SQ_HEAD has advanced (R67). -/
def State.pulled (s : State) (n : Fin 8) : State := ((s.implyDoorbell n.val).getD s).takeFromRing (.ring n)

/-- A packet with a sound header has left the ring: the lease is renewed too (R82). -/
def State.taken (s : State) (n : Fin 8) : State := (s.pulled n).renew (.ring n)

/-- A packet from slot `n`'s ring is taken: the part is in service, the host is attached, none of its packets is left in the ring before
this one, its reply ring has room, and the packet was not taken before (R67, R72, R457). -/
abbrev Arrives (s : State) (n : Fin 8) (h : Hdr) : Prop :=
  h.via = .ring n ∧ s.boot.phase = .ready ∧ s.attached n.val = true ∧ s.untakenOf n.val = 0 ∧ (s.host n.val).replies.length < 64 ∧
  (h.via, h.seq) ∉ s.cpi.resuming ∧ (h.via, h.seq) ∉ s.cpi.taking

/-- It passes checks 1 … 8 of R65; its length is right for the opcode (R84). -/
abbrev Passes (s : State) (n : Fin 8) (h : Hdr) (m : Packet) : Prop :=
  Arrives s n h ∧ headerStatus h m.immediate = .DONE ∧ m.fits h = true ∧ m.params (s.taken n) = .DONE ∧ (s.taken n).pendingOf n.val < 64

/-- It is not scheduled, and neither an earlier packet of its host nor one on its resources holds it up (R56, R70, R71). -/
abbrev Unheld (s : State) (n : Fin 8) (h : Hdr) (m : Packet) : Prop :=
  h.launch = 0 ∧ (s.taken n).mayBeginNow (.ring n) (fenceOf h) (m.acts n.val (s.taken n)) = true

/-- No orderly shutdown stands against a packet that begins (R464). -/
abbrev Served (s : State) (m : Packet) : Prop := s.cpi.shuttingDown = none ∨ m.cls = .observe

/-- It begins with checks 10 and 11 passed: its sender holds the rights it needs, and the state is one it can run in (R65). -/
abbrev Begins (s : State) (n : Fin 8) (h : Hdr) (m : Packet) : Prop :=
  Passes s n h m ∧ Unheld s n h m ∧ (s.taken n).judgeAll n.val (m.rights n.val (s.taken n)) = .DONE ∧ Served s m ∧
  m.checks n.val (s.taken n) = .DONE

/-- What a packet that ends leaves: its effect `e`, its final reply with status `t` and body `b`, the pins. -/
def State.replied (s : State) (h : Hdr) (opcode : Nat) (t : Status) (b : Body) (e : State) : State :=
  s.shown (e.finalReply h.via h.seq opcode (quietOf h) t b)

/-- What a packet that waits leaves: its effect so far, its ACCEPTED reply, and the record of what it waits for; it acts on resources `rs`,
and `order` is its place among the packets taken. -/
def State.waits (s : State) (h : Hdr) (opcode : Nat) (rs : List Nat) (order : Nat) (k : WaitKind) (e : State) : State :=
  let t := e.reply h.via h.seq opcode .ACCEPTED .empty
  s.shown { t with cpi := { t.cpi with waiting := t.cpi.waiting ++ [⟨h.via, h.seq, opcode, quietOf h, rs, order, false, k⟩] } }

/-- The command ends with DONE, result `b` and effect `e`. -/
abbrev Ends (s : State) (h : Hdr) (c : Instr) (opcode : Nat) (b : Body) (e : State) : Prop :=
  exec c s = .next (s.replied h opcode .DONE b e)

/-- The command replies ACCEPTED and ends with DONE on the same tick, with result `b` and effect `e`. -/
abbrev EndsAtOnce (s : State) (h : Hdr) (c : Instr) (opcode : Nat) (b : Body) (e : State) : Prop :=
  exec c s = .next (s.replied h opcode .DONE b (e.reply h.via h.seq opcode .ACCEPTED .empty))

/-- The command ends with the status `t` and the result `b` that comes with it, and leaves `e`. -/
abbrev EndsWith (s : State) (h : Hdr) (c : Instr) (opcode : Nat) (t : Status) (b : Body) (e : State) : Prop :=
  exec c s = .next (s.replied h opcode t b e)

/-- The command is refused with status `t`, and leaves `e`. -/
abbrev Refuses (s : State) (h : Hdr) (c : Instr) (opcode : Nat) (t : Status) (e : State) : Prop :=
  exec c s = .next (s.replied h opcode t .empty e)

/-- The command replies ACCEPTED and waits for `k`; its effect so far is `e`. -/
abbrev Waits (s : State) (n : Fin 8) (h : Hdr) (c : Instr) (m : Packet) (k : WaitKind) (e : State) : Prop :=
  exec c s = .next (s.waits h m.opcode (m.acts n.val (s.taken n)) (s.taken n).cpi.order k e)

end Sys2Proof.Machine
end

