-- ==== Sys2Proof/Certificates/Slice0/Obligations.lean ====
section
/-!
DEFINITION. The statements about the model: what each command answers and leaves, what stays as it was, what every step keeps, and that
what is coded is read back. `Begins`, `Ends`, `Refuses`, `Waits`, `Leaves` and the frame's `SameUnits`, `SameRegs` are in Sys2Proof/Safety.lean.
-/
section
open Sys2Proof Sys2Proof.Machine

/-- A step runs the command at the front of the queue with the queue's rest; with no command waiting the block idles for one tick, and
where deal time does not run it changes nothing (the model's choice of what a step is: log 1). -/
def Obligations.StepRunsFrontCommand : Prop :=
  (∀ (c : Instr) (rest : List Instr) (s : State), step { s with pending := c :: rest } = exec c { s with pending := rest }) ∧
  (∀ s : State, s.pending = [] → step s = .next s.tick) ∧
  (∀ s : State, s.pending = [] → s.timeRuns = false → step s = .next s)

/-- Every command but PACKET_EXEC of a packet that was never launched answers a next state, in every state and with every operand. -/
def Obligations.EveryCommandAnswers : Prop :=
  (∀ (c : Instr) (s : State), (∀ slot seq, c ≠ .packetExec slot seq) → ∃ t, exec c s = .next t) ∧
  (∀ (slot : Fin 8) (seq : BitVec 32) (s : State), (∃ t, exec (.packetExec slot seq) s = .next t) ∨
    exec (.packetExec slot seq) s = .fault .noLaunchedPacket)

/-- No command touches the queue of waiting commands. -/
def Obligations.CommandsKeepTheQueue : Prop :=
  ∀ (c : Instr) (s t : State), exec c s = .next t → t.pending = s.pending

/-- READY is high and an SPI port's interrupt low exactly when the state says so (R68, R457), in every state a step leaves. -/
def Obligations.StepsShowThePins : Prop :=
  ∀ s t : State, PinsShow s → step s = .next t → PinsShow t

/-- Reset: deal time 0, every register at its reset value, no host attached and all resources H0's, nothing queued, READY low, the pins
showing the state, and no command waiting. -/
def Obligations.ResetState : Prop :=
  State.reset.dealTime = 0 ∧ PinsShow State.reset ∧ State.reset.pins.ready = false ∧ State.reset.pending = [] ∧
  Rising State.reset.regs ∧
  (∀ (r : Reg) (i j : Nat), State.reset.rd r i j = r.resetVal i j % 2 ^ 32) ∧
  (∀ n < 8, State.reset.attached n = false) ∧ (∀ id, State.reset.owner id = 0) ∧ (∀ p, State.reset.queue p = []) ∧
  State.reset.frozen = false ∧ State.reset.recording = false

/-- What a packet that arrives is refused for, in the order of R65: its header, its length and parameters, the pending limit, and when it
begins its sender's rights, an orderly shutdown (R464), the state. -/
def Obligations.PacketsAreRefusedInOrder : Prop :=
  ∀ (s : State) (n : Fin 8) (h : Hdr) (m : Packet) (c : Instr), packetOf c = some (h, m) → Arrives s n h →
  let got := s.taken n
  (h.magic ≠ 0x5458 → Refuses s h c m.opcode .CPI_BAD_MAGIC (s.pulled n)) ∧
  (h.magic = 0x5458 →
    (h.version ≠ 1 → Refuses s h c m.opcode .CPI_BAD_VERSION (s.pulled n)) ∧
    (h.version = 1 →
      (h.slotByte.toNat ≠ n.val → Refuses s h c m.opcode .CPI_BAD_SLOT (s.pulled n)) ∧
      (h.slotByte.toNat = n.val →
        (4096 < h.paramLen ∨ h.paramLen % 4 ≠ 0 → Refuses s h c m.opcode .BAD_LENGTH (s.pulled n)) ∧
        (h.paramLen ≤ 4096 → h.paramLen % 4 = 0 →
          (h.crcOk = false → Refuses s h c m.opcode .BAD_CRC (s.pulled n)) ∧
          (h.crcOk = true → h.flags.toNat / 4 ≠ 0 ∨ h.reserved ≠ 0 ∨ (m.immediate = true ∧ h.launch ≠ 0) →
            Refuses s h c m.opcode .CPI_BAD_FLAGS (s.pulled n)))))) ∧
  (headerStatus h m.immediate = .DONE →
    (m.fits h = false → Refuses s h c m.opcode .BAD_LENGTH got) ∧
    (m.fits h = true → m.params got ≠ .DONE → Refuses s h c m.opcode (m.params got) got) ∧
    (m.fits h = true → m.params got = .DONE →
      (64 ≤ got.pendingOf n.val → Refuses s h c m.opcode .CPI_PENDING_FULL got))) ∧
  (Passes s n h m → Unheld s n h m →
    (got.judgeAll n.val (m.rights n.val got) ≠ .DONE → Refuses s h c m.opcode (got.judgeAll n.val (m.rights n.val got)) got) ∧
    (got.judgeAll n.val (m.rights n.val got) = .DONE →
      (s.cpi.shuttingDown ≠ none → m.cls ≠ .observe → Refuses s h c m.opcode .WRONG_STATE got) ∧
      (Served s m → m.checks n.val got ≠ .DONE → Refuses s h c m.opcode (m.checks n.val got) got)))

/-- A packet that passes its checks and is scheduled takes a place on its sender's CPI port, with ACCEPTED and the tick (R56); one that
an earlier packet holds up waits to begin, with ACCEPTED (R70, R71; the ACCEPTED at acceptance and its place among those that wait: log 95);
one for a port that holds 64 entries is refused (R51, R84); a packet stays in its ring while
its reply ring is full (R72). -/
def Obligations.PacketsWaitTheirTurn : Prop :=
  (∀ (s : State) (n : Fin 8) (h : Hdr) (m : Packet) (c : Instr), packetOf c = some (h, m) → Passes s n h m →
    let got := s.taken n
    (h.launch ≠ 0 → (got.queue (87 + n.val)).length < 64 →
      exec c s = .next (s.shown ((got.enqueue (87 + n.val)
        (newEntry (packetEntry h) n.val got.now (some (takenOf h m c got)))).reply h.via h.seq m.opcode .ACCEPTED (.values [got.now])))) ∧
    (h.launch = 0 → got.mayBeginNow (.ring n) (fenceOf h) (m.acts n.val got) = false →
      exec c s = .next (s.shown ((got.defer (takenOf h m c got)).reply h.via h.seq m.opcode .ACCEPTED .empty)))) ∧
  (∀ (s : State) (n : Fin 8) (h : Hdr) (m : Packet) (c : Instr), packetOf c = some (h, m) → h.via = .ring n → s.boot.phase = .ready →
    s.attached n.val = true → s.untakenOf n.val = 0 → (h.via, h.seq) ∉ s.cpi.resuming → (h.via, h.seq) ∉ s.cpi.taking →
    64 ≤ (s.host n.val).replies.length →
    let rung := (s.implyDoorbell n.val).getD s
    exec c s = .next (s.shown { rung with cpi := { rung.cpi with untaken := rung.cpi.untaken ++ [(n.val, .inl c)] } }))

/-- HOST_ATTACH from an endpoint's mailbox, with a sound header and nothing in its way, takes the lowest free slot, H0 on the boot endpoint;
an endpoint that holds a slot and one that finds none are refused (R73 … R75). On a ring it is refused: its endpoint holds a slot. -/
def Obligations.HostAttachTakesASlot : Prop :=
  (∀ (s : State) (e : Endpoint) (h : Hdr) (lease : Nat) (name : List Byte), h.via = .mailbox e → s.boot.phase = .ready →
    headerStatus h true = .DONE → (h.via, h.seq) ∉ s.cpi.resuming → s.cpi.shuttingDown = none →
    s.mayBeginNow h.via (fenceOf h) [] = true →
    let c := Instr.hostAttach h lease name
    (name.length ≠ 16 → Refuses s h c 0x0201 .BAD_LENGTH s) ∧
    (name.length = 16 → (lease < 100 ∨ 60000 < lease) → Refuses s h c 0x0201 .CPI_BAD_LEASE s) ∧
    (name.length = 16 → 100 ≤ lease → lease ≤ 60000 →
      (s.slotAt e ≠ none → Refuses s h c 0x0201 .CPI_ALREADY_ATTACHED s) ∧
      (s.slotAt e = none →
        let rings := fun (n : Nat) => if e.transport = .pcie then [] else [ringBase 0 n, ringBase 1 n]
        (e = s.boot.endpoint → Ends s h c 0x0201 (.values ([0, lease] ++ rings 0)) (s.beginSession 0 e lease name)) ∧
        (e ≠ s.boot.endpoint → ∀ n < 8, n ≠ 0 → s.slotFree n = true → (∀ k < n, k ≠ 0 → s.slotFree k = false) →
          Ends s h c 0x0201 (.values ([n, lease] ++ rings n)) (s.beginSession n e lease name)) ∧
        (e ≠ s.boot.endpoint → (∀ n < 8, n ≠ 0 → s.slotFree n = false) →
          Refuses s h c 0x0201 .HOST_TABLE_FULL (s.raise .CPI_EVT_ATTACH_REFUSED))))) ∧
  (∀ (s : State) (n : Fin 8) (h : Hdr) (lease : Nat) (name : List Byte), Begins s n h (pktHostAttach lease name) →
    Refuses s h (.hostAttach h lease name) 0x0201 .CPI_ALREADY_ATTACHED (s.taken n))

/-- A register reads as it was last written and a field as it was last set; a write leaves every register at another address, and keeps
the entries of the register file at rising addresses. -/
def Obligations.RegistersReadBack : Prop :=
  (∀ (s : State) (r : Reg) (v i j : Nat), (s.wr r v i j).rd r i j = v % 2 ^ 32) ∧
  (∀ (s : State) (r q : Reg) (v i j k l : Nat), q.addr k l ≠ r.addr i j → (s.wr r v i j).rd q k l = s.rd q k l) ∧
  (∀ (s : State) (f : Fld) (v i j : Nat), f.lo ≤ f.hi → f.hi < 32 → (s.set f v i j).get f i j = v % 2 ^ (f.hi + 1 - f.lo)) ∧
  (∀ (s : State) (f g : Fld) (v i j : Nat), g.reg = f.reg → f.lo ≤ f.hi → g.lo ≤ g.hi → f.hi < 32 → g.hi < 32 → (g.hi < f.lo ∨ f.hi < g.lo) →
    (s.set f v i j).get g i j = s.get g i j) ∧
  (∀ (s : State) (r : Reg) (v i j : Nat), Rising s.regs → Rising (s.wr r v i j).regs)

/-- R26: a register packet at 0x1000_0000 or above is refused as one at an address that is not a multiple of 4 is. -/
def Obligations.HighAddressesAreRefused : Prop :=
  ∀ (s : State) (n : Fin 8) (h : Hdr) (addr count : Nat) (words : List (BitVec 32)),
    Arrives s n h → headerStatus h false = .DONE → (0x10000000 ≤ addr ∨ addr % 4 ≠ 0) →
    Refuses s h (.regRead h addr count) 0x0103 .CPI_BAD_ADDRESS (s.taken n) ∧
    Refuses s h (.regWrite h addr count words) 0x0104 .CPI_BAD_ADDRESS (s.taken n)

/-- R10: a reserved bit reads as 0; an unimplemented address reads as 0, and a write to it has no effect. -/
def Obligations.ReservedBitsReadZero : Prop :=
  (∀ (s : State) (n a : Nat), regAt a = none → s.readReg n a = (0, s)) ∧
  (∀ (s : State) (n a v : Nat), regAt a = none → s.writeReg n a v = s) ∧
  (∀ (s : State) (n a : Nat) (r : Reg) (i j b : Nat), regAt a = some (r, i, j) → (∀ f ∈ r.fields, b < f.lo ∨ f.hi < b) →
    (s.readReg n a).1 / 2 ^ b % 2 = 0) ∧
  (∀ (was s : State) (sender : Fin 8) (h : Hdr) (a : Nat), s = was.taken sender → Begins was sender h (pktRegRead a 1) →
    regAt a = none → Ends was h (.regRead h a 1) 0x0103 (.words [0]) s) ∧
  (∀ (was s : State) (sender : Fin 8) (h : Hdr) (a : Nat) (w : BitVec 32), s = was.taken sender →
    Begins was sender h (pktRegWrite a 1 [w]) → regAt a = none → Ends was h (.regWrite h a 1 [w]) 0x0104 .empty s)

/-- R51: DEAL_QUEUE carries 1 … 64 entries; one that would take any port past 64 is refused with DCK_QUEUE_FULL and inserts nothing, any
other inserts all of its entries; no entry is evicted. -/
def Obligations.DealQueueInsertsAllOrNone : Prop :=
  ∀ (was s : State) (sender : Fin 8) (h : Hdr) (es : List (Nat × Entry)), s = was.taken sender →
  let c := Instr.dealQueue h es
  let count := fun (p : Nat) => (es.filter fun x => x.1 == p).length
  (Arrives was sender h → headerStatus h false = .DONE → (es.length = 0 ∨ 64 < es.length) → Refuses was h c 0x0304 .BAD_LENGTH s) ∧
  (Passes was sender h (pktDealQueue es) → Unheld was sender h (pktDealQueue es) → Served was (pktDealQueue es) →
    s.judgeAll sender.val (es.flatMap fun (p, e) => s.entryRights p e) = .DONE →
    ((∃ p, 0 < count p ∧ 64 < (s.queue p).length + count p) → Refuses was h c 0x0304 .DCK_QUEUE_FULL s) ∧
    ((∀ p, 0 < count p → (s.queue p).length + count p ≤ 64) →
      1 ≤ es.length ∧ es.length ≤ 64 ∧
      ∃ t, Ends was h c 0x0304 (.values [s.now]) t ∧
        (∀ p, (t.queue p).length = (s.queue p).length + count p) ∧
        (∀ p, ∀ e ∈ s.queue p, e ∈ t.queue p) ∧
        (∀ p e, (p, e) ∈ es → newEntry e sender.val s.now none ∈ t.queue p)))

/-- A port's queue in order of due time stays so when an entry joins it and when one launches; an entry joins behind all due no later than
itself and ahead of all due later; the first entry launches once its time is reached, and no other (R48). -/
def Obligations.DealEntriesStayInOrder : Prop :=
  let ordered := fun (q : List QEntry) => q.Pairwise fun a b => a.key ≤ b.key
  (∀ (e : QEntry) (q : List QEntry), ordered q → ordered (insertEntry e q) ∧
    insertEntry e q = (q.filter fun x => x.key ≤ e.key) ++ [e] ++ (q.filter fun x => e.key < x.key)) ∧
  (∀ (now : Nat) (e : QEntry) (q : List QEntry), now < e.key → launchFrom now (e :: q) = none) ∧
  (∀ (now : Nat) (e : QEntry) (q : List QEntry), e.key ≤ now → ordered (e :: q) →
    ∃ rest, launchFrom now (e :: q) = some (e, rest) ∧ ordered rest ∧ ∀ x ∈ q, x ∈ rest)

/-- RES_ASSIGN and RES_RELEASE move exactly the listed resources, on the tick they execute, and leave every unit and every packet begun
or waiting as it was (R80). -/
def Obligations.OwnersChangeAtOneCut : Prop :=
  ∀ (was : State) (sender : Fin 8) (h : Hdr) (ids : List Nat),
  let moved := fun (n : Nat) (c : Instr) => ∃ t, exec c was = .next t ∧
    (∀ id, t.owner id = if id ∈ ids then n else was.owner id) ∧ SameUnits was t ∧
    t.cpi.waiting = was.cpi.waiting ∧ t.cpi.deferred = was.cpi.deferred ∧ t.cpi.launched = was.cpi.launched
  (∀ n, Begins was sender h (pktResAssign n ids) → moved n (.resAssign h n ids)) ∧
  (Begins was sender h (pktResRelease ids) → moved 0 (.resRelease h ids))

/-- While safe state stands, MED_TAKE_PREPARE, MED_TAKE_START and MED_MAG_FORMAT are refused with SAFE_STATE, and a TAKE_START launch
has no effect but MED_EVT.NOT_READY (R444). -/
def Obligations.SafeStateRefusesTakes : Prop :=
  ∀ (was s : State) (sender : Fin 8) (h : Hdr), s = was.taken sender → s.safe = true →
  (∀ (m : Packet), Passes was sender h m → Unheld was sender h m → Served was m → s.judgeAll sender.val (m.rights sender.val s) = .DONE →
    (∀ stream primary secondary id text, m = pktMedTakePrepare stream primary secondary id text →
      Refuses was h (.medTakePrepare h stream primary secondary id text) 0x0A04 .SAFE_STATE s) ∧
    (∀ handle, m = pktMedTakeStart handle → Refuses was h (.medTakeStart h handle) 0x0A05 .SAFE_STATE s) ∧
    (∀ mag spare, m = pktMedMagFormat mag spare → Refuses was h (.medMagFormat h mag spare) 0x0A02 .SAFE_STATE s)) ∧
  (∀ mag stream handle, Leaves (.takeStart mag stream handle) s (s.raise .MED_EVT_NOT_READY))

/-- R212: header fields follow one another, most significant bit first; each group of 7 bits stands in bits [6:0] of a byte whose bit 7 is
1; no header byte is 0x00, so an escape changes nothing; the fields are read back. The headers of R213 and R214 are whole groups of 7. -/
def Obligations.HeaderFieldsArePacked : Prop :=
  (∀ (w v : Nat) (rest : List (Nat × Nat)), packFields ((w, v) :: rest) = bitsBE w v ++ packFields rest) ∧
  (∀ (w v k : Nat), k < w → (bitsBE w v)[k]? = some (v.testBit (w - 1 - k))) ∧
  (∀ fields : List (Nat × Nat), (packFields fields).length % 7 = 0 →
    let bits := packFields fields
    let bytes := headerBytes bits
    bytes.length * 7 = bits.length ∧
    (∀ i < bytes.length, (bytes.getD i 0).toNat = 128 + ofBits ((bits.drop (7 * i)).take 7)) ∧
    (∀ i < bytes.length, ofBits ((bits.drop (7 * i)).take 7) < 128) ∧
    (∀ b ∈ bytes, b ≠ 0) ∧ escape bytes = bytes ∧ headerBits bytes = some bits ∧
    unpackFields (fields.map (·.1)) bits = fields.map fun f => f.2 % 2 ^ f.1)

/-- A frame header and a slice header read back every field at every value its width admits (R213, R214). -/
def Obligations.HeadersReadBack : Prop :=
  (∀ h : FrameHeader, (∀ f ∈ frameHeaderWidths.zip h.values, f.2 < 2 ^ f.1) →
    h.bytes.length = 24 ∧ h.bytes.take 4 = marker 0xF0 ∧ (headerBits (slice h.bytes 4 20)).map FrameHeader.ofBits = some h) ∧
  (∀ (index q rows frame : Nat) (floor : Bool) (payload : List Byte), index < 128 → q < 128 → 1 ≤ rows → rows ≤ 256 →
    payload.length < 2 ^ 24 →
    let b := sliceBytes index floor q rows frame payload
    b.take 4 = marker 0xF1 ∧ b.drop 16 = payload ∧
    (headerBits (slice b 4 12)).map (unpackFields [7, 1, 7, 8, 24, 16, 16, 5]) =
      some [index, if floor then 1 else 0, q, rows - 1, payload.length, frame % 65536, crc16 payload, 0])

/-- R207: the 16-bit code of an FP16 pattern; the decoder inverts it with the magnitude clamped, so that it decodes no infinity and no
NaN; the code rises with the value. A pattern's value goes with its magnitude bits, negative from 0x8000 on. -/
def Obligations.OrderedCodesInvert : Prop :=
  let value := fun (h : Nat) => if h < 0x8000 then (h : Int) else -((h : Int) - 0x8000)
  (∀ h < 65536, orderedCode h = if h < 0x8000 then 0x8000 + min h 0x7BFF else 0x7FFF - min (h - 0x8000) 0x7BFF) ∧
  (∀ h < 65536, orderedFp16 (orderedCode h) = h / 0x8000 * 0x8000 + min (h % 0x8000) 0x7BFF) ∧
  (∀ c < 65536, orderedFp16 c < 65536 ∧ orderedFp16 c / 1024 % 32 ≠ 31) ∧
  (∀ g < 65536, ∀ h < 65536, value g < value h → orderedCode g ≤ orderedCode h)

/-- Removing escapes undoes inserting them; after two zero bytes an escaped payload never holds a byte below 3, so no marker appears in
it; a payload with nothing to escape stands as it is (R211). -/
def Obligations.EscapesHideMarkers : Prop :=
  ∀ l : List Byte, unescape (escape l) = l ∧
    (∀ pre post b, escape l = pre ++ [0, 0, b] ++ post → 3 ≤ b.toNat) ∧
    (∀ pre post b, escape l ≠ pre ++ marker b ++ post) ∧
    ((∀ pre post b, l = pre ++ [0, 0, b] ++ post → 3 < b.toNat) → escape l = l)

/-- What the encoder writes the decoder reads: a Rice code at every parameter, a block's levels with the parameters and predictor after
it, the end padding of a payload (R216). -/
def Obligations.CodedBlocksReadBack : Prop :=
  let small := fun (v : Int) => -(2 ^ 30) < v ∧ v < 2 ^ 30
  (∀ (k : Nat) (v : Int) (rest : List Bool), -(2 ^ 31) ≤ v → v < 2 ^ 31 → readRice k (riceBits k v ++ rest) = some (v, rest)) ∧
  (∀ (st : BlockState) (plane : Nat) (lv : List Int) (rest : List Bool), lv ≠ [] → lv.length ≤ 64 → (∀ v ∈ lv, small v) →
    small (st.preds.getD plane 0) →
    readBlock st true plane ((intraBits st plane lv).1 ++ rest) = some (lv, (intraBits st plane lv).2, rest)) ∧
  (∀ (st : BlockState) (plane : Nat) (rest : List Bool),
    readBlock st true plane ((intraBits st plane []).1 ++ rest) = some ([st.preds.getD plane 0], st, rest)) ∧
  (∀ (st : BlockState) (plane : Nat) (lv : List Int) (rest : List Bool), lv.length ≤ 64 → (∀ v ∈ lv, small v) →
    readBlock st false plane ((interBits st lv).1 ++ rest) = some (lv, (interBits st lv).2, rest)) ∧
  (∀ bits : List Bool, ∃ pad, byteBits (payloadBytes bits) = bits ++ pad ∧ paddingOk pad = true)

/-- R229: the slice table holds 8 bytes per slice in index order: FLOOR, Q, LENGTH and OFFSET, the place of the slice's marker from the
frame header of 24 bytes. -/
def Obligations.SliceTableEntries : Prop :=
  ∀ c : Coding, (∀ x ∈ c.slices, x.q < 128 ∧ x.length < 2 ^ 24) → 24 + (c.slices.map (·.length)).sum < 2 ^ 32 →
    (sliceTable c).length = 8 * c.slices.length ∧
    ∀ i x, c.slices[i]? = some x →
      let e := unle (slice (sliceTable c) (8 * i) 8)
      bitsOf e 63 63 = (if x.floor then 1 else 0) ∧ bitsOf e 62 56 = x.q ∧ bitsOf e 55 32 = x.length ∧
      bitsOf e 31 0 = 24 + ((c.slices.take i).map (·.length)).sum

/-- A frame count of the day becomes a valid label and reads back as that count, at every rate and with the drop-frame numbering of
log 13; the label of a deal time counts frame periods from the anchor's (R40). -/
def Obligations.TimecodeLabelsCountFrames : Prop :=
  (∀ rate ∈ [24, 25, 30, 48, 50, 60], ∀ drop, (drop = true → rate = 30 ∨ rate = 60) → ∀ n < dayFrames rate drop,
    labelValid rate drop (framesLabel rate drop n) = true ∧ labelFrames rate drop (framesLabel rate drop n) = n) ∧
  (∀ (a : Anchor) (t : Nat), a.code < 6 → (a.drop = true → a.code = 2 ∨ a.code = 5) →
    (labelFrames (tcRate a.code) a.drop (a.labelAt t) : Int) =
      (labelFrames (tcRate a.code) a.drop a.label + ((t : Int) - a.time) / tcPeriod a.code a.pulldown) %
        dayFrames (tcRate a.code) a.drop)

/-- A packet that only reports leaves every unit, every register but the four of its sender's rings, every owner and every other host
slot as it was. -/
def Obligations.ReportingPacketsChangeNothing : Prop :=
  ∀ (was : State) (sender : Fin 8) (hdr : Hdr) (a b c : Nat) (k : Bool) (ids : List Nat),
  ∀ x ∈ ([(.sysIdentity hdr, pktSysIdentity), (.sysStatus hdr, pktSysStatus), (.hostHeartbeat hdr, pktHostHeartbeat),
      (.hostList hdr, pktHostList), (.resQuery hdr ids, pktResQuery ids), (.dckInfo hdr, pktDckInfo), (.dealList hdr a, pktDealList a),
      (.snsInfo hdr a, pktSnsInfo a), (.pipInfo hdr a, pktPipInfo a), (.pipDropLog hdr a, pktPipDropLog a),
      (.colInfo hdr k a, pktColInfo k a), (.staInfo hdr a, pktStaInfo a), (.engInfo hdr k a, pktEngInfo k a)] ++
     [(.mlsInfo hdr k a, pktMlsInfo k a), (.mlsDecInfo hdr a, pktMlsDecInfo a), (.medInfo hdr k a, pktMedInfo k a),
      (.medTakeList hdr a b c, pktMedTakeList a b c), (.memInfo hdr, pktMemInfo), (.memMarginRead hdr a, pktMemMarginRead a),
      (.memTrainRead hdr a, pktMemTrainRead a), (.lnkInfo hdr a b, pktLnkInfo a b), (.lnkPartnerRead hdr a, pktLnkPartnerRead a),
      (.lnkFomRead hdr a, pktLnkFomRead a), (.outInfo hdr a, pktOutInfo a), (.outSdpRead hdr a, pktOutSdpRead a)] ++
     [(.audInfo hdr a, pktAudInfo a), (.evfInfo hdr a b, pktEvfInfo a b), (.ptuInfo hdr a b, pktPtuInfo a b), (.valInfo hdr, pktValInfo),
      (.valThermalRead hdr, pktValThermalRead), (.valMonRead hdr a, pktValMonRead a), (.intInfo hdr, pktIntInfo)] :
      List (Instr × Packet)),
    Begins was sender hdr x.2 →
    ∃ t, exec x.1 was = .next t ∧ SameUnits was t ∧ SameRegs was t (ringRegs sender.val) ∧ t.cpi.owners = was.cpi.owners ∧
      ∀ n, n ≠ sender.val → t.host n = was.host n

/-- A packet that sets one register or one host slot leaves every unit, every other register but its sender's ring registers and every
owner as it was. -/
def Obligations.SettingPacketsLeaveOthers : Prop :=
  ∀ (was : State) (sender : Fin 8) (hdr : Hdr) (a b c : Nat) (w : BitVec 32),
  ∀ x ∈ ([(.sysSubscribe hdr w, pktSysSubscribe w, []), (.leaseSet hdr a b, pktLeaseSet a b, []), (.partSet hdr a b c, pktPartSet a b c, []),
      (.dealPortSet hdr a w, pktDealPortSet a w, [Reg.addr .DCK_PORT_CTRL a 0]),
      (.snsScbConfig hdr a w, pktSnsScbConfig a w, [Reg.addr .SNS_SCB_CFG a 0, Reg.addr .SNS_SCB_CFG (a + 1) 0]),
      (.mlsStreamBind hdr a b, pktMlsStreamBind a b, [Reg.addr .MLS_S_CFG a 0]),
      (.evfStormSet hdr a, pktEvfStormSet a, [Reg.addr .EVF_STORM 0 0]),
      (.valMonConfig hdr a b c w, pktValMonConfig a b c w, [Reg.addr .VAL_MON_CFG a 0, Reg.addr .VAL_MON_BASE a 0])] :
      List (Instr × Packet × List Nat)),
    Begins was sender hdr x.2.1 →
    ∃ t, exec x.1 was = .next t ∧ SameUnits was t ∧ SameRegs was t (ringRegs sender.val ++ x.2.2) ∧ t.cpi.owners = was.cpi.owners

/-- What the instructions of the test access port, the reference pins, a corrected patrol error, a cross-check window within its bounds
and the loss of LTC leave alone: every register but the named ones, and every unit but the one named. -/
def Obligations.EventsLeaveOthers : Prop :=
  (∀ (s : State) (bits : List Bool), ∀ c ∈ ([.bypass, .idcode, .samplePreload bits, .extest, .extestPulse, .extestTrain, .clamp, .highz,
      .trstNAssert] : List Instr), ∃ t, exec c s = .next t ∧ SameUnits { s with tap := t.tap } t ∧ SameRegs s t [] ∧ t.cpi = s.cpi) ∧
  (∀ (s : State) (w : BitVec 32), ∀ c ∈ ([.ppsPulse w, .wclkStart w, .wclkStop] : List Instr),
    ∃ t, exec c s = .next t ∧ SameUnits { s with dck := t.dck } t ∧ SameRegs s t [] ∧ t.cpi = s.cpi ∧ t.dck.queues = s.dck.queues) ∧
  (∀ (s : State) (port : Fin 2), ∃ t, exec (.spiStatus port) s = .next t ∧ SameUnits s t ∧ SameRegs s t []) ∧
  (∀ (s : State) (addr n : Nat), ∃ t, exec (.patrolScrub addr 0 n) s = .next t ∧ SameUnits s t ∧ t.cpi = s.cpi ∧
    SameRegs s t [Reg.addr .MEM_ECC 0 0, Reg.addr .MEM_ECC_ADDR_LO 0 0, Reg.addr .MEM_ECC_ADDR_HI 0 0, Reg.addr .MEM_EVT 0 0]) ∧
  (∀ (s : State) (addr n : Nat), ∃ t, exec (.patrolScrub addr 1 n) s = .next t ∧ SameUnits s t ∧ t.cpi = s.cpi ∧
    SameRegs s t [Reg.addr .MEM_ECC 0 0]) ∧
  (∀ (s : State) (count : Nat), 297000 ≤ count → count ≤ 303000 →
    ∃ t, exec (.xchkWindow count) s = .next t ∧ SameUnits { s with integ := t.integ } t ∧ t.cpi = s.cpi ∧
      SameRegs s t [Reg.addr .DCK_STATUS 0 0]) ∧
  (∀ s : State, ∃ t, exec .ltcLoss s = .next t ∧ SameUnits { s with dck := t.dck } t ∧ t.cpi = s.cpi ∧ t.dck.queues = s.dck.queues ∧
    SameRegs s t [Reg.addr .DCK_STATUS 0 0, Reg.addr .DCK_EVT 0 0])

/-- What the system and register packets answer and leave: identity, status, registers, resets, the orderly shutdown, the firmware
  image,
subscriptions and the boot endpoint (R60 … R65, R463 … R466). once the packet begins
  (it has passed the checks of R65 and nothing holds it
up), it ends with the status, the result body and the state named. The model's own choices in them: the reply values of SYS_STATUS are
  log
11, those of REG_MODIFY log 93, the firmware image log 14. -/
def Obligations.SystemPacketsDo : Prop := ∀ (was s : State) (sender : Fin 8) (hdr : Hdr), s = was.taken sender →
  (Begins was sender hdr pktSysIdentity →
    Ends was hdr (.sysIdentity hdr) 0x0101 (.bytes s.identity) s) ∧
  (Begins was sender hdr pktSysStatus →
    Ends was hdr (.sysStatus hdr) 0x0102 (.values [if s.boot.phase == .ready then 1 else 0, s.get .VAL_STATUS_HOLDUP_READY,
    s.get .VAL_INT_STATUS_SAFE, s.get .VAL_STATUS_LEVEL, s.get .DCK_STATUS_STATE, s.takesRecording,
    s.get .ENG_USABLE_ENGINES]) s) ∧
  (∀ (addr count : Nat), Begins was sender hdr (pktRegRead addr count) →
    ∀ vs t, State.readRegs (sender.val) addr count s = (vs, t) →
    Ends was hdr (.regRead hdr addr count) 0x0103 (.words vs) t) ∧
  (∀ (addr count : Nat) (words : List (BitVec 32)), Begins was sender hdr (pktRegWrite addr count words) →
    Ends was hdr (.regWrite hdr addr count words) 0x0104 .empty (s.writeRegs (sender.val) (wordsFrom addr words))) ∧
  (∀ (addr : Nat) (mask value : BitVec 32), Begins was sender hdr (pktRegModify addr mask value) →
    ∀ old w, s.modified addr mask.toNat value.toNat = (old, w) →
    Ends was hdr (.regModify hdr addr mask value) 0x0105 (.words [old, mergeBits old value.toNat mask.toNat])
      (s.draw.2.writeReg (sender.val) addr w)) ∧
  (∀ (kind : Nat), Begins was sender hdr (pktSysReset kind) →
    let k := if kind = 1 ∧ s.get .VAL_BOOT_LIMITED_CAUSE ≠ 3 then kindModule else kindFull
    Ends was hdr (.sysReset hdr kind) 0x0106 .empty { s with boot := { s.boot with phase := .preReset k } }) ∧
  (Begins was sender hdr pktSysShutdown →
    let s := { s with cpi := { s.cpi with shuttingDown := some 1 } }
    let s := (s.takesWhere fun t => t.state == 2).foldl (fun s t => s.closeTake t 1) s
    Waits was sender hdr (.sysShutdown hdr) pktSysShutdown .shutdown ((List.range 16).foldl (fun s t => s.freeTake t .WRONG_STATE) s)) ∧
  (∀ (len : Nat), Begins was sender hdr (pktFwBegin len) →
    Ends was hdr (.fwBegin hdr len) 0x0108 .empty { s with cpi := { s.cpi with fw := some ⟨len, [], false⟩ } }) ∧
  (∀ (off : Nat) (data : List Byte), Begins was sender hdr (pktFwData off data) →
    Ends was hdr (.fwData hdr off data) 0x0109 .empty { s with cpi := { s.cpi with fw := s.cpi.fw.map fun f => { f with data := f.data ++ [(off, data)] } } }) ∧
  (Begins was sender hdr pktFwCommit →
    Waits was sender hdr (.fwCommit hdr) pktFwCommit .fwCommit
      { s with cpi := { s.cpi with fw := s.cpi.fw.map fun f => { f with committing := true } } }) ∧
  (∀ (mask : BitVec 32), Begins was sender hdr (pktSysSubscribe mask) →
    Ends was hdr (.sysSubscribe hdr mask) 0x010B .empty (s.setHost (sender.val) { s.host (sender.val) with notices := mask.toNat })) ∧
  (∀ (transport number : Nat), Begins was sender hdr (pktSysBootSet transport number) →
    Ends was hdr (.sysBootSet hdr transport number) 0x010D .empty { s with store := { s.store with
    bootEndpoint := (endpointOf transport number).getD s.store.bootEndpoint } })

/-- What the session and ownership packets answer and leave: detaching, heartbeats, the host list, leases, ownership and partitions
  (R73 …
R88). once the packet begins (it has passed the checks of R65 and nothing holds it up), it ends with the status, the result body and the
state named. The model's own choices in them: the body of HOST_LIST is log 11. -/
def Obligations.SessionPacketsDo : Prop := ∀ (was s : State) (sender : Fin 8) (hdr : Hdr), s = was.taken sender →
  (Begins was sender hdr pktHostDetach →
    Ends was hdr (.hostDetach hdr) 0x0202 .empty (s.endSession (sender.val))) ∧
  (Begins was sender hdr pktHostHeartbeat →
    Ends was hdr (.hostHeartbeat hdr) 0x0203 (.values [s.leaseLeft (sender.val)]) s) ∧
  (Begins was sender hdr pktHostList →
    let slot := fun (n : Nat) => [s.get .CPI_SLOT_STATE_STATE n, s.get .CPI_SLOT_STATE_TRANSPORT n, s.get .CPI_SLOT_STATE_ENDPOINT n] ++
      (padTo 16 (s.host n).name).map (·.toNat) ++ [s.leaseLeft n] ++ s.owned n
    Ends was hdr (.hostList hdr) 0x0204 (.values ((List.range 8).flatMap slot ++ [shared] ++ s.owned shared)) s) ∧
  (∀ (slot lease : Nat), Begins was sender hdr (pktLeaseSet slot lease) →
    Ends was hdr (.leaseSet hdr slot lease) 0x0205 .empty (s.setHost slot { s.host slot with leaseMs := lease })) ∧
  (∀ (target : Nat) (ids : List Nat), Begins was sender hdr (pktResAssign target ids) →
    Ends was hdr (.resAssign hdr target ids) 0x0206 (.values [s.now]) (s.assignAll target ids)) ∧
  (∀ (ids : List Nat), Begins was sender hdr (pktResRelease ids) →
    Ends was hdr (.resRelease hdr ids) 0x0207 (.values [s.now]) (s.assignAll 0 ids)) ∧
  (∀ (ids : List Nat), Begins was sender hdr (pktResQuery ids) →
    Ends was hdr (.resQuery hdr ids) 0x0208 (.values (ids.map s.owner)) s) ∧
  (∀ (slot pool clusters : Nat), Begins was sender hdr (pktPartSet slot pool clusters) →
    Ends was hdr (.partSet hdr slot pool clusters) 0x0209 .empty
      (s.setHost slot { s.host slot with poolQuota := pool, clusterQuota := clusters }))

/-- What the deal clock packets answer and leave: the clock's source and steps, the deal queues, the ports and the timecode anchor
  (R34 …
R60). once the packet begins (it has passed the checks of R65 and nothing holds it up), it ends with the status, the result body and the
state named. The model's own choices in them: a step is logs 77 and 79, a reselection log 78. -/
def Obligations.DealClockPacketsDo : Prop := ∀ (was s : State) (sender : Fin 8) (hdr : Hdr), s = was.taken sender →
  (Begins was sender hdr pktDckInfo →
    Ends was hdr (.dckInfo hdr) 0x0301 (.values [s.rd .DCK_STATUS, s.now, s.rd .DCK_PHASE_ERR, s.rd .DCK_FREQ_ERR,
    s.get .DCK_STATUS_ACTIVE_SRC]) s) ∧
  (∀ (src ref ctrl : BitVec 32), Begins was sender hdr (pktDckSourceSet src ref ctrl) →
    Ends was hdr (.dckSourceSet hdr src ref ctrl) 0x0302 .empty
      (((s.writeWord none .DCK_SRC src.toNat 0 0).writeWord none .DCK_REF_CFG ref.toNat 0 0).writeWord
    none .DCK_CTRL ctrl.toNat 0 0).clockSet) ∧
  (∀ (time : Nat), Begins was sender hdr (pktDckStep time) →
    Ends was hdr (.dckStep hdr time) 0x0303 (.values [s.now, time % 2 ^ 64]) (s.stepTo (time % 2 ^ 64))) ∧
  (∀ (es : List (Nat × Entry)), Begins was sender hdr (pktDealQueue es) →
    Ends was hdr (.dealQueue hdr es) 0x0304 (.values [s.now]) (s.insertEntries (sender.val) es)) ∧
  (∀ (port tag : Nat), Begins was sender hdr (pktDealCancel port tag) →
    ∀ v t, s.cancelPort port tag = (v, t) →
    Ends was hdr (.dealCancel hdr port tag) 0x0305 (.values v) t) ∧
  (∀ (port : Nat) (ctrl : BitVec 32), Begins was sender hdr (pktDealPortSet port ctrl) →
    Ends was hdr (.dealPortSet hdr port ctrl) 0x0306 .empty (s.writeWord none .DCK_PORT_CTRL ctrl.toNat port 0)) ∧
  (∀ (cfg anchor : BitVec 32) (time : Nat) (ub : BitVec 32) (jam : Bool), Begins was sender hdr (pktTcSet cfg anchor time ub jam) →
    let s := (s.shadowWr .tc .DCK_TC_CFG cfg.toNat).shadowWr .tc .DCK_LTC_OUT_UB ub.toNat
    Ends was hdr (.tcSet hdr cfg anchor time ub jam) 0x0307 .empty (if jam then s.startJam else
      ((s.shadowWr .tc .DCK_TC_ANCHOR anchor.toNat).shadowWr .tc .DCK_TC_ANCHOR_TIME_LO (time % 2 ^ 32)).shadowWr .tc
        .DCK_TC_ANCHOR_TIME_HI (time / 2 ^ 32 % 2 ^ 32))) ∧
  (∀ (port : Nat), Begins was sender hdr (pktDealList port) →
    Ends was hdr (.dealList hdr port) 0x0308 (.values ((s.queue port).flatMap QEntry.listed)) s)

/-- What the sensor packets answer and leave: ports, contexts, their enabling, and the control buses (R90 … R113). once the packet
  begins (it
has passed the checks of R65 and nothing holds it up), it ends with the status, the result body and the state named. The model's own
choices in them: the control buses are log 16. -/
def Obligations.SensorPacketsDo : Prop := ∀ (was s : State) (sender : Fin 8) (hdr : Hdr), s = was.taken sender →
  (∀ (ctx : Nat), Begins was sender hdr (pktSnsInfo ctx) →
    Ends was hdr (.snsInfo hdr ctx) 0x0401 (.values
    [s.rd .SNS_PORT_STAT ctx, s.rd .SNS_CTX_CFG ctx, s.rd .SNS_CTX_FRAME ctx,
      s.rd64 .SNS_CTX_SOF_LO .SNS_CTX_SOF_HI ctx, s.rd64 .SNS_CTX_STATUS_LO .SNS_CTX_STATUS_HI ctx,
      s.rd .SNS_CTX_CNT0 ctx, s.rd .SNS_CTX_CNT1 ctx, s.rd .SNS_CTX_CNT2 ctx]) s) ∧
  (∀ (ctx : Nat) (cfg : BitVec 32) (maps : List (BitVec 32)) (sync : BitVec 32), Begins was sender hdr
    (pktSnsPortConfig ctx cfg maps sync) →
    s.enabled ctx →
    Ends was hdr (.snsPortConfig hdr ctx cfg maps sync) 0x0402 .empty s) ∧
  (∀ (ctx : Nat) (cfg : BitVec 32) (maps : List (BitVec 32)) (sync : BitVec 32), Begins was sender hdr
    (pktSnsPortConfig ctx cfg maps sync) →
    ¬(s.enabled ctx) →
    let s := maps.zipIdx.foldl (fun s (w, k) => s.writeWord none .SNS_PORT_MAP w.toNat ctx k) s
    let s := (s.writeWord none .SNS_PORT_CFG cfg.toNat ctx 0).writeWord none .SNS_PORT_SYNC sync.toNat ctx 0
    Ends was hdr (.snsPortConfig hdr ctx cfg maps sync) 0x0402 .empty (s.relock ctx)) ∧
  (∀ (ctx : Nat) (cfg geom timing trig src : BitVec 32), Begins was sender hdr (pktSnsCtxConfig ctx cfg geom timing trig src) →
    let s := if s.enabled ctx then s else (s.applyCtxCfg ctx cfg.toNat).applyCtxSrc ctx src.toNat
    let w := fun (s : State) (r : Reg) (v : BitVec 32) => s.writeWord (some (.ctx ctx)) r v.toNat ctx 0
    Ends was hdr (.snsCtxConfig hdr ctx cfg geom timing trig src) 0x0403 .empty
      (w (w (w s .SNS_GEOM geom) .SNS_CTX_TIMING timing) .SNS_CTX_TRIG trig)) ∧
  (∀ (ctx : Nat), Begins was sender hdr (pktSnsCtxEnable ctx) →
    Ends was hdr (.snsCtxEnable hdr ctx) 0x0404 .empty (s.enableCtx ctx)) ∧
  (∀ (ctx : Nat), Begins was sender hdr (pktSnsCtxDisable ctx) →
    !s.enabled ctx →
    Ends was hdr (.snsCtxDisable hdr ctx) 0x0405 .empty s) ∧
  (∀ (ctx : Nat), Begins was sender hdr (pktSnsCtxDisable ctx) →
    let t := s.disableCtx ctx
    s.enabled ctx →
    t.enabled ctx →
    Waits was sender hdr (.snsCtxDisable hdr ctx) (pktSnsCtxDisable ctx) (.ctxDisabled ctx) t) ∧
  (∀ (ctx : Nat), Begins was sender hdr (pktSnsCtxDisable ctx) →
    let t := s.disableCtx ctx
    s.enabled ctx →
    ¬(t.enabled ctx) →
    EndsAtOnce was hdr (.snsCtxDisable hdr ctx) 0x0405 .empty t) ∧
  (∀ (bus : Nat) (cfg : BitVec 32), Begins was sender hdr (pktSnsScbConfig bus cfg) →
    Ends was hdr (.snsScbConfig hdr bus cfg) 0x0406 .empty (
      let s := s.writeWord none .SNS_SCB_CFG cfg.toNat bus 0
      if bus % 2 = 0 ∧ bitsOf cfg.toNat 3 0 = 3 then s.set .SNS_SCB_CFG_MODE 0 (bus + 1) else s)) ∧
  (∀ (bus list : Nat) (ops : List (List Byte)), Begins was sender hdr (pktSnsScbListLoad bus list ops) →
    let k := s.scb bus
    Ends was hdr (.snsScbListLoad hdr bus list ops) 0x0407 .empty (s.setScb bus { k with lists := tins ops k.lists list })) ∧
  (∀ (bus : Nat) (op : List Byte), Begins was sender hdr (pktSnsScbXfer bus op) →
    let k := s.scb bus
    let s := s.setScb bus { k with xfers := k.xfers ++ [⟨k.nextXfer, op⟩], nextXfer := k.nextXfer + 1 }
    Waits was sender hdr (.snsScbXfer hdr bus op) (pktSnsScbXfer bus op) (WaitKind.scbXfer bus k.nextXfer)
      (if k.running.isNone then s.scbNext bus else s)) ∧
  (∀ (bus list : Nat), Begins was sender hdr (pktSnsScbResult bus list) →
    ∀ data err op, tgetD ([], 0, 0) (s.scb bus).results list = (data, err, op) →
    Ends was hdr (.snsScbResult hdr bus list) 0x0409 (.bytes (padTo 1024 data ++ le 4 err ++ le 4 op)) s)

/-- What the line pipeline packets answer and leave: contexts, parameters, defect and shading banks, taps, the in-line role and the
  drop log
(R114 … R144). once the packet begins (it has passed the checks of R65 and nothing holds it up), it ends with the status, the result
  body
and the state named. The model's own choices in them: a load into a defect bank is log 22. -/
def Obligations.PipelinePacketsDo : Prop := ∀ (was s : State) (sender : Fin 8) (hdr : Hdr), s = was.taken sender →
  (∀ (ctx : Nat), Begins was sender hdr (pktPipInfo ctx) →
    Ends was hdr (.pipInfo hdr ctx) 0x0501 (.values
    [s.rd .PIP_CTX_CFG ctx, s.rd .PIP_CTX_LB ctx, s.shadow .PIP_CTX_MODE ctx, s.shadow .PIP_FUSE ctx,
      s.shadow .PIP_BLACK ctx 0, s.shadow .PIP_BLACK ctx 1, s.shadow .PIP_BLACK ctx 2, s.shadow .PIP_BLACK ctx 3,
      s.shadow .PIP_WHITE ctx, s.shadow .PIP_DYN ctx, s.shadow .PIP_NR ctx, s.shadow .PIP_FILT ctx,
      s.shadow .PIP_TAP ctx, s.rd .PIP_BANK ctx, s.rd .PIP_CTX_PAN ctx, s.rd .PIP_CTX_DROP ctx,
      s.rd .PIP_CTX_LASTDROP ctx, s.rd .PIP_CTX_FRAME ctx, s.rd .PIP_CTX_DYN ctx,
      s.inlineWord, s.rd .PIP_LOAD, s.occupied ctx]) s) ∧
  (∀ (ctx : Nat) (cfg : BitVec 32) (units : Nat), Begins was sender hdr (pktPipCtxConfig ctx cfg units) →
    let s := s.applyPip ctx cfg.toNat units
    Ends was hdr (.pipCtxConfig hdr ctx cfg units) 0x0502 (.values [s.get .PIP_CTX_LB_COLS_MAX ctx,
      panSlotBytes (s.shadow .SNS_GEOM ctx) (s.get .SNS_CTX_CFG_SUBSTREAMS ctx)]) s) ∧
  (∀ (ctx : Nat) (ws : List (BitVec 32)), Begins was sender hdr (pktPipParamSet ctx ws) →
    Ends was hdr (.pipParamSet hdr ctx ws) 0x0503 .empty (s.pipParams ctx ws)) ∧
  (∀ (ctx bank first count : Nat) (last : Bool) (entries : List (BitVec 32)), Begins was sender hdr
    (pktPipDefectLoad ctx bank first count last entries) →
    let s := s.allocBank ctx bank
    let k := s.pipBank ctx bank
    Ends was hdr (.pipDefectLoad hdr ctx bank first count last entries) 0x0504 .empty
      (s.putPipBank ctx bank { k with allocated := true, defects := defectMap k.defects first entries, last := last })) ∧
  (∀ (ctx bank plane first count : Nat) (gains : List Nat), Begins was sender hdr (pktPipShadeLoad ctx bank plane first count gains) →
    let s := s.allocBank ctx bank
    let k := s.pipBank ctx bank
    let nodes := if k.nodes.length = 33540 then [] else k.nodes
    let nodes := gains.zipIdx.foldl (fun t (g, i) => tins g t (plane * 8385 + first + i)) nodes
    Ends was hdr (.pipShadeLoad hdr ctx bank plane first count gains) 0x0505 .empty
      (s.putPipBank ctx bank { k with allocated := true, nodes := nodes })) ∧
  (∀ (ctx slots : Nat), Begins was sender hdr (pktPipTapConfig ctx slots) →
    let s := (s.allocate (.raw ctx) (s.rawBytes ctx slots)).set .PIP_TAP_RAW_SLOTS slots ctx
    let c := s.ctx ctx
    let s := s.setCtx ctx { c with frames := c.frames.map fun f => { f with rawSlot := false } }
    Ends was hdr (.pipTapConfig hdr ctx slots) 0x0506 .empty (s.forget ctx)) ∧
  (∀ (ctx : Nat), Begins was sender hdr (pktPipInlineSet ctx) →
    ∀ t, s.inlineSwitch ctx = (.refused, t) →
    Refuses was hdr (.pipInlineSet hdr ctx) 0x0507 .WRONG_STATE t) ∧
  (∀ (ctx : Nat), Begins was sender hdr (pktPipInlineSet ctx) →
    ∀ t, s.inlineSwitch ctx = (.done, t) →
    Ends was hdr (.pipInlineSet hdr ctx) 0x0507 .empty t) ∧
  (∀ (ctx : Nat), Begins was sender hdr (pktPipInlineSet ctx) →
    ∀ t, s.inlineSwitch ctx = (.pending, t) →
    Waits was sender hdr (.pipInlineSet hdr ctx) (pktPipInlineSet ctx) (.inlineSwitch ctx) t) ∧
  (∀ (ctx bank : Nat), Begins was sender hdr (pktPipBankSwap ctx bank) →
    let c := s.ctx ctx
    Waits was sender hdr (.pipBankSwap hdr ctx bank) (pktPipBankSwap ctx bank) (.pipBank ctx s.now)
      ((s.setCtx ctx { c with pipSwap := c.pipSwap ++ [(bank, s.now)] }).showPipBank ctx)) ∧
  (∀ (ctx : Nat), Begins was sender hdr (pktPipDropLog ctx) →
    Ends was hdr (.pipDropLog hdr ctx) 0x0509 (.bytes ((s.ctx ctx).drops.flatMap fun d => le 4 d.frame ++ le 8 d.sof ++ le 4 d.reason))
      s)

/-- What the colour and statistics packets answer and leave: calibration banks, look paths, statistics configuration, reading and
  delivery
(R145 … R184). once the packet begins (it has passed the checks of R65 and nothing holds it up), it ends with the status, the result
  body
and the state named. The model's own choices in them: withdrawn banks are log 41, a bank that is not held log 42. -/
def Obligations.ColourAndStatisticsPacketsDo : Prop := ∀ (was s : State) (sender : Fin 8) (hdr : Hdr), s = was.taken sender →
  (∀ (isOutput : Bool) (index : Nat), Begins was sender hdr (pktColInfo isOutput index) →
    Ends was hdr (.colInfo hdr isOutput index) 0x0601 (.values <|
    (if isOutput then
      [s.shadow .COL_LOOK_CFG index, s.shadow .COL_LOOK_MODE index] ++
      ((List.range 9).map fun k => s.shadow .COL_LOOK_MAT index k) ++
      [s.shadow .COL_SHAPER_LO index, s.shadow .COL_SHAPER_HI index] ++
      ((List.range 6).map fun k => s.shadow .COL_TF_P index k) ++
      [s.rd .COL_LOOK_BANK index, s.rd .COL_LOOK_STAT index]
    else
      [s.rd .COL_CTX_CFG index, s.rd .COL_CTX_BANK index, s.rd .COL_CTX_FRAME index, s.rd .COL_CTX_STAT index,
        s.rd .COL_CTX_DEV index]) ++ [s.rd .COL_UNITS]) s) ∧
  (∀ (ctx calAlloc devSlots : Nat), Begins was sender hdr (pktColCtxConfig ctx calAlloc devSlots) →
    let s := s.applyColCtx ctx calAlloc devSlots
    Ends was hdr (.colCtxConfig hdr ctx calAlloc devSlots) 0x0602 (.values [s.devSlotBytes ctx]) s) ∧
  (∀ (ctx bank region first count : Nat) (data : List Nat), Begins was sender hdr (pktColCalLoad ctx bank region first count data) →
    ∀ base x1 x2, calRegion region = some (base, x1, x2) →
    let word := if region = 0 then 2 ^ 16 else 2 ^ 32
    let k := (s.calBank ctx bank).load (base + first) (data.map (· % word))
    Ends was hdr (.colCalLoad hdr ctx bank region first count data) 0x0603 .empty
      ((s.setCalBank ctx bank k).seal .COL_CTX_BANK_COMPLETE ctx bank false)) ∧
  (∀ (ctx bank : Nat) (crc : BitVec 32), Begins was sender hdr (pktColCalSeal ctx bank crc) →
    let k := s.calBank ctx bank
    let off := s.seal .COL_CTX_BANK_COMPLETE ctx bank false
    crc32c k.calImage ≠ crc.toNat →
    Refuses was hdr (.colCalSeal hdr ctx bank crc) 0x0604 .COL_BAD_SEAL off) ∧
  (∀ (ctx bank : Nat) (crc : BitVec 32), Begins was sender hdr (pktColCalSeal ctx bank crc) →
    let k := s.calBank ctx bank
    let off := s.seal .COL_CTX_BANK_COMPLETE ctx bank false
    crc32c k.calImage = crc.toNat →
    !k.calValid →
    Refuses was hdr (.colCalSeal hdr ctx bank crc) 0x0604 .COL_BAD_TABLE off) ∧
  (∀ (ctx bank : Nat) (crc : BitVec 32), Begins was sender hdr (pktColCalSeal ctx bank crc) →
    let k := s.calBank ctx bank
    crc32c k.calImage = crc.toNat →
    k.calValid →
    Ends was hdr (.colCalSeal hdr ctx bank crc) 0x0604 .empty (s.seal .COL_CTX_BANK_COMPLETE ctx bank true)) ∧
  (∀ (ctx bank : Nat), Begins was sender hdr (pktColCalSwap ctx bank) →
    Waits was sender hdr (.colCalSwap hdr ctx bank) (pktColCalSwap ctx bank) (.calSwap ctx s.now) (s.calSwapTo ctx bank)) ∧
  (∀ (out src banks run : Nat), Begins was sender hdr (pktColLookConfig out src banks run) →
    Ends was hdr (.colLookConfig hdr out src banks run) 0x0606 .empty
      (s.applyLookCfg out (run * 2 ^ 31 + src * 2 ^ 28 + banks * 2 ^ 26))) ∧
  (∀ (out bank part first count : Nat) (data : List Nat), Begins was sender hdr (pktColLookLoad out bank part first count data) →
    let word := if part < 3 then 2 ^ 16 else 2 ^ 48
    let k := (s.lookBank out bank).load ((lookPart part).1 + first) (data.map (· % word))
    Ends was hdr (.colLookLoad hdr out bank part first count data) 0x0607 .empty
      ((s.setLookBank out bank k).seal .COL_LOOK_BANK_COMPLETE out bank false)) ∧
  (∀ (out bank : Nat) (crc : BitVec 32), Begins was sender hdr (pktColLookSeal out bank crc) →
    let k := s.lookBank out bank
    let off := s.seal .COL_LOOK_BANK_COMPLETE out bank false
    crc32c k.lookImage ≠ crc.toNat →
    Refuses was hdr (.colLookSeal hdr out bank crc) 0x0608 .COL_BAD_SEAL off) ∧
  (∀ (out bank : Nat) (crc : BitVec 32), Begins was sender hdr (pktColLookSeal out bank crc) →
    let k := s.lookBank out bank
    let off := s.seal .COL_LOOK_BANK_COMPLETE out bank false
    crc32c k.lookImage = crc.toNat →
    !k.lookValid →
    Refuses was hdr (.colLookSeal hdr out bank crc) 0x0608 .COL_BAD_TABLE off) ∧
  (∀ (out bank : Nat) (crc : BitVec 32), Begins was sender hdr (pktColLookSeal out bank crc) →
    let k := s.lookBank out bank
    crc32c k.lookImage = crc.toNat →
    k.lookValid →
    Ends was hdr (.colLookSeal hdr out bank crc) 0x0608 .empty (s.seal .COL_LOOK_BANK_COMPLETE out bank true)) ∧
  (∀ (out bank : Nat), Begins was sender hdr (pktColLookSwap out bank) →
    let t := s.lookSwapTo out bank
    s.outRunning out →
    Waits was sender hdr (.colLookSwap hdr out bank) (pktColLookSwap out bank) (.lookSwap out s.now) t) ∧
  (∀ (out bank : Nat), Begins was sender hdr (pktColLookSwap out bank) →
    let t := s.lookSwapTo out bank
    ¬(s.outRunning out) →
    Ends was hdr (.colLookSwap hdr out bank) 0x0609 .empty t) ∧
  (∀ (out : Nat) (mode : BitVec 32) (mats : List (BitVec 32)) (lo hi : BitVec 32) (tfs : List (BitVec 32)), Begins was sender hdr
    (pktColLookParam out mode mats lo hi tfs) →
    Ends was hdr (.colLookParam hdr out mode mats lo hi tfs) 0x060A .empty (s.writeLook out mode mats lo hi tfs)) ∧
  (∀ (ctx : Nat), Begins was sender hdr (pktStaInfo ctx) →
    Ends was hdr (.staInfo hdr ctx) 0x0701 (.values [s.rd .STA_CTX_CFG ctx, s.rd .STA_CTX_LAST ctx, s.rd .STA_CTX_LAST_SOF_LO ctx,
    s.rd .STA_CTX_LAST_SOF_HI ctx, s.get .STA_CTX_CFG_BANK ctx, s.get .STA_CTX_CFG_PENDING ctx]) s) ∧
  (∀ (ctx en slots : Nat), Begins was sender hdr (pktStaCtxConfig ctx en slots) →
    Ends was hdr (.staCtxConfig hdr ctx en slots) 0x0702 .empty (s.applyStaCtx ctx en slots)) ∧
  (∀ (ctx bank : Nat) (ws : List (BitVec 32)), Begins was sender hdr (pktStaCfgSet ctx bank ws) →
    Ends was hdr (.staCfgSet hdr ctx bank ws) 0x0703 .empty (s.staBankWrite ctx bank ws)) ∧
  (∀ (ctx bank : Nat), Begins was sender hdr (pktStaCfgSwap ctx bank) →
    Waits was sender hdr (.staCfgSwap hdr ctx bank) (pktStaCfgSwap ctx bank) (.staSwap ctx s.now) (s.staSwapTo ctx bank)) ∧
  (∀ (ctx : Nat) (rd : ReadArgs), Begins was sender hdr (pktStaRead ctx rd) →
    ∀ x, findHeld (tgetD [] s.sta.rings ctx) rd = some x →
    Ends was hdr (.staRead hdr ctx rd) 0x0705 (.bytes (s.heldBytes x rd)) s) ∧
  (∀ (ctx addr slots : Nat), Begins was sender hdr (pktStaDeliver ctx addr slots) →
    let h := s.host sender.val
    let rest := h.deliveries.filter (·.ctx ≠ ctx)
    Ends was hdr (.staDeliver hdr ctx addr slots) 0x0706 .empty
      (s.setHost sender.val { h with deliveries := if slots = 0 then rest else rest ++ [⟨ctx, addr, slots, 0, 0, []⟩] }))

/-- What the engine array packets answer and leave: creating, loading, sealing, starting, stopping and freeing kernels, their inputs and
outputs, and results (R185 … R205). once the packet begins (it has passed the checks of R65 and nothing holds it up), it ends with the
status, the result body and the state named. The model's own choices in them: the state a kernel must be in is log 26. -/
def Obligations.EnginePacketsDo : Prop := ∀ (was s : State) (sender : Fin 8) (hdr : Hdr), s = was.taken sender →
  (∀ (isKernel : Bool) (id : Nat), Begins was sender hdr (pktEngInfo isKernel id) →
    Ends was hdr (.engInfo hdr isKernel id) 0x0801 (.values (if isKernel then s.kernelValues (handleSlot id) else
      [s.rd .ENG_CL_STAT id])) s) ∧
  (∀ (clusters : List Nat) (len : Nat), Begins was sender hdr (pktEngKernelCreate clusters len) →
    ∀ k, ((List.range 32).find? fun k => (s.kernel k).isNone) = some k →
    let gen := s.get .ENG_K_STATE_GENERATION k % 255 + 1
    let s := (s.set .ENG_K_STATE_GENERATION gen k).set .ENG_K_STATE_STATE 1 k
    let s := s.setKernel k { host := sender.val, clusters := clusters, length := len }
    let s := clusters.foldl (fun s c => (s.set .ENG_CL_STAT_HELD 1 c).set .ENG_CL_STAT_KERNEL k c) s
    Ends was hdr (.engKernelCreate hdr clusters len) 0x0802 (.values [handleOf gen k]) (s.wr .ENG_K_FAULT 0 k)) ∧
  (∀ (handle off : Nat) (data : List Byte), Begins was sender hdr (pktEngKernelData handle off data) →
    ∀ k, s.kernelOf handle = some k →
    Ends was hdr (.engKernelData hdr handle off data) 0x0803 .empty
      (s.modKernel k fun e => { e with image := e.image ++ [(off, data)] })) ∧
  (∀ (handle : Nat), Begins was sender hdr (pktEngKernelSeal handle) →
    ∀ k, s.kernelOf handle = some k →
    let s := s.modKernel k fun e =>
      let b := e.bytes
      { e with engines := unle (slice b 3 1), granules := unle (slice b 20 1), inputsMax := unle (slice b 21 1),
               outputsMax := unle (slice b 22 1) }
    let s := s.modKernelSlots k fun _ g => { g with store := (((s.kernel k).map Kernel.bytes).getD []).drop 64 }
    Ends was hdr (.engKernelSeal hdr handle) 0x0804 .empty (s.set .ENG_K_STATE_STATE 2 k).showGranules) ∧
  (∀ (handle input : Nat) (frameKind : Bool) (ctx tap fmt rows granules : Nat), Begins was sender hdr
    (pktEngInputAttach handle input frameKind ctx tap fmt rows granules) →
    ∀ k, s.kernelOf handle = some k →
    let port := if frameKind then none else s.freePort k input
    let x : KInput := { frameKind := frameKind, ctx := ctx, tap := tap, fmt := fmt, rows := rows, granules := granules, port := port }
    Ends was hdr (.engInputAttach hdr handle input frameKind ctx tap fmt rows granules) 0x0805 (.values port.toList)
      (s.modKernel k fun e => { e with inputs := tins x e.inputs input }).showGranules) ∧
  (∀ (handle output slots bytes : Nat), Begins was sender hdr (pktEngOutputConfig handle output slots bytes) →
    ∀ k, s.kernelOf handle = some k →
    let s := s.modKernel k fun e => { e with outputs := tins ⟨slots, bytes, []⟩ e.outputs output }
    Ends was hdr (.engOutputConfig hdr handle output slots bytes) 0x0806 .empty
      (s.allocate (.kernel k) (((s.kernel k).map Kernel.ringBytes).getD 0))) ∧
  (∀ (handle : Nat), Begins was sender hdr (pktEngKernelStart handle) →
    ∀ k, s.kernelOf handle = some k →
    Ends was hdr (.engKernelStart hdr handle) 0x0807 .empty (s.startKernel k)) ∧
  (∀ (handle : Nat), Begins was sender hdr (pktEngKernelStop handle) →
    ∀ k, s.kernelOf handle = some k →
    Waits was sender hdr (.engKernelStop hdr handle) (pktEngKernelStop handle) (.kernelStopped k) (s.stopKernel k)) ∧
  (∀ (handle : Nat), Begins was sender hdr (pktEngKernelFree handle) →
    ∀ k, s.kernelOf handle = some k →
    Ends was hdr (.engKernelFree hdr handle) 0x0809 .empty (s.freeKernel k)) ∧
  (∀ (handle output : Nat) (rd : ReadArgs), Begins was sender hdr (pktEngResultRead handle output rd) →
    ∀ x, (((s.kernelOf handle).bind s.kernel).bind fun e => (tget e.outputs output).bind fun o => findHeld o.results rd) = some x →
    Ends was hdr (.engResultRead hdr handle output rd) 0x080A (.bytes (s.heldBytes x rd)) s)

/-- What the encoder packets answer and leave: codec contexts, streams, switches, plans and frame records (R206 … R239). once the packet
begins (it has passed the checks of R65 and nothing holds it up), it ends with the status, the result body and the state named. The
model's own choices in them: values the encoder is free to choose are logs 45 and 46. -/
def Obligations.EncoderPacketsDo : Prop := ∀ (was s : State) (sender : Fin 8) (hdr : Hdr), s = was.taken sender →
  (∀ (isStream : Bool) (id : Nat), Begins was sender hdr (pktMlsInfo isStream id) →
    let i := handleSlot id
    Ends was hdr (.mlsInfo hdr isStream id) 0x0901 (.values ((if isStream then
      [s.rd .MLS_S_CFG id, s.rd .MLS_S_LAST id, s.rd .MLS_S_LASTOMIT id, s.rd .MLS_S_OMIT id,
        s.rd .MLS_S_FLOOR id, s.rd .MLS_S_PLAN id]
      else [s.rd .MLS_C_CFG i, s.shadow .MLS_C_TARGET i, s.shadow .MLS_C_CEIL i, s.shadow .MLS_C_RC i, s.shadow .MLS_C_MP i,
        s.shadow .MLS_C_TFP i, s.rd .MLS_C_BUCKET i, s.rd .MLS_C_LAST i, s.rd .MLS_C_STAT i]) ++
      [s.rd .MLS_LOAD0, s.rd .MLS_LOAD1])) s) ∧
  (∀ (profile src dest index hostMib : Nat) (target ceil rc mp tfp : BitVec 32), Begins was sender hdr
    (pktMlsCtxCreate profile src dest index hostMib target ceil rc mp tfp) →
    ∀ i, s.freeCodec = some i →
    let gen := s.get .MLS_C_CFG_GENERATION i % 255 + 1
    let cfg := gen * 2 ^ 24 + profile * 2 ^ 22 + src * 2 ^ 19 + dest * 2 ^ 17 + index * 2 ^ 14
    let s := s.wr .MLS_C_CFG cfg i
    let s := (codecRegs.zip [target, ceil, rc, mp, tfp]).foldl (fun s (r, w) => s.writeWord none r w.toNat i 0) s
    let s := ((s.wr .MLS_C_BUCKET 0 i).wr .MLS_C_LAST 0 i).wr .MLS_C_STAT 0 i
    let s := s.setCodec i { hostMib := if dest = 3 then hostMib else 0 }
    let s := s.allocate (.codec i) (s.codecBytes profile src hostMib mp.toNat)
    let s := if s.mls.resident.length < 16 then
        { s with mls := { s.mls with resident := s.mls.resident ++ [i] } } else s
    Ends was hdr (.mlsCtxCreate hdr profile src dest index hostMib target ceil rc mp tfp) 0x0902 (.values [handleOf gen i])
      s.showCodecs) ∧
  (∀ (handle : Nat) (target ceil rc mp tfp : BitVec 32), Begins was sender hdr (pktMlsCtxSet handle target ceil rc mp tfp) →
    ∀ i, s.codecOf handle = some i →
    Ends was hdr (.mlsCtxSet hdr handle target ceil rc mp tfp) 0x0903 .empty (s.writeCodec i [target, ceil, rc, mp, tfp])) ∧
  (∀ (handle : Nat), Begins was sender hdr (pktMlsCtxDelete handle) →
    ∀ i, s.codecOf handle = some i →
    Ends was hdr (.mlsCtxDelete hdr handle) 0x0904 .empty (s.deleteCodec i)) ∧
  (∀ (stream handle : Nat), Begins was sender hdr (pktMlsStreamBind stream handle) →
    Ends was hdr (.mlsStreamBind hdr stream handle) 0x0905 .empty (s.set .MLS_S_CFG_HANDLE handle stream)) ∧
  (∀ (stream : Nat), Begins was sender hdr (pktMlsStreamStart stream) →
    ∀ h, s.bound stream = some h →
    Waits was sender hdr (.mlsStreamStart hdr stream) (pktMlsStreamStart stream) (.codecStart (64 + stream)) (s.startStream stream h)) ∧
  (∀ (stream handle : Nat), Begins was sender hdr (pktMlsSwitch stream handle) →
    ∀ i, s.codecOf handle = some i →
    Waits was sender hdr (.mlsSwitch hdr stream handle) (pktMlsSwitch stream handle) (.codecSwitch stream) (s.switchStream stream i)) ∧
  (∀ (handle ceiling : Nat) (quants : List Nat), Begins was sender hdr (pktMlsPlanSet handle ceiling quants) →
    ∀ i, s.codecOf handle = some i →
    Ends was hdr (.mlsPlanSet hdr handle ceiling quants) 0x0909 .empty
      (s.modCodec i fun c => { c with plans := c.plans ++ [⟨ceiling, quants⟩], lastQueued := ceiling })) ∧
  (∀ (handle : Nat) (rd : ReadArgs), Begins was sender hdr (pktMlsRecordRead handle rd) →
    ∀ i, s.codecOf handle = some i →
    ∀ x, findHeld ((s.codec i).records.map fun r => ⟨r.frame, r.sof, r.raw⟩) rd = some x →
    Ends was hdr (.mlsRecordRead hdr handle rd) 0x090A (.bytes (s.heldBytes x rd)) s) ∧
  (∀ (handle : Nat) (start : Bool), Begins was sender hdr (pktMlsCtxRun handle start) →
    ∀ i, s.codecOf handle = some i →
    start →
    Waits was sender hdr (.mlsCtxRun hdr handle start) (pktMlsCtxRun handle start) (.codecStart i) (s.startRun i)) ∧
  (∀ (handle : Nat) (start : Bool), Begins was sender hdr (pktMlsCtxRun handle start) →
    ∀ i, s.codecOf handle = some i →
    ¬(start) →
    (s.codec i).coding.isEmpty →
    EndsAtOnce was hdr (.mlsCtxRun hdr handle start) 0x090B .empty (s.endRun i)) ∧
  (∀ (handle : Nat) (start : Bool), Begins was sender hdr (pktMlsCtxRun handle start) →
    ∀ i, s.codecOf handle = some i →
    ¬(start) →
    ¬((s.codec i).coding.isEmpty) →
    Waits was sender hdr (.mlsCtxRun hdr handle start) (pktMlsCtxRun handle start) (.codecStop i) (s.stopRun i))

/-- What the decoder packets answer and leave: sessions, their start and stop, feeding, reading and setting (R240 … R255). once the
  packet
begins (it has passed the checks of R65 and nothing holds it up), it ends with the status, the result body and the state named. The
model's own choices in them: when a session is fed is log 28. -/
def Obligations.DecoderPacketsDo : Prop := ∀ (was s : State) (sender : Fin 8) (hdr : Hdr), s = was.taken sender →
  (∀ (handle : Nat), Begins was sender hdr (pktMlsDecInfo handle) →
    let d := handleSlot handle
    Ends was hdr (.mlsDecInfo hdr handle) 0x0910 (.values [s.shadow .MLS_D_CFG d, s.shadow .MLS_D_TIMEOUT d, s.rd .MLS_D_LAST d, s.rd
      .MLS_D_CONC d,
      s.rd .MLS_D_ERR0 d, s.rd .MLS_D_ERR1 d]) s) ∧
  (∀ (owner source srcIndex profile cols rows slots ring inMib rate conceal timeout : Nat), Begins was sender hdr
    (pktMlsDecCreate owner source srcIndex profile cols rows slots ring inMib rate conceal timeout) →
    ∀ d, s.freeDec = some d →
    let gen := s.get .MLS_D_CFG_GENERATION d % 255 + 1
    let cfg := source * 2 ^ 29 + (if source = 0 then 0 else srcIndex) * 2 ^ 26 + profile * 2 ^ 24 + ring * 2 ^ 23 + conceal * 2 ^ 22 + slots * 2 ^ 17 + gen * 256
    let s := (s.wr .MLS_D_CFG cfg d).wr .MLS_D_TIMEOUT timeout d
    let s := (((s.wr .MLS_D_LAST 0 d).wr .MLS_D_CONC 0 d).wr .MLS_D_ERR0 0 d).wr .MLS_D_ERR1 0 d
    let s := s.setDec d { owner := owner, cols := cols, rows := rows, inMib := inMib, rate := rate }
    let s := s.allocate (.dec d) (decPool profile cols rows slots source inMib)
    Ends was hdr (.mlsDecCreate hdr owner source srcIndex profile cols rows slots ring inMib rate conceal timeout) 0x0911
      (.values [handleOf gen d, cols * rows * decPixelBytes profile]) s) ∧
  (∀ (handle : Nat), Begins was sender hdr (pktMlsDecStart handle) →
    ∀ d, s.decOf handle = some d →
    Ends was hdr (.mlsDecStart hdr handle) 0x0912 .empty (s.startDec d)) ∧
  (∀ (handle : Nat), Begins was sender hdr (pktMlsDecStop handle) →
    ∀ d, s.decOf handle = some d →
    EndsAtOnce was hdr (.mlsDecStop hdr handle) 0x0913 .empty (s.stopDec d)) ∧
  (∀ (handle : Nat), Begins was sender hdr (pktMlsDecDelete handle) →
    ∀ d, s.decOf handle = some d →
    Ends was hdr (.mlsDecDelete hdr handle) 0x0914 .empty (s.deleteDec d)) ∧
  (∀ (handle count tag : Nat) (data : List Byte), Begins was sender hdr (pktMlsDecFeed handle count tag data) →
    ∀ d, s.decOf handle = some d →
    let s := s.modDec d fun k => { k with
      tags := k.tags ++ [(k.taken + k.input.length, tag)], input := k.input ++ data.take count }
    Ends was hdr (.mlsDecFeed hdr handle count tag data) 0x0915 (.values [s.inputFree d]) s) ∧
  (∀ (handle : Nat) (rd : ReadArgs), Begins was sender hdr (pktMlsDecRead handle rd) →
    ∀ d, s.decOf handle = some d →
    ∀ x, findHeld ((s.dec d).ring.reverse.map fun f =>
      ⟨f.frame, f.tag, f.bytes (s.get .MLS_D_CFG_PROFILE d) (s.dec d).cols (s.dec d).rows⟩) rd = some x →
    Ends was hdr (.mlsDecRead hdr handle rd) 0x0916 (.bytes (s.heldBytes x rd)) s) ∧
  (∀ (handle : Nat) (rd : ReadArgs), Begins was sender hdr (pktMlsDecRecordRead handle rd) →
    ∀ d, s.decOf handle = some d →
    ∀ x, findHeld (s.dec d).records rd = some x →
    Ends was hdr (.mlsDecRecordRead hdr handle rd) 0x0917 (.bytes (s.heldBytes x rd)) s) ∧
  (∀ (handle conceal timeout : Nat), Begins was sender hdr (pktMlsDecSet handle conceal timeout) →
    ∀ d, s.decOf handle = some d →
    let cfg := withBits (s.shadow .MLS_D_CFG d) 22 22 conceal
    Ends was hdr (.mlsDecSet hdr handle conceal timeout) 0x0918 .empty
      ((s.shadowWr (.dec d) .MLS_D_CFG cfg d).shadowWr (.dec d) .MLS_D_TIMEOUT timeout d))

/-- What the recording packets answer and leave: stopping a stream, formatting and ejecting magazines, takes from preparing to
  deletion, the
ceiling and playback (R230, R256 … R285). once the packet begins (it has passed the checks of R65 and nothing holds it up), it ends with
the status, the result body and the state named. The model's own choices in them: the take slot is log 55, playback log 57, closing log
30. -/
def Obligations.RecordingPacketsDo : Prop := ∀ (was s : State) (sender : Fin 8) (hdr : Hdr), s = was.taken sender →
  (∀ (stream : Nat), Begins was sender hdr (pktMlsStreamStop stream) →
    let s := ((s.stopStreamTakes stream).stopStream stream).settleTakes
    s.streamOn stream →
    Waits was sender hdr (.mlsStreamStop hdr stream) (pktMlsStreamStop stream) (.codecStop (64 + stream)) s) ∧
  (∀ (stream : Nat), Begins was sender hdr (pktMlsStreamStop stream) →
    let s := ((s.stopStreamTakes stream).stopStream stream).settleTakes
    ¬(s.streamOn stream) →
    EndsAtOnce was hdr (.mlsStreamStop hdr stream) 0x0907 .empty s) ∧
  (∀ (isStream : Bool) (index : Nat), Begins was sender hdr (pktMedInfo isStream index) →
    Ends was hdr (.medInfo hdr isStream index) 0x0A01 (.values (if isStream then
      [.MED_S_TAKE, .MED_S_COMMIT, .MED_S_FRAMES, .MED_S_STAT].map fun r => s.rd r index
    else [.MED_M_STATE, .MED_M_POOL, .MED_M_USER, .MED_M_CEIL, .MED_M_CEIL_MAX, .MED_M_PENDING, .MED_M_PEAK, .MED_M_WEAR, .MED_M_POWER,
      .MED_M_CH].map fun r => s.rd r index)) s) ∧
  (∀ (mag : Nat) (spare : Option Nat), Begins was sender hdr (pktMedMagFormat mag spare) →
    Waits was sender hdr (.medMagFormat hdr mag spare) (pktMedMagFormat mag spare) (.format mag)
      (s.modMag mag fun k => { k with format := some (spare.getD 30) })) ∧
  (∀ (mag : Nat), Begins was sender hdr (pktMedMagEject mag) →
    let s := s.modMag mag fun k => { k with ejecting := true };
    (s.magz mag).quiet →
    EndsAtOnce was hdr (.medMagEject hdr mag) 0x0A03 .empty (s.settleEject mag)) ∧
  (∀ (mag : Nat), Begins was sender hdr (pktMedMagEject mag) →
    let s := s.modMag mag fun k => { k with ejecting := true }
    ¬((s.magz mag).quiet) →
    Waits was sender hdr (.medMagEject hdr mag) (pktMedMagEject mag) (.eject mag) s) ∧
  (∀ (stream primary secondary : Nat) (takeId metadata : List Byte), Begins was sender hdr
    (pktMedTakePrepare stream primary secondary takeId metadata) →
    ∀ t, s.freeTakeSlot = some t →
    let ms := prepMags primary secondary
    let sides := ms.map fun m => ({ mag := m, entry := (s.freeEntry m).getD 0 } : Side)
    let gen := (s.take t).gen % 255 + 1
    let s := s.setTake t { gen := gen, state := 1, stream := stream, primary := primary
                           secondary := if secondary = 0xFF then none else some secondary
                           sides := sides, takeId := takeId, metadata := metadata }
    let s := ms.foldl State.wake s
    let s := ((s.set .MED_S_TAKE_HANDLE (handleOf gen t) stream).set .MED_S_FRAMES_COUNT 0 stream).set .MED_S_COMMIT_FRAME 0 stream
    Ends was hdr (.medTakePrepare hdr stream primary secondary takeId metadata) 0x0A04
      (.values [handleOf gen t, (sides.headD { mag := 0, entry := 0 }).entry]) (s.showTake t)) ∧
  (∀ (handle : Nat), Begins was sender hdr (pktMedTakeStart handle) →
    ∀ t, s.takeOf handle = some t →
    Waits was sender hdr (.medTakeStart hdr handle) (pktMedTakeStart handle) (.takeOpen t) (s.startTake t)) ∧
  (∀ (handle : Nat), Begins was sender hdr (pktMedTakeStop handle) →
    ∀ t, s.takeOf handle = some t →
    Waits was sender hdr (.medTakeStop hdr handle) (pktMedTakeStop handle) (.takeClosed t) (s.closeTake t 1)) ∧
  (∀ (handle code : Nat), Begins was sender hdr (pktMedTakeMark handle code) →
    ∀ t, s.takeOf handle = some t →
    Ends was hdr (.medTakeMark hdr handle code) 0x0A07 (.values [s.lastBegun (s.take t).stream]) (s.mark t code)) ∧
  (∀ (mag first count : Nat), Begins was sender hdr (pktMedTakeList mag first count) →
    Ends was hdr (.medTakeList hdr mag first count) 0x0A08 (.bytes
      ((List.range count).flatMap fun i => ((s.magz mag).dirBytes (first + i)).take 64)) s) ∧
  (∀ (mag entry seq off len : Nat), Begins was sender hdr (pktMedTakeRead mag entry seq off len) →
    ∀ n after bs bad, s.draw = (n, after) →
    (after.magz mag).fetch n ((after.magz mag).sequence entry seq).1 off len = (bs, bad) →
    EndsWith was hdr (.medTakeRead hdr mag entry seq off len) 0x0A09 (if bad then .MED_READ_ERROR else .DONE) (.bytes bs) after) ∧
  (∀ (mag entry : Nat), Begins was sender hdr (pktMedTakeDelete mag entry) →
    let d := (s.magz mag).dir entry
    let gs := runList d.essence ++ runList d.index
    ∀ n after, s.draw = (n, after) →
    let s := after.modMag mag fun k => ((k.place n (freeDir.piece entry)).getD k).putDir entry freeDir
    Ends was hdr (.medTakeDelete hdr mag entry) 0x0A0A .empty (s.journal mag (gs.map fun g => .map g unmapped))) ∧
  (∀ (mag ceil : Nat), Begins was sender hdr (pktMedCeilSet mag ceil) →
    Ends was hdr (.medCeilSet hdr mag ceil) 0x0A0B .empty ((s.set .MED_M_CEIL_CEIL ceil mag).showPending mag)) ∧
  (∀ (session mag entry first : Nat), Begins was sender hdr (pktMedPlay session mag entry first) →
    ∀ d, s.decOf session = some d →
    let m := s.magz mag
    let i := ((m.frameEntries (m.dir entry)).takeWhile fun e => decide (unle (slice e 4 4) < first)).length
    Ends was hdr (.medPlay hdr session mag entry first) 0x0A0C .empty (s.modDec d fun k => { k with play := some (mag, entry, i) }))

/-- What the media channel packets answer and leave: tasks through MED_TASK, the queue reset, completion settings, storage target mode
  and
buffers (R286 … R305). once the packet begins (it has passed the checks of R65 and nothing holds it up), it ends with the status, the
result body and the state named. The model's own choices in them: the body of IDENTIFY is log 61, discarded writes log 54. -/
def Obligations.MediaChannelPacketsDo : Prop := ∀ (was s : State) (sender : Fin 8) (hdr : Hdr), s = was.taken sender →
  (∀ (cmd lba count bufLo bufHi : BitVec 32), Begins was sender hdr (pktMedTask cmd lba count bufLo bufHi) →
    let s := ([.MED_T_CMD, .MED_T_LBA, .MED_T_COUNT, .MED_T_BUF_LO, .MED_T_BUF_HI].zip [cmd, lba, count, bufLo, bufHi]).foldl
      (fun s (r, w) => s.writeWord none r w.toNat sender.val 0) s
    ∀ st t, s.submit sender.val = (st, t) →
    st ≠ .DONE →
    Refuses was hdr (.medTask hdr cmd lba count bufLo bufHi) 0x0A10 st t) ∧
  (∀ (cmd lba count bufLo bufHi : BitVec 32), Begins was sender hdr (pktMedTask cmd lba count bufLo bufHi) →
    let s := ([.MED_T_CMD, .MED_T_LBA, .MED_T_COUNT, .MED_T_BUF_LO, .MED_T_BUF_HI].zip [cmd, lba, count, bufLo, bufHi]).foldl
      (fun s (r, w) => s.writeWord none r w.toNat sender.val 0) s
    ∀ st t, s.submit sender.val = (st, t) →
    st = .DONE →
    t.flag .MED_T_STAT_BUSY sender.val →
    Waits was sender hdr (.medTask hdr cmd lba count bufLo bufHi) (pktMedTask cmd lba count bufLo bufHi) (.taskAccept sender.val) t) ∧
  (∀ (cmd lba count bufLo bufHi : BitVec 32), Begins was sender hdr (pktMedTask cmd lba count bufLo bufHi) →
    let s := ([.MED_T_CMD, .MED_T_LBA, .MED_T_COUNT, .MED_T_BUF_LO, .MED_T_BUF_HI].zip [cmd, lba, count, bufLo, bufHi]).foldl
      (fun s (r, w) => s.writeWord none r w.toNat sender.val 0) s
    ∀ st t, s.submit sender.val = (st, t) →
    st = .DONE →
    ¬(t.flag .MED_T_STAT_BUSY sender.val) →
    Ends was hdr (.medTask hdr cmd lba count bufLo bufHi) 0x0A10 (.values [t.now]) t) ∧
  (∀ (mag all : Nat), Begins was sender hdr (pktMedQueueReset mag all) →
    ∀ t c d, s.resetQueue (sender.val) mag (all == 1) = (t, c, d) →
    Ends was hdr (.medQueueReset hdr mag all) 0x0A11 (.values [t.now, c, d]) t) ∧
  (∀ (base : Nat), Begins was sender hdr (pktMedCqSet base) →
    let pcie := s.get .CPI_SLOT_STATE_TRANSPORT sender.val == 1
    let at_ := if pcie then base else Config.moduleAddr 2 sender.val
    let s := s.setHost sender.val { s.host sender.val with cqSet := true, completions := [] }
    let s := ((s.wr64 .MED_T_CQ_BASE_LO .MED_T_CQ_BASE_HI at_ sender.val).wr .MED_T_CQ_TAIL 0 sender.val).wr .MED_T_CQ_HEAD 0 sender.val
    Ends was hdr (.medCqSet hdr base) 0x0A12 (if pcie then .empty else .values [at_]) s) ∧
  (∀ (mag on : Nat), Begins was sender hdr (pktMedMagTarget mag on) →
    Ends was hdr (.medMagTarget hdr mag on) 0x0A13 .empty
      ((s.modMag mag fun k => { k with label := k.label.map fun l => { l with target := on == 1 } }).set .MED_M_POWER_TARGET_MODE on mag)) ∧
  (∀ (size : Nat), Begins was sender hdr (pktMedBufAlloc size) →
    let s := (s.allocate (.buffer sender.val) (size * mib)).setHost sender.val { s.host sender.val with bufMib := size }
    Ends was hdr (.medBufAlloc hdr size) 0x0A14 (.values (if size = 0 then [] else [Config.moduleAddr 3 sender.val])) s)

/-- What the memory packets answer and leave: requester ports, margins, training, order, the memory test and the diagnostics
  (R306 … R323).
once the packet begins (it has passed the checks of R65 and nothing holds it up), it ends with the status, the result body and the state
named. The model's own choices in them: a port without trump is log 62, raw words log 63. -/
def Obligations.MemoryPacketsDo : Prop := ∀ (was s : State) (sender : Fin 8) (hdr : Hdr), s = was.taken sender →
  (Begins was sender hdr pktMemInfo →
    Ends was hdr (.memInfo hdr) 0x0B01 (.values ([s.rd .MEM_STATUS, s.rd .MEM_ECC, s.rd .MEM_MARGIN] ++
    (List.range 24).map fun p => s.rd .MEM_P_STAT p)) s) ∧
  (∀ (port : Nat) (cfg : BitVec 32), Begins was sender hdr (pktMemPortSet port cfg) →
    Ends was hdr (.memPortSet hdr port cfg) 0x0B02 .empty (s.writeWord none .MEM_P_CFG (portCfg port cfg.toNat) port 0)) ∧
  (∀ (stack : Nat), Begins was sender hdr (pktMemMargin stack) →
    Waits was sender hdr (.memMargin hdr stack) (pktMemMargin stack) (.margin stack)
      { s with mem := { s.mem with measuring := s.mem.measuring ++ [stack] } }) ∧
  (∀ (stack : Nat), Begins was sender hdr (pktMemMarginRead stack) →
    Ends was hdr (.memMarginRead hdr stack) 0x0B04 (.values (tgetD
      (if stack = 0 then s.store.trained.widths0 else s.store.trained.widths1) s.mem.widths stack)) s) ∧
  (∀ (stack : Nat), Begins was sender hdr (pktMemTrainRead stack) →
    let t := s.store.trained
    Ends was hdr (.memTrainRead hdr stack) 0x0B05 (.values (slice t.delays (stack * 256) 256 ++
      (if stack = 0 then t.widths0 else t.widths1) ++
      t.repaired.filter fun l => l / 128 == stack)) s) ∧
  (∀ (tx5 : Nat), Begins was sender hdr (pktMemOrderSet tx5) →
    Ends was hdr (.memOrderSet hdr tx5) 0x0B06 .empty { s with store := { s.store with order := tx5 } }) ∧
  (∀ (pattern mask : Nat), Begins was sender hdr (pktMemTest pattern mask) →
    Waits was sender hdr (.memTest hdr pattern mask) (pktMemTest pattern mask) .memTest
      { s.set .MEM_STATUS_PHASE memTest with mem := { s.mem with testing := mask } }) ∧
  (∀ (retry : Bool) (addr count pc : Nat), Begins was sender hdr (pktMemDiagRead retry addr count pc) →
    ∀ n t, s.draw = (n, t) →
    Ends was hdr (.memDiagRead hdr retry addr count pc) 0x0B08 (.values (if retry then (List.range 32).map (Config.retryEntry n pc) else
      (List.range count).map fun i => Config.hbmWord n (addr + 32 * i))) t)

/-- What the serial lane and Draxa Link packets answer and leave: quads, links, Ethernet interfaces, magazine mapping, partners, PRBS,
  figures
of merit and link resets (R324 … R347). once the packet begins (it has passed the checks of R65 and nothing holds it up), it ends with
  the
status, the result body and the state named. The model's own choices in them: figures of merit and PRBS results are log 65, a pattern
above 2 log 67. -/
def Obligations.LinkPacketsDo : Prop := ∀ (was s : State) (sender : Fin 8) (hdr : Hdr), s = was.taken sender →
  (∀ (kind index : Nat), Begins was sender hdr (pktLnkInfo kind index) →
    Ends was hdr (.lnkInfo hdr kind index) 0x0C01 (.values (match kind with
    | 0 => [s.rd .LNK_Q_CFG index, s.rd .LNK_Q_STAT index]
    | 1 => [s.rd .LNK_D_CFG index, s.rd .LNK_D_STAT index, s.rd .LNK_D_ERR index] ++
        (List.range 4).map fun j => s.rd .LNK_D_SERIAL index j
    | _ => [s.rd .LNK_E_CFG index, s.rd .LNK_E_STAT index])) s) ∧
  (∀ (quad : Nat) (cfg : BitVec 32) (persist : Nat), Begins was sender hdr (pktLnkQuadConfig quad cfg persist) →
    let s := s.applyQuad quad cfg.toNat
    Ends was hdr (.lnkQuadConfig hdr quad cfg persist) 0x0C02 .empty (if persist = 1 then s.persistQuad quad else s)) ∧
  (∀ (link : Nat) (cfg : BitVec 32), Begins was sender hdr (pktLnkDrxConfig link cfg) →
    Ends was hdr (.lnkDrxConfig hdr link cfg) 0x0C03 .empty (s.applyDrx link cfg.toNat)) ∧
  (∀ (eth : Nat) (cfg : BitVec 32), Begins was sender hdr (pktLnkEthConfig eth cfg) →
    Ends was hdr (.lnkEthConfig hdr eth cfg) 0x0C04 .empty (s.writeWord none .LNK_E_CFG cfg.toNat eth 0)) ∧
  (∀ (mag link : Nat), Begins was sender hdr (pktLnkMagMap mag link) →
    Ends was hdr (.lnkMagMap hdr mag link) 0x0C05 .empty (s.wr .LNK_MAG
      (withBits (s.rd .LNK_MAG) (8 * mag + 7) (8 * mag) (if link = 0xFF then 0 else 128 + link)))) ∧
  (∀ (link : Nat), Begins was sender hdr (pktLnkPartnerRead link) →
    Ends was hdr (.lnkPartnerRead hdr link) 0x0C06 (.bytes ((s.link link).pages.flatMap (·.2))) s) ∧
  (∀ (quad start pattern : Nat), Begins was sender hdr (pktLnkPrbs quad start pattern) →
    Ends was hdr (.lnkPrbs hdr quad start pattern) 0x0C07 .empty (if start = 1 then s.prbsStart quad else s.prbsStop quad)) ∧
  (∀ (quad : Nat), Begins was sender hdr (pktLnkFomRead quad) →
    Ends was hdr (.lnkFomRead hdr quad) 0x0C08 (.values ((lanesOf (quad * 4) 4).map fun l => s.rd .LNK_L_FOM l)) s) ∧
  (∀ (link : Nat), Begins was sender hdr (pktLnkLinkReset link) →
    Ends was hdr (.lnkLinkReset hdr link) 0x0C09 .empty (s.linkDown link))

/-- What the video output packets answer and leave: configuration, starting and stopping, sources, scaling, overlays, text, audio and
  IP (R348
… R366). once the packet begins (it has passed the checks of R65 and nothing holds it up), it ends with the status, the result body and
the state named. The model's own choices in them: the free drawing values are log 69, starting and stopping log 33. -/
def Obligations.OutputPacketsDo : Prop := ∀ (was s : State) (sender : Fin 8) (hdr : Hdr), s = was.taken sender →
  (∀ (out : Nat), Begins was sender hdr (pktOutInfo out) →
    let regs : List Reg := [.OUT_O_CFG, .OUT_O_SRC, .OUT_O_CROP0, .OUT_O_CROP1, .OUT_O_DEST0, .OUT_O_DEST1, .OUT_O_FILL, .OUT_O_OVL,
      .OUT_O_AUD, .OUT_O_LAT, .OUT_O_SHOWN, .OUT_O_STAT, .OUT_O_STAT2]
    let k := s.output out
    Ends was hdr (.outInfo hdr out) 0x0D01 (.values (regs.map (fun r => s.shadow r out) ++ k.thresholds ++
      (List.range 4).flatMap fun l => (tgetD [] k.text l).map (·.toNat))) s) ∧
  (∀ (out : Nat) (cfg lat : BitVec 32), Begins was sender hdr (pktOutConfig out cfg lat) →
    Ends was hdr (.outConfig hdr out cfg lat) 0x0D02 (.values [outPool cfg.toNat]) (s.configOut out cfg.toNat lat.toNat)) ∧
  (∀ (out : Nat), Begins was sender hdr (pktOutStart out) →
    let s := s.startOutput out
    Ends was hdr (.outStart hdr out) 0x0D03 .empty (match s.outCodec out with
      | some h => if s.flag .OUT_O_CFG_COMPRESSED out then
          (s.setOutput out { s.output out with sent := 0 }).startRun h else s
      | none => s)) ∧
  (∀ (out : Nat), Begins was sender hdr (pktOutStop out) →
    !s.outRunning out →
    EndsAtOnce was hdr (.outStop hdr out) 0x0D04 .empty s) ∧
  (∀ (out : Nat), Begins was sender hdr (pktOutStop out) →
    s.outRunning out →
    (s.output out).lastRef.isNone ∨ s.flushing →
    EndsAtOnce was hdr (.outStop hdr out) 0x0D04 .empty (s.stopOutput out)) ∧
  (∀ (out : Nat), Begins was sender hdr (pktOutStop out) →
    s.outRunning out →
    ¬((s.output out).lastRef.isNone ∨ s.flushing) →
    Waits was sender hdr (.outStop hdr out) (pktOutStop out) (.outStop out)
      (s.setOutput out { s.output out with stopPending := true })) ∧
  (∀ (out : Nat) (src : BitVec 32), Begins was sender hdr (pktOutSourceSet out src) →
    let t := s.writeWord (s.outUnit out) .OUT_O_SRC src.toNat out 0
    s.outRunning out →
    Waits was sender hdr (.outSourceSet hdr out src) (pktOutSourceSet out src) (.outSource out s.now) t) ∧
  (∀ (out : Nat) (src : BitVec 32), Begins was sender hdr (pktOutSourceSet out src) →
    let t := s.writeWord (s.outUnit out) .OUT_O_SRC src.toNat out 0
    ¬(s.outRunning out) →
    Ends was hdr (.outSourceSet hdr out src) 0x0D05 .empty t) ∧
  (∀ (out : Nat) (crop0 crop1 dest0 dest1 fill : BitVec 32), Begins was sender hdr (pktOutScaleSet out crop0 crop1 dest0 dest1 fill) →
    let u := s.outUnit out
    let s := (s.writeWord u .OUT_O_CROP0 crop0.toNat out 0).writeWord u .OUT_O_CROP1 crop1.toNat out 0
    let s := (s.writeWord u .OUT_O_DEST0 dest0.toNat out 0).writeWord u .OUT_O_DEST1 dest1.toNat out 0
    Ends was hdr (.outScaleSet hdr out crop0 crop1 dest0 dest1 fill) 0x0D06 .empty (s.writeWord u .OUT_O_FILL fill.toNat out 0)) ∧
  (∀ (out : Nat) (ovl : BitVec 32) (rects thrs : List Nat), Begins was sender hdr (pktOutOverlaySet out ovl rects thrs) →
    let s := s.writeWord (s.outUnit out) .OUT_O_OVL ovl.toNat out 0
    Ends was hdr (.outOverlaySet hdr out ovl rects thrs) 0x0D07 .empty
      (s.setOutput out { s.output out with rects := rects, thresholds := thrs })) ∧
  (∀ (out line : Nat) (text : List Byte), Begins was sender hdr (pktOutTextSet out line text) →
    Ends was hdr (.outTextSet hdr out line text) 0x0D08 .empty
      (s.setOutput out { s.output out with text := tput [] (s.output out).text line text })) ∧
  (∀ (out : Nat) (aud : BitVec 32) (map : List Nat), Begins was sender hdr (pktOutAudioSet out aud map) →
    let s := s.writeWord (s.outUnit out) .OUT_O_AUD aud.toNat out 0
    Ends was hdr (.outAudioSet hdr out aud map) 0x0D09 .empty (s.setOutput out { s.output out with audioMap := map })) ∧
  (∀ (out : Nat) (settings : List Byte), Begins was sender hdr (pktOutIpSet out settings) →
    Ends was hdr (.outIpSet hdr out settings) 0x0D0A .empty (s.setOutput out { s.output out with ip := settings })) ∧
  (∀ (out : Nat), Begins was sender hdr (pktOutSdpRead out) →
    Ends was hdr (.outSdpRead hdr out) 0x0D0B (.bytes (Config.sdp (BitVec.ofNat 32 (s.rd .OUT_O_CFG out)) (s.output out).ip)) s)

/-- What the audio packets answer and leave: configuration, masks, starting and stopping, reading and writing (R367 … R383). once the
  packet
begins (it has passed the checks of R65 and nothing holds it up), it ends with the status, the result body and the state named. The
model's own choices in them: the reply to AUD_MASK_SET is log 70. -/
def Obligations.AudioPacketsDo : Prop := ∀ (was s : State) (sender : Fin 8) (hdr : Hdr), s = was.taken sender →
  (∀ (port : Nat), Begins was sender hdr (pktAudInfo port) →
    let one : List Reg := [.AUD_P_STAT, .AUD_P_FILLED, .AUD_P_SAMPLE_LO, .AUD_P_SAMPLE_HI, .AUD_P_START_LO, .AUD_P_START_HI,
      .AUD_P_CAP_WR_LO, .AUD_P_CAP_WR_HI, .AUD_P_PLAY_RD_LO, .AUD_P_PLAY_RD_HI, .AUD_P_PLAY_WR_LO, .AUD_P_PLAY_WR_HI, .AUD_P_RING]
    Ends was hdr (.audInfo hdr port) 0x0E01 (.values ([s.rd .AUD_P_CFG port, s.rd .AUD_P_FMT port] ++ (List.range 4).map
      (fun j => s.shadow .AUD_P_MASK port j) ++
      one.map fun r => s.rd r port)) s) ∧
  (∀ (port : Nat) (cfg fmt : BitVec 32) (cap play : Nat), Begins was sender hdr (pktAudConfig port cfg fmt cap play) →
    Ends was hdr (.audConfig hdr port cfg fmt cap play) 0x0E02 .empty (s.configAud port cfg.toNat fmt.toNat cap play)) ∧
  (∀ (port : Nat) (m0 m1 m2 m3 : BitVec 32), Begins was sender hdr (pktAudMaskSet port m0 m1 m2 m3) →
    let ms := [m0, m1, m2, m3].zipIdx
    s.audState port = audStopped →
    let s := ms.foldl (fun s (m, j) => s.writeWord none .AUD_P_MASK m.toNat port j) s
    Ends was hdr (.audMaskSet hdr port m0 m1 m2 m3) 0x0E03 (s.maskReply port) s) ∧
  (∀ (port : Nat) (m0 m1 m2 m3 : BitVec 32), Begins was sender hdr (pktAudMaskSet port m0 m1 m2 m3) →
    let ms := [m0, m1, m2, m3].zipIdx
    ¬(s.audState port = audStopped) →
    Waits was sender hdr (.audMaskSet hdr port m0 m1 m2 m3) (pktAudMaskSet port m0 m1 m2 m3) (.audMask port s.now)
      (ms.foldl (fun s (m, j) => s.shadowWr (.aud port) .AUD_P_MASK m.toNat port j) s)) ∧
  (∀ (mask time : Nat), Begins was sender hdr (pktAudStart mask time) →
    let ps := bitList 16 mask
    let starts := ps.map fun p => time - s.audLead p
    let s := (ps.zip starts).foldl (fun s (p, t) =>
      (s.enqueue (58 + p) (newEntry (plainEntry t 0x60 0) sender.val s.now none)).enqueue (58 + p)
        (newEntry (plainEntry time 0x61 0) sender.val s.now none)) s
    Ends was hdr (.audStart hdr mask time) 0x0E04 (.values starts) s) ∧
  (∀ (mask : Nat), Begins was sender hdr (pktAudStop mask) →
    let live := (bitList 16 mask).filter fun p => s.audState p != audStopped
    live.isEmpty →
    EndsAtOnce was hdr (.audStop hdr mask) 0x0E05 .empty s) ∧
  (∀ (mask : Nat), Begins was sender hdr (pktAudStop mask) →
    let live := (bitList 16 mask).filter fun p => s.audState p != audStopped
    ¬(live.isEmpty) →
    Waits was sender hdr (.audStop hdr mask) (pktAudStop mask) (.audStop mask) (live.foldl (fun s p =>
      s.modPort p fun a => { a with dataStop := s.audState p == audRunning, clockStop := true, dataStart := none }) s)) ∧
  (∀ (port pos len : Nat), Begins was sender hdr (pktAudRead port pos len) →
    let b := (s.port port).capture
    Ends was hdr (.audRead hdr port pos len) 0x0E06 (.bytes (s.fromHbm (slice b (pos - (s.audCap port - b.length)) len))) s) ∧
  (∀ (port count : Nat) (data : List Byte), Begins was sender hdr (pktAudWrite port count data) →
    let wr := s.playWr port
    let s := s.wr64 .AUD_P_PLAY_WR_LO .AUD_P_PLAY_WR_HI (wr + count) port
    let b := s.fromHbm (data.take count)
    Ends was hdr (.audWrite hdr port count data) 0x0E07 (.values [wr]) (s.modPort port fun a => { a with
      playback := (b.zipIdx).foldl (fun t e => tins e.1 t (wr + e.2)) a.playback }))

/-- What the event fabric packets answer and leave: channels, enables, trick cells, pins, sources, quench and the storm limit
  (R384 … R396).
once the packet begins (it has passed the checks of R65 and nothing holds it up), it ends with the status, the result body and the state
named. The model's own choices in them: an unmapped source is log 34. -/
def Obligations.EventFabricPacketsDo : Prop := ∀ (was s : State) (sender : Fin 8) (hdr : Hdr), s = was.taken sender →
  (∀ (kind index : Nat), Begins was sender hdr (pktEvfInfo kind index) →
    Ends was hdr (.evfInfo hdr kind index) 0x0F01 (.values (match kind with
    | 0 => [s.rd .EVF_CH_CFG index, s.rd .EVF_CH_CEIL index, s.rd .EVF_CH_STAT index] ++
        (List.range 16).map fun w => s.rd .EVF_EN index w
    | 1 => [s.rd .EVF_CELL_CFG index, s.rd .EVF_CELL_IN index, s.rd .EVF_CELL_STAT index]
    | 2 => [s.rd .EVF_PIN index]
    | 3 => [s.rd .EVF_T_STAT index]
    | _ => [s.rd .EVF_SRC index])) s) ∧
  (∀ (chan consumer spacing ceiling : Nat), Begins was sender hdr (pktEvfChannelSet chan consumer spacing ceiling) →
    let s := (s.set .EVF_CH_CFG_CONSUMER consumer chan).set .EVF_CH_CFG_SPACING spacing chan
    Ends was hdr (.evfChannelSet hdr chan consumer spacing ceiling) 0x0F02 .empty (s.set .EVF_CH_CEIL_CEILING ceiling chan)) ∧
  (∀ (chan enable : Nat) (producers : List Nat), Begins was sender hdr (pktEvfEnableSet chan enable producers) →
    Ends was hdr (.evfEnableSet hdr chan enable producers) 0x0F03 .empty (s.enableProducers chan (enable == 1) producers)) ∧
  (∀ (cell : Nat) (cfg ins : BitVec 32), Begins was sender hdr (pktEvfCellSet cell cfg ins) →
    Ends was hdr (.evfCellSet hdr cell cfg ins) 0x0F04 .empty (s.applyCell cell cfg.toNat ins.toNat)) ∧
  (∀ (pin : Nat) (cfg : BitVec 32), Begins was sender hdr (pktEvfPinSet pin cfg) →
    Ends was hdr (.evfPinSet hdr pin cfg) 0x0F05 .empty (s.applyPin pin cfg.toNat)) ∧
  (∀ (source : Nat), Begins was sender hdr (pktEvfSourceSet source) →
    ∀ u, s.sourceSlot source = some u →
    Ends was hdr (.evfSourceSet hdr source) 0x0F06 (.values [u]) s) ∧
  (∀ (source : Nat), Begins was sender hdr (pktEvfSourceSet source) →
    s.sourceSlot source = none →
    ∀ u, ((List.range 96).find? fun u => !s.flag .EVF_SRC_VALID u) = some u →
    Ends was hdr (.evfSourceSet hdr source) 0x0F06 (.values [u]) (s.wr .EVF_SRC (2 ^ 31 + source) u)) ∧
  (∀ (source : Nat), Begins was sender hdr (pktEvfSourceClear source) →
    s.sourceSlot source = none →
    Ends was hdr (.evfSourceClear hdr source) 0x0F07 .empty s) ∧
  (∀ (source : Nat), Begins was sender hdr (pktEvfSourceClear source) →
    ∀ u, s.sourceSlot source = some u →
    Ends was hdr (.evfSourceClear hdr source) 0x0F07 .empty ((List.range 256).foldl (fun s ch =>
    if s.producerOn ch (416 + u) then s.enableProducers ch false [416 + u] else s) (s.wr .EVF_SRC 0 u))) ∧
  (∀ (chan : Nat), Begins was sender hdr (pktEvfUnquench chan) →
    Ends was hdr (.evfUnquench hdr chan) 0x0F08 .empty (s.set .EVF_CH_CFG_QUENCHED 0 chan)) ∧
  (∀ (period : Nat), Begins was sender hdr (pktEvfStormSet period) →
    Ends was hdr (.evfStormSet hdr period) 0x0F09 .empty (s.wr .EVF_STORM period))

/-- What the position trigger packets answer and leave: encoders, firing engines, strobes and firing tables (R397 … R411). once the
  packet
begins (it has passed the checks of R65 and nothing holds it up), it ends with the status, the result body and the state named. The
model's own choices in them: arming and disarming are log 35. -/
def Obligations.PositionTriggerPacketsDo : Prop := ∀ (was s : State) (sender : Fin 8) (hdr : Hdr), s = was.taken sender →
  (∀ (kind index : Nat), Begins was sender hdr (pktPtuInfo kind index) →
    let regs := fun (l : List Reg) => l.map fun r => s.shadow r index
    Ends was hdr (.ptuInfo hdr kind index) 0x1001 (.values (match kind with
      | 0 => regs [.PTU_ENC_CFG, .PTU_ENC_COUNT_LO, .PTU_ENC_COUNT_HI, .PTU_ENC_IDX_LO, .PTU_ENC_IDX_HI, .PTU_ENC_STAT]
      | 1 => regs [.PTU_E_CFG, .PTU_E_STATE, .PTU_E_POS_LO, .PTU_E_POS_HI, .PTU_E_HWM_LO, .PTU_E_HWM_HI, .PTU_E_PASS, .PTU_E_STAT,
          .PTU_E_FIRED, .PTU_E_OVER_POS_LO, .PTU_E_OVER_POS_HI, .PTU_E_MANUAL]
      | 2 => regs [.PTU_STB_CFG, .PTU_STB_STAT]
      | _ =>
        let k := s.table (handleSlot index)
        [k.engine, k.cluster, k.count, (k.origin % 2 ^ 48).toNat, k.feed, k.passes, k.width, k.minInterval,
          if k.rewind then 1 else 0])) s) ∧
  (∀ (enc : Nat) (cfg : BitVec 32), Begins was sender hdr (pktPtuEncConfig enc cfg) →
    Ends was hdr (.ptuEncConfig hdr enc cfg) 0x1002 .empty (s.writeWord none .PTU_ENC_CFG cfg.toNat enc 0)) ∧
  (∀ (engine : Nat) (cfg manual : BitVec 32), Begins was sender hdr (pktPtuEngineConfig engine cfg manual) →
    Ends was hdr (.ptuEngineConfig hdr engine cfg manual) 0x1003 .empty
      ((s.writeWord (some (.engine engine)) .PTU_E_CFG cfg.toNat engine 0).writeWord none .PTU_E_MANUAL manual.toNat engine 0)) ∧
  (∀ (strobe : Nat) (cfg : BitVec 32), Begins was sender hdr (pktPtuStrobeConfig strobe cfg) →
    Ends was hdr (.ptuStrobeConfig hdr strobe cfg) 0x1004 .empty (s.writeWord none .PTU_STB_CFG cfg.toNat strobe 0)) ∧
  (∀ (engine cluster entries : Nat) (origin : Int) (feed passes width minInterval rewind : Nat), Begins was sender hdr
    (pktPtuTableCreate engine cluster entries origin feed passes width minInterval rewind) →
    ∀ t, ((List.range 4).find? fun t => !(s.table t).live) = some t →
    let s := s.setTable t {
      live := true, gen := ((s.table t).gen + 1) % 256, engine := engine, cluster := cluster, count := entries, origin := origin
      feed := feed, passes := passes, width := width, minInterval := minInterval, rewind := rewind == 1 }
    let s := { s with eng := { s.eng with tableGranules := tmod 0 s.eng.tableGranules cluster (· + tableSize entries) } }
    Ends was hdr (.ptuTableCreate hdr engine cluster entries origin feed passes width minInterval rewind) 0x1005
      (.values [s.tableHandle t]) s.showGranules) ∧
  (∀ (handle first count : Nat) (entries : List Nat), Begins was sender hdr (pktPtuTableLoad handle first count entries) →
    ∀ t, s.tableOf handle = some t →
    let k := s.table t
    Ends was hdr (.ptuTableLoad hdr handle first count entries) 0x1006 .empty (s.setTable t { k with
      sealed := false, entries := (entries.zipIdx).foldl (fun m (w, i) => tput 0 m (first + i) (w % 2 ^ 64)) k.entries })) ∧
  (∀ (handle : Nat) (crc : BitVec 32), Begins was sender hdr (pktPtuTableSeal handle crc) →
    ∀ t, s.tableOf handle = some t →
    let k := s.table t
    let off := s.setTable t { k with sealed := false }
    crc32c k.image ≠ crc.toNat →
    Refuses was hdr (.ptuTableSeal hdr handle crc) 0x1007 .PTU_BAD_SEAL off) ∧
  (∀ (handle : Nat) (crc : BitVec 32), Begins was sender hdr (pktPtuTableSeal handle crc) →
    ∀ t, s.tableOf handle = some t →
    let k := s.table t
    let off := s.setTable t { k with sealed := false }
    crc32c k.image = crc.toNat →
    !k.valid →
    Refuses was hdr (.ptuTableSeal hdr handle crc) 0x1007 .PTU_BAD_TABLE off) ∧
  (∀ (handle : Nat) (crc : BitVec 32), Begins was sender hdr (pktPtuTableSeal handle crc) →
    ∀ t, s.tableOf handle = some t →
    let k := s.table t
    crc32c k.image = crc.toNat →
    k.valid →
    Ends was hdr (.ptuTableSeal hdr handle crc) 0x1007 .empty (s.setTable t { k with sealed := true })) ∧
  (∀ (handle : Nat), Begins was sender hdr (pktPtuTableArm handle) →
    ∀ t, s.tableOf handle = some t →
    Ends was hdr (.ptuTableArm hdr handle) 0x1008 .empty (s.arm (s.table t).engine handle)) ∧
  (∀ (engine : Nat), Begins was sender hdr (pktPtuTableDisarm engine) →
    Ends was hdr (.ptuTableDisarm hdr engine) 0x1009 .empty (s.disarm engine)) ∧
  (∀ (engine mask : Nat), Begins was sender hdr (pktPtuStrobeFire engine mask) →
    Ends was hdr (.ptuStrobeFire hdr engine mask) 0x100A .empty (s.timedFire engine mask)) ∧
  (∀ (engine mask : Nat), Begins was sender hdr (pktPtuStrobeReset engine mask) →
    Ends was hdr (.ptuStrobeReset hdr engine mask) 0x100B .empty ((bitList 16 mask).foldl (fun s j =>
    let b := 16 * engine + j;
    (s.set .PTU_STB_STAT_DEAD 0 b).setStrobe b { s.strobe b with misses := 0 }) s)) ∧
  (∀ (handle : Nat), Begins was sender hdr (pktPtuTableFree handle) →
    ∀ t, s.tableOf handle = some t →
    let k := s.table t
    let n := tableSize k.count
    let s := s.setTable t { gen := k.gen }
    let s := { s with eng := { s.eng with tableGranules := tmod 0 s.eng.tableGranules k.cluster (· - n) } }
    Ends was hdr (.ptuTableFree hdr handle) 0x100C (.values [n]) s.showGranules)

/-- What the packets to the supervisor answer and leave: supply settings, the thermal model, margin re-plan, records, monitor units and
snapshots (R412 … R436). once the packet begins (it has passed the checks of R65 and nothing holds it up), it ends with the status, the
result body and the state named. The model's own choices in them: an evaluation replies at once (log 96), free temperatures are log 82,
records read out of range log 36. -/
def Obligations.SupervisorPacketsDo : Prop := ∀ (was s : State) (sender : Fin 8) (hdr : Hdr), s = was.taken sender →
  (Begins was sender hdr pktValInfo →
    Ends was hdr (.valInfo hdr) 0x1101 (.values ([s.rd .VAL_STATUS, s.rd .VAL_VIN, s.rd .VAL_HOLDUP,
    s.get .VAL_THERM_TJ * 65536 + s.thermalAge] ++
    (List.range 14).flatMap fun r => [s.rd .VAL_RAIL_V r, s.rd .VAL_RAIL_I r, s.rd .VAL_RAIL_SET r, s.rd .VAL_RAIL_STAT r])) s) ∧
  (∀ (cfg : BitVec 32), Begins was sender hdr (pktValConfig cfg) →
    Ends was hdr (.valConfig hdr cfg) 0x1102 .empty (s.applyValCfg cfg.toNat)) ∧
  (Begins was sender hdr pktValThermalEval →
    let s := s.evaluate
    Ends was hdr (.valThermalEval hdr) 0x1103 (.values [s.get .VAL_THERM_TJ, s.rd64 .VAL_THERM_TIME_LO .VAL_THERM_TIME_HI, s.get
      .VAL_STATUS_LEVEL, s.get .VAL_STATUS_STEP]) s) ∧
  (Begins was sender hdr pktValThermalRead →
    Ends was hdr (.valThermalRead hdr) 0x1104 (.values ((s.val.nodes.map fun t => (t % 65536).toNat) ++ s.val.powers)) s) ∧
  (Begins was sender hdr pktValReplan →
    Waits was sender hdr (.valReplan hdr) pktValReplan .replan
      (if s.recording then s.set .VAL_STATUS_REPLAN_DEFERRED 1 else s.startReplan 2)) ∧
  (∀ (rd : ReadArgs), Begins was sender hdr (pktValRecordRead rd) →
    ∀ seq time bytes, s.replanRec rd = some (seq, time, bytes) →
    Ends was hdr (.valRecordRead hdr rd) 0x1106 (.bytes (recordBytes seq time bytes rd)) s) ∧
  (∀ (unit tap shift : Nat) (base : BitVec 32), Begins was sender hdr (pktValMonConfig unit tap shift base) →
    Ends was hdr (.valMonConfig hdr unit tap shift base) 0x1107 .empty
      (((s.set .VAL_MON_CFG_TAP tap unit).set .VAL_MON_CFG_SHIFT shift unit).wr .VAL_MON_BASE base.toNat unit)) ∧
  (∀ (unit window : Nat), Begins was sender hdr (pktValMonStart unit window) →
    Ends was hdr (.valMonStart hdr unit window) 0x1108 .empty (s.startMonitor unit window)) ∧
  (∀ (unit : Nat), Begins was sender hdr (pktValMonRead unit) →
    let k : Monitor := tgetD {} s.val.monitors unit
    Ends was hdr (.valMonRead hdr unit) 0x1109 (.values ([s.rd .VAL_MON_MIN unit, s.rd .VAL_MON_MAX unit, s.rd .VAL_MON_CNT unit] ++
      (List.range 32).map fun i => tgetD 0 k.bins i)) s) ∧
  (Begins was sender hdr pktValSnapshot →
    let s := s.latchRails
    Ends was hdr (.valSnapshot hdr) 0x110A (.values ((List.range 14).flatMap fun r =>
      [s.get .VAL_RAIL_V_VOLTS r, s.get .VAL_RAIL_I_CURRENT r])) s)

/-- What the integrity packets answer and leave: fault records, clearing, safe state, injection, keys and attestation (R437 … R453).
  once the
packet begins (it has passed the checks of R65 and nothing holds it up), it ends with the status, the result body and the state named.
  The
model's own choices in them: signatures are log 50, injected faults log 85, the key slot log 37. -/
def Obligations.IntegrityPacketsDo : Prop := ∀ (was s : State) (sender : Fin 8) (hdr : Hdr), s = was.taken sender →
  (Begins was sender hdr pktIntInfo →
    Ends was hdr (.intInfo hdr) 0x1201 (.values [s.rd .VAL_INT_STATUS, s.rd .VAL_INT_EVT, s.rd .VAL_INT_CAUSE0, s.rd .VAL_INT_CAUSE1,
      s.rd .VAL_INT_SEQ,
    s.rd .VAL_INT_ENTRY_LO, s.rd .VAL_INT_ENTRY_HI]) s) ∧
  (∀ (rd : ReadArgs), Begins was sender hdr (pktIntFaultRead rd) →
    ∀ r, s.faultRec rd = some r →
    Ends was hdr (.intFaultRead hdr rd) 0x1202 (.bytes (recordBytes r.seq r.tick r.bytes rd)) s) ∧
  (∀ (tallyReset : Nat), Begins was sender hdr (pktIntClear tallyReset) →
    Ends was hdr (.intClear hdr tallyReset) 0x1203 .empty (s.clearSafe (tallyReset == 1))) ∧
  (Begins was sender hdr pktIntSafeEnter →
    let s := s.detect 0x20 (sender.val) 0 false
    s.integ.due || s.flag .VAL_INT_STATUS_ENTERING →
    Waits was sender hdr (.intSafeEnter hdr) pktIntSafeEnter .safeEntry s) ∧
  (Begins was sender hdr pktIntSafeEnter →
    let s := s.detect 0x20 (sender.val) 0 false
    ¬(s.integ.due || s.flag .VAL_INT_STATUS_ENTERING) →
    EndsAtOnce was hdr (.intSafeEnter hdr) 0x1204 .empty s) ∧
  (∀ (code : Nat), Begins was sender hdr (pktIntInject code) →
    let t := s.inject code
    Ends was hdr (.intInject hdr code) 0x1205 (if t.store.nextFault = s.store.nextFault then .empty else .values [s.store.nextFault])
      t) ∧
  (∀ (slot : Nat) (certificate : Bool) (rd : ReadArgs), Begins was sender hdr (pktIntKeyRead slot certificate rd) →
    certificate || slot == 2 →
    Ends was hdr (.intKeyRead hdr slot certificate rd) 0x1206 (.bytes (recordBytes 0 0 (padTo 1024 (Config.certificate slot)) rd)) s) ∧
  (∀ (slot : Nat) (certificate : Bool) (rd : ReadArgs), Begins was sender hdr (pktIntKeyRead slot certificate rd) →
    ¬(certificate || slot == 2) →
    Ends was hdr (.intKeyRead hdr slot certificate rd) 0x1206 (.bytes (publicKey slot)) s) ∧
  (∀ (nonce : List Byte), Begins was sender hdr (pktIntAttest nonce) →
    ∀ f t, s.draw = (f, t) →
    let text := ascii "TX9A" ++ nonce ++ t.identity ++ le 4 (t.rd .VAL_INT_STATUS) ++ le 8 t.now
    Ends was hdr (.intAttest hdr nonce) 0x1207 (.bytes (le 8 t.now ++ ecdsaSign f 1 (sha256 text))) t)

/-- What the events of the control interface do: lease expiry, doorbells, held replies, the SPI port, the PCIe window, launched packets
  and
the firmware commit (R60 … R89, R463 … R466). what the event leaves, with the conditions on the state that tell its cases apart. The
model's own choices in them: a scheduled packet that begins is log 95, one that was never launched log 4. -/
def Obligations.ControlEventsDo : Prop := ∀ s : State,
  (∀ (slot : Fin 8),
    Leaves (.leaseExpiry slot) s (s.expire slot.val)) ∧
  (∀ (slot : Fin 8) (index : BitVec 32) (images : List (List Byte)),
    let n := slot.val
    !s.serves (.ring slot) || s.get .CPI_SLOT_STATE_TRANSPORT n == 3 →
    Leaves (.sqTailDoorbell slot index images) s s) ∧
  (∀ (slot : Fin 8) (index : BitVec 32) (images : List (List Byte)),
    let n := slot.val
    ¬(!s.serves (.ring slot) || s.get .CPI_SLOT_STATE_TRANSPORT n == 3) →
    s.tailOk n index.toNat →
    let tail := s.get .CPI_SLOT_SQ_TAIL_INDEX n
    let new := images.take (ringFill (index.toNat % 128) tail)
    Leaves (.sqTailDoorbell slot index images) s (
      new.foldl (fun s b => s.imageArrives (.ring slot) b) (State.placeImages n tail new (s.set .CPI_SLOT_SQ_TAIL_INDEX index.toNat n)))) ∧
  (∀ (slot : Fin 8) (index : BitVec 32) (images : List (List Byte)),
    let n := slot.val
    ¬(!s.serves (.ring slot) || s.get .CPI_SLOT_STATE_TRANSPORT n == 3) →
    ¬(s.tailOk n index.toNat) →
    Leaves (.sqTailDoorbell slot index images) s ((s.raise .CPI_EVT_RING_ERR n).ringDenied .CPI_SLOT_SQ_TAIL n)) ∧
  (∀ (slot : Fin 8) (index : BitVec 32),
    !s.serves (.ring slot) || s.get .CPI_SLOT_STATE_TRANSPORT slot.val == 3 →
    Leaves (.rqHeadAdvance slot index) s s) ∧
  (∀ (slot : Fin 8) (index : BitVec 32),
    let n := slot.val
    ¬(!s.serves (.ring slot) || s.get .CPI_SLOT_STATE_TRANSPORT n == 3) →
    s.headOk n index.toNat →
    Leaves (.rqHeadAdvance slot index) s ((s.set .CPI_SLOT_RQ_HEAD_INDEX index.toNat n).setHost n { s.host n with
      replies := (s.host n).replies.drop (s.headMove n index.toNat) })) ∧
  (∀ (slot : Fin 8) (index : BitVec 32),
    let n := slot.val
    ¬(!s.serves (.ring slot) || s.get .CPI_SLOT_STATE_TRANSPORT n == 3) →
    ¬(s.headOk n index.toNat) →
    Leaves (.rqHeadAdvance slot index) s ((s.raise .CPI_EVT_RING_ERR n).ringDenied .CPI_SLOT_RQ_HEAD n)) ∧
  (∀ (slot : Fin 8),
    Leaves (.heldReplyWrite slot) s (s.writeHeld slot.val)) ∧
  (∀ (port : Fin 2),
    let bit := fun (b : Bool) (k : Nat) => if b then 2 ^ k else 0
    let v := bit (s.spiIrq port.val) 0 + bit (s.slotAt ⟨.spi, port.val⟩).isSome 1 + bit s.safe 2
    s.spiServes →
    Leaves (.spiStatus port) s { s with cpi := { s.cpi with spiOut := tput 0 s.cpi.spiOut port.val v } }) ∧
  (∀ (port : Fin 2),
    ¬(s.spiServes) →
    Leaves (.spiStatus port) s s) ∧
  (∀ (pf : Fin 4) (addr bytes : Nat) (value : BitVec 32),
    !s.barServes pf.val →
    Leaves (.bar0Write pf addr bytes value) s s) ∧
  (∀ (pf : Fin 4) (addr bytes : Nat) (value : BitVec 32),
    let a := addr
    s.barServes pf.val →
    inMailbox a →
    a < mailboxBase + ringSlotBytes →
    Leaves (.bar0Write pf addr bytes value) s (s.mailWrite ⟨.pcie, pf.val⟩ (a - mailboxBase) (le (min bytes 4) value.toNat))) ∧
  (∀ (pf : Fin 4) (addr bytes : Nat) (value : BitVec 32),
    let a := addr
    s.barServes pf.val →
    inMailbox a →
    ¬(a < mailboxBase + ringSlotBytes) →
    Leaves (.bar0Write pf addr bytes value) s s) ∧
  (∀ (pf : Fin 4) (addr bytes : Nat) (value : BitVec 32),
    let a := addr
    s.barServes pf.val →
    ¬(inMailbox a) →
    (bytes ≠ 4 ∨ a % 4 ≠ 0 ∨ 0x10000000 ≤ a) →
    Leaves (.bar0Write pf addr bytes value) s (s.barDenied pf.val a)) ∧
  (∀ (pf : Fin 4) (addr bytes : Nat) (value : BitVec 32),
    let a := addr
    s.barServes pf.val →
    ¬(inMailbox a) →
    ¬(bytes ≠ 4 ∨ a % 4 ≠ 0 ∨ 0x10000000 ≤ a) →
    (s.slotAt ⟨.pcie, pf.val⟩) = none →
    Leaves (.bar0Write pf addr bytes value) s (s.barDenied pf.val a)) ∧
  (∀ (pf : Fin 4) (addr bytes : Nat) (value : BitVec 32),
    let a := addr
    s.barServes pf.val →
    ¬(inMailbox a) →
    ¬(bytes ≠ 4 ∨ a % 4 ≠ 0 ∨ 0x10000000 ≤ a) →
    ∀ n, (s.slotAt ⟨.pcie, pf.val⟩) = some n →
    s.barStatus n a value.toNat = .DONE →
    ¬(s.barIgnored a value.toNat) →
    Leaves (.bar0Write pf addr bytes value) s (s.writeReg n a value.toNat)) ∧
  (∀ (pf : Fin 4) (addr bytes : Nat) (value : BitVec 32),
    let a := addr
    s.barServes pf.val →
    ¬(inMailbox a) →
    ¬(bytes ≠ 4 ∨ a % 4 ≠ 0 ∨ 0x10000000 ≤ a) →
    ∀ n, (s.slotAt ⟨.pcie, pf.val⟩) = some n →
    s.barStatus n a value.toNat = .DONE →
    s.barIgnored a value.toNat →
    Leaves (.bar0Write pf addr bytes value) s ((s.writeReg n a value.toNat).barDenied pf.val a)) ∧
  (∀ (pf : Fin 4) (addr bytes : Nat) (value : BitVec 32),
    let a := addr
    s.barServes pf.val →
    ¬(inMailbox a) →
    ¬(bytes ≠ 4 ∨ a % 4 ≠ 0 ∨ 0x10000000 ≤ a) →
    ∀ n, (s.slotAt ⟨.pcie, pf.val⟩) = some n →
    ¬(s.barStatus n a value.toNat = .DONE) →
    Leaves (.bar0Write pf addr bytes value) s (s.barDenied pf.val a)) ∧
  (∀ (slot : Fin 8) (seq : BitVec 32) (d : Taken),
    s.cpi.launched.find? (fun (d : Taken) => slotOf d.via == slot.val && d.seq == seq) = some d →
    Leaves (.packetExec slot seq) s (State.launchTaken { s with cpi := { s.cpi with
      launched := s.cpi.launched.eraseP fun (d : Taken) => slotOf d.via == slot.val && d.seq == seq } } d)) ∧
  (∀ (slot : Fin 8) (seq : BitVec 32) (d : Taken),
    s.cpi.launched.find? (fun (d : Taken) => slotOf d.via == slot.val && d.seq == seq) = none →
    ((s.queue (87 + slot.val)).findSome? fun e => e.packet.filter fun d => slotOf d.via == slot.val && d.seq == seq) = some d →
    Leaves (.packetExec slot seq) s ((s.putQueue (87 + slot.val)
      ((s.queue (87 + slot.val)).eraseP fun e => e.packet.any fun d => slotOf d.via == slot.val && d.seq == seq)).launchTaken d)) ∧
  (∀ (slot : Fin 8) (seq : BitVec 32),
    s.cpi.launched.find? (fun (d : Taken) => slotOf d.via == slot.val && d.seq == seq) = none →
    ((s.queue (87 + slot.val)).findSome? fun e => e.packet.filter fun d => slotOf d.via == slot.val && d.seq == seq) = none →
    exec (.packetExec slot seq) s = .fault .noLaunchedPacket) ∧
  (∀ (ok : Bool),
    s.cpi.fw = none →
    Leaves (.fwCommitComplete ok) s s) ∧
  (∀ (ok : Bool),
    ∀ f, s.cpi.fw = some f →
    !f.committing →
    Leaves (.fwCommitComplete ok) s s) ∧
  (∀ (ok : Bool),
    ∀ f, s.cpi.fw = some f →
    f.committing →
    let good := ok && decide (f.length ≤ covered f.data)
    Leaves (.fwCommitComplete ok) s (
      let s : State := { s with
        cpi := { s.cpi with fw := none }
        store := if good then { s.store with activeImage := f.data, previousImage := s.store.activeImage } else s.store }
      s.complete (fun (w : WaitKind) => w == WaitKind.fwCommit) (if good then .DONE else .CPI_BAD_IMAGE) .empty))

/-- What the events of the deal clock do: discipline, locks, jams, timecode, the reference pins and missed deals (R33 … R60): what the
event leaves, with the conditions on the state that tell its cases apart. The model's own choices in them: the first lock and the step at
it are log 77, HOLDOVER's source and the way back from it log 78, a changed frame period and LTC_PRESENT log 76. -/
def Obligations.DealClockEventsDo : Prop := ∀ s : State,
  (∀ (slot : Fin 8) (value : BitVec 32),
    Leaves (.dckPush slot value) s (s.push slot.val value.toNat)) ∧
  (∀ (src : Nat) (phase freq : Int),
    (s.dckState ≠ dckAcquire ∨ src ≠ s.get .DCK_STATUS_ACTIVE_SRC) →
    Leaves (.lockGained src phase freq) s s) ∧
  (∀ (src : Nat) (phase freq : Int),
    ¬(s.dckState ≠ dckAcquire ∨ src ≠ s.get .DCK_STATUS_ACTIVE_SRC) →
    let first := !s.dck.everLocked
    Leaves (.lockGained src phase freq) s (
      let s := (s.setClock dckLocked src).raise .DCK_EVT_LOCK_GAINED
      let s := (s.wr .DCK_PHASE_ERR (phaseWord phase)).wr .DCK_FREQ_ERR (s.rateWord freq)
      let s := s.modDck fun d => { d with everLocked := true }
      if first ∧ s.flag .DCK_CTRL_STEP_ON_LOCK ∧ 1000000000 < phase.natAbs ∧ s.mayStep
      then s.stepTo (Config.stepAtLock phase s.now).toNat else s)) ∧
  (
    let st := s.dckState;
    (st = dckFree ∨ st = dckHoldover) →
    Leaves .lockLost s s) ∧
  (
    let st := s.dckState
    ¬(st = dckFree ∨ st = dckHoldover) →
    let x := s.get .DCK_STATUS_ACTIVE_SRC
    Leaves .lockLost s (
      let s := (s.modDck fun d => { d with present := d.present.filter (· ≠ x), lost := x }).raise .DCK_EVT_LOCK_LOST
      if st = dckLocked ∨ s.dck.everLocked then s.setClock dckHoldover 0
      else match s.firstUsable with
        | some y => s.setClock dckAcquire y
        | none => s.setClock dckFree 0)) ∧
  ((s.dckState ≠ dckHoldover ∨ !s.flag .DCK_CTRL_AUTO_FALLBACK) →
    Leaves .switchDelayExpiry s s) ∧
  (¬(s.dckState ≠ dckHoldover ∨ !s.flag .DCK_CTRL_AUTO_FALLBACK) →
    ∀ y, s.firstUsable = some y →
    Leaves .switchDelayExpiry s (s.setClock dckAcquire y)) ∧
  (¬(s.dckState ≠ dckHoldover ∨ !s.flag .DCK_CTRL_AUTO_FALLBACK) →
    s.firstUsable = none →
    Leaves .switchDelayExpiry s s) ∧
  (∀ (src : Nat),
    let s1 := s.srcPresent src
    s1.srcListed src →
    Leaves (.sourceReturn src) s (s1.reselect)) ∧
  (∀ (src : Nat),
    let s1 := s.srcPresent src
    ¬(s1.srcListed src) →
    Leaves (.sourceReturn src) s s1) ∧
  (∀ (count : Nat),
    (297000 ≤ count ∧ count ≤ 303000) →
    Leaves (.xchkWindow count) s ((s.set .DCK_STATUS_XCHK_OK 1).passed 0x0D)) ∧
  (∀ (count : Nat),
    ¬(297000 ≤ count ∧ count ≤ 303000) →
    Leaves (.xchkWindow count) s (s.crossCheckFail count)) ∧
  (∀ (label ub : BitVec 32) (boundary : Nat),
    !s.flag .DCK_TC_CFG_LTC_IN_EN →
    Leaves (.ltcFrameDecoded label ub boundary) s s) ∧
  (∀ (label ub : BitVec 32) (boundary : Nat),
    s.flag .DCK_TC_CFG_LTC_IN_EN →
    Leaves (.ltcFrameDecoded label ub boundary) s (
      let s := if s.dck.ltcSeen ∧ label.toNat ≠ s.labelAfter (s.rd .DCK_LTC_IN) then s.raise .DCK_EVT_LTC_DISCONT else s
      let s := ((s.wr .DCK_LTC_IN label.toNat).wr .DCK_LTC_IN_UB ub.toNat).set .DCK_STATUS_LTC_PRESENT 1
      let jam := s.dck.jam
      let s := s.modDck fun d => { d with ltcSince := s.now, ltcLost := false, ltcSeen := true, jam := none }
      if jam.isSome then s.setAnchor (s.labelAfter label.toNat) boundary else s)) ∧
  (!s.flag .DCK_TC_CFG_LTC_IN_EN || s.dck.ltcLost →
    Leaves .ltcLoss s s) ∧
  (¬(!s.flag .DCK_TC_CFG_LTC_IN_EN || s.dck.ltcLost) →
    Leaves .ltcLoss s ((((s.raise .DCK_EVT_LTC_LOST).set .DCK_STATUS_LTC_PRESENT 0)).modDck fun d => { d with ltcLost := true })) ∧
  (s.dck.jam.isNone →
    Leaves .jamTimeout s s) ∧
  (¬(s.dck.jam.isNone) →
    Leaves .jamTimeout s ((s.modDck fun d => { d with jam := none }).raise .DCK_EVT_LTC_LOST)) ∧
  (Leaves .tcFrameBoundary s (s.tcCommit)) ∧
  (∀ (port : Fin 96),
    s.dealsStopped →
    Leaves (.dealMissed port) s s) ∧
  (∀ (port : Fin 96),
    ¬(s.dealsStopped) →
    Leaves (.dealMissed port) s (s.missed port.val)) ∧
  (Leaves .tcJam s (s.startJam)) ∧
  (∀ (label : BitVec 32),
    s.labelOk label.toNat →
    Leaves (.tcAnchor label) s (s.setAnchor label.toNat s.now)) ∧
  (∀ (label : BitVec 32),
    ¬(s.labelOk label.toNat) →
    Leaves (.tcAnchor label) s s) ∧
  (∀ (width : BitVec 32),
    Leaves (.ppsPulse width) s (s.modDck fun d => { d with ppsHighUntil := max d.ppsHighUntil (s.now + width.toNat) })) ∧
  (∀ (rate : BitVec 32),
    Leaves (.wclkStart rate) s (s.modDck fun d => { d with wclk := some (rate.toNat, s.now) })) ∧
  (Leaves .wclkStop s (s.modDck fun d => { d with wclk := none })) ∧
  (∀ (src : Nat),
    let s1 := s.srcPresent src;
    s1.srcListed src →
    Leaves (.sourcePresent src) s (s1.reselect)) ∧
  (∀ (src : Nat),
    let s1 := s.srcPresent src
    ¬(s1.srcListed src) →
    Leaves (.sourcePresent src) s s1)

/-- Every event of the discipline, of LTC and of the deal ports completes where the spec gives it its effect (R34, R35, R37, R41, R43, R44, R46,
R49, R54), and what the clock's own registers and records then hold. That an entry pushed is in its port's queue is R46's and R48's, that the
rate correction stays within SLEW_LIMIT R33's; the rest of what each event leaves is said by `DealClockEventsDo`. -/
def Obligations.DealClockEventsComplete : Prop := ∀ s : State,
  (∀ (slot : Fin 8) (value : BitVec 32),
    let p := bitsOf value.toNat 6 0
    s.entryStatus p s.stagedEntry = .DONE → s.judgeAll slot.val (s.entryRights p s.stagedEntry) = .DONE → (s.queue p).length < 64 →
    ∃ t, exec (.dckPush slot value) s = .next t ∧
      t.get .DCK_PUSH_RESULT_STATUS = 0 ∧ newEntry s.stagedEntry slot.val s.now none ∈ t.queue p) ∧
  (∀ (src : Nat) (phase freq : Int),
    s.dckState = dckAcquire → src = s.get .DCK_STATUS_ACTIVE_SRC →
    ∃ t, exec (.lockGained src phase freq) s = .next t ∧
      t.dckState = dckLocked ∧ t.get .DCK_STATUS_ACTIVE_SRC = src ∧ t.dck.everLocked = true ∧
      (BitVec.ofNat 32 (t.rd .DCK_FREQ_ERR)).toInt.natAbs ≤ s.get .DCK_CTRL_SLEW_LIMIT * 10000) ∧
  (s.dckState = dckLocked →
    ∃ t, exec .lockLost s = .next t ∧
      t.dckState = dckHoldover ∧ s.get .DCK_STATUS_ACTIVE_SRC ∉ t.dck.present) ∧
  (∀ y, s.dckState = dckHoldover → s.flag .DCK_CTRL_AUTO_FALLBACK = true → s.firstUsable = some y →
    ∃ t, exec .switchDelayExpiry s = .next t ∧
      t.dckState = dckAcquire ∧ t.get .DCK_STATUS_ACTIVE_SRC = y) ∧
  (∀ (src : Nat),
    s.dckState = dckHoldover → s.srcListed src = true → src = s.dck.lost →
    ∃ t, exec (.sourceReturn src) s = .next t ∧
      t.dckState = dckAcquire ∧ src ∈ t.dck.present) ∧
  (∀ (src : Nat),
    s.dckState = dckFree → s.get .DCK_STATUS_ACTIVE_SRC = 0 → s.srcListed src = true →
    ∃ t, exec (.sourcePresent src) s = .next t ∧
      t.dckState = dckAcquire ∧ src ∈ t.dck.present) ∧
  (∀ (label ub : BitVec 32) (boundary : Nat),
    s.flag .DCK_TC_CFG_LTC_IN_EN = true →
    ∃ t, exec (.ltcFrameDecoded label ub boundary) s = .next t ∧
      t.rd .DCK_LTC_IN = label.toNat ∧ t.rd .DCK_LTC_IN_UB = ub.toNat ∧ t.get .DCK_STATUS_LTC_PRESENT = 1 ∧ t.dck.jam = none ∧
      (s.dck.jam ≠ none → t.rd64 .DCK_TC_ANCHOR_TIME_LO .DCK_TC_ANCHOR_TIME_HI = boundary % 2 ^ 64)) ∧
  (s.dck.jam ≠ none →
    ∃ t, exec .jamTimeout s = .next t ∧
      t.dck.jam = none ∧ t.get .DCK_EVT_LTC_LOST = 1 ∧ t.anchor = s.anchor) ∧
  (∃ t, exec .tcFrameBoundary s = .next t ∧
      (∀ x ∈ t.shadows, x.owner = .tc → s.now ≤ x.tick) ∧ (t.flag .DCK_TC_CFG_LTC_OUT_EN = true ↔ t.dck.ltcOut ≠ none)) ∧
  (∀ (port : Fin 96),
    s.dealsStopped = false →
    let n := ((s.queue port.val).map fun e => e.missed (s.flag .DCK_PORT_CTRL_PAUSE port.val) s.now).sum
    ∃ t, exec (.dealMissed port) s = .next t ∧
      t.get .DCK_PORT_LATE_COUNT port.val = min (s.get .DCK_PORT_LATE_COUNT port.val + n) 0xFFFF) ∧
  (∃ t, exec .tcJam s = .next t ∧ t.dck.jam = some (s.now + 4 * s.tcFrame)) ∧
  (∀ (label : BitVec 32),
    s.labelOk label.toNat = true →
    ∃ t, exec (.tcAnchor label) s = .next t ∧
      t.rd .DCK_TC_ANCHOR = label.toNat ∧ t.rd64 .DCK_TC_ANCHOR_TIME_LO .DCK_TC_ANCHOR_TIME_HI = s.now)

/-- What the events of the sensor ports do: enabling and disabling, exposure, control buses, locks, markers, lines, trailers, windows
  and the
frame leaving the colour unit (R90 … R113). what the event leaves, with the conditions on the state that tell its cases apart. The
  model's
own choices in them: frame boundaries are log 18, the control buses log 16. -/
def Obligations.SensorEventsDo : Prop := ∀ s : State,
  (∀ (ctx : Fin 8),
    Leaves (.frameStart ctx) s (s.frameStart ctx.val)) ∧
  (∀ (ctx : Fin 8),
    s.mayEnable ctx.val →
    Leaves (.contextEnable ctx) s (s.enableCtx ctx.val)) ∧
  (∀ (ctx : Fin 8),
    ¬(s.mayEnable ctx.val) →
    Leaves (.contextEnable ctx) s (s.raise .PIP_EVT_NOT_READY ctx.val)) ∧
  (∀ (ctx : Fin 8),
    Leaves (.contextDisable ctx) s (s.disableCtx ctx.val)) ∧
  (∀ (ctx : Fin 8) (exposure : Fin 2),
    Leaves (.exposeStart ctx exposure) s (s.expose ctx.val exposure.val true)) ∧
  (∀ (ctx : Fin 8) (exposure : Fin 2),
    Leaves (.exposeEnd ctx exposure) s (s.expose ctx.val exposure.val false)) ∧
  (∀ (bus : Fin 32) (list : Fin 16),
    let b := bus.val
    let k := s.scb b
    ¬(s.scbClaimed b) →
    k.running.isNone →
    Leaves (.scbRun bus list) s ((s.setScb b { k with running := some (.inl list.val) }).showBus b)) ∧
  (∀ (bus : Fin 32) (list : Fin 16),
    let b := bus.val
    let k := s.scb b
    ¬(s.scbClaimed b) →
    ¬(k.running.isNone) →
    k.waitingList.isNone →
    Leaves (.scbRun bus list) s ((s.setScb b { k with waitingList := some list.val }).showBus b)) ∧
  (∀ (bus : Fin 32) (list : Fin 16),
    let b := bus.val
    let k := s.scb b
    (s.scbClaimed b ∨ (¬(k.running.isNone) ∧ ¬(k.waitingList.isNone))) →
    Leaves (.scbRun bus list) s ((s.bump .SNS_SCB_STAT_OVERLAP b).raise .SNS_SCB_EVT_BUS b)) ∧
  (∀ (bus : Fin 32) (nack : Bool) (op : Nat) (data : List Byte),
    Leaves (.scbListEnd bus nack op data) s (s.scbEnd bus.val (if nack then 1 else 0) (if nack then op else 0) data)) ∧
  (∀ (bus : Fin 32) (op : Nat) (data : List Byte),
    Leaves (.scbOpTimeout bus op data) s (s.scbEnd bus.val 2 op data)) ∧
  (∀ (port : Fin 8) (skew lanes : Nat),
    let n := port.val
    !s.portOn n →
    Leaves (.portLock port skew lanes) s s) ∧
  (∀ (port : Fin 8) (skew lanes : Nat),
    let n := port.val
    s.portOn n →
    s.deskewFails n skew lanes →
    Leaves (.portLock port skew lanes) s ((s.showSkew n skew lanes).unlock n true)) ∧
  (∀ (port : Fin 8) (skew lanes : Nat),
    let n := port.val
    s.portOn n →
    ¬(s.deskewFails n skew lanes) →
    Leaves (.portLock port skew lanes) s (((s.showSkew n skew lanes).set .SNS_PORT_STAT_LOCKED 1 n).set .SNS_PORT_STAT_DESKEW_FAIL 0
      n)) ∧
  (∀ (port : Fin 8) (deskew : Bool) (skew lanes : Nat),
    let n := port.val
    !s.portOn n →
    Leaves (.portLockLost port deskew skew lanes) s s) ∧
  (∀ (port : Fin 8) (deskew : Bool) (skew lanes : Nat),
    let n := port.val
    s.portOn n →
    let fails := deskew && s.deskewFails n skew lanes
    Leaves (.portLockLost port deskew skew lanes) s (
      let s := (s.showSkew n skew lanes).set .SNS_PORT_STAT_LOCKED 0 n;
      (if fails then s.set .SNS_PORT_STAT_DESKEW_FAIL 1 n else s).raise .SNS_EVT_LOCK_LOST n)) ∧
  (∀ (ctx : Fin 8),
    Leaves (.frameStartMarker ctx) s (s.startMarker ctx.val)) ∧
  (∀ (ctx : Fin 8) (line : Line),
    Leaves (.lineArrival ctx line) s (s.lineArrives ctx.val line)) ∧
  (∀ (ctx : Fin 8),
    s.receiving ctx.val →
    Leaves (.trailer ctx) s (s.trailer ctx.val)) ∧
  (∀ (ctx : Fin 8),
    ¬(s.receiving ctx.val) →
    Leaves (.trailer ctx) s s) ∧
  (∀ (ctx : Fin 8),
    Leaves (.trailerWaitExpiry ctx) s (s.trailer ctx.val)) ∧
  (∀ (ctx : Fin 8),
    let n := ctx.val;
    (s.ctx n).latch.isSome →
    Leaves (.trigWindowExpiry ctx) s ((s.setCtx n { s.ctx n with latch := none }).noFrame n)) ∧
  (∀ (ctx : Fin 8),
    let n := ctx.val
    ¬((s.ctx n).latch.isSome) →
    Leaves (.trigWindowExpiry ctx) s s) ∧
  (∀ (ctx : Fin 8),
    let n := ctx.val;
    ((s.ctx n).frames.find? fun f => !f.coloured && !f.dropped) = none →
    Leaves (.frameLeavesColour ctx) s s) ∧
  (∀ (ctx : Fin 8),
    let n := ctx.val
    ∀ f, ((s.ctx n).frames.find? fun f => !f.coloured && !f.dropped) = some f →
    !f.demosaicked || !f.closed →
    Leaves (.frameLeavesColour ctx) s s) ∧
  (∀ (ctx : Fin 8),
    let n := ctx.val
    ∀ f, ((s.ctx n).frames.find? fun f => !f.coloured && !f.dropped) = some f →
    ¬(!f.demosaicked || !f.closed) →
    let g := { s.colour n f with coloured := true, recordDue := s.flag .STA_CTX_CFG_EN n }
    Leaves (.frameLeavesColour ctx) s (
      let s := s.modFrame n f.id fun _ => g
      let s := ((s.set .COL_CTX_FRAME_FRAME g.num n).set .COL_CTX_STAT_WS g.ws n).set .COL_CTX_STAT_CLIPPED g.clipped n
      let s := s.looksDone n g
      let s := if g.devSlot then s.publishFrame n false g else s;
      (s.forget n).drained n))

/-- What the events of the pipeline, the colour unit and statistics do: swaps, the in-line switch, arbitration, the frame leaving the
  demosaic
stage, known-answer passes and publication (R114 … R184). what the event leaves, with the conditions on the state that tell its cases
apart. The model's own choices in them: conventions of the stages are logs 24 and 25. -/
def Obligations.PipelineColourAndStatisticsEventsDo : Prop := ∀ s : State,
  (∀ (ctx : Fin 8),
    Leaves (.inlineSwitch ctx) s ((s.inlineSwitch ctx.val).2)) ∧
  (∀ (ctx : Fin 8) (bank : BitVec 32),
    let n := ctx.val
    let b := bank.toNat;
    (b < 2 ∧ (s.pipBank n b).complete) →
    let c := s.ctx n
    Leaves (.pipeTableSwap ctx bank) s ((s.setCtx n { c with pipSwap := c.pipSwap ++ [(b, s.now)] }).showPipBank n)) ∧
  (∀ (ctx : Fin 8) (bank : BitVec 32),
    let n := ctx.val
    let b := bank.toNat
    ¬(b < 2 ∧ (s.pipBank n b).complete) →
    Leaves (.pipeTableSwap ctx bank) s (s.raise .PIP_EVT_NOT_READY n)) ∧
  (∀ (out : Fin 8) (bank : BitVec 32),
    (bank.toNat < 2 ∧ s.lookSwapOk out.val bank.toNat) →
    Leaves (.lookSwap out bank) s (s.lookSwapTo out.val bank.toNat)) ∧
  (∀ (out : Fin 8) (bank : BitVec 32),
    ¬(bank.toNat < 2 ∧ s.lookSwapOk out.val bank.toNat) →
    Leaves (.lookSwap out bank) s (s.raise .COL_EVT_LOOK_NOT_READY out.val)) ∧
  (∀ (ctx : Fin 8) (bank : BitVec 32),
    (bank.toNat < 2 ∧ s.calComplete ctx.val bank.toNat) →
    Leaves (.calSwap ctx bank) s (s.calSwapTo ctx.val bank.toNat)) ∧
  (∀ (ctx : Fin 8) (bank : BitVec 32),
    ¬(bank.toNat < 2 ∧ s.calComplete ctx.val bank.toNat) →
    Leaves (.calSwap ctx bank) s (s.raise .COL_EVT_CAL_NOT_READY ctx.val)) ∧
  (∀ (ctx : Fin 8) (bank : BitVec 32),
    bank.toNat < 2 →
    Leaves (.statsConfigSwap ctx bank) s (s.staSwapTo ctx.val bank.toNat)) ∧
  (∀ (ctx : Fin 8) (bank : BitVec 32),
    ¬(bank.toNat < 2) →
    Leaves (.statsConfigSwap ctx bank) s s) ∧
  (
    let k := min s.inlineRows 127
    let s1 := if s.get .PIP_INLINE_BACKLOG_PEAK < k then s.set .PIP_INLINE_BACKLOG_PEAK k else s
    Leaves .pipelineArbitration s (s1.arbitrate)) ∧
  (∀ (ctx : Fin 8),
    let n := ctx.val;
    ((s.ctx n).frames.find? fun f => !f.demosaicked && f.fed == f.rows) = none →
    Leaves (.frameLeavesDemosaic ctx) s s) ∧
  (∀ (ctx : Fin 8),
    let n := ctx.val
    ∀ f, ((s.ctx n).frames.find? fun f => !f.demosaicked && f.fed == f.rows) = some f →
    let g := { s.develop n f with demosaicked := true, slot := false }
    Leaves (.frameLeavesDemosaic ctx) s (
      let s := s.modFrame n f.id fun _ => g
      let s := (s.set .PIP_CTX_FRAME_FRAME f.num n).set .PIP_CTX_DYN_COUNT g.dyn n
      let s := { s with pip := { s.pip with katDue := s.pip.katDue ++ [(n, f.num)] } }
      let s := (s.showPan n).fillRows n g
      if g.closed then s.tapsDone n g else s)) ∧
  (∀ (pipOk colOk : Bool),
    s.pip.katDue = [] →
    Leaves (.katPass pipOk colOk) s s) ∧
  (∀ (pipOk colOk : Bool) n frame rest, s.pip.katDue = (n, frame) :: rest →
    let s1 := { s with pip := { s.pip with
      katDue := rest, lastKat := s.now, katCtx := n, katFrame := frame, busy := s.pip.busy + 320 } }
    let s2 := (s1.set .PIP_KAT_LAST_OK (if pipOk then 1 else 0)).set .COL_KAT_LAST_OK (if colOk then 1 else 0)
    let s3 := if pipOk then s2.passed 0x07 else ((s2.bump .PIP_KAT_FAILS).raise .PIP_EVT_KAT_FAIL).report 0x07 n frame
    colOk →
    Leaves (.katPass pipOk colOk) s (s3.passed 0x08)) ∧
  (∀ (pipOk colOk : Bool) n frame rest, s.pip.katDue = (n, frame) :: rest →
    let s1 := { s with pip := { s.pip with
      katDue := rest, lastKat := s.now, katCtx := n, katFrame := frame, busy := s.pip.busy + 320 } }
    let s2 := (s1.set .PIP_KAT_LAST_OK (if pipOk then 1 else 0)).set .COL_KAT_LAST_OK (if colOk then 1 else 0)
    let s3 := if pipOk then s2.passed 0x07 else ((s2.bump .PIP_KAT_FAILS).raise .PIP_EVT_KAT_FAIL).report 0x07 n frame
    ¬(colOk) →
    Leaves (.katPass pipOk colOk) s (((s3.bump .COL_KAT_FAILS).raise .COL_EVT_KAT_FAIL).report 0x08 n frame)) ∧
  (∀ (ctx : Fin 8),
    let n := ctx.val;
    ((s.ctx n).frames.find? (·.recordDue)) = none →
    Leaves (.statsPublish ctx) s s) ∧
  (∀ (ctx : Fin 8),
    let n := ctx.val
    ∀ f, ((s.ctx n).frames.find? (·.recordDue)) = some f →
    !f.coloured || s.frozen →
    Leaves (.statsPublish ctx) s s) ∧
  (∀ (ctx : Fin 8),
    let n := ctx.val
    ∀ f, ((s.ctx n).frames.find? (·.recordDue)) = some f →
    ¬(!f.coloured || s.frozen) →
    Leaves (.statsPublish ctx) s (((s.publishRecord n f).modFrame n f.id fun f => { f with recordDue := false }).forget n))

/-- What the events of the engine array do: kernel launches, results, doorbells, faults, drains and ring positions (R185 … R205). what
  the
event leaves, with the conditions on the state that tell its cases apart. The model's own choices in them: deliveries are log 44, stops
log 26. -/
def Obligations.EngineEventsDo : Prop := ∀ s : State,
  (∀ (handle : BitVec 32),
    s.kernelOf handle.toNat = none →
    Leaves (.kernelStart handle) s s) ∧
  (∀ (handle : BitVec 32),
    ∀ k, s.kernelOf handle.toNat = some k →
    s.kState k = 2 →
    Leaves (.kernelStart handle) s (s.startKernel k)) ∧
  (∀ (handle : BitVec 32),
    ∀ k, s.kernelOf handle.toNat = some k →
    ¬(s.kState k = 2) →
    Leaves (.kernelStart handle) s (s.raise .ENG_EVT2_NOT_READY)) ∧
  (∀ (handle : BitVec 32),
    s.kernelOf handle.toNat = none →
    Leaves (.kernelStop handle) s s) ∧
  (∀ (handle : BitVec 32),
    ∀ k, s.kernelOf handle.toNat = some k →
    s.kState k = 3 →
    Leaves (.kernelStop handle) s (s.stopKernel k)) ∧
  (∀ (handle : BitVec 32),
    ∀ k, s.kernelOf handle.toNat = some k →
    ¬(s.kState k = 3) →
    Leaves (.kernelStop handle) s s) ∧
  (∀ (slot : Fin 32) (output input : Fin 4) (frame : Nat) (data : List Byte),
    s.kernel slot.val = none →
    Leaves (.resultPublish slot output input frame data) s s) ∧
  (∀ (slot : Fin 32) (output input : Fin 4) (frame : Nat) (data : List Byte),
    ∀ e, s.kernel slot.val = some e →
    ((s.kState slot.val ≠ 3 ∧ s.kState slot.val ≠ 4) ∨ s.frozen) →
    Leaves (.resultPublish slot output input frame data) s s) ∧
  (∀ (slot : Fin 32) (output input : Fin 4) (frame : Nat) (data : List Byte),
    ∀ e, s.kernel slot.val = some e →
    ¬((s.kState slot.val ≠ 3 ∧ s.kState slot.val ≠ 4) ∨ s.frozen) →
    let found := (tget e.inputs input.val).bind fun x =>
      (x.delivered.find? fun d => d.frame == frame).filter fun d => !x.abandoned.contains d.id;
    (tget e.outputs output.val = none ∨ found = none ∨ (tget e.outputs output.val).any fun out => out.slotBytes < data.length) →
    Leaves (.resultPublish slot output input frame data) s (s.bump .ENG_K_REJ_REJECTED slot.val 1 output.val)) ∧
  (∀ (slot : Fin 32) (output input : Fin 4) (frame : Nat) (data : List Byte),
    ∀ e, s.kernel slot.val = some e →
    ¬((s.kState slot.val ≠ 3 ∧ s.kState slot.val ≠ 4) ∨ s.frozen) →
    let found := (tget e.inputs input.val).bind fun x =>
      (x.delivered.find? fun d => d.frame == frame).filter fun d => !x.abandoned.contains d.id
    ∀ out d, tget e.outputs output.val = some out → found = some d → data.length ≤ out.slotBytes → d.status = none →
    Leaves (.resultPublish slot output input frame data) s
      (s.setKernel slot.val { e with due := e.due ++ [⟨output.val, input.val, d.id, data⟩] })) ∧
  (∀ (slot : Fin 32) (output input : Fin 4) (frame : Nat) (data : List Byte),
    ∀ e, s.kernel slot.val = some e →
    ¬((s.kState slot.val ≠ 3 ∧ s.kState slot.val ≠ 4) ∨ s.frozen) →
    let found := (tget e.inputs input.val).bind fun x =>
      (x.delivered.find? fun d => d.frame == frame).filter fun d => !x.abandoned.contains d.id
    ∀ out d, tget e.outputs output.val = some out → found = some d → data.length ≤ out.slotBytes → d.status ≠ none →
    let header := resultHeader output.val (handleOf (s.get .ENG_K_STATE_GENERATION slot.val) slot.val) d s.now data
    let held : Held := ⟨d.frame, d.sof, header ++ data⟩
    let after := { out with results := (held :: out.results).take out.slots }
    Leaves (.resultPublish slot output input frame data) s (
      let s := s.modKernel slot.val fun e => { e with outputs := tins after e.outputs output.val };
      ((s.set .ENG_K_OUT_LAST d.frame slot.val output.val).raise .ENG_EVT_PUBLISHED slot.val).pulseSource (0x20 + slot.val))) ∧
  (∀ (slot : Fin 32),
    s.kState slot.val = 4 →
    Leaves (.kernelDoneWord slot) s (s.toStopped slot.val)) ∧
  (∀ (slot : Fin 32),
    ¬(s.kState slot.val = 4) →
    Leaves (.kernelDoneWord slot) s s) ∧
  (∀ (slot : Fin 32),
    let k := slot.val;
    (s.kState k = 3 ∧ ((s.kernel k).bind (·.deadline)).isSome) →
    Leaves (.drainExpiry slot) s (s.toStopping k)) ∧
  (∀ (slot : Fin 32),
    let k := slot.val
    ¬(s.kState k = 3 ∧ ((s.kernel k).bind (·.deadline)).isSome) →
    s.kState k = 4 →
    Leaves (.drainExpiry slot) s (s.toStopped k)) ∧
  (∀ (slot : Fin 32),
    let k := slot.val
    ¬(s.kState k = 3 ∧ ((s.kernel k).bind (·.deadline)).isSome) →
    ¬(s.kState k = 4) →
    Leaves (.drainExpiry slot) s s) ∧
  (∀ (slot : Fin 32) (cause : Fin 4) (cluster : Fin 32) (engine : Fin 16) (pc : Nat),
    let k := slot.val;
    (s.kState k ≠ 3 ∧ s.kState k ≠ 4) →
    Leaves (.kernelFault slot cause cluster engine pc) s s) ∧
  (∀ (slot : Fin 32) (cause : Fin 4) (cluster : Fin 32) (engine : Fin 16) (pc : Nat),
    let k := slot.val
    ¬(s.kState k ≠ 3 ∧ s.kState k ≠ 4) →
    Leaves (.kernelFault slot cause cluster engine pc) s (
      let s := (s.haltEngines k).modKernel k fun e => { e with
        deadline := none
        due := []
        inputs := e.inputs.map fun (i, x) => (i, { x with port := none, streaming := [], held := [], acquired := none }) }
      let s := (s.set .ENG_K_STATE_STATE 5 k).raise .ENG_EVT2_FAULT
      let s := (((s.set .ENG_K_FAULT_CAUSE cause.val k).set .ENG_K_FAULT_CLUSTER cluster.val k).set
        .ENG_K_FAULT_ENGINE engine.val k).set .ENG_K_FAULT_PC pc k
      let s := s.complete (fun w => w == .kernelStopped k) .WRONG_STATE .empty
      if cause.val = 3 then
        ((s.modEngSlot cluster.val engine.val fun g => { g with suspect := true }).showSuspects cluster.val).report 0x04
          (s.rd .ENG_K_FAULT k) 0
      else s)) ∧
  (∀ (slot : Fin 32),
    Leaves (.kernelDoorbell slot) s (s.ringKernel slot.val)) ∧
  (∀ (slot : Fin 32) (input : Fin 4) (count : Nat),
    !s.kernelAlive slot.val →
    Leaves (.readCountAdvance slot input count) s s) ∧
  (∀ (slot : Fin 32) (input : Fin 4) (count : Nat),
    s.kernelAlive slot.val →
    Leaves (.readCountAdvance slot input count) s (s.modInput slot.val input.val fun x => if x.frameKind then x else x.freed count)) ∧
  (∀ (slot : Fin 32) (input : Fin 4),
    let k := slot.val
    let i := input.val;
    ((s.kernel k).bind fun e => tget e.inputs i) = none →
    Leaves (.frameAcquire slot input) s s) ∧
  (∀ (slot : Fin 32) (input : Fin 4),
    let k := slot.val
    let i := input.val
    ∀ x, ((s.kernel k).bind fun e => tget e.inputs i) = some x →
    let held := x.newest.any fun id => (s.ctx x.ctx).frames.any fun f => f.id == id && (if x.tap = 0 then f.rawSlot else f.devSlot)
    !s.kernelAlive k || !x.frameKind || x.acquired.isSome || !held →
    Leaves (.frameAcquire slot input) s s) ∧
  (∀ (slot : Fin 32) (input : Fin 4),
    let k := slot.val
    let i := input.val
    ∀ x, ((s.kernel k).bind fun e => tget e.inputs i) = some x →
    let held := x.newest.any fun id => (s.ctx x.ctx).frames.any fun f => f.id == id && (if x.tap = 0 then f.rawSlot else f.devSlot)
    ¬(!s.kernelAlive k || !x.frameKind || x.acquired.isSome || !held) →
    Leaves (.frameAcquire slot input) s ((s.modInput k i fun x =>
      { x with acquired := x.newest, newest := none, revoked := false, fresh := 0 }).bump .ENG_K_IN_MISSED k
      (x.fresh - 1) i)) ∧
  (∀ (slot : Fin 32) (input : Fin 4),
    !s.kernelAlive slot.val →
    Leaves (.frameRelease slot input) s s) ∧
  (∀ (slot : Fin 32) (input : Fin 4),
    s.kernelAlive slot.val →
    Leaves (.frameRelease slot input) s (s.modInput slot.val input.val fun x => { x with acquired := none, revoked := false }))

/-- What the events of the encoder do: switches, stream starts, spills, plans and the checks of its cores (R206 … R239). what the event
leaves, with the conditions on the state that tell its cases apart. The model's own choices in them: a full plan queue is log 48, the
checks are log 49. -/
def Obligations.EncoderEventsDo : Prop := ∀ s : State,
  (∀ (stream : Fin 8) (handle : BitVec 32),
    (s.bound stream.val = none ∨ s.codecOf handle.toNat = none) →
    Leaves (.codecSwitch stream handle) s (s.raise .MLS_EVT_NOT_READY)) ∧
  (∀ (stream : Fin 8) (handle : BitVec 32) h i,
    s.bound stream.val = some h → s.codecOf handle.toNat = some i →
    let ok := s.streamOn stream.val && s.get .MLS_S_CFG_STOP_PENDING stream.val == 0 && s.streamOf i == some stream.val &&
      s.switchOk stream.val i
    Leaves (.codecSwitch stream handle) s (if ok then s.switchStream stream.val i else s.raise .MLS_EVT_NOT_READY)) ∧
  (∀ (stream : Fin 8),
    s.bound stream.val = none →
    Leaves (.streamStart stream) s (s.raise .MLS_EVT_NOT_READY)) ∧
  (∀ (stream : Fin 8),
    ∀ h, s.bound stream.val = some h →
    s.streamOn stream.val →
    Leaves (.streamStart stream) s s) ∧
  (∀ (stream : Fin 8),
    ∀ h, s.bound stream.val = some h →
    ¬(s.streamOn stream.val) →
    s.codecTime (s.activeWith h none) →
    Leaves (.streamStart stream) s (s.startStream stream.val h)) ∧
  (∀ (stream : Fin 8),
    ∀ h, s.bound stream.val = some h →
    ¬(s.streamOn stream.val) →
    ¬(s.codecTime (s.activeWith h none)) →
    Leaves (.streamStart stream) s (s.raise .MLS_EVT_NOT_READY)) ∧
  (∀ (idx : Fin 64),
    let h := idx.val
    s.mls.resident.contains h || (s.codec h).coding.isEmpty →
    Leaves (.contextSpill idx) s s) ∧
  (∀ (idx : Fin 64),
    let h := idx.val
    ¬(s.mls.resident.contains h || (s.codec h).coding.isEmpty) →
    let put := fun (l : List Nat) => { s with mls := { s.mls with resident := l ++ [h] } }
    let count := fun (s : State) => ((s.bump .MLS_CTXS_SPILLS).raise .MLS_EVT_SPILL).showCodecs
    s.mls.resident.length < 16 →
    Leaves (.contextSpill idx) s (count (put s.mls.resident))) ∧
  (∀ (idx : Fin 64),
    let h := idx.val
    ¬(s.mls.resident.contains h || (s.codec h).coding.isEmpty) →
    let put := fun (l : List Nat) => { s with mls := { s.mls with resident := l ++ [h] } }
    let count := fun (s : State) => ((s.bump .MLS_CTXS_SPILLS).raise .MLS_EVT_SPILL).showCodecs
    ¬(s.mls.resident.length < 16) →
    ∀ v, (s.mls.resident.find? fun r => (s.codec r).coding.isEmpty) = some v →
    Leaves (.contextSpill idx) s (count (put (s.mls.resident.filter (· ≠ v))))) ∧
  (∀ (idx : Fin 64),
    let h := idx.val
    ¬(s.mls.resident.contains h || (s.codec h).coding.isEmpty) →
    ¬(s.mls.resident.length < 16) →
    (s.mls.resident.find? fun r => (s.codec r).coding.isEmpty) = none →
    Leaves (.contextSpill idx) s s) ∧
  (∀ (idx : Fin 64),
    let h := idx.val;
    ((s.codec h).ends) = [] →
    Leaves (.planQueue idx) s s) ∧
  (∀ (idx : Fin 64),
    let h := idx.val
    ∀ r bucket t, ((s.codec h).ends) = (r, bucket) :: t →
    Leaves (.planQueue idx) s (
      let s := s.modCodec h fun c => { c with ends := t }
      if s.get .MLS_C_RC_RC_MODE h = 0 then s.firmwarePlan h r bucket else s)) ∧
  (∀ (idx : Fin 64) (ok : Bool),
    let h := idx.val;
    (s.mls.rtDue.find? (·.idx == h)) = none →
    Leaves (.roundTripCheck idx ok) s s) ∧
  (∀ (idx : Fin 64) (ok : Bool),
    let h := idx.val
    ∀ r, (s.mls.rtDue.find? (·.idx == h)) = some r →
    let good := ok && r.holds
    Leaves (.roundTripCheck idx ok) s (
      let s := { s with mls := { s.mls with
        rtDue := s.mls.rtDue.erase r, kaLast := tins s.now s.mls.kaLast (s.get .MLS_C_CFG_PROFILE h) } }
      let s := s.set .MLS_RT_LAST_OK (if good then 1 else 0)
      if good then (s.passed 0x09).passed 0x0A else
      (((s.bump .MLS_RT_FAILS).set .MLS_RT_FRAME_FRAME r.frame).raise .MLS_EVT_RT_FAIL).report 0x09
        (s.get .MLS_C_CFG_DEST_INDEX h) r.frame)) ∧
  (∀ (core : Fin 4) (ok : Bool),
    let s1 := { s with mls := { s.mls with kaLast := tins s.now s.mls.kaLast core.val } }
    let s2 := s1.set .MLS_RT_LAST_OK (if ok then 1 else 0)
    ok →
    Leaves (.knownAnswerSlice core ok) s ((s2.passed 0x09).passed 0x0A)) ∧
  (∀ (core : Fin 4) (ok : Bool),
    let s1 := { s with mls := { s.mls with kaLast := tins s.now s.mls.kaLast core.val } }
    let s2 := s1.set .MLS_RT_LAST_OK (if ok then 1 else 0)
    ¬(ok) →
    Leaves (.knownAnswerSlice core ok) s (s2.report 0x0A core.val 0))

/-- What the events of the decoder do: frame headers, freed slots and slices (R240 … R255). what the event leaves, with the conditions
  on the
state that tell its cases apart. The model's own choices in them: the values a decoder is free to choose are log 20, waiting frames log
28. -/
def Obligations.DecoderEventsDo : Prop := ∀ s : State,
  (∀ (session : Fin 8),
    ¬(s.decRunning session.val) ∨ (s.dec session.val).inFrame.isSome →
    Leaves (.decFrameHeader session) s s) ∧
  (∀ (session : Fin 8),
    s.decRunning session.val → (s.dec session.val).inFrame = none →
    Leaves (.decFrameHeader session) s ((s.scanInput session.val).readHeader session.val)) ∧
  (∀ (session : Fin 8),
    Leaves (.decSlotFreed session) s (s.modDec session.val fun k =>
    match k.ring.find? (·.held) with
    | none => k
    | some f => { k with ring := k.ring.map fun (x : Decoded) => if x.slot = f.slot then { x with held := false } else x, slotWait := false })) ∧
  (∀ (session : Fin 8),
    Leaves (.decSlice session) s (s.decodeSlice session.val))

/-- What the events of recording do: takes, frames on their way to NAND, programming, failures, mounting and replay (R209 … R285). what
  the
event leaves, with the conditions on the state that tell its cases apart. The model's own choices in them: physical stripes are log 51,
extents log 52, closing log 30. -/
def Obligations.RecordingEventsDo : Prop := ∀ s : State,
  (∀ (stream : Fin 8),
    let st := stream.val;
    (s.bound st).isNone →
    Leaves (.streamStop stream) s (s.raise .MLS_EVT_NOT_READY)) ∧
  (∀ (stream : Fin 8),
    let st := stream.val
    ¬((s.bound st).isNone) →
    s.streamOn st →
    Leaves (.streamStop stream) s (((s.stopStreamTakes st).stopStream st).settleTakes)) ∧
  (∀ (stream : Fin 8),
    let st := stream.val
    ¬((s.bound st).isNone) →
    ¬(s.streamOn st) →
    Leaves (.streamStop stream) s s) ∧
  (∀ (mag : Fin 4) (stream : Fin 8) (handle : BitVec 32),
    s.takeOf handle.toNat = none →
    Leaves (.takeStart mag stream handle) s (s.medNotReady)) ∧
  (∀ (mag : Fin 4) (stream : Fin 8) (handle : BitVec 32),
    ∀ t, s.takeOf handle.toNat = some t →
    ((s.take t).primary = mag.val ∧ (s.take t).stream = stream.val ∧ s.startStatus t = .DONE) →
    Leaves (.takeStart mag stream handle) s (s.startTake t)) ∧
  (∀ (mag : Fin 4) (stream : Fin 8) (handle : BitVec 32),
    ∀ t, s.takeOf handle.toNat = some t →
    ¬((s.take t).primary = mag.val ∧ (s.take t).stream = stream.val ∧ s.startStatus t = .DONE) →
    Leaves (.takeStart mag stream handle) s (s.medNotReady)) ∧
  (∀ (mag : Fin 4) (stream : Fin 8),
    s.recordingOn mag.val stream.val = none →
    Leaves (.takeStop mag stream) s (s.medNotReady)) ∧
  (∀ (mag : Fin 4) (stream : Fin 8),
    ∀ t, s.recordingOn mag.val stream.val = some t →
    Leaves (.takeStop mag stream) s (s.closeTake t 1)) ∧
  (∀ (mag : Fin 4) (stream : Fin 8) (code : BitVec 32),
    s.recordingOn mag.val stream.val = none →
    Leaves (.takeMark mag stream code) s (s.medNotReady)) ∧
  (∀ (mag : Fin 4) (stream : Fin 8) (code : BitVec 32),
    ∀ t, s.recordingOn mag.val stream.val = some t →
    Leaves (.takeMark mag stream code) s (s.mark t code.toNat)) ∧
  (∀ (idx : Fin 64),
    let h := idx.val
    !s.mayEncode h →
    Leaves (.encodeBoundary idx) s s) ∧
  (∀ (idx : Fin 64),
    let h := idx.val
    s.mayEncode h →
    s.nextFrame h = none →
    Leaves (.encodeBoundary idx) s s) ∧
  (∀ (idx : Fin 64),
    let h := idx.val
    s.mayEncode h →
    ∀ f, s.nextFrame h = some f →
    Leaves (.encodeBoundary idx) s (
      let s := (s.profileChange h).doSwitch h
      let (s, c) := s.beginCoding h f
      ((s.startDone h).reserve h c).settleTakes)) ∧
  (∀ (idx : Fin 64),
    Leaves (.sliceEmit idx) s ((s.emitSlice idx.val).afterCoding)) ∧
  (∀ (idx : Fin 64),
    (s.frozen ∨ s.publishRec idx.val = none) →
    Leaves (.frameRecordPublish idx) s s) ∧
  (∀ (idx : Fin 64),
    ¬(s.frozen) →
    ∀ c r t, s.publishRec idx.val = some (c, r, t) →
    Leaves (.frameRecordPublish idx) s ((t.recordOut idx.val c r).settleStop idx.val).settleTakes) ∧
  (∀ (mag : Fin 4) (found : Option MountFound),
    let m := mag.val
    s.magState m ≠ magMounting →
    Leaves (.mount mag found) s s) ∧
  (∀ (mag : Fin 4) (found : Option MountFound),
    let m := mag.val
    s.magState m = magMounting →
    let k := found.elim (s.magz m) (s.magz m).found
    let s1 := s.setMag m k
    k.label = none →
    let unreadable := found.any fun f => f.copy0 == .unreadable && f.copy1 == .unreadable
    Leaves (.mount mag found) s (s1.set .MED_M_STATE_STATE (if unreadable then magUnsupported else magBlank) m)) ∧
  (∀ (mag : Fin 4) (found : Option MountFound),
    let m := mag.val
    s.magState m = magMounting →
    let k := found.elim (s.magz m) (s.magz m).found
    let s1 := s.setMag m k
    k.label ≠ none → k.newestCheckpoint = none →
    Leaves (.mount mag found) s (s1.set .MED_M_STATE_STATE magFaulted m)) ∧
  (∀ (mag : Fin 4) (found : Option MountFound),
    let m := mag.val
    s.magState m = magMounting →
    let k := found.elim (s.magz m) (s.magz m).found
    ∀ l c, k.label = some l → k.newestCheckpoint = some c →
    Leaves (.mount mag found) s (
      let (n, s) := (s.setMag m k).draw
      let a := replayPages ringPages (k.load c, [])
      let k := (List.range 4096).foldl (closeReplay (s.flag .VAL_INT_STATUS_KEY_OK) (k.worn l) a.2 n l.user) a.1
      let s := (s.setMag m k).set .MED_M_USER_U l.user m
      let s := (s.set .MED_M_POOL_POOL (l.total - 13 - l.user - k.retired.length) m).set .MED_M_WEAR_RETIRED
        (min k.retired.length 0xFFFF) m
      let s := s.set .MED_M_POWER_TARGET_MODE (if l.target then 1 else 0) m
      (s.set .MED_M_STATE_STATE (if k.worn l then magReadOnly else magReady) m).checkpoint m)) ∧
  (∀ (mag : Fin 4) (chan : Bool) (frame : Nat),
    let m := mag.val
    chan →
    s.nextWrite m = none →
    Leaves (.stripeProgrammed mag chan frame) s s) ∧
  (∀ (mag : Fin 4) (chan : Bool) (frame : Nat),
    let m := mag.val
    chan →
    ∀ x, s.nextWrite m = some x →
    Leaves (.stripeProgrammed mag chan frame) s (s.placeStaged m x)) ∧
  (∀ (mag : Fin 4) (chan : Bool) (frame : Nat),
    let m := mag.val
    ¬(chan) →
    s.nextProgrammed m frame = none →
    Leaves (.stripeProgrammed mag chan frame) s s) ∧
  (∀ (mag : Fin 4) (chan : Bool) (frame : Nat),
    let m := mag.val
    ¬(chan) →
    ∀ p, s.nextProgrammed m frame = some p →
    Leaves (.stripeProgrammed mag chan frame) s ((s.modMag m fun k => { k with pend := k.pend.map fun (q : Pend) =>
    if q.take = p.take ∧ q.num = p.num ∧ q.sof = p.sof then { q with programmed := true } else q }).placeFrames m)) ∧
  (∀ (mag : Fin 4),
    let m := mag.val
    let page := (s.magz m).page
    page.isEmpty →
    Leaves (.journalPageProgrammed mag) s s) ∧
  (∀ (mag : Fin 4),
    let m := mag.val
    let page := (s.magz m).page
    ¬(page.isEmpty) →
    Leaves (.journalPageProgrammed mag) s (
      let s := s.modMag m fun k => { k with ring := tins (journalPage k.pageSeq page) k.ring (k.pageSeq % ringPages) }
      let s := page.foldl (State.applyEntry m) s
      let s := s.modMag m fun k => { k with page := [], pages := k.pages + 1, pageSeq := k.pageSeq + 1 }
      let s := if 4096 ≤ (s.magz m).pages then s.checkpoint m else s;
      (((s.startPage m).showPending m).settleTakes).settleEject m)) ∧
  (∀ (mag : Fin 4) (superblock : Nat) (erase : Bool) (frame : FrameStripe) (others : Bool),
    let m := mag.val
    let counted := if erase then s else s.bump .MED_M_WEAR_PROG_FAIL m
    counted.magState m ≠ magReady →
    Leaves (.programFailure mag superblock erase frame others) s counted) ∧
  (∀ (mag : Fin 4) (superblock : Nat) (erase : Bool) (frame : FrameStripe) (others : Bool),
    let m := mag.val
    let empty := s.get .MED_M_POOL_POOL m == 0
    let counted := if erase then s else s.bump .MED_M_WEAR_PROG_FAIL m
    counted.magState m = magReady → (erase || !empty) →
    Leaves (.programFailure mag superblock erase frame others) s (counted.retire m superblock (if erase then 2 else 1))) ∧
  (∀ (mag : Fin 4) (superblock : Nat) (erase : Bool) (frame : FrameStripe) (others : Bool),
    let m := mag.val
    let empty := s.get .MED_M_POOL_POOL m == 0
    let counted := if erase then s else s.bump .MED_M_WEAR_PROG_FAIL m
    counted.magState m = magReady → ¬(erase || !empty) →
    Leaves (.programFailure mag superblock erase frame others) s (counted.lastResort m frame.frame frame.stripe others)) ∧
  (Leaves .fabricCycle s (s.fabric)) ∧
  (∀ (mag : Fin 4) (bad : List Nat),
    let m := mag.val;
    ((s.magz m).format) = none →
    Leaves (.formatComplete mag bad) s s) ∧
  (∀ (mag : Fin 4) (bad : List Nat),
    let m := mag.val
    ∀ spare, ((s.magz m).format) = some spare →
    let total := s.get .MED_M_STATE_TOTAL m
    let good := total - bad.length
    let pool := (spare * total + 999) / 1000
    let k := s.magz m
    Leaves (.formatComplete mag bad) s (
      let (n, s) := s.draw
      let blank : Mag := { serial := k.serial, erasedAll := k.erasedAll + 1, erases := k.erases, retired := bad, writeSeq := k.writeSeq
                           checkpoint := k.checkpoint, queue := k.queue, powerTask := k.powerTask, nextStaged := k.nextStaged }
      let s := s.set .MED_M_WEAR_RETIRED (min bad.length 0xFFFF) m
      if good < 14 + pool then
        let s := (s.setMag m blank).showPending m;
        ((((s.set .MED_M_USER_U 0 m).set .MED_M_POOL_POOL 0 m).set .MED_M_STATE_STATE magBlank m)).complete (fun w => w == .format m)
          .MED_FULL .empty
      else
        let user := good - 13 - pool
        let s := (s.setMag m { blank with label := some (s.newLabel m n user spare bad) }).showPending m
        let s := (((s.set .MED_M_USER_U user m).set .MED_M_POOL_POOL pool m).set .MED_M_STATE_STATE magReady m);
        (s.checkpoint m).complete (fun w => w == .format m) .DONE (.values [user])))

/-- What the events of the media channel do: tasks, their acceptance and completion, queue reset, power states (R286 … R305). what the
  event
leaves, with the conditions on the state that tell its cases apart. The model's own choices in them: discarded writes are log 54,
completion masks log 59. -/
def Obligations.MediaChannelEventsDo : Prop := ∀ s : State,
  (∀ (slot : Fin 8) (mag : Fin 4) (tag : Fin 32),
    let m := mag.val
    s.runnable m slot.val tag.val opRead = none →
    Leaves (.read slot mag tag) s s) ∧
  (∀ (slot : Fin 8) (mag : Fin 4) (tag : Fin 32),
    let m := mag.val
    ∀ t, s.runnable m slot.val tag.val opRead = some t →
    Leaves (.read slot mag tag) s (
      let (n, s) := s.draw
      let blocks := (List.range t.count).map fun i => (s.magz m).readBlock n (t.lba + i)
      s.modTask m t fun q => { q with started := true, data := blocks.flatMap (·.1), damaged := blocks.any (·.2) })) ∧
  (∀ (slot : Fin 8) (mag : Fin 4) (tag : Fin 32) (data : List Byte),
    s.runnable mag.val slot.val tag.val opWrite = none →
    Leaves (.write slot mag tag data) s s) ∧
  (∀ (slot : Fin 8) (mag : Fin 4) (tag : Fin 32) (data : List Byte),
    ∀ t, s.runnable mag.val slot.val tag.val opWrite = some t →
    Leaves (.write slot mag tag data) s (s.stage mag.val t (some (padTo (t.count * 4096) data)))) ∧
  (∀ (slot : Fin 8) (mag : Fin 4) (tag : Fin 32),
    s.runnable mag.val slot.val tag.val opFlush = none →
    Leaves (.flush slot mag tag) s s) ∧
  (∀ (slot : Fin 8) (mag : Fin 4) (tag : Fin 32),
    ∀ t, s.runnable mag.val slot.val tag.val opFlush = some t →
    Leaves (.flush slot mag tag) s (s.modTask mag.val t fun q => { q with started := true })) ∧
  (∀ (slot : Fin 8) (mag : Fin 4) (tag : Fin 32),
    s.runnable mag.val slot.val tag.val opTrim = none →
    Leaves (.trim slot mag tag) s s) ∧
  (∀ (slot : Fin 8) (mag : Fin 4) (tag : Fin 32),
    ∀ t, s.runnable mag.val slot.val tag.val opTrim = some t →
    Leaves (.trim slot mag tag) s (s.stage mag.val t none)) ∧
  (∀ (slot : Fin 8) (mag : Fin 4) (tag : Fin 32),
    let m := mag.val
    s.runnable m slot.val tag.val opIdentify = none →
    Leaves (.identify slot mag tag) s s) ∧
  (∀ (slot : Fin 8) (mag : Fin 4) (tag : Fin 32),
    let m := mag.val
    ∀ t, s.runnable m slot.val tag.val opIdentify = some t →
    let vs := [unle (s.magz m).name, s.get .MED_M_STATE_TOTAL m, s.get .MED_M_USER_U m, s.blocks m, s.magState m, s.get
      .MED_M_POWER_STATE m,
      s.get .MED_M_POWER_TARGET_MODE m, s.get .MED_M_PENDING_PENDING m, s.get .MED_M_CEIL_CEIL m]
    Leaves (.identify slot mag tag) s (s.modTask m t fun q => { q with started := true, data := padTo 4096 (Config.identify vs) })) ∧
  (∀ (slot : Fin 8) (mag : Fin 4) (tag : Fin 32),
    let m := mag.val
    s.runnable m slot.val tag.val opPower = none →
    Leaves (.powerState slot mag tag) s s) ∧
  (∀ (slot : Fin 8) (mag : Fin 4) (tag : Fin 32),
    let m := mag.val
    ∀ t, s.runnable m slot.val tag.val opPower = some t →
    !(((s.magz m).queue.takeWhile fun q => !(q.host == t.host && q.tag == t.tag)).isEmpty) →
    Leaves (.powerState slot mag tag) s s) ∧
  (∀ (slot : Fin 8) (mag : Fin 4) (tag : Fin 32),
    let m := mag.val
    ∀ t, s.runnable m slot.val tag.val opPower = some t →
    ¬(!(((s.magz m).queue.takeWhile fun q => !(q.host == t.host && q.tag == t.tag)).isEmpty)) →
    Leaves (.powerState slot mag tag) s (
      let s := (s.modTask m t fun q => { q with started := true }).modMag m fun k =>
        { k with powerTask := some { t with started := true } };
      (s.set .MED_M_POWER_TARGET t.count m).set .MED_M_POWER_ENTERING 1 m)) ∧
  (∀ (slot : Fin 8),
    Leaves (.taskAccept slot) s (s.acceptTask slot.val)) ∧
  (∀ (slot : Fin 8) (mag : Fin 4) (tag : Fin 32),
    ((s.magz mag.val).queue.find? fun t => t.host == slot.val && t.tag == tag.val) = none →
    Leaves (.taskComplete slot mag tag) s s) ∧
  (∀ (slot : Fin 8) (mag : Fin 4) (tag : Fin 32),
    ∀ t, ((s.magz mag.val).queue.find? fun t => t.host == slot.val && t.tag == tag.val) = some t →
    Leaves (.taskComplete slot mag tag) s (s.completeTask mag.val t)) ∧
  (∀ (slot : Fin 8) (value : BitVec 32),
    let all := bitsOf value.toNat 4 4 == 1
    all && slot.val != 0 →
    Leaves (.queueReset slot value) s s) ∧
  (∀ (slot : Fin 8) (value : BitVec 32),
    let all := bitsOf value.toNat 4 4 == 1
    ¬(all && slot.val != 0) →
    Leaves (.queueReset slot value) s ((s.resetQueue slot.val (bitsOf value.toNat 1 0) all).1)) ∧
  (∀ (slot : Fin 8),
    (s.med.resets.find? (·.host == slot.val)) = none →
    Leaves (.resetRecord slot) s s) ∧
  (∀ (slot : Fin 8),
    ∀ r, (s.med.resets.find? (·.host == slot.val)) = some r →
    Leaves (.resetRecord slot) s (
      let s := { s with med := { s.med with resets := s.med.resets.erase r } }
      s.cqWrite r.host ⟨0x0F, r.mag, false, 0, .DONE, false, false, r.completed, r.discarded, r.cut⟩)) ∧
  (∀ (mag : Fin 4),
    let m := mag.val;
    ((s.magz m).powerTask) = none →
    Leaves (.powerStateReached mag) s s) ∧
  (∀ (mag : Fin 4),
    let m := mag.val
    ∀ t, ((s.magz m).powerTask) = some t →
    (1 < (s.magz m).queue.length ∨ (t.count = 2 ∧ !(s.magz m).quiet)) →
    Leaves (.powerStateReached mag) s s) ∧
  (∀ (mag : Fin 4),
    let m := mag.val
    ∀ t, ((s.magz m).powerTask) = some t →
    ¬(1 < (s.magz m).queue.length ∨ (t.count = 2 ∧ !(s.magz m).quiet)) →
    Leaves (.powerStateReached mag) s (
      let s := if t.count = 2 then s.checkpoint m else s
      let s := s.modMag m fun k => { k with powerTask := none };
      ((s.set .MED_M_POWER_STATE t.count m).set .MED_M_POWER_ENTERING 0 m).endTask m t .DONE false 0))

/-- What the events of memory do: tests, margins, scrubbing, errors and training (R306 … R323). what the event leaves, with the
  conditions on
the state that tell its cases apart. The model's own choices in them: raw words are log 63. -/
def Obligations.MemoryEventsDo : Prop := ∀ s : State,
  (∀ (stack : Fin 2),
    s.mem.measuring.contains stack.val || s.memPhase != memService →
    Leaves (.marginMeasure stack) s (s.bump .MEM_EVT_MARGIN_SKIP)) ∧
  (∀ (stack : Fin 2),
    ¬(s.mem.measuring.contains stack.val || s.memPhase != memService) →
    Leaves (.marginMeasure stack) s { s with mem := { s.mem with measuring := s.mem.measuring ++ [stack.val] } }) ∧
  (∀ (stack : Fin 2) (widths : List Nat),
    let k := stack.val
    !s.mem.measuring.contains k →
    Leaves (.marginDone stack widths) s s) ∧
  (∀ (stack : Fin 2) (widths : List Nat),
    let k := stack.val
    s.mem.measuring.contains k →
    ∀ w lane, narrowest (widths.take 128) = (w, lane) →
    Leaves (.marginDone stack widths) s (
      let s := { s with mem := { s.mem with measuring := s.mem.measuring.erase k } };
      (s.storeMargins k widths).complete (fun x => x == .margin k) .DONE (.values [w]))) ∧
  (∀ (addr : Nat) (result : Fin 3) (syndrome : Nat),
    result = 0 →
    Leaves (.patrolScrub addr result syndrome) s
      (((s.bump .MEM_ECC_CORRECTED).wr64 .MEM_ECC_ADDR_LO .MEM_ECC_ADDR_HI addr).raise .MEM_EVT_CORRECTED)) ∧
  (∀ (addr : Nat) (result : Fin 3) (syndrome : Nat),
    result = 1 →
    Leaves (.patrolScrub addr result syndrome) s (s.bump .MEM_ECC_SCRUB_CLEARED)) ∧
  (∀ (addr : Nat) (result : Fin 3) (syndrome : Nat),
    result = 2 → s.memPhase = memService →
    Leaves (.patrolScrub addr result syndrome) s (s.freeze 2 0x1F addr syndrome)) ∧
  (∀ (addr : Nat) (result : Fin 3) (syndrome : Nat),
    result = 2 → (s.memPhase = memFrozen ∨ s.memPhase = memFailed) →
    Leaves (.patrolScrub addr result syndrome) s s) ∧
  (∀ (addr : Nat) (result : Fin 3) (syndrome : Nat),
    result = 2 → s.memPhase ≠ memService → s.memPhase ≠ memFrozen → s.memPhase ≠ memFailed →
    Leaves (.patrolScrub addr result syndrome) s (s.bump .MEM_ECC_UNCORRECTED)) ∧
  (∀ (cause : Fin 4) (port : Fin 32) (addr syndrome : Nat),
    (cause.val = 0 ∨ s.memPhase = memFrozen ∨ s.memPhase = memFailed) →
    Leaves (.hbmFreeze cause port addr syndrome) s s) ∧
  (∀ (cause : Fin 4) (port : Fin 32) (addr syndrome : Nat),
    ¬(cause.val = 0 ∨ s.memPhase = memFrozen ∨ s.memPhase = memFailed) →
    s.memPhase = memService →
    Leaves (.hbmFreeze cause port addr syndrome) s (s.freeze cause.val port.val addr syndrome)) ∧
  (∀ (cause : Fin 4) (port : Fin 32) (addr syndrome : Nat),
    ¬(cause.val = 0 ∨ s.memPhase = memFrozen ∨ s.memPhase = memFailed) →
    ¬(s.memPhase = memService) →
    cause.val = 3 →
    Leaves (.hbmFreeze cause port addr syndrome) s s) ∧
  (∀ (cause : Fin 4) (port : Fin 32) (addr syndrome : Nat),
    ¬(cause.val = 0 ∨ s.memPhase = memFrozen ∨ s.memPhase = memFailed) →
    ¬(s.memPhase = memService) →
    ¬(cause.val = 3) →
    Leaves (.hbmFreeze cause port addr syndrome) s (s.bump .MEM_ECC_UNCORRECTED)) ∧
  (∀ (pc : Fin 64) (failed : Bool),
    (s.memPhase ≠ memTraining ∧ s.memPhase ≠ memTest ∧ s.memPhase ≠ memRecovery) →
    Leaves (.parityReplay pc failed) s s) ∧
  (∀ (pc : Fin 64) (failed : Bool),
    ¬(s.memPhase ≠ memTraining ∧ s.memPhase ≠ memTest ∧ s.memPhase ≠ memRecovery) →
    Leaves (.parityReplay pc failed) s (
      let n := if failed then tgetD 0 s.mem.replays pc.val + 1 else 0
      let s := s.bump .MEM_ERR_CNT_REPLAYS
      let s := { s with mem := { s.mem with replays := tput 0 s.mem.replays pc.val n } }
      if 4 ≤ n then s.set .MEM_STATUS_PHASE memFailed else s)) ∧
  (∀ (ok : Bool) (sweeps0 sweeps1 again0 again1 : List (Nat × Nat)),
    (s.memPhase ≠ memTraining ∧ s.memPhase ≠ memRecovery) →
    Leaves (.trainingComplete ok sweeps0 sweeps1 again0 again1) s s) ∧
  (∀ (ok : Bool) (sweeps0 sweeps1 again0 again1 : List (Nat × Nat)) (t : Trained),
    ¬(s.memPhase ≠ memTraining ∧ s.memPhase ≠ memRecovery) →
    ok → trainLanes (sweeps0 ++ sweeps1) (again0 ++ again1) = some t →
    Leaves (.trainingComplete ok sweeps0 sweeps1 again0 again1) s { s.set .MEM_STATUS_PHASE memService with store := { s.store with trained := t } }) ∧
  (∀ (ok : Bool) (sweeps0 sweeps1 again0 again1 : List (Nat × Nat)),
    ¬(s.memPhase ≠ memTraining ∧ s.memPhase ≠ memRecovery) →
    (ok → trainLanes (sweeps0 ++ sweeps1) (again0 ++ again1) = none) →
    Leaves (.trainingComplete ok sweeps0 sweeps1 again0 again1) s (s.set .MEM_STATUS_PHASE memFailed)) ∧
  (∀ (failing : Nat),
    s.memPhase ≠ memTest →
    Leaves (.memTestComplete failing) s s) ∧
  (∀ (failing : Nat),
    s.memPhase = memTest →
    Leaves (.memTestComplete failing) s ((s.set .MEM_STATUS_PHASE memService).complete (fun w => w == .memTest) .DONE
      (.values [failing &&& s.mem.testing])))

/-- What the events of the lanes and Draxa links do: figures of merit, PRBS, alignment, enumeration, retry, loss, cells, echoes and
  PCIe (R324
… R347). what the event leaves, with the conditions on the state that tell its cases apart. The model's own choices in them: figures of
merit are log 65, line states log 66, echoes logs 64 and 68. -/
def Obligations.LinkEventsDo : Prop := ∀ s : State,
  (∀ (quad : Fin 24),
    Leaves (.fomSample quad) s ((lanesOf (quad.val * 4) 4).foldl State.latchFom s)) ∧
  (∀ (quad : Fin 24) (pattern : BitVec 32),
    (s.prbsOk quad.val ∧ pattern.toNat ≤ 2) →
    Leaves (.prbsStart quad pattern) s (s.prbsStart quad.val)) ∧
  (∀ (quad : Fin 24) (pattern : BitVec 32),
    ¬(s.prbsOk quad.val ∧ pattern.toNat ≤ 2) →
    Leaves (.prbsStart quad pattern) s (s.raise .LNK_EVT2_NOT_READY)) ∧
  (∀ (quad : Fin 24),
    s.prbsOk quad.val →
    Leaves (.prbsStop quad) s (s.prbsStop quad.val)) ∧
  (∀ (quad : Fin 24),
    ¬(s.prbsOk quad.val) →
    Leaves (.prbsStop quad) s (s.raise .LNK_EVT2_NOT_READY)) ∧
  (∀ (link : Fin 32) (lanes skew : Nat),
    let k := link.val
    s.linkState k ≠ linkAligning →
    Leaves (.alignFound link lanes skew) s s) ∧
  (∀ (link : Fin 32) (lanes skew : Nat),
    let k := link.val
    s.linkState k = linkAligning →
    lanes ≠ s.get .LNK_D_CFG_LANES k →
    Leaves (.alignFound link lanes skew) s (s.failLink k 1)) ∧
  (∀ (link : Fin 32) (lanes skew : Nat),
    let k := link.val
    s.linkState k = linkAligning →
    lanes = s.get .LNK_D_CFG_LANES k →
    16 < skew →
    Leaves (.alignFound link lanes skew) s ((s.set .LNK_D_STAT_SKEW (min skew 31) k).failLink k 2)) ∧
  (∀ (link : Fin 32) (lanes skew : Nat),
    let k := link.val
    s.linkState k = linkAligning →
    lanes = s.get .LNK_D_CFG_LANES k →
    ¬(16 < skew) →
    Leaves (.alignFound link lanes skew) s (
      let s := ((s.set .LNK_D_STAT_STATE linkEnumerating k).set .LNK_D_STAT_CAUSE 0 k).set .LNK_D_STAT_SKEW skew k
      s.sendPages k)) ∧
  (∀ (link : Fin 32) (flags : Nat) (payload : List Byte) (crcOk : Bool),
    let k := link.val
    !crcOk →
    (linkEnumerating ≤ s.linkState k ∧ s.linkState k ≤ linkUp) →
    Leaves (.discoverPage link flags payload crcOk) s (s.bump .LNK_D_ERR_CRC_FAIL k)) ∧
  (∀ (link : Fin 32) (flags : Nat) (payload : List Byte) (crcOk : Bool),
    let k := link.val
    !crcOk →
    ¬(linkEnumerating ≤ s.linkState k ∧ s.linkState k ≤ linkUp) →
    Leaves (.discoverPage link flags payload crcOk) s s) ∧
  (∀ (link : Fin 32) (flags : Nat) (payload : List Byte) (crcOk : Bool),
    let k := link.val
    crcOk →
    s.linkState k ≠ linkEnumerating →
    Leaves (.discoverPage link flags payload crcOk) s s) ∧
  (∀ (link : Fin 32) (flags : Nat) (payload : List Byte) (crcOk : Bool),
    let k := link.val
    crcOk →
    s.linkState k = linkEnumerating →
    let l := s.link k
    flags = 15 →
    Leaves (.discoverPage link flags payload crcOk) s (s.setLink k { l with acked := true })) ∧
  (∀ (link : Fin 32) (flags : Nat) (payload : List Byte) (crcOk : Bool),
    let k := link.val
    crcOk →
    s.linkState k = linkEnumerating →
    let l := s.link k
    ¬(flags = 15) →
    let m := { l with pages := tins (padTo 28 payload) l.pages flags }
    Leaves (.discoverPage link flags payload crcOk) s (
      let s := s.setLink k m
      if !m.complete then s else
      let s := s.manage k 3 15 [BitVec.ofNat 8 (m.byte 0 1)]
      if m.byte 0 0 = 1 ∧ !l.complete then (List.range 16).foldl (fun s _ => s.sendEcho k false s.now 0) s else s)) ∧
  (∀ (link : Fin 32) (trips : List Nat),
    let k := link.val
    let l := s.link k;
    (s.linkState k ≠ linkEnumerating ∨ !l.complete ∨ !l.acked) →
    Leaves (.enumerationComplete link trips) s s) ∧
  (∀ (link : Fin 32) (trips : List Nat),
    let k := link.val
    let l := s.link k
    ¬(s.linkState k ≠ linkEnumerating ∨ !l.complete ∨ !l.acked) →
    let type := l.byte 0 0
    let delay := if type = 1 then l.trigDelay trips else 0
    Leaves (.enumerationComplete link trips) s (
      let s := s.set .LNK_D_STAT_PARTNER type k
      if type = 0 ∨ 5 ≤ type ∨ (type = 1 ∧ (delay < 60 ∨ 600 < delay)) then
        (s.failLink k 3).raise .LNK_EVT2_PARTNER_REFUSED
      else
        let s := (s.set .LNK_D_STAT_STATE linkUp k).set .LNK_D_STAT_TRIG_DELAY delay k
        let s := (List.range 4).foldl (fun s j => s.wr .LNK_D_SERIAL (l.field 0 (4 + 4 * j) 4) k j) s
        let s := (List.range 8).foldl State.showTrigDelay ((s.raise .LNK_EVT_ENUM_ENUM k).pulseSource (0x60 + k))
        let s := if type = 4 then (List.range (min 4 (l.byte 1 0))).foldl (fun s c =>
          s.setLink k ((s.link k).grant (c + 1) (Config.channelCells k (c + 1)).toNat)) s else s
        if type = 2 then s.magArrives k l else s)) ∧
  (∀ (link : Fin 32),
    let k := link.val;
    (s.linkState k = linkEnumerating ∧ !(s.link k).acked) →
    Leaves (.discoverRepeat link) s (s.sendPages k)) ∧
  (∀ (link : Fin 32),
    let k := link.val
    ¬(s.linkState k = linkEnumerating ∧ !(s.link k).acked) →
    Leaves (.discoverRepeat link) s s) ∧
  (∀ (link : Fin 32),
    let k := link.val
    s.linkState k ≠ linkFailed →
    Leaves (.linkRetry link) s s) ∧
  (∀ (link : Fin 32),
    let k := link.val
    s.linkState k = linkFailed →
    let cause := s.get .LNK_D_STAT_CAUSE k
    Leaves (.linkRetry link) s (((s.set .LNK_D_STAT_STATE linkLocking k).forgetPartner k).set .LNK_D_STAT_CAUSE cause k)) ∧
  (∀ (link : Fin 32),
    Leaves (.draxaLinkLoss link) s (s.linkDown link.val)) ∧
  (∀ (link : Fin 32) (channel flags : Nat) (payload : List Byte) (crcOk : Bool),
    let k := link.val
    s.linkState k ≠ linkUp →
    Leaves (.dataCell link channel flags payload crcOk) s s) ∧
  (∀ (link : Fin 32) (channel flags : Nat) (payload : List Byte) (crcOk : Bool),
    let k := link.val
    s.linkState k = linkUp →
    !crcOk →
    Leaves (.dataCell link channel flags payload crcOk) s (
      let s := s.bump .LNK_D_ERR_CRC_FAIL k
      if s.partnerUp k 1 ∧ !(s.fedBy k channel).isEmpty then s.cellLost k channel else s)) ∧
  (∀ (link : Fin 32) (channel flags : Nat) (payload : List Byte) (crcOk : Bool),
    let k := link.val
    s.linkState k = linkUp →
    crcOk →
    (s.partnerUp k 1 ∧ !(s.fedBy k channel).isEmpty) →
    Leaves (.dataCell link channel flags payload crcOk) s (s.dataCell k channel flags (padTo 28 payload))) ∧
  (∀ (link : Fin 32) (channel flags : Nat) (payload : List Byte) (crcOk : Bool),
    let k := link.val
    s.linkState k = linkUp →
    crcOk →
    ¬(s.partnerUp k 1 ∧ !(s.fedBy k channel).isEmpty) →
    Leaves (.dataCell link channel flags payload crcOk) s (s.bump .LNK_D_ERR_DISCARD k)) ∧
  (∀ (link : Fin 32) (grants : List (BitVec 32)) (crcOk : Bool),
    let k := link.val
    s.linkState k ≠ linkUp →
    Leaves (.flowCell link grants crcOk) s s) ∧
  (∀ (link : Fin 32) (grants : List (BitVec 32)) (crcOk : Bool),
    let k := link.val
    s.linkState k = linkUp →
    !crcOk →
    Leaves (.flowCell link grants crcOk) s (s.bump .LNK_D_ERR_CRC_FAIL k)) ∧
  (∀ (link : Fin 32) (grants : List (BitVec 32)) (crcOk : Bool),
    let k := link.val
    s.linkState k = linkUp →
    crcOk →
    let l := s.link k
    Leaves (.flowCell link grants crcOk) s (s.setLink k { l with
      granted := (grants.take 7).foldl (fun t g =>
      tins (bitsOf g.toNat 23 0) t (bitsOf g.toNat 31 24)) l.granted })) ∧
  (∀ (link : Fin 32) (reply : Bool) (time turnaround : Nat),
    let k := link.val;
    (s.linkState k ≠ linkEnumerating ∧ s.linkState k ≠ linkUp) →
    Leaves (.echo link reply time turnaround) s s) ∧
  (∀ (link : Fin 32) (reply : Bool) (time turnaround : Nat),
    let k := link.val
    ¬(s.linkState k ≠ linkEnumerating ∧ s.linkState k ≠ linkUp) →
    reply →
    Leaves (.echo link reply time turnaround) s (s.setLink k { s.link k with echoes := (s.link k).echoes ++ [s.now - time - turnaround] })) ∧
  (∀ (link : Fin 32) (reply : Bool) (time turnaround : Nat),
    let k := link.val
    ¬(s.linkState k ≠ linkEnumerating ∧ s.linkState k ≠ linkUp) →
    ¬(reply) →
    Leaves (.echo link reply time turnaround) s (
      let (n, s) := s.draw
      s.sendEcho k true time (Config.turnaround n).toNat)) ∧
  (∀ (link : Fin 32) (channel : Fin 4) (first last : Bool) (index : Nat) (data : List Byte),
    let k := link.val
    let c := channel.val + 1;
    (!s.partnerUp k 4 ∨ (s.link k).byte 1 0 < c) →
    s.linkState k = linkUp →
    Leaves (.cpiSeg link channel first last index data) s (s.bump .LNK_D_ERR_DISCARD k)) ∧
  (∀ (link : Fin 32) (channel : Fin 4) (first last : Bool) (index : Nat) (data : List Byte),
    let k := link.val
    let c := channel.val + 1;
    (!s.partnerUp k 4 ∨ (s.link k).byte 1 0 < c) →
    ¬(s.linkState k = linkUp) →
    Leaves (.cpiSeg link channel first last index data) s s) ∧
  (∀ (link : Fin 32) (channel : Fin 4) (first last : Bool) (index : Nat) (data : List Byte),
    let k := link.val
    let c := channel.val + 1
    ¬(!s.partnerUp k 4 ∨ (s.link k).byte 1 0 < c) →
    let u := s.setLink k ((s.link k).grant c 1)
    let l := u.link k
    let cur := if first then (if index = 0 then some ([], 0) else none) else tget l.segments c
    cur = none →
    Leaves (.cpiSeg link channel first last index data) s (u.setLink k { l with segments := tdel l.segments c })) ∧
  (∀ (link : Fin 32) (channel : Fin 4) (first last : Bool) (index : Nat) (data : List Byte),
    let k := link.val
    let c := channel.val + 1
    ¬(!s.partnerUp k 4 ∨ (s.link k).byte 1 0 < c) →
    let u := s.setLink k ((s.link k).grant c 1)
    let l := u.link k
    let cur := if first then (if index = 0 then some ([], 0) else none) else tget l.segments c
    ∀ b next, cur = some (b, next) →
    (index ≠ next ∨ 172 ≤ index) →
    Leaves (.cpiSeg link channel first last index data) s (u.setLink k { l with segments := tdel l.segments c })) ∧
  (∀ (link : Fin 32) (channel : Fin 4) (first last : Bool) (index : Nat) (data : List Byte),
    let k := link.val
    let c := channel.val + 1
    ¬(!s.partnerUp k 4 ∨ (s.link k).byte 1 0 < c) →
    let u := s.setLink k ((s.link k).grant c 1)
    let l := u.link k
    let cur := if first then (if index = 0 then some ([], 0) else none) else tget l.segments c
    ∀ b next, cur = some (b, next) →
    ¬(index ≠ next ∨ 172 ≤ index) →
    let b := b ++ padTo 24 data
    !last →
    Leaves (.cpiSeg link channel first last index data) s (u.setLink k { l with segments := tins (b, next + 1) l.segments c })) ∧
  (∀ (link : Fin 32) (channel : Fin 4) (first last : Bool) (index : Nat) (data : List Byte),
    let k := link.val
    let c := channel.val + 1
    ¬(!s.partnerUp k 4 ∨ (s.link k).byte 1 0 < c) →
    let u := s.setLink k ((s.link k).grant c 1)
    let l := u.link k
    let cur := if first then (if index = 0 then some ([], 0) else none) else tget l.segments c
    ∀ b next, cur = some (b, next) →
    ¬(index ≠ next ∨ 172 ≤ index) →
    let b := b ++ padTo 24 data
    last →
    Leaves (.cpiSeg link channel first last index data) s ((u.setLink k { l with segments := tdel l.segments c }).draxaPacket
      ⟨.draxa, 4 * k + channel.val⟩ b)) ∧
  (∀ (up : Bool) (speed width : Nat),
    s.get .LNK_Q_CFG_PROTOCOL 8 ≠ protoPcie →
    Leaves (.pcieChange up speed width) s s) ∧
  (∀ (up : Bool) (speed width : Nat),
    s.get .LNK_Q_CFG_PROTOCOL 8 = protoPcie →
    Leaves (.pcieChange up speed width) s (
      let s := (s.set .LNK_PCIE_CFG_LINK_UP (if up then 1 else 0)).set .LNK_PCIE_CFG_SPEED (if up then speed else 0);
      (s.set .LNK_PCIE_CFG_WIDTH_NEG (if up then width else 0)).raise .LNK_EVT2_PCIE_CHANGE)) ∧
  (∀ (link : Fin 32),
    let k := link.val
    s.linkState k = linkLocking →
    Leaves (.linkSignalPresent link) s (s.set .LNK_D_STAT_STATE linkAligning k)) ∧
  (∀ (link : Fin 32),
    let k := link.val
    ¬(s.linkState k = linkLocking) →
    Leaves (.linkSignalPresent link) s s) ∧
  (∀ (link : Fin 32) (lane : Nat),
    let k := link.val;
    (s.linkState k ≠ linkUp ∨ s.get .LNK_D_CFG_LANES k ≤ lane) →
    Leaves (.cellAlignmentLoss link lane) s s) ∧
  (∀ (link : Fin 32) (lane : Nat),
    let k := link.val
    ¬(s.linkState k ≠ linkUp ∨ s.get .LNK_D_CFG_LANES k ≤ lane) →
    Leaves (.cellAlignmentLoss link lane) s (
      let s := s.bump .LNK_D_ERR_REALIGN k
      s.setLink k { s.link k with line := (s.link k).line.map fun (c, e) => (c, e.1, e.2.1, true) }))

/-- What the events of outputs and audio do: output frame starts, switches, launches of audio clocks and data, decoded frames, scaler,
  late
lines and sync (R348 … R383). what the event leaves, with the conditions on the state that tell its cases apart. The model's own choices
in them: samples at a sync are log 34, output starts log 33. -/
def Obligations.OutputAndAudioEventsDo : Prop := ∀ s : State,
  (∀ (out : Fin 8),
    let o := out.val;
    (!s.outRunning o ∨ s.flushing) →
    Leaves (.outFrameStart out) s s) ∧
  (∀ (out : Fin 8),
    let o := out.val
    ¬(!s.outRunning o ∨ s.flushing) →
    ∀ r, ((s.output o).lastRef) = some r →
    s.now < r + outPeriod (s.get .OUT_O_CFG_RATE o) →
    Leaves (.outFrameStart out) s (s.bump .OUT_O_STAT2_EARLY o)) ∧
  (∀ (out : Fin 8),
    let o := out.val
    ¬(!s.outRunning o ∨ s.flushing) →
    ∀ r, ((s.output o).lastRef) = some r →
    ¬(s.now < r + outPeriod (s.get .OUT_O_CFG_RATE o)) →
    Leaves (.outFrameStart out) s (s.refPoint o)) ∧
  (∀ (out : Fin 8),
    let o := out.val
    ¬(!s.outRunning o ∨ s.flushing) →
    ((s.output o).lastRef) = none →
    Leaves (.outFrameStart out) s (s.refPoint o)) ∧
  (∀ (out path : Fin 8),
    let o := out.val
    Leaves (.outSourceSwitch out path) s (s.writeWord (s.outUnit o) .OUT_O_SRC (path.val * 2 ^ 28) o 0)) ∧
  (∀ (port : Fin 16),
    let p := port.val
    s.audState p ≠ audStopped →
    Leaves (.audClockStart port) s (s.audNotReady p)) ∧
  (∀ (port : Fin 16),
    let p := port.val
    s.audState p = audStopped →
    Leaves (.audClockStart port) s (
      let s := (s.commitAll (.aud p)).set .AUD_P_STAT_STATE audClocked p
      s.modPort p fun a => { a with
        clockStart := s.now, syncs := 0, dataStart := none, dataStop := false, clockStop := false
        limits := (s.playWr p, s.playWr p), sentNow := [] })) ∧
  (∀ (port : Fin 16),
    let p := port.val
    s.audState p ≠ audClocked →
    Leaves (.audDataStart port) s (s.audNotReady p)) ∧
  (∀ (port : Fin 16),
    let p := port.val
    s.audState p = audClocked →
    Leaves (.audDataStart port) s (s.modPort p fun a => { a with dataStart := some s.now })) ∧
  (∀ (port : Fin 16),
    let p := port.val
    s.audState p ≠ audRunning →
    Leaves (.audDataStop port) s (s.audNotReady p)) ∧
  (∀ (port : Fin 16),
    let p := port.val
    s.audState p = audRunning →
    Leaves (.audDataStop port) s (s.modPort p fun a => { a with dataStop := true })) ∧
  (∀ (port : Fin 16),
    let p := port.val
    s.audState p ≠ audClocked →
    Leaves (.audClockStop port) s (s.audNotReady p)) ∧
  (∀ (port : Fin 16),
    let p := port.val
    s.audState p = audClocked →
    Leaves (.audClockStop port) s (s.modPort p fun a => { a with clockStop := true })) ∧
  (∀ (session : Fin 8),
    let d := session.val
    s.frameEnd d = none →
    Leaves (.decFramePublish session) s s) ∧
  (∀ (session : Fin 8),
    let d := session.val
    ∀ t, s.frameEnd d = some t →
    ∀ v g, t.publishDecoded d false = (v, some g) →
    Leaves (.decFramePublish session) s (v.decodedOut d g)) ∧
  (∀ (session : Fin 8),
    let d := session.val
    s.frameLate d →
    ∀ t g, s.publishDecoded d true = (t, some g) →
    Leaves (.decFrameTimeout session) s (t.decodedOut d g)) ∧
  (∀ (session : Fin 8),
    !s.frameLate session.val →
    Leaves (.decFrameTimeout session) s s) ∧
  (∀ (out : Fin 8),
    let o := out.val
    !(s.selfStartDue o).any (fun t => decide (t ≤ s.now)) →
    Leaves (.outputSelfStart out) s s) ∧
  (∀ (out : Fin 8),
    let o := out.val
    ¬(!(s.selfStartDue o).any (fun t => decide (t ≤ s.now))) →
    (s.output o).stopPending →
    Leaves (.outputSelfStart out) s (s.refPoint o)) ∧
  (∀ (out : Fin 8),
    let o := out.val
    ¬(!(s.selfStartDue o).any (fun t => decide (t ≤ s.now))) →
    ¬((s.output o).stopPending) →
    Leaves (.outputSelfStart out) s (((s.bump .OUT_O_STAT2_START_MISSED o).raise .OUT_EVT_START_MISSED o).refPoint o)) ∧
  (∀ (out : Fin 8),
    let o := out.val
    let k := s.output o
    k.writing = none →
    Leaves (.scalerFrameComplete out) s s) ∧
  (∀ (out : Fin 8),
    let o := out.val
    let k := s.output o
    ∀ w, k.writing = some w →
    (!w.arrived ∨ s.frozen ∨ s.flushing) →
    Leaves (.scalerFrameComplete out) s s) ∧
  (∀ (out : Fin 8),
    let o := out.val
    let k := s.output o
    ∀ w, k.writing = some w →
    ¬(!w.arrived ∨ s.frozen ∨ s.flushing) →
    Leaves (.scalerFrameComplete out) s (
      let s := if k.ready.isSome then s.bump .OUT_O_STAT2_SKIPPED o else s
      s.setOutput o { k with writing := none, ready := some { w with image := s.scaleImage o w.image } })) ∧
  (∀ (out : Fin 8) (line : Nat),
    let o := out.val;
    ((s.output o).shown.isNone ∨ (s.output o).lastRef.isNone ∨ line = 0 ∨ (rasterOf (s.get .OUT_O_CFG_FORMAT o)).2 < line) →
    Leaves (.lateLine out line) s s) ∧
  (∀ (out : Fin 8) (line : Nat),
    let o := out.val
    ¬((s.output o).shown.isNone ∨ (s.output o).lastRef.isNone ∨ line = 0 ∨ (rasterOf (s.get .OUT_O_CFG_FORMAT o)).2 < line) →
    Leaves (.lateLine out line) s (
      let s := (s.bump .OUT_O_STAT2_LATE_LINES o).raise .OUT_EVT_LATE_LINE o
      s.setOutput o { s.output o with lateLines := (s.output o).lateLines ++ [line] })) ∧
  (∀ (port : Fin 16) (samples : List Nat),
    Leaves (.audioFrameSync port samples) s (s.frameSync port.val samples))

/-- What the events of the event fabric and the position trigger do: pulses, cells, table arming, strobes, pin edges, tasks, encoder
  counts
and misses (R384 … R411). what the event leaves, with the conditions on the state that tell its cases apart. The model's own choices in
them: the table a task arms is log 74. -/
def Obligations.FabricAndPositionEventsDo : Prop := ∀ s : State,
  (∀ (port : Fin 96),
    Leaves (.eventPulse port) s (s.pulse (256 + port.val))) ∧
  (∀ (cell : Fin 64),
    Leaves (.cellReset cell) s (s.clearCell cell.val)) ∧
  (∀ (engine : Fin 2) (handle : BitVec 32),
    Leaves (.tableArm engine handle) s (s.armLaunch engine.val handle.toNat)) ∧
  (∀ (engine : Fin 2),
    Leaves (.tableDisarm engine) s (s.disarm engine.val)) ∧
  (∀ (engine : Fin 2) (mask : BitVec 32),
    Leaves (.strobeFire engine mask) s (s.timedFire engine.val mask.toNat)) ∧
  (∀ (pin : Fin 256) (high : Bool),
    let p := pin.val;
    (s.get .EVF_PIN_DIR p = 2 ∨ (s.pin p).level = high) →
    Leaves (.evioInputEdge pin high) s s) ∧
  (∀ (pin : Fin 256) (high : Bool),
    let p := pin.val
    ¬(s.get .EVF_PIN_DIR p = 2 ∨ (s.pin p).level = high) →
    Leaves (.evioInputEdge pin high) s (
      let s := s.setPin p { s.pin p with level := high }
      let mode := s.get .EVF_PIN_IN_MODE p
      if s.get .EVF_PIN_DIR p = 1 ∧ ((mode = 0 ∧ high = true) ∨ (mode = 1 ∧ high = false) ∨ mode = 2) then s.pulse p else s)) ∧
  (∀ (ctx : Fin 8),
    Leaves (.frameTriggerTask ctx) s (s.frameStart ctx.val)) ∧
  (∀ (stream : Fin 8),
    Leaves (.takeMarkTask stream) s (s.markTask stream.val)) ∧
  (∀ (pin : Fin 256),
    Leaves (.evioOutputTask pin) s (s.pinTask pin.val)) ∧
  (∀ (cell : Fin 64),
    Leaves (.cellClearTask cell) s (s.clearCell cell.val)) ∧
  (∀ (enc : Fin 8) (up : Bool),
    let n := enc.val
    let s1 := s.setCount n (s.count n + if up != s.flag .PTU_ENC_CFG_INVERT n then 1 else -1)
    s1.flushing →
    Leaves (.encoderCountChange enc up) s s1) ∧
  (∀ (enc : Fin 8) (up : Bool),
    let n := enc.val
    let s1 := s.setCount n (s.count n + if up != s.flag .PTU_ENC_CFG_INVERT n then 1 else -1)
    ¬(s1.flushing) →
    Leaves (.encoderCountChange enc up) s ((List.range 2).foldl (fun s1 e => if s1.get .PTU_E_CFG_ENC e = n then s1.engStep e else s1)
      s1)) ∧
  (∀ (enc : Fin 8),
    let n := enc.val
    let s1 := ((s.wrSigned .PTU_ENC_IDX_LO .PTU_ENC_IDX_HI (s.count n) n).bump .PTU_ENC_STAT_INDEX n).pulseSource (0x90 + n)
    let armed := (List.range 2).any fun e =>
      s1.get .PTU_E_CFG_ENC e == n && (s1.engState e == engArmed || s1.engState e == engRewind)
    s1.flag .PTU_ENC_CFG_INDEX_ZERO n && !armed →
    Leaves (.indexEdge enc) s ((s1.setCount n 0).set .PTU_ENC_CFG_INDEX_ZERO 0 n)) ∧
  (∀ (enc : Fin 8),
    let n := enc.val
    let s1 := ((s.wrSigned .PTU_ENC_IDX_LO .PTU_ENC_IDX_HI (s.count n) n).bump .PTU_ENC_STAT_INDEX n).pulseSource (0x90 + n)
    let armed := (List.range 2).any fun e =>
      s1.get .PTU_E_CFG_ENC e == n && (s1.engState e == engArmed || s1.engState e == engRewind)
    ¬(s1.flag .PTU_ENC_CFG_INDEX_ZERO n && !armed) →
    Leaves (.indexEdge enc) s s1) ∧
  (∀ (strobe : Fin 32),
    let b := strobe.val
    !s.flag .PTU_STB_CFG_FB_EN b →
    Leaves (.strobeReadbackMiss strobe) s s) ∧
  (∀ (strobe : Fin 32),
    let b := strobe.val
    s.flag .PTU_STB_CFG_FB_EN b →
    let k := s.strobe b
    let n := k.misses + 1
    Leaves (.strobeReadbackMiss strobe) s (
      let s := ((s.setStrobe b { k with misses := n, missed := true }).bump .PTU_STB_STAT_FB_MISS b).pulseSource (0x88 + b / 16)
      if s.get .PTU_STB_CFG_FAIL_LIMIT b ≤ n ∧ !s.flag .PTU_STB_STAT_DEAD b then
        (s.set .PTU_STB_STAT_DEAD 1 b).raise .PTU_EVT_STROBE_DEAD (b / 16)
      else s)) ∧
  (∀ (enc : Fin 8),
    Leaves (.quadratureError enc) s (((s.bump .PTU_ENC_STAT_QUAD_ERR enc.val).raise .PTU_EVT_QUAD_ERR).pulseSource (0x98 + enc.val)))

/-- What the events of the supervisor do: samples, supply failures, the hold-up bank, the flush, re-plans and monitor windows
  (R412 … R436).
what the event leaves, with the conditions on the state that tell its cases apart. The model's own choices in them: rail currents are
  log
75, the supply near its limits log 89, temperatures log 82. -/
def Obligations.SupervisorEventsDo : Prop := ∀ s : State,
  (Leaves .thermalEval s (s.evaluate)) ∧
  (Leaves .telemetrySnapshot s (s.latchRails)) ∧
  (∀ (unit : Fin 64) (window : BitVec 32),
    s.flag .VAL_MON_CFG_RUNNING unit.val →
    Leaves (.monitorWindow unit window) s (s.raise .VAL_EVT_NOT_READY)) ∧
  (∀ (unit : Fin 64) (window : BitVec 32),
    ¬(s.flag .VAL_MON_CFG_RUNNING unit.val) →
    Leaves (.monitorWindow unit window) s (s.startMonitor unit.val window.toNat)) ∧
  (∀ (t : Telemetry),
    let s1 := (List.range 14).foldl (fun s r => s.railCheck t r) s
    let s2 := (List.range 4).foldl (fun s1 k => s1.lidCheck t k) s1
    let s3 := (s2.gather (s2.railPowers t)).modVal fun w => { w with sample := some t }
    Leaves (.telemetrySample t) s ((s3.latchRails.set .VAL_VIN_VIN t.vin).bankAt t.bank)) ∧
  (∀ (millivolts : Nat),
    Leaves (.vinDrop millivolts) s (((s.set .VAL_VIN_VIN millivolts).vinPhase millivolts).modVal fun v =>
    { v with vinLow := if millivolts < s.get .VAL_CFG_VIN_FAIL * 100 then v.vinLow.or (some s.now) else v.vinLow })) ∧
  (Leaves .powerFailDeclared s (s.declarePowerFail)) ∧
  (∀ (millivolts : Nat),
    let s1 := s.set .VAL_VIN_VIN millivolts
    s1.val.declared →
    Leaves (.vinDip millivolts) s s1) ∧
  (∀ (millivolts : Nat),
    let s1 := s.set .VAL_VIN_VIN millivolts
    ¬(s1.val.declared) →
    Leaves (.vinDip millivolts) s (((s1.bump .VAL_VIN_DIPS).raise .VAL_EVT_VIN_DIP).modVal fun v => { v with vinLow := none })) ∧
  (Leaves .holdupWindowEnd s (s.windowOver)) ∧
  (∀ (ticks : Nat),
    Leaves (.bankAt40v ticks) s (((s.set .VAL_HOLDUP_C_MEAS (min 65535 (capacitance ticks))).set .VAL_BANK_VOLTS 4000).tryReplan)) ∧
  (Leaves .holdupReady s ((s.modVal fun v => { v with bankAbove := true }).tryHoldup)) ∧
  (s.val.bankAbove →
    Leaves .chargeTimeout s s) ∧
  (¬(s.val.bankAbove) →
    Leaves .chargeTimeout s (s.bankFails)) ∧
  (Leaves .thermalStale s (s.goStale)) ∧
  (Leaves .flushEvaluation s (s.evaluate)) ∧
  (s.val.shutdownAt.isNone →
    Leaves .shutdownRailsOff s s) ∧
  (¬(s.val.shutdownAt.isNone) →
    Leaves .shutdownRailsOff s (
      let s := s.railsOff .off
      { s with pins := { s.pins with faultN := false } })) ∧
  (∀ (slack : List Int) (widths0 widths1 centres failed : List Nat),
    ¬(s.recording) →
    Leaves (.marginReplan slack widths0 widths1 centres failed) s (s.replan slack widths0 widths1 centres failed)) ∧
  (∀ (slack : List Int) (widths0 widths1 centres failed : List Nat),
    s.recording →
    Leaves (.marginReplan slack widths0 widths1 centres failed) s (s.set .VAL_STATUS_REPLAN_DEFERRED 1)) ∧
  (s.flag .VAL_STATUS_REPLAN_DEFERRED && !s.recording →
    Leaves .deferredReplanStart s (s.startReplan 2)) ∧
  (¬(s.flag .VAL_STATUS_REPLAN_DEFERRED && !s.recording) →
    Leaves .deferredReplanStart s s) ∧
  (∀ (unit : Fin 64),
    !s.flag .VAL_MON_CFG_RUNNING unit.val →
    Leaves (.monitorWindowEnd unit) s s) ∧
  (∀ (unit : Fin 64),
    s.flag .VAL_MON_CFG_RUNNING unit.val →
    Leaves (.monitorWindowEnd unit) s (((s.set .VAL_MON_CFG_RUNNING 0 unit.val).set .VAL_MON_CFG_DONE 1 unit.val).raise
      .VAL_EVT_MON_DONE))

/-- What safe state, resets, start-up and the test access port do: fault records, entry to safe state, watchdogs, start-up, the reset
  pin and
the boundary-scan instructions (R437 … R480). what the event leaves, with the conditions on the state that tell its cases apart. The
model's own choices in them: start-up is log 3, RESET_N log 90, the test access port log 88. -/
def Obligations.IntegrityResetAndTapEventsDo : Prop := ∀ s : State,
  (s.boot.phase == .off && s.boot.thermalOff && s.flag .VAL_CFG_AUTO_RESTART →
    Leaves .autoRestart s (s.restart kindPower)) ∧
  (¬(s.boot.phase == .off && s.boot.thermalOff && s.flag .VAL_CFG_AUTO_RESTART) →
    Leaves .autoRestart s s) ∧
  (Leaves .safeStateEntry s (s.enterSafe)) ∧
  (∀ (code detail0 detail1 : Nat) (x : Nat × Nat × Nat × Bool),
    s.integ.inbox.find? (fun x => x.1 == code) = some x →
    Leaves (.faultRecord code detail0 detail1) s
      ((s.modInteg fun k => { k with inbox := k.inbox.erase x }).detect code detail0 detail1 x.2.2.2)) ∧
  (∀ (code detail0 detail1 : Nat),
    s.integ.inbox.find? (fun x => x.1 == code) = none →
    Leaves (.faultRecord code detail0 detail1) s ((if code = 0x0B then s.guardHit else s).detect code detail0 detail1 false)) ∧
  (Leaves .safeEntryComplete s (s.entryComplete)) ∧
  (∀ (valtu : Bool) (pair : Nat),
    valtu →
    Leaves (.lockstepMismatch valtu pair) s ((s.setFault true).report 0x02 0 0)) ∧
  (∀ (valtu : Bool) (pair : Nat),
    ¬(valtu) →
    Leaves (.lockstepMismatch valtu pair) s (s.report 0x01 pair 0)) ∧
  (∀ (last : Nat),
    Leaves (.watchdogTimeout last) s ((s.modInteg fun k => { k with lastHeartbeat := last }).report 0x12 last 0)) ∧
  (∀ (outcome : StartOutcome),
    s.boot.resetLow →
    Leaves (.startUp outcome) s s) ∧
  (∀ (outcome : StartOutcome),
    ¬(s.boot.resetLow) →
    Leaves (.startUp outcome) s ((if s.boot.phase == .starting then s else s.restart kindPower).startUp outcome)) ∧
  (
    let t : State := { s with
      boot := { s.boot with resetLow := true }
      pins := { s.pins with highZ := true } }
    Leaves .resetNAssert s (match s.boot.phase with
      | .ready => if s.val.declared then t else t.requestReset kindPin
      | .limited => t.restart kindPin
      | .off => t.restart kindPin
      | .starting => t.restart (s.get .VAL_BOOT_KIND)
      | _ => t)) ∧
  (
    let kept := s.tap.loaded == .idcode || s.tap.loaded == .bypass
    Leaves .resetNRelease s { s with
    boot := { s.boot with resetLow := false }
    pins := if kept then s.pins else { s.pins with highZ := true, linksHighZ := s.tapEffect || s.pins.linksHighZ }
    tap := if kept then s.tap else { s.tap with loaded := .bypass, dataOut := 0 } }) ∧
  (Leaves .resetProper s (s.resetProper)) ∧
  (Leaves .bypass s (s.tapLoad .bypass)) ∧
  (Leaves .idcode s (s.tapLoad .idcode)) ∧
  (∀ (preload : List Bool),
    let t := s.tapLoad .samplePreload
    t.tap.loaded == .samplePreload →
    Leaves (.samplePreload preload) s { t with tap := { t.tap with preload := preload } }) ∧
  (∀ (preload : List Bool),
    let t := s.tapLoad .samplePreload
    ¬(t.tap.loaded == .samplePreload) →
    Leaves (.samplePreload preload) s t) ∧
  (Leaves .extest s (s.tapLoad .extest)) ∧
  (Leaves .extestPulse s (s.tapLoad .extestPulse)) ∧
  (Leaves .extestTrain s (s.tapLoad .extestTrain)) ∧
  (Leaves .clamp s (s.tapLoad .clamp)) ∧
  (Leaves .highz s (s.tapLoad .highz)) ∧
  (Leaves .trstNAssert s { s with
    tap := { s.tap with loaded := .idcode, dataOut := 0x109493A7, testLogicReset := true }
    pins := if s.tapEffect then { s.pins with highZ := true, linksHighZ := true } else s.pins }) ∧
  (!s.val.railsOn.isEmpty →
    Leaves .valtuBoot s s) ∧
  (s.val.railsOn.isEmpty →
    Leaves .valtuBoot s (
      let s := s.restart kindPower
      { s with boot := { s.boot with phase := .valtu } }))

end
end

