-- ==== Sys2Proof/Laws/State.lean ====
section
/-!
SUPPORT. What each update of the state leaves alone: one lemma per field and update, true by computation.
-/
namespace Sys2Proof.Machine

@[simp] theorem State.setHost_dealTime (s : State) (n : Nat) (h : HostSlot) : (s.setHost n h).dealTime = s.dealTime := rfl
@[simp] theorem State.setHost_fresh (s : State) (n : Nat) (h : HostSlot) : (s.setHost n h).fresh = s.fresh := rfl
@[simp] theorem State.setHost_regs (s : State) (n : Nat) (h : HostSlot) : (s.setHost n h).regs = s.regs := rfl
@[simp] theorem State.setHost_shadows (s : State) (n : Nat) (h : HostSlot) : (s.setHost n h).shadows = s.shadows := rfl
@[simp] theorem State.setHost_latches (s : State) (n : Nat) (h : HostSlot) : (s.setHost n h).latches = s.latches := rfl
@[simp] theorem State.setHost_lowHalves (s : State) (n : Nat) (h : HostSlot) : (s.setHost n h).lowHalves = s.lowHalves := rfl
@[simp] theorem State.setHost_dck (s : State) (n : Nat) (h : HostSlot) : (s.setHost n h).dck = s.dck := rfl
@[simp] theorem State.setHost_ctxs (s : State) (n : Nat) (h : HostSlot) : (s.setHost n h).ctxs = s.ctxs := rfl
@[simp] theorem State.setHost_buses (s : State) (n : Nat) (h : HostSlot) : (s.setHost n h).buses = s.buses := rfl
@[simp] theorem State.setHost_pip (s : State) (n : Nat) (h : HostSlot) : (s.setHost n h).pip = s.pip := rfl
@[simp] theorem State.setHost_col (s : State) (n : Nat) (h : HostSlot) : (s.setHost n h).col = s.col := rfl
@[simp] theorem State.setHost_sta (s : State) (n : Nat) (h : HostSlot) : (s.setHost n h).sta = s.sta := rfl
@[simp] theorem State.setHost_eng (s : State) (n : Nat) (h : HostSlot) : (s.setHost n h).eng = s.eng := rfl
@[simp] theorem State.setHost_mls (s : State) (n : Nat) (h : HostSlot) : (s.setHost n h).mls = s.mls := rfl
@[simp] theorem State.setHost_med (s : State) (n : Nat) (h : HostSlot) : (s.setHost n h).med = s.med := rfl
@[simp] theorem State.setHost_mem (s : State) (n : Nat) (h : HostSlot) : (s.setHost n h).mem = s.mem := rfl
@[simp] theorem State.setHost_lnk (s : State) (n : Nat) (h : HostSlot) : (s.setHost n h).lnk = s.lnk := rfl
@[simp] theorem State.setHost_out (s : State) (n : Nat) (h : HostSlot) : (s.setHost n h).out = s.out := rfl
@[simp] theorem State.setHost_aud (s : State) (n : Nat) (h : HostSlot) : (s.setHost n h).aud = s.aud := rfl
@[simp] theorem State.setHost_evf (s : State) (n : Nat) (h : HostSlot) : (s.setHost n h).evf = s.evf := rfl
@[simp] theorem State.setHost_ptu (s : State) (n : Nat) (h : HostSlot) : (s.setHost n h).ptu = s.ptu := rfl
@[simp] theorem State.setHost_val (s : State) (n : Nat) (h : HostSlot) : (s.setHost n h).val = s.val := rfl
@[simp] theorem State.setHost_integ (s : State) (n : Nat) (h : HostSlot) : (s.setHost n h).integ = s.integ := rfl
@[simp] theorem State.setHost_store (s : State) (n : Nat) (h : HostSlot) : (s.setHost n h).store = s.store := rfl
@[simp] theorem State.setHost_boot (s : State) (n : Nat) (h : HostSlot) : (s.setHost n h).boot = s.boot := rfl
@[simp] theorem State.setHost_tap (s : State) (n : Nat) (h : HostSlot) : (s.setHost n h).tap = s.tap := rfl
@[simp] theorem State.setHost_pins (s : State) (n : Nat) (h : HostSlot) : (s.setHost n h).pins = s.pins := rfl
@[simp] theorem State.setHost_pending (s : State) (n : Nat) (h : HostSlot) : (s.setHost n h).pending = s.pending := rfl

@[simp] theorem State.setOwner_dealTime (s : State) (id n : Nat) : (s.setOwner id n).dealTime = s.dealTime := rfl
@[simp] theorem State.setOwner_fresh (s : State) (id n : Nat) : (s.setOwner id n).fresh = s.fresh := rfl
@[simp] theorem State.setOwner_regs (s : State) (id n : Nat) : (s.setOwner id n).regs = s.regs := rfl
@[simp] theorem State.setOwner_shadows (s : State) (id n : Nat) : (s.setOwner id n).shadows = s.shadows := rfl
@[simp] theorem State.setOwner_latches (s : State) (id n : Nat) : (s.setOwner id n).latches = s.latches := rfl
@[simp] theorem State.setOwner_lowHalves (s : State) (id n : Nat) : (s.setOwner id n).lowHalves = s.lowHalves := rfl
@[simp] theorem State.setOwner_dck (s : State) (id n : Nat) : (s.setOwner id n).dck = s.dck := rfl
@[simp] theorem State.setOwner_ctxs (s : State) (id n : Nat) : (s.setOwner id n).ctxs = s.ctxs := rfl
@[simp] theorem State.setOwner_buses (s : State) (id n : Nat) : (s.setOwner id n).buses = s.buses := rfl
@[simp] theorem State.setOwner_pip (s : State) (id n : Nat) : (s.setOwner id n).pip = s.pip := rfl
@[simp] theorem State.setOwner_col (s : State) (id n : Nat) : (s.setOwner id n).col = s.col := rfl
@[simp] theorem State.setOwner_sta (s : State) (id n : Nat) : (s.setOwner id n).sta = s.sta := rfl
@[simp] theorem State.setOwner_eng (s : State) (id n : Nat) : (s.setOwner id n).eng = s.eng := rfl
@[simp] theorem State.setOwner_mls (s : State) (id n : Nat) : (s.setOwner id n).mls = s.mls := rfl
@[simp] theorem State.setOwner_med (s : State) (id n : Nat) : (s.setOwner id n).med = s.med := rfl
@[simp] theorem State.setOwner_mem (s : State) (id n : Nat) : (s.setOwner id n).mem = s.mem := rfl
@[simp] theorem State.setOwner_lnk (s : State) (id n : Nat) : (s.setOwner id n).lnk = s.lnk := rfl
@[simp] theorem State.setOwner_out (s : State) (id n : Nat) : (s.setOwner id n).out = s.out := rfl
@[simp] theorem State.setOwner_aud (s : State) (id n : Nat) : (s.setOwner id n).aud = s.aud := rfl
@[simp] theorem State.setOwner_evf (s : State) (id n : Nat) : (s.setOwner id n).evf = s.evf := rfl
@[simp] theorem State.setOwner_ptu (s : State) (id n : Nat) : (s.setOwner id n).ptu = s.ptu := rfl
@[simp] theorem State.setOwner_val (s : State) (id n : Nat) : (s.setOwner id n).val = s.val := rfl
@[simp] theorem State.setOwner_integ (s : State) (id n : Nat) : (s.setOwner id n).integ = s.integ := rfl
@[simp] theorem State.setOwner_store (s : State) (id n : Nat) : (s.setOwner id n).store = s.store := rfl
@[simp] theorem State.setOwner_boot (s : State) (id n : Nat) : (s.setOwner id n).boot = s.boot := rfl
@[simp] theorem State.setOwner_tap (s : State) (id n : Nat) : (s.setOwner id n).tap = s.tap := rfl
@[simp] theorem State.setOwner_pins (s : State) (id n : Nat) : (s.setOwner id n).pins = s.pins := rfl
@[simp] theorem State.setOwner_pending (s : State) (id n : Nat) : (s.setOwner id n).pending = s.pending := rfl

@[simp] theorem State.setCtx_dealTime (s : State) (n : Nat) (c : Ctx) : (s.setCtx n c).dealTime = s.dealTime := rfl
@[simp] theorem State.setCtx_fresh (s : State) (n : Nat) (c : Ctx) : (s.setCtx n c).fresh = s.fresh := rfl
@[simp] theorem State.setCtx_regs (s : State) (n : Nat) (c : Ctx) : (s.setCtx n c).regs = s.regs := rfl
@[simp] theorem State.setCtx_shadows (s : State) (n : Nat) (c : Ctx) : (s.setCtx n c).shadows = s.shadows := rfl
@[simp] theorem State.setCtx_latches (s : State) (n : Nat) (c : Ctx) : (s.setCtx n c).latches = s.latches := rfl
@[simp] theorem State.setCtx_lowHalves (s : State) (n : Nat) (c : Ctx) : (s.setCtx n c).lowHalves = s.lowHalves := rfl
@[simp] theorem State.setCtx_cpi (s : State) (n : Nat) (c : Ctx) : (s.setCtx n c).cpi = s.cpi := rfl
@[simp] theorem State.setCtx_dck (s : State) (n : Nat) (c : Ctx) : (s.setCtx n c).dck = s.dck := rfl
@[simp] theorem State.setCtx_buses (s : State) (n : Nat) (c : Ctx) : (s.setCtx n c).buses = s.buses := rfl
@[simp] theorem State.setCtx_pip (s : State) (n : Nat) (c : Ctx) : (s.setCtx n c).pip = s.pip := rfl
@[simp] theorem State.setCtx_col (s : State) (n : Nat) (c : Ctx) : (s.setCtx n c).col = s.col := rfl
@[simp] theorem State.setCtx_sta (s : State) (n : Nat) (c : Ctx) : (s.setCtx n c).sta = s.sta := rfl
@[simp] theorem State.setCtx_eng (s : State) (n : Nat) (c : Ctx) : (s.setCtx n c).eng = s.eng := rfl
@[simp] theorem State.setCtx_mls (s : State) (n : Nat) (c : Ctx) : (s.setCtx n c).mls = s.mls := rfl
@[simp] theorem State.setCtx_med (s : State) (n : Nat) (c : Ctx) : (s.setCtx n c).med = s.med := rfl
@[simp] theorem State.setCtx_mem (s : State) (n : Nat) (c : Ctx) : (s.setCtx n c).mem = s.mem := rfl
@[simp] theorem State.setCtx_lnk (s : State) (n : Nat) (c : Ctx) : (s.setCtx n c).lnk = s.lnk := rfl
@[simp] theorem State.setCtx_out (s : State) (n : Nat) (c : Ctx) : (s.setCtx n c).out = s.out := rfl
@[simp] theorem State.setCtx_aud (s : State) (n : Nat) (c : Ctx) : (s.setCtx n c).aud = s.aud := rfl
@[simp] theorem State.setCtx_evf (s : State) (n : Nat) (c : Ctx) : (s.setCtx n c).evf = s.evf := rfl
@[simp] theorem State.setCtx_ptu (s : State) (n : Nat) (c : Ctx) : (s.setCtx n c).ptu = s.ptu := rfl
@[simp] theorem State.setCtx_val (s : State) (n : Nat) (c : Ctx) : (s.setCtx n c).val = s.val := rfl
@[simp] theorem State.setCtx_integ (s : State) (n : Nat) (c : Ctx) : (s.setCtx n c).integ = s.integ := rfl
@[simp] theorem State.setCtx_store (s : State) (n : Nat) (c : Ctx) : (s.setCtx n c).store = s.store := rfl
@[simp] theorem State.setCtx_boot (s : State) (n : Nat) (c : Ctx) : (s.setCtx n c).boot = s.boot := rfl
@[simp] theorem State.setCtx_tap (s : State) (n : Nat) (c : Ctx) : (s.setCtx n c).tap = s.tap := rfl
@[simp] theorem State.setCtx_pins (s : State) (n : Nat) (c : Ctx) : (s.setCtx n c).pins = s.pins := rfl
@[simp] theorem State.setCtx_pending (s : State) (n : Nat) (c : Ctx) : (s.setCtx n c).pending = s.pending := rfl

@[simp] theorem State.setScb_dealTime (s : State) (n : Nat) (b : Bus) : (s.setScb n b).dealTime = s.dealTime := rfl
@[simp] theorem State.setScb_fresh (s : State) (n : Nat) (b : Bus) : (s.setScb n b).fresh = s.fresh := rfl
@[simp] theorem State.setScb_regs (s : State) (n : Nat) (b : Bus) : (s.setScb n b).regs = s.regs := rfl
@[simp] theorem State.setScb_shadows (s : State) (n : Nat) (b : Bus) : (s.setScb n b).shadows = s.shadows := rfl
@[simp] theorem State.setScb_latches (s : State) (n : Nat) (b : Bus) : (s.setScb n b).latches = s.latches := rfl
@[simp] theorem State.setScb_lowHalves (s : State) (n : Nat) (b : Bus) : (s.setScb n b).lowHalves = s.lowHalves := rfl
@[simp] theorem State.setScb_cpi (s : State) (n : Nat) (b : Bus) : (s.setScb n b).cpi = s.cpi := rfl
@[simp] theorem State.setScb_dck (s : State) (n : Nat) (b : Bus) : (s.setScb n b).dck = s.dck := rfl
@[simp] theorem State.setScb_ctxs (s : State) (n : Nat) (b : Bus) : (s.setScb n b).ctxs = s.ctxs := rfl
@[simp] theorem State.setScb_pip (s : State) (n : Nat) (b : Bus) : (s.setScb n b).pip = s.pip := rfl
@[simp] theorem State.setScb_col (s : State) (n : Nat) (b : Bus) : (s.setScb n b).col = s.col := rfl
@[simp] theorem State.setScb_sta (s : State) (n : Nat) (b : Bus) : (s.setScb n b).sta = s.sta := rfl
@[simp] theorem State.setScb_eng (s : State) (n : Nat) (b : Bus) : (s.setScb n b).eng = s.eng := rfl
@[simp] theorem State.setScb_mls (s : State) (n : Nat) (b : Bus) : (s.setScb n b).mls = s.mls := rfl
@[simp] theorem State.setScb_med (s : State) (n : Nat) (b : Bus) : (s.setScb n b).med = s.med := rfl
@[simp] theorem State.setScb_mem (s : State) (n : Nat) (b : Bus) : (s.setScb n b).mem = s.mem := rfl
@[simp] theorem State.setScb_lnk (s : State) (n : Nat) (b : Bus) : (s.setScb n b).lnk = s.lnk := rfl
@[simp] theorem State.setScb_out (s : State) (n : Nat) (b : Bus) : (s.setScb n b).out = s.out := rfl
@[simp] theorem State.setScb_aud (s : State) (n : Nat) (b : Bus) : (s.setScb n b).aud = s.aud := rfl
@[simp] theorem State.setScb_evf (s : State) (n : Nat) (b : Bus) : (s.setScb n b).evf = s.evf := rfl
@[simp] theorem State.setScb_ptu (s : State) (n : Nat) (b : Bus) : (s.setScb n b).ptu = s.ptu := rfl
@[simp] theorem State.setScb_val (s : State) (n : Nat) (b : Bus) : (s.setScb n b).val = s.val := rfl
@[simp] theorem State.setScb_integ (s : State) (n : Nat) (b : Bus) : (s.setScb n b).integ = s.integ := rfl
@[simp] theorem State.setScb_store (s : State) (n : Nat) (b : Bus) : (s.setScb n b).store = s.store := rfl
@[simp] theorem State.setScb_boot (s : State) (n : Nat) (b : Bus) : (s.setScb n b).boot = s.boot := rfl
@[simp] theorem State.setScb_tap (s : State) (n : Nat) (b : Bus) : (s.setScb n b).tap = s.tap := rfl
@[simp] theorem State.setScb_pins (s : State) (n : Nat) (b : Bus) : (s.setScb n b).pins = s.pins := rfl
@[simp] theorem State.setScb_pending (s : State) (n : Nat) (b : Bus) : (s.setScb n b).pending = s.pending := rfl

@[simp] theorem State.setKernel_dealTime (s : State) (n : Nat) (k : Kernel) : (s.setKernel n k).dealTime = s.dealTime := rfl
@[simp] theorem State.setKernel_fresh (s : State) (n : Nat) (k : Kernel) : (s.setKernel n k).fresh = s.fresh := rfl
@[simp] theorem State.setKernel_regs (s : State) (n : Nat) (k : Kernel) : (s.setKernel n k).regs = s.regs := rfl
@[simp] theorem State.setKernel_shadows (s : State) (n : Nat) (k : Kernel) : (s.setKernel n k).shadows = s.shadows := rfl
@[simp] theorem State.setKernel_latches (s : State) (n : Nat) (k : Kernel) : (s.setKernel n k).latches = s.latches := rfl
@[simp] theorem State.setKernel_lowHalves (s : State) (n : Nat) (k : Kernel) : (s.setKernel n k).lowHalves = s.lowHalves := rfl
@[simp] theorem State.setKernel_cpi (s : State) (n : Nat) (k : Kernel) : (s.setKernel n k).cpi = s.cpi := rfl
@[simp] theorem State.setKernel_dck (s : State) (n : Nat) (k : Kernel) : (s.setKernel n k).dck = s.dck := rfl
@[simp] theorem State.setKernel_ctxs (s : State) (n : Nat) (k : Kernel) : (s.setKernel n k).ctxs = s.ctxs := rfl
@[simp] theorem State.setKernel_buses (s : State) (n : Nat) (k : Kernel) : (s.setKernel n k).buses = s.buses := rfl
@[simp] theorem State.setKernel_pip (s : State) (n : Nat) (k : Kernel) : (s.setKernel n k).pip = s.pip := rfl
@[simp] theorem State.setKernel_col (s : State) (n : Nat) (k : Kernel) : (s.setKernel n k).col = s.col := rfl
@[simp] theorem State.setKernel_sta (s : State) (n : Nat) (k : Kernel) : (s.setKernel n k).sta = s.sta := rfl
@[simp] theorem State.setKernel_mls (s : State) (n : Nat) (k : Kernel) : (s.setKernel n k).mls = s.mls := rfl
@[simp] theorem State.setKernel_med (s : State) (n : Nat) (k : Kernel) : (s.setKernel n k).med = s.med := rfl
@[simp] theorem State.setKernel_mem (s : State) (n : Nat) (k : Kernel) : (s.setKernel n k).mem = s.mem := rfl
@[simp] theorem State.setKernel_lnk (s : State) (n : Nat) (k : Kernel) : (s.setKernel n k).lnk = s.lnk := rfl
@[simp] theorem State.setKernel_out (s : State) (n : Nat) (k : Kernel) : (s.setKernel n k).out = s.out := rfl
@[simp] theorem State.setKernel_aud (s : State) (n : Nat) (k : Kernel) : (s.setKernel n k).aud = s.aud := rfl
@[simp] theorem State.setKernel_evf (s : State) (n : Nat) (k : Kernel) : (s.setKernel n k).evf = s.evf := rfl
@[simp] theorem State.setKernel_ptu (s : State) (n : Nat) (k : Kernel) : (s.setKernel n k).ptu = s.ptu := rfl
@[simp] theorem State.setKernel_val (s : State) (n : Nat) (k : Kernel) : (s.setKernel n k).val = s.val := rfl
@[simp] theorem State.setKernel_integ (s : State) (n : Nat) (k : Kernel) : (s.setKernel n k).integ = s.integ := rfl
@[simp] theorem State.setKernel_store (s : State) (n : Nat) (k : Kernel) : (s.setKernel n k).store = s.store := rfl
@[simp] theorem State.setKernel_boot (s : State) (n : Nat) (k : Kernel) : (s.setKernel n k).boot = s.boot := rfl
@[simp] theorem State.setKernel_tap (s : State) (n : Nat) (k : Kernel) : (s.setKernel n k).tap = s.tap := rfl
@[simp] theorem State.setKernel_pins (s : State) (n : Nat) (k : Kernel) : (s.setKernel n k).pins = s.pins := rfl
@[simp] theorem State.setKernel_pending (s : State) (n : Nat) (k : Kernel) : (s.setKernel n k).pending = s.pending := rfl

@[simp] theorem State.setCodec_dealTime (s : State) (n : Nat) (c : Codec) : (s.setCodec n c).dealTime = s.dealTime := rfl
@[simp] theorem State.setCodec_fresh (s : State) (n : Nat) (c : Codec) : (s.setCodec n c).fresh = s.fresh := rfl
@[simp] theorem State.setCodec_regs (s : State) (n : Nat) (c : Codec) : (s.setCodec n c).regs = s.regs := rfl
@[simp] theorem State.setCodec_shadows (s : State) (n : Nat) (c : Codec) : (s.setCodec n c).shadows = s.shadows := rfl
@[simp] theorem State.setCodec_latches (s : State) (n : Nat) (c : Codec) : (s.setCodec n c).latches = s.latches := rfl
@[simp] theorem State.setCodec_lowHalves (s : State) (n : Nat) (c : Codec) : (s.setCodec n c).lowHalves = s.lowHalves := rfl
@[simp] theorem State.setCodec_cpi (s : State) (n : Nat) (c : Codec) : (s.setCodec n c).cpi = s.cpi := rfl
@[simp] theorem State.setCodec_dck (s : State) (n : Nat) (c : Codec) : (s.setCodec n c).dck = s.dck := rfl
@[simp] theorem State.setCodec_ctxs (s : State) (n : Nat) (c : Codec) : (s.setCodec n c).ctxs = s.ctxs := rfl
@[simp] theorem State.setCodec_buses (s : State) (n : Nat) (c : Codec) : (s.setCodec n c).buses = s.buses := rfl
@[simp] theorem State.setCodec_pip (s : State) (n : Nat) (c : Codec) : (s.setCodec n c).pip = s.pip := rfl
@[simp] theorem State.setCodec_col (s : State) (n : Nat) (c : Codec) : (s.setCodec n c).col = s.col := rfl
@[simp] theorem State.setCodec_sta (s : State) (n : Nat) (c : Codec) : (s.setCodec n c).sta = s.sta := rfl
@[simp] theorem State.setCodec_eng (s : State) (n : Nat) (c : Codec) : (s.setCodec n c).eng = s.eng := rfl
@[simp] theorem State.setCodec_med (s : State) (n : Nat) (c : Codec) : (s.setCodec n c).med = s.med := rfl
@[simp] theorem State.setCodec_mem (s : State) (n : Nat) (c : Codec) : (s.setCodec n c).mem = s.mem := rfl
@[simp] theorem State.setCodec_lnk (s : State) (n : Nat) (c : Codec) : (s.setCodec n c).lnk = s.lnk := rfl
@[simp] theorem State.setCodec_out (s : State) (n : Nat) (c : Codec) : (s.setCodec n c).out = s.out := rfl
@[simp] theorem State.setCodec_aud (s : State) (n : Nat) (c : Codec) : (s.setCodec n c).aud = s.aud := rfl
@[simp] theorem State.setCodec_evf (s : State) (n : Nat) (c : Codec) : (s.setCodec n c).evf = s.evf := rfl
@[simp] theorem State.setCodec_ptu (s : State) (n : Nat) (c : Codec) : (s.setCodec n c).ptu = s.ptu := rfl
@[simp] theorem State.setCodec_val (s : State) (n : Nat) (c : Codec) : (s.setCodec n c).val = s.val := rfl
@[simp] theorem State.setCodec_integ (s : State) (n : Nat) (c : Codec) : (s.setCodec n c).integ = s.integ := rfl
@[simp] theorem State.setCodec_store (s : State) (n : Nat) (c : Codec) : (s.setCodec n c).store = s.store := rfl
@[simp] theorem State.setCodec_boot (s : State) (n : Nat) (c : Codec) : (s.setCodec n c).boot = s.boot := rfl
@[simp] theorem State.setCodec_tap (s : State) (n : Nat) (c : Codec) : (s.setCodec n c).tap = s.tap := rfl
@[simp] theorem State.setCodec_pins (s : State) (n : Nat) (c : Codec) : (s.setCodec n c).pins = s.pins := rfl
@[simp] theorem State.setCodec_pending (s : State) (n : Nat) (c : Codec) : (s.setCodec n c).pending = s.pending := rfl

@[simp] theorem State.setDec_dealTime (s : State) (n : Nat) (d : Dec) : (s.setDec n d).dealTime = s.dealTime := rfl
@[simp] theorem State.setDec_fresh (s : State) (n : Nat) (d : Dec) : (s.setDec n d).fresh = s.fresh := rfl
@[simp] theorem State.setDec_regs (s : State) (n : Nat) (d : Dec) : (s.setDec n d).regs = s.regs := rfl
@[simp] theorem State.setDec_shadows (s : State) (n : Nat) (d : Dec) : (s.setDec n d).shadows = s.shadows := rfl
@[simp] theorem State.setDec_latches (s : State) (n : Nat) (d : Dec) : (s.setDec n d).latches = s.latches := rfl
@[simp] theorem State.setDec_lowHalves (s : State) (n : Nat) (d : Dec) : (s.setDec n d).lowHalves = s.lowHalves := rfl
@[simp] theorem State.setDec_cpi (s : State) (n : Nat) (d : Dec) : (s.setDec n d).cpi = s.cpi := rfl
@[simp] theorem State.setDec_dck (s : State) (n : Nat) (d : Dec) : (s.setDec n d).dck = s.dck := rfl
@[simp] theorem State.setDec_ctxs (s : State) (n : Nat) (d : Dec) : (s.setDec n d).ctxs = s.ctxs := rfl
@[simp] theorem State.setDec_buses (s : State) (n : Nat) (d : Dec) : (s.setDec n d).buses = s.buses := rfl
@[simp] theorem State.setDec_pip (s : State) (n : Nat) (d : Dec) : (s.setDec n d).pip = s.pip := rfl
@[simp] theorem State.setDec_col (s : State) (n : Nat) (d : Dec) : (s.setDec n d).col = s.col := rfl
@[simp] theorem State.setDec_sta (s : State) (n : Nat) (d : Dec) : (s.setDec n d).sta = s.sta := rfl
@[simp] theorem State.setDec_eng (s : State) (n : Nat) (d : Dec) : (s.setDec n d).eng = s.eng := rfl
@[simp] theorem State.setDec_med (s : State) (n : Nat) (d : Dec) : (s.setDec n d).med = s.med := rfl
@[simp] theorem State.setDec_mem (s : State) (n : Nat) (d : Dec) : (s.setDec n d).mem = s.mem := rfl
@[simp] theorem State.setDec_lnk (s : State) (n : Nat) (d : Dec) : (s.setDec n d).lnk = s.lnk := rfl
@[simp] theorem State.setDec_out (s : State) (n : Nat) (d : Dec) : (s.setDec n d).out = s.out := rfl
@[simp] theorem State.setDec_aud (s : State) (n : Nat) (d : Dec) : (s.setDec n d).aud = s.aud := rfl
@[simp] theorem State.setDec_evf (s : State) (n : Nat) (d : Dec) : (s.setDec n d).evf = s.evf := rfl
@[simp] theorem State.setDec_ptu (s : State) (n : Nat) (d : Dec) : (s.setDec n d).ptu = s.ptu := rfl
@[simp] theorem State.setDec_val (s : State) (n : Nat) (d : Dec) : (s.setDec n d).val = s.val := rfl
@[simp] theorem State.setDec_integ (s : State) (n : Nat) (d : Dec) : (s.setDec n d).integ = s.integ := rfl
@[simp] theorem State.setDec_store (s : State) (n : Nat) (d : Dec) : (s.setDec n d).store = s.store := rfl
@[simp] theorem State.setDec_boot (s : State) (n : Nat) (d : Dec) : (s.setDec n d).boot = s.boot := rfl
@[simp] theorem State.setDec_tap (s : State) (n : Nat) (d : Dec) : (s.setDec n d).tap = s.tap := rfl
@[simp] theorem State.setDec_pins (s : State) (n : Nat) (d : Dec) : (s.setDec n d).pins = s.pins := rfl
@[simp] theorem State.setDec_pending (s : State) (n : Nat) (d : Dec) : (s.setDec n d).pending = s.pending := rfl

@[simp] theorem State.setMag_dealTime (s : State) (n : Nat) (m : Mag) : (s.setMag n m).dealTime = s.dealTime := rfl
@[simp] theorem State.setMag_fresh (s : State) (n : Nat) (m : Mag) : (s.setMag n m).fresh = s.fresh := rfl
@[simp] theorem State.setMag_regs (s : State) (n : Nat) (m : Mag) : (s.setMag n m).regs = s.regs := rfl
@[simp] theorem State.setMag_shadows (s : State) (n : Nat) (m : Mag) : (s.setMag n m).shadows = s.shadows := rfl
@[simp] theorem State.setMag_latches (s : State) (n : Nat) (m : Mag) : (s.setMag n m).latches = s.latches := rfl
@[simp] theorem State.setMag_lowHalves (s : State) (n : Nat) (m : Mag) : (s.setMag n m).lowHalves = s.lowHalves := rfl
@[simp] theorem State.setMag_cpi (s : State) (n : Nat) (m : Mag) : (s.setMag n m).cpi = s.cpi := rfl
@[simp] theorem State.setMag_dck (s : State) (n : Nat) (m : Mag) : (s.setMag n m).dck = s.dck := rfl
@[simp] theorem State.setMag_ctxs (s : State) (n : Nat) (m : Mag) : (s.setMag n m).ctxs = s.ctxs := rfl
@[simp] theorem State.setMag_buses (s : State) (n : Nat) (m : Mag) : (s.setMag n m).buses = s.buses := rfl
@[simp] theorem State.setMag_pip (s : State) (n : Nat) (m : Mag) : (s.setMag n m).pip = s.pip := rfl
@[simp] theorem State.setMag_col (s : State) (n : Nat) (m : Mag) : (s.setMag n m).col = s.col := rfl
@[simp] theorem State.setMag_sta (s : State) (n : Nat) (m : Mag) : (s.setMag n m).sta = s.sta := rfl
@[simp] theorem State.setMag_eng (s : State) (n : Nat) (m : Mag) : (s.setMag n m).eng = s.eng := rfl
@[simp] theorem State.setMag_mls (s : State) (n : Nat) (m : Mag) : (s.setMag n m).mls = s.mls := rfl
@[simp] theorem State.setMag_mem (s : State) (n : Nat) (m : Mag) : (s.setMag n m).mem = s.mem := rfl
@[simp] theorem State.setMag_lnk (s : State) (n : Nat) (m : Mag) : (s.setMag n m).lnk = s.lnk := rfl
@[simp] theorem State.setMag_out (s : State) (n : Nat) (m : Mag) : (s.setMag n m).out = s.out := rfl
@[simp] theorem State.setMag_aud (s : State) (n : Nat) (m : Mag) : (s.setMag n m).aud = s.aud := rfl
@[simp] theorem State.setMag_evf (s : State) (n : Nat) (m : Mag) : (s.setMag n m).evf = s.evf := rfl
@[simp] theorem State.setMag_ptu (s : State) (n : Nat) (m : Mag) : (s.setMag n m).ptu = s.ptu := rfl
@[simp] theorem State.setMag_val (s : State) (n : Nat) (m : Mag) : (s.setMag n m).val = s.val := rfl
@[simp] theorem State.setMag_integ (s : State) (n : Nat) (m : Mag) : (s.setMag n m).integ = s.integ := rfl
@[simp] theorem State.setMag_store (s : State) (n : Nat) (m : Mag) : (s.setMag n m).store = s.store := rfl
@[simp] theorem State.setMag_boot (s : State) (n : Nat) (m : Mag) : (s.setMag n m).boot = s.boot := rfl
@[simp] theorem State.setMag_tap (s : State) (n : Nat) (m : Mag) : (s.setMag n m).tap = s.tap := rfl
@[simp] theorem State.setMag_pins (s : State) (n : Nat) (m : Mag) : (s.setMag n m).pins = s.pins := rfl
@[simp] theorem State.setMag_pending (s : State) (n : Nat) (m : Mag) : (s.setMag n m).pending = s.pending := rfl

@[simp] theorem State.setTake_dealTime (s : State) (n : Nat) (t : Take) : (s.setTake n t).dealTime = s.dealTime := rfl
@[simp] theorem State.setTake_fresh (s : State) (n : Nat) (t : Take) : (s.setTake n t).fresh = s.fresh := rfl
@[simp] theorem State.setTake_regs (s : State) (n : Nat) (t : Take) : (s.setTake n t).regs = s.regs := rfl
@[simp] theorem State.setTake_shadows (s : State) (n : Nat) (t : Take) : (s.setTake n t).shadows = s.shadows := rfl
@[simp] theorem State.setTake_latches (s : State) (n : Nat) (t : Take) : (s.setTake n t).latches = s.latches := rfl
@[simp] theorem State.setTake_lowHalves (s : State) (n : Nat) (t : Take) : (s.setTake n t).lowHalves = s.lowHalves := rfl
@[simp] theorem State.setTake_cpi (s : State) (n : Nat) (t : Take) : (s.setTake n t).cpi = s.cpi := rfl
@[simp] theorem State.setTake_dck (s : State) (n : Nat) (t : Take) : (s.setTake n t).dck = s.dck := rfl
@[simp] theorem State.setTake_ctxs (s : State) (n : Nat) (t : Take) : (s.setTake n t).ctxs = s.ctxs := rfl
@[simp] theorem State.setTake_buses (s : State) (n : Nat) (t : Take) : (s.setTake n t).buses = s.buses := rfl
@[simp] theorem State.setTake_pip (s : State) (n : Nat) (t : Take) : (s.setTake n t).pip = s.pip := rfl
@[simp] theorem State.setTake_col (s : State) (n : Nat) (t : Take) : (s.setTake n t).col = s.col := rfl
@[simp] theorem State.setTake_sta (s : State) (n : Nat) (t : Take) : (s.setTake n t).sta = s.sta := rfl
@[simp] theorem State.setTake_eng (s : State) (n : Nat) (t : Take) : (s.setTake n t).eng = s.eng := rfl
@[simp] theorem State.setTake_mls (s : State) (n : Nat) (t : Take) : (s.setTake n t).mls = s.mls := rfl
@[simp] theorem State.setTake_mem (s : State) (n : Nat) (t : Take) : (s.setTake n t).mem = s.mem := rfl
@[simp] theorem State.setTake_lnk (s : State) (n : Nat) (t : Take) : (s.setTake n t).lnk = s.lnk := rfl
@[simp] theorem State.setTake_out (s : State) (n : Nat) (t : Take) : (s.setTake n t).out = s.out := rfl
@[simp] theorem State.setTake_aud (s : State) (n : Nat) (t : Take) : (s.setTake n t).aud = s.aud := rfl
@[simp] theorem State.setTake_evf (s : State) (n : Nat) (t : Take) : (s.setTake n t).evf = s.evf := rfl
@[simp] theorem State.setTake_ptu (s : State) (n : Nat) (t : Take) : (s.setTake n t).ptu = s.ptu := rfl
@[simp] theorem State.setTake_val (s : State) (n : Nat) (t : Take) : (s.setTake n t).val = s.val := rfl
@[simp] theorem State.setTake_integ (s : State) (n : Nat) (t : Take) : (s.setTake n t).integ = s.integ := rfl
@[simp] theorem State.setTake_store (s : State) (n : Nat) (t : Take) : (s.setTake n t).store = s.store := rfl
@[simp] theorem State.setTake_boot (s : State) (n : Nat) (t : Take) : (s.setTake n t).boot = s.boot := rfl
@[simp] theorem State.setTake_tap (s : State) (n : Nat) (t : Take) : (s.setTake n t).tap = s.tap := rfl
@[simp] theorem State.setTake_pins (s : State) (n : Nat) (t : Take) : (s.setTake n t).pins = s.pins := rfl
@[simp] theorem State.setTake_pending (s : State) (n : Nat) (t : Take) : (s.setTake n t).pending = s.pending := rfl

@[simp] theorem State.setLink_dealTime (s : State) (n : Nat) (l : Link) : (s.setLink n l).dealTime = s.dealTime := rfl
@[simp] theorem State.setLink_fresh (s : State) (n : Nat) (l : Link) : (s.setLink n l).fresh = s.fresh := rfl
@[simp] theorem State.setLink_regs (s : State) (n : Nat) (l : Link) : (s.setLink n l).regs = s.regs := rfl
@[simp] theorem State.setLink_shadows (s : State) (n : Nat) (l : Link) : (s.setLink n l).shadows = s.shadows := rfl
@[simp] theorem State.setLink_latches (s : State) (n : Nat) (l : Link) : (s.setLink n l).latches = s.latches := rfl
@[simp] theorem State.setLink_lowHalves (s : State) (n : Nat) (l : Link) : (s.setLink n l).lowHalves = s.lowHalves := rfl
@[simp] theorem State.setLink_cpi (s : State) (n : Nat) (l : Link) : (s.setLink n l).cpi = s.cpi := rfl
@[simp] theorem State.setLink_dck (s : State) (n : Nat) (l : Link) : (s.setLink n l).dck = s.dck := rfl
@[simp] theorem State.setLink_ctxs (s : State) (n : Nat) (l : Link) : (s.setLink n l).ctxs = s.ctxs := rfl
@[simp] theorem State.setLink_buses (s : State) (n : Nat) (l : Link) : (s.setLink n l).buses = s.buses := rfl
@[simp] theorem State.setLink_pip (s : State) (n : Nat) (l : Link) : (s.setLink n l).pip = s.pip := rfl
@[simp] theorem State.setLink_col (s : State) (n : Nat) (l : Link) : (s.setLink n l).col = s.col := rfl
@[simp] theorem State.setLink_sta (s : State) (n : Nat) (l : Link) : (s.setLink n l).sta = s.sta := rfl
@[simp] theorem State.setLink_eng (s : State) (n : Nat) (l : Link) : (s.setLink n l).eng = s.eng := rfl
@[simp] theorem State.setLink_mls (s : State) (n : Nat) (l : Link) : (s.setLink n l).mls = s.mls := rfl
@[simp] theorem State.setLink_med (s : State) (n : Nat) (l : Link) : (s.setLink n l).med = s.med := rfl
@[simp] theorem State.setLink_mem (s : State) (n : Nat) (l : Link) : (s.setLink n l).mem = s.mem := rfl
@[simp] theorem State.setLink_out (s : State) (n : Nat) (l : Link) : (s.setLink n l).out = s.out := rfl
@[simp] theorem State.setLink_aud (s : State) (n : Nat) (l : Link) : (s.setLink n l).aud = s.aud := rfl
@[simp] theorem State.setLink_evf (s : State) (n : Nat) (l : Link) : (s.setLink n l).evf = s.evf := rfl
@[simp] theorem State.setLink_ptu (s : State) (n : Nat) (l : Link) : (s.setLink n l).ptu = s.ptu := rfl
@[simp] theorem State.setLink_val (s : State) (n : Nat) (l : Link) : (s.setLink n l).val = s.val := rfl
@[simp] theorem State.setLink_integ (s : State) (n : Nat) (l : Link) : (s.setLink n l).integ = s.integ := rfl
@[simp] theorem State.setLink_store (s : State) (n : Nat) (l : Link) : (s.setLink n l).store = s.store := rfl
@[simp] theorem State.setLink_boot (s : State) (n : Nat) (l : Link) : (s.setLink n l).boot = s.boot := rfl
@[simp] theorem State.setLink_tap (s : State) (n : Nat) (l : Link) : (s.setLink n l).tap = s.tap := rfl
@[simp] theorem State.setLink_pins (s : State) (n : Nat) (l : Link) : (s.setLink n l).pins = s.pins := rfl
@[simp] theorem State.setLink_pending (s : State) (n : Nat) (l : Link) : (s.setLink n l).pending = s.pending := rfl

@[simp] theorem State.setOutput_dealTime (s : State) (n : Nat) (o : Out) : (s.setOutput n o).dealTime = s.dealTime := rfl
@[simp] theorem State.setOutput_fresh (s : State) (n : Nat) (o : Out) : (s.setOutput n o).fresh = s.fresh := rfl
@[simp] theorem State.setOutput_regs (s : State) (n : Nat) (o : Out) : (s.setOutput n o).regs = s.regs := rfl
@[simp] theorem State.setOutput_shadows (s : State) (n : Nat) (o : Out) : (s.setOutput n o).shadows = s.shadows := rfl
@[simp] theorem State.setOutput_latches (s : State) (n : Nat) (o : Out) : (s.setOutput n o).latches = s.latches := rfl
@[simp] theorem State.setOutput_lowHalves (s : State) (n : Nat) (o : Out) : (s.setOutput n o).lowHalves = s.lowHalves := rfl
@[simp] theorem State.setOutput_cpi (s : State) (n : Nat) (o : Out) : (s.setOutput n o).cpi = s.cpi := rfl
@[simp] theorem State.setOutput_dck (s : State) (n : Nat) (o : Out) : (s.setOutput n o).dck = s.dck := rfl
@[simp] theorem State.setOutput_ctxs (s : State) (n : Nat) (o : Out) : (s.setOutput n o).ctxs = s.ctxs := rfl
@[simp] theorem State.setOutput_buses (s : State) (n : Nat) (o : Out) : (s.setOutput n o).buses = s.buses := rfl
@[simp] theorem State.setOutput_pip (s : State) (n : Nat) (o : Out) : (s.setOutput n o).pip = s.pip := rfl
@[simp] theorem State.setOutput_col (s : State) (n : Nat) (o : Out) : (s.setOutput n o).col = s.col := rfl
@[simp] theorem State.setOutput_sta (s : State) (n : Nat) (o : Out) : (s.setOutput n o).sta = s.sta := rfl
@[simp] theorem State.setOutput_eng (s : State) (n : Nat) (o : Out) : (s.setOutput n o).eng = s.eng := rfl
@[simp] theorem State.setOutput_mls (s : State) (n : Nat) (o : Out) : (s.setOutput n o).mls = s.mls := rfl
@[simp] theorem State.setOutput_med (s : State) (n : Nat) (o : Out) : (s.setOutput n o).med = s.med := rfl
@[simp] theorem State.setOutput_mem (s : State) (n : Nat) (o : Out) : (s.setOutput n o).mem = s.mem := rfl
@[simp] theorem State.setOutput_lnk (s : State) (n : Nat) (o : Out) : (s.setOutput n o).lnk = s.lnk := rfl
@[simp] theorem State.setOutput_aud (s : State) (n : Nat) (o : Out) : (s.setOutput n o).aud = s.aud := rfl
@[simp] theorem State.setOutput_evf (s : State) (n : Nat) (o : Out) : (s.setOutput n o).evf = s.evf := rfl
@[simp] theorem State.setOutput_ptu (s : State) (n : Nat) (o : Out) : (s.setOutput n o).ptu = s.ptu := rfl
@[simp] theorem State.setOutput_val (s : State) (n : Nat) (o : Out) : (s.setOutput n o).val = s.val := rfl
@[simp] theorem State.setOutput_integ (s : State) (n : Nat) (o : Out) : (s.setOutput n o).integ = s.integ := rfl
@[simp] theorem State.setOutput_store (s : State) (n : Nat) (o : Out) : (s.setOutput n o).store = s.store := rfl
@[simp] theorem State.setOutput_boot (s : State) (n : Nat) (o : Out) : (s.setOutput n o).boot = s.boot := rfl
@[simp] theorem State.setOutput_tap (s : State) (n : Nat) (o : Out) : (s.setOutput n o).tap = s.tap := rfl
@[simp] theorem State.setOutput_pins (s : State) (n : Nat) (o : Out) : (s.setOutput n o).pins = s.pins := rfl
@[simp] theorem State.setOutput_pending (s : State) (n : Nat) (o : Out) : (s.setOutput n o).pending = s.pending := rfl

@[simp] theorem State.setPort_dealTime (s : State) (n : Nat) (a : Aud) : (s.setPort n a).dealTime = s.dealTime := rfl
@[simp] theorem State.setPort_fresh (s : State) (n : Nat) (a : Aud) : (s.setPort n a).fresh = s.fresh := rfl
@[simp] theorem State.setPort_regs (s : State) (n : Nat) (a : Aud) : (s.setPort n a).regs = s.regs := rfl
@[simp] theorem State.setPort_shadows (s : State) (n : Nat) (a : Aud) : (s.setPort n a).shadows = s.shadows := rfl
@[simp] theorem State.setPort_latches (s : State) (n : Nat) (a : Aud) : (s.setPort n a).latches = s.latches := rfl
@[simp] theorem State.setPort_lowHalves (s : State) (n : Nat) (a : Aud) : (s.setPort n a).lowHalves = s.lowHalves := rfl
@[simp] theorem State.setPort_cpi (s : State) (n : Nat) (a : Aud) : (s.setPort n a).cpi = s.cpi := rfl
@[simp] theorem State.setPort_dck (s : State) (n : Nat) (a : Aud) : (s.setPort n a).dck = s.dck := rfl
@[simp] theorem State.setPort_ctxs (s : State) (n : Nat) (a : Aud) : (s.setPort n a).ctxs = s.ctxs := rfl
@[simp] theorem State.setPort_buses (s : State) (n : Nat) (a : Aud) : (s.setPort n a).buses = s.buses := rfl
@[simp] theorem State.setPort_pip (s : State) (n : Nat) (a : Aud) : (s.setPort n a).pip = s.pip := rfl
@[simp] theorem State.setPort_col (s : State) (n : Nat) (a : Aud) : (s.setPort n a).col = s.col := rfl
@[simp] theorem State.setPort_sta (s : State) (n : Nat) (a : Aud) : (s.setPort n a).sta = s.sta := rfl
@[simp] theorem State.setPort_eng (s : State) (n : Nat) (a : Aud) : (s.setPort n a).eng = s.eng := rfl
@[simp] theorem State.setPort_mls (s : State) (n : Nat) (a : Aud) : (s.setPort n a).mls = s.mls := rfl
@[simp] theorem State.setPort_med (s : State) (n : Nat) (a : Aud) : (s.setPort n a).med = s.med := rfl
@[simp] theorem State.setPort_mem (s : State) (n : Nat) (a : Aud) : (s.setPort n a).mem = s.mem := rfl
@[simp] theorem State.setPort_lnk (s : State) (n : Nat) (a : Aud) : (s.setPort n a).lnk = s.lnk := rfl
@[simp] theorem State.setPort_out (s : State) (n : Nat) (a : Aud) : (s.setPort n a).out = s.out := rfl
@[simp] theorem State.setPort_evf (s : State) (n : Nat) (a : Aud) : (s.setPort n a).evf = s.evf := rfl
@[simp] theorem State.setPort_ptu (s : State) (n : Nat) (a : Aud) : (s.setPort n a).ptu = s.ptu := rfl
@[simp] theorem State.setPort_val (s : State) (n : Nat) (a : Aud) : (s.setPort n a).val = s.val := rfl
@[simp] theorem State.setPort_integ (s : State) (n : Nat) (a : Aud) : (s.setPort n a).integ = s.integ := rfl
@[simp] theorem State.setPort_store (s : State) (n : Nat) (a : Aud) : (s.setPort n a).store = s.store := rfl
@[simp] theorem State.setPort_boot (s : State) (n : Nat) (a : Aud) : (s.setPort n a).boot = s.boot := rfl
@[simp] theorem State.setPort_tap (s : State) (n : Nat) (a : Aud) : (s.setPort n a).tap = s.tap := rfl
@[simp] theorem State.setPort_pins (s : State) (n : Nat) (a : Aud) : (s.setPort n a).pins = s.pins := rfl
@[simp] theorem State.setPort_pending (s : State) (n : Nat) (a : Aud) : (s.setPort n a).pending = s.pending := rfl

@[simp] theorem State.setQueue_dealTime (s : State) (p : Nat) (q : List QEntry) : (s.setQueue p q).dealTime = s.dealTime := rfl
@[simp] theorem State.setQueue_fresh (s : State) (p : Nat) (q : List QEntry) : (s.setQueue p q).fresh = s.fresh := rfl
@[simp] theorem State.setQueue_regs (s : State) (p : Nat) (q : List QEntry) : (s.setQueue p q).regs = s.regs := rfl
@[simp] theorem State.setQueue_shadows (s : State) (p : Nat) (q : List QEntry) : (s.setQueue p q).shadows = s.shadows := rfl
@[simp] theorem State.setQueue_latches (s : State) (p : Nat) (q : List QEntry) : (s.setQueue p q).latches = s.latches := rfl
@[simp] theorem State.setQueue_lowHalves (s : State) (p : Nat) (q : List QEntry) : (s.setQueue p q).lowHalves = s.lowHalves := rfl
@[simp] theorem State.setQueue_cpi (s : State) (p : Nat) (q : List QEntry) : (s.setQueue p q).cpi = s.cpi := rfl
@[simp] theorem State.setQueue_ctxs (s : State) (p : Nat) (q : List QEntry) : (s.setQueue p q).ctxs = s.ctxs := rfl
@[simp] theorem State.setQueue_buses (s : State) (p : Nat) (q : List QEntry) : (s.setQueue p q).buses = s.buses := rfl
@[simp] theorem State.setQueue_pip (s : State) (p : Nat) (q : List QEntry) : (s.setQueue p q).pip = s.pip := rfl
@[simp] theorem State.setQueue_col (s : State) (p : Nat) (q : List QEntry) : (s.setQueue p q).col = s.col := rfl
@[simp] theorem State.setQueue_sta (s : State) (p : Nat) (q : List QEntry) : (s.setQueue p q).sta = s.sta := rfl
@[simp] theorem State.setQueue_eng (s : State) (p : Nat) (q : List QEntry) : (s.setQueue p q).eng = s.eng := rfl
@[simp] theorem State.setQueue_mls (s : State) (p : Nat) (q : List QEntry) : (s.setQueue p q).mls = s.mls := rfl
@[simp] theorem State.setQueue_med (s : State) (p : Nat) (q : List QEntry) : (s.setQueue p q).med = s.med := rfl
@[simp] theorem State.setQueue_mem (s : State) (p : Nat) (q : List QEntry) : (s.setQueue p q).mem = s.mem := rfl
@[simp] theorem State.setQueue_lnk (s : State) (p : Nat) (q : List QEntry) : (s.setQueue p q).lnk = s.lnk := rfl
@[simp] theorem State.setQueue_out (s : State) (p : Nat) (q : List QEntry) : (s.setQueue p q).out = s.out := rfl
@[simp] theorem State.setQueue_aud (s : State) (p : Nat) (q : List QEntry) : (s.setQueue p q).aud = s.aud := rfl
@[simp] theorem State.setQueue_evf (s : State) (p : Nat) (q : List QEntry) : (s.setQueue p q).evf = s.evf := rfl
@[simp] theorem State.setQueue_ptu (s : State) (p : Nat) (q : List QEntry) : (s.setQueue p q).ptu = s.ptu := rfl
@[simp] theorem State.setQueue_val (s : State) (p : Nat) (q : List QEntry) : (s.setQueue p q).val = s.val := rfl
@[simp] theorem State.setQueue_integ (s : State) (p : Nat) (q : List QEntry) : (s.setQueue p q).integ = s.integ := rfl
@[simp] theorem State.setQueue_store (s : State) (p : Nat) (q : List QEntry) : (s.setQueue p q).store = s.store := rfl
@[simp] theorem State.setQueue_boot (s : State) (p : Nat) (q : List QEntry) : (s.setQueue p q).boot = s.boot := rfl
@[simp] theorem State.setQueue_tap (s : State) (p : Nat) (q : List QEntry) : (s.setQueue p q).tap = s.tap := rfl
@[simp] theorem State.setQueue_pins (s : State) (p : Nat) (q : List QEntry) : (s.setQueue p q).pins = s.pins := rfl
@[simp] theorem State.setQueue_pending (s : State) (p : Nat) (q : List QEntry) : (s.setQueue p q).pending = s.pending := rfl

@[simp] theorem State.wr_dealTime (s : State) (r : Reg) (v i j : Nat) : (s.wr r v i j).dealTime = s.dealTime := rfl
@[simp] theorem State.wr_fresh (s : State) (r : Reg) (v i j : Nat) : (s.wr r v i j).fresh = s.fresh := rfl
@[simp] theorem State.wr_shadows (s : State) (r : Reg) (v i j : Nat) : (s.wr r v i j).shadows = s.shadows := rfl
@[simp] theorem State.wr_latches (s : State) (r : Reg) (v i j : Nat) : (s.wr r v i j).latches = s.latches := rfl
@[simp] theorem State.wr_lowHalves (s : State) (r : Reg) (v i j : Nat) : (s.wr r v i j).lowHalves = s.lowHalves := rfl
@[simp] theorem State.wr_cpi (s : State) (r : Reg) (v i j : Nat) : (s.wr r v i j).cpi = s.cpi := rfl
@[simp] theorem State.wr_dck (s : State) (r : Reg) (v i j : Nat) : (s.wr r v i j).dck = s.dck := rfl
@[simp] theorem State.wr_ctxs (s : State) (r : Reg) (v i j : Nat) : (s.wr r v i j).ctxs = s.ctxs := rfl
@[simp] theorem State.wr_buses (s : State) (r : Reg) (v i j : Nat) : (s.wr r v i j).buses = s.buses := rfl
@[simp] theorem State.wr_pip (s : State) (r : Reg) (v i j : Nat) : (s.wr r v i j).pip = s.pip := rfl
@[simp] theorem State.wr_col (s : State) (r : Reg) (v i j : Nat) : (s.wr r v i j).col = s.col := rfl
@[simp] theorem State.wr_sta (s : State) (r : Reg) (v i j : Nat) : (s.wr r v i j).sta = s.sta := rfl
@[simp] theorem State.wr_eng (s : State) (r : Reg) (v i j : Nat) : (s.wr r v i j).eng = s.eng := rfl
@[simp] theorem State.wr_mls (s : State) (r : Reg) (v i j : Nat) : (s.wr r v i j).mls = s.mls := rfl
@[simp] theorem State.wr_med (s : State) (r : Reg) (v i j : Nat) : (s.wr r v i j).med = s.med := rfl
@[simp] theorem State.wr_mem (s : State) (r : Reg) (v i j : Nat) : (s.wr r v i j).mem = s.mem := rfl
@[simp] theorem State.wr_lnk (s : State) (r : Reg) (v i j : Nat) : (s.wr r v i j).lnk = s.lnk := rfl
@[simp] theorem State.wr_out (s : State) (r : Reg) (v i j : Nat) : (s.wr r v i j).out = s.out := rfl
@[simp] theorem State.wr_aud (s : State) (r : Reg) (v i j : Nat) : (s.wr r v i j).aud = s.aud := rfl
@[simp] theorem State.wr_evf (s : State) (r : Reg) (v i j : Nat) : (s.wr r v i j).evf = s.evf := rfl
@[simp] theorem State.wr_ptu (s : State) (r : Reg) (v i j : Nat) : (s.wr r v i j).ptu = s.ptu := rfl
@[simp] theorem State.wr_val (s : State) (r : Reg) (v i j : Nat) : (s.wr r v i j).val = s.val := rfl
@[simp] theorem State.wr_integ (s : State) (r : Reg) (v i j : Nat) : (s.wr r v i j).integ = s.integ := rfl
@[simp] theorem State.wr_store (s : State) (r : Reg) (v i j : Nat) : (s.wr r v i j).store = s.store := rfl
@[simp] theorem State.wr_boot (s : State) (r : Reg) (v i j : Nat) : (s.wr r v i j).boot = s.boot := rfl
@[simp] theorem State.wr_tap (s : State) (r : Reg) (v i j : Nat) : (s.wr r v i j).tap = s.tap := rfl
@[simp] theorem State.wr_pins (s : State) (r : Reg) (v i j : Nat) : (s.wr r v i j).pins = s.pins := rfl
@[simp] theorem State.wr_pending (s : State) (r : Reg) (v i j : Nat) : (s.wr r v i j).pending = s.pending := rfl

@[simp] theorem State.set_dealTime (s : State) (f : Fld) (v i j : Nat) : (s.set f v i j).dealTime = s.dealTime := rfl
@[simp] theorem State.set_fresh (s : State) (f : Fld) (v i j : Nat) : (s.set f v i j).fresh = s.fresh := rfl
@[simp] theorem State.set_shadows (s : State) (f : Fld) (v i j : Nat) : (s.set f v i j).shadows = s.shadows := rfl
@[simp] theorem State.set_latches (s : State) (f : Fld) (v i j : Nat) : (s.set f v i j).latches = s.latches := rfl
@[simp] theorem State.set_lowHalves (s : State) (f : Fld) (v i j : Nat) : (s.set f v i j).lowHalves = s.lowHalves := rfl
@[simp] theorem State.set_cpi (s : State) (f : Fld) (v i j : Nat) : (s.set f v i j).cpi = s.cpi := rfl
@[simp] theorem State.set_dck (s : State) (f : Fld) (v i j : Nat) : (s.set f v i j).dck = s.dck := rfl
@[simp] theorem State.set_ctxs (s : State) (f : Fld) (v i j : Nat) : (s.set f v i j).ctxs = s.ctxs := rfl
@[simp] theorem State.set_buses (s : State) (f : Fld) (v i j : Nat) : (s.set f v i j).buses = s.buses := rfl
@[simp] theorem State.set_pip (s : State) (f : Fld) (v i j : Nat) : (s.set f v i j).pip = s.pip := rfl
@[simp] theorem State.set_col (s : State) (f : Fld) (v i j : Nat) : (s.set f v i j).col = s.col := rfl
@[simp] theorem State.set_sta (s : State) (f : Fld) (v i j : Nat) : (s.set f v i j).sta = s.sta := rfl
@[simp] theorem State.set_eng (s : State) (f : Fld) (v i j : Nat) : (s.set f v i j).eng = s.eng := rfl
@[simp] theorem State.set_mls (s : State) (f : Fld) (v i j : Nat) : (s.set f v i j).mls = s.mls := rfl
@[simp] theorem State.set_med (s : State) (f : Fld) (v i j : Nat) : (s.set f v i j).med = s.med := rfl
@[simp] theorem State.set_mem (s : State) (f : Fld) (v i j : Nat) : (s.set f v i j).mem = s.mem := rfl
@[simp] theorem State.set_lnk (s : State) (f : Fld) (v i j : Nat) : (s.set f v i j).lnk = s.lnk := rfl
@[simp] theorem State.set_out (s : State) (f : Fld) (v i j : Nat) : (s.set f v i j).out = s.out := rfl
@[simp] theorem State.set_aud (s : State) (f : Fld) (v i j : Nat) : (s.set f v i j).aud = s.aud := rfl
@[simp] theorem State.set_evf (s : State) (f : Fld) (v i j : Nat) : (s.set f v i j).evf = s.evf := rfl
@[simp] theorem State.set_ptu (s : State) (f : Fld) (v i j : Nat) : (s.set f v i j).ptu = s.ptu := rfl
@[simp] theorem State.set_val (s : State) (f : Fld) (v i j : Nat) : (s.set f v i j).val = s.val := rfl
@[simp] theorem State.set_integ (s : State) (f : Fld) (v i j : Nat) : (s.set f v i j).integ = s.integ := rfl
@[simp] theorem State.set_store (s : State) (f : Fld) (v i j : Nat) : (s.set f v i j).store = s.store := rfl
@[simp] theorem State.set_boot (s : State) (f : Fld) (v i j : Nat) : (s.set f v i j).boot = s.boot := rfl
@[simp] theorem State.set_tap (s : State) (f : Fld) (v i j : Nat) : (s.set f v i j).tap = s.tap := rfl
@[simp] theorem State.set_pins (s : State) (f : Fld) (v i j : Nat) : (s.set f v i j).pins = s.pins := rfl
@[simp] theorem State.set_pending (s : State) (f : Fld) (v i j : Nat) : (s.set f v i j).pending = s.pending := rfl

@[simp] theorem State.bump_dealTime (s : State) (f : Fld) (i k j : Nat) : (s.bump f i k j).dealTime = s.dealTime := rfl
@[simp] theorem State.bump_fresh (s : State) (f : Fld) (i k j : Nat) : (s.bump f i k j).fresh = s.fresh := rfl
@[simp] theorem State.bump_shadows (s : State) (f : Fld) (i k j : Nat) : (s.bump f i k j).shadows = s.shadows := rfl
@[simp] theorem State.bump_latches (s : State) (f : Fld) (i k j : Nat) : (s.bump f i k j).latches = s.latches := rfl
@[simp] theorem State.bump_lowHalves (s : State) (f : Fld) (i k j : Nat) : (s.bump f i k j).lowHalves = s.lowHalves := rfl
@[simp] theorem State.bump_cpi (s : State) (f : Fld) (i k j : Nat) : (s.bump f i k j).cpi = s.cpi := rfl
@[simp] theorem State.bump_dck (s : State) (f : Fld) (i k j : Nat) : (s.bump f i k j).dck = s.dck := rfl
@[simp] theorem State.bump_ctxs (s : State) (f : Fld) (i k j : Nat) : (s.bump f i k j).ctxs = s.ctxs := rfl
@[simp] theorem State.bump_buses (s : State) (f : Fld) (i k j : Nat) : (s.bump f i k j).buses = s.buses := rfl
@[simp] theorem State.bump_pip (s : State) (f : Fld) (i k j : Nat) : (s.bump f i k j).pip = s.pip := rfl
@[simp] theorem State.bump_col (s : State) (f : Fld) (i k j : Nat) : (s.bump f i k j).col = s.col := rfl
@[simp] theorem State.bump_sta (s : State) (f : Fld) (i k j : Nat) : (s.bump f i k j).sta = s.sta := rfl
@[simp] theorem State.bump_eng (s : State) (f : Fld) (i k j : Nat) : (s.bump f i k j).eng = s.eng := rfl
@[simp] theorem State.bump_mls (s : State) (f : Fld) (i k j : Nat) : (s.bump f i k j).mls = s.mls := rfl
@[simp] theorem State.bump_med (s : State) (f : Fld) (i k j : Nat) : (s.bump f i k j).med = s.med := rfl
@[simp] theorem State.bump_mem (s : State) (f : Fld) (i k j : Nat) : (s.bump f i k j).mem = s.mem := rfl
@[simp] theorem State.bump_lnk (s : State) (f : Fld) (i k j : Nat) : (s.bump f i k j).lnk = s.lnk := rfl
@[simp] theorem State.bump_out (s : State) (f : Fld) (i k j : Nat) : (s.bump f i k j).out = s.out := rfl
@[simp] theorem State.bump_aud (s : State) (f : Fld) (i k j : Nat) : (s.bump f i k j).aud = s.aud := rfl
@[simp] theorem State.bump_evf (s : State) (f : Fld) (i k j : Nat) : (s.bump f i k j).evf = s.evf := rfl
@[simp] theorem State.bump_ptu (s : State) (f : Fld) (i k j : Nat) : (s.bump f i k j).ptu = s.ptu := rfl
@[simp] theorem State.bump_val (s : State) (f : Fld) (i k j : Nat) : (s.bump f i k j).val = s.val := rfl
@[simp] theorem State.bump_integ (s : State) (f : Fld) (i k j : Nat) : (s.bump f i k j).integ = s.integ := rfl
@[simp] theorem State.bump_store (s : State) (f : Fld) (i k j : Nat) : (s.bump f i k j).store = s.store := rfl
@[simp] theorem State.bump_boot (s : State) (f : Fld) (i k j : Nat) : (s.bump f i k j).boot = s.boot := rfl
@[simp] theorem State.bump_tap (s : State) (f : Fld) (i k j : Nat) : (s.bump f i k j).tap = s.tap := rfl
@[simp] theorem State.bump_pins (s : State) (f : Fld) (i k j : Nat) : (s.bump f i k j).pins = s.pins := rfl
@[simp] theorem State.bump_pending (s : State) (f : Fld) (i k j : Nat) : (s.bump f i k j).pending = s.pending := rfl

@[simp] theorem State.wr64_dealTime (s : State) (lo hi : Reg) (v i : Nat) : (s.wr64 lo hi v i).dealTime = s.dealTime := rfl
@[simp] theorem State.wr64_fresh (s : State) (lo hi : Reg) (v i : Nat) : (s.wr64 lo hi v i).fresh = s.fresh := rfl
@[simp] theorem State.wr64_shadows (s : State) (lo hi : Reg) (v i : Nat) : (s.wr64 lo hi v i).shadows = s.shadows := rfl
@[simp] theorem State.wr64_latches (s : State) (lo hi : Reg) (v i : Nat) : (s.wr64 lo hi v i).latches = s.latches := rfl
@[simp] theorem State.wr64_lowHalves (s : State) (lo hi : Reg) (v i : Nat) : (s.wr64 lo hi v i).lowHalves = s.lowHalves := rfl
@[simp] theorem State.wr64_cpi (s : State) (lo hi : Reg) (v i : Nat) : (s.wr64 lo hi v i).cpi = s.cpi := rfl
@[simp] theorem State.wr64_dck (s : State) (lo hi : Reg) (v i : Nat) : (s.wr64 lo hi v i).dck = s.dck := rfl
@[simp] theorem State.wr64_ctxs (s : State) (lo hi : Reg) (v i : Nat) : (s.wr64 lo hi v i).ctxs = s.ctxs := rfl
@[simp] theorem State.wr64_buses (s : State) (lo hi : Reg) (v i : Nat) : (s.wr64 lo hi v i).buses = s.buses := rfl
@[simp] theorem State.wr64_pip (s : State) (lo hi : Reg) (v i : Nat) : (s.wr64 lo hi v i).pip = s.pip := rfl
@[simp] theorem State.wr64_col (s : State) (lo hi : Reg) (v i : Nat) : (s.wr64 lo hi v i).col = s.col := rfl
@[simp] theorem State.wr64_sta (s : State) (lo hi : Reg) (v i : Nat) : (s.wr64 lo hi v i).sta = s.sta := rfl
@[simp] theorem State.wr64_eng (s : State) (lo hi : Reg) (v i : Nat) : (s.wr64 lo hi v i).eng = s.eng := rfl
@[simp] theorem State.wr64_mls (s : State) (lo hi : Reg) (v i : Nat) : (s.wr64 lo hi v i).mls = s.mls := rfl
@[simp] theorem State.wr64_med (s : State) (lo hi : Reg) (v i : Nat) : (s.wr64 lo hi v i).med = s.med := rfl
@[simp] theorem State.wr64_mem (s : State) (lo hi : Reg) (v i : Nat) : (s.wr64 lo hi v i).mem = s.mem := rfl
@[simp] theorem State.wr64_lnk (s : State) (lo hi : Reg) (v i : Nat) : (s.wr64 lo hi v i).lnk = s.lnk := rfl
@[simp] theorem State.wr64_out (s : State) (lo hi : Reg) (v i : Nat) : (s.wr64 lo hi v i).out = s.out := rfl
@[simp] theorem State.wr64_aud (s : State) (lo hi : Reg) (v i : Nat) : (s.wr64 lo hi v i).aud = s.aud := rfl
@[simp] theorem State.wr64_evf (s : State) (lo hi : Reg) (v i : Nat) : (s.wr64 lo hi v i).evf = s.evf := rfl
@[simp] theorem State.wr64_ptu (s : State) (lo hi : Reg) (v i : Nat) : (s.wr64 lo hi v i).ptu = s.ptu := rfl
@[simp] theorem State.wr64_val (s : State) (lo hi : Reg) (v i : Nat) : (s.wr64 lo hi v i).val = s.val := rfl
@[simp] theorem State.wr64_integ (s : State) (lo hi : Reg) (v i : Nat) : (s.wr64 lo hi v i).integ = s.integ := rfl
@[simp] theorem State.wr64_store (s : State) (lo hi : Reg) (v i : Nat) : (s.wr64 lo hi v i).store = s.store := rfl
@[simp] theorem State.wr64_boot (s : State) (lo hi : Reg) (v i : Nat) : (s.wr64 lo hi v i).boot = s.boot := rfl
@[simp] theorem State.wr64_tap (s : State) (lo hi : Reg) (v i : Nat) : (s.wr64 lo hi v i).tap = s.tap := rfl
@[simp] theorem State.wr64_pins (s : State) (lo hi : Reg) (v i : Nat) : (s.wr64 lo hi v i).pins = s.pins := rfl
@[simp] theorem State.wr64_pending (s : State) (lo hi : Reg) (v i : Nat) : (s.wr64 lo hi v i).pending = s.pending := rfl

@[simp] theorem State.shadowWr_dealTime (s : State) (u : CUnit) (r : Reg) (v i j : Nat) : (s.shadowWr u r v i j).dealTime = s.dealTime := rfl
@[simp] theorem State.shadowWr_fresh (s : State) (u : CUnit) (r : Reg) (v i j : Nat) : (s.shadowWr u r v i j).fresh = s.fresh := rfl
@[simp] theorem State.shadowWr_regs (s : State) (u : CUnit) (r : Reg) (v i j : Nat) : (s.shadowWr u r v i j).regs = s.regs := rfl
@[simp] theorem State.shadowWr_latches (s : State) (u : CUnit) (r : Reg) (v i j : Nat) : (s.shadowWr u r v i j).latches = s.latches := rfl
@[simp] theorem State.shadowWr_lowHalves (s : State) (u : CUnit) (r : Reg) (v i j : Nat) : (s.shadowWr u r v i j).lowHalves = s.lowHalves := rfl
@[simp] theorem State.shadowWr_cpi (s : State) (u : CUnit) (r : Reg) (v i j : Nat) : (s.shadowWr u r v i j).cpi = s.cpi := rfl
@[simp] theorem State.shadowWr_dck (s : State) (u : CUnit) (r : Reg) (v i j : Nat) : (s.shadowWr u r v i j).dck = s.dck := rfl
@[simp] theorem State.shadowWr_ctxs (s : State) (u : CUnit) (r : Reg) (v i j : Nat) : (s.shadowWr u r v i j).ctxs = s.ctxs := rfl
@[simp] theorem State.shadowWr_buses (s : State) (u : CUnit) (r : Reg) (v i j : Nat) : (s.shadowWr u r v i j).buses = s.buses := rfl
@[simp] theorem State.shadowWr_pip (s : State) (u : CUnit) (r : Reg) (v i j : Nat) : (s.shadowWr u r v i j).pip = s.pip := rfl
@[simp] theorem State.shadowWr_col (s : State) (u : CUnit) (r : Reg) (v i j : Nat) : (s.shadowWr u r v i j).col = s.col := rfl
@[simp] theorem State.shadowWr_sta (s : State) (u : CUnit) (r : Reg) (v i j : Nat) : (s.shadowWr u r v i j).sta = s.sta := rfl
@[simp] theorem State.shadowWr_eng (s : State) (u : CUnit) (r : Reg) (v i j : Nat) : (s.shadowWr u r v i j).eng = s.eng := rfl
@[simp] theorem State.shadowWr_mls (s : State) (u : CUnit) (r : Reg) (v i j : Nat) : (s.shadowWr u r v i j).mls = s.mls := rfl
@[simp] theorem State.shadowWr_med (s : State) (u : CUnit) (r : Reg) (v i j : Nat) : (s.shadowWr u r v i j).med = s.med := rfl
@[simp] theorem State.shadowWr_mem (s : State) (u : CUnit) (r : Reg) (v i j : Nat) : (s.shadowWr u r v i j).mem = s.mem := rfl
@[simp] theorem State.shadowWr_lnk (s : State) (u : CUnit) (r : Reg) (v i j : Nat) : (s.shadowWr u r v i j).lnk = s.lnk := rfl
@[simp] theorem State.shadowWr_out (s : State) (u : CUnit) (r : Reg) (v i j : Nat) : (s.shadowWr u r v i j).out = s.out := rfl
@[simp] theorem State.shadowWr_aud (s : State) (u : CUnit) (r : Reg) (v i j : Nat) : (s.shadowWr u r v i j).aud = s.aud := rfl
@[simp] theorem State.shadowWr_evf (s : State) (u : CUnit) (r : Reg) (v i j : Nat) : (s.shadowWr u r v i j).evf = s.evf := rfl
@[simp] theorem State.shadowWr_ptu (s : State) (u : CUnit) (r : Reg) (v i j : Nat) : (s.shadowWr u r v i j).ptu = s.ptu := rfl
@[simp] theorem State.shadowWr_val (s : State) (u : CUnit) (r : Reg) (v i j : Nat) : (s.shadowWr u r v i j).val = s.val := rfl
@[simp] theorem State.shadowWr_integ (s : State) (u : CUnit) (r : Reg) (v i j : Nat) : (s.shadowWr u r v i j).integ = s.integ := rfl
@[simp] theorem State.shadowWr_store (s : State) (u : CUnit) (r : Reg) (v i j : Nat) : (s.shadowWr u r v i j).store = s.store := rfl
@[simp] theorem State.shadowWr_boot (s : State) (u : CUnit) (r : Reg) (v i j : Nat) : (s.shadowWr u r v i j).boot = s.boot := rfl
@[simp] theorem State.shadowWr_tap (s : State) (u : CUnit) (r : Reg) (v i j : Nat) : (s.shadowWr u r v i j).tap = s.tap := rfl
@[simp] theorem State.shadowWr_pins (s : State) (u : CUnit) (r : Reg) (v i j : Nat) : (s.shadowWr u r v i j).pins = s.pins := rfl
@[simp] theorem State.shadowWr_pending (s : State) (u : CUnit) (r : Reg) (v i j : Nat) : (s.shadowWr u r v i j).pending = s.pending := rfl

@[simp] theorem State.release_dealTime (s : State) (k : AllocKey) : (s.release k).dealTime = s.dealTime := rfl
@[simp] theorem State.release_fresh (s : State) (k : AllocKey) : (s.release k).fresh = s.fresh := rfl
@[simp] theorem State.release_regs (s : State) (k : AllocKey) : (s.release k).regs = s.regs := rfl
@[simp] theorem State.release_shadows (s : State) (k : AllocKey) : (s.release k).shadows = s.shadows := rfl
@[simp] theorem State.release_latches (s : State) (k : AllocKey) : (s.release k).latches = s.latches := rfl
@[simp] theorem State.release_lowHalves (s : State) (k : AllocKey) : (s.release k).lowHalves = s.lowHalves := rfl
@[simp] theorem State.release_cpi (s : State) (k : AllocKey) : (s.release k).cpi = s.cpi := rfl
@[simp] theorem State.release_dck (s : State) (k : AllocKey) : (s.release k).dck = s.dck := rfl
@[simp] theorem State.release_ctxs (s : State) (k : AllocKey) : (s.release k).ctxs = s.ctxs := rfl
@[simp] theorem State.release_buses (s : State) (k : AllocKey) : (s.release k).buses = s.buses := rfl
@[simp] theorem State.release_pip (s : State) (k : AllocKey) : (s.release k).pip = s.pip := rfl
@[simp] theorem State.release_col (s : State) (k : AllocKey) : (s.release k).col = s.col := rfl
@[simp] theorem State.release_sta (s : State) (k : AllocKey) : (s.release k).sta = s.sta := rfl
@[simp] theorem State.release_eng (s : State) (k : AllocKey) : (s.release k).eng = s.eng := rfl
@[simp] theorem State.release_mls (s : State) (k : AllocKey) : (s.release k).mls = s.mls := rfl
@[simp] theorem State.release_med (s : State) (k : AllocKey) : (s.release k).med = s.med := rfl
@[simp] theorem State.release_lnk (s : State) (k : AllocKey) : (s.release k).lnk = s.lnk := rfl
@[simp] theorem State.release_out (s : State) (k : AllocKey) : (s.release k).out = s.out := rfl
@[simp] theorem State.release_aud (s : State) (k : AllocKey) : (s.release k).aud = s.aud := rfl
@[simp] theorem State.release_evf (s : State) (k : AllocKey) : (s.release k).evf = s.evf := rfl
@[simp] theorem State.release_ptu (s : State) (k : AllocKey) : (s.release k).ptu = s.ptu := rfl
@[simp] theorem State.release_val (s : State) (k : AllocKey) : (s.release k).val = s.val := rfl
@[simp] theorem State.release_integ (s : State) (k : AllocKey) : (s.release k).integ = s.integ := rfl
@[simp] theorem State.release_store (s : State) (k : AllocKey) : (s.release k).store = s.store := rfl
@[simp] theorem State.release_boot (s : State) (k : AllocKey) : (s.release k).boot = s.boot := rfl
@[simp] theorem State.release_tap (s : State) (k : AllocKey) : (s.release k).tap = s.tap := rfl
@[simp] theorem State.release_pins (s : State) (k : AllocKey) : (s.release k).pins = s.pins := rfl
@[simp] theorem State.release_pending (s : State) (k : AllocKey) : (s.release k).pending = s.pending := rfl

@[simp] theorem State.pulse_dealTime (s : State) (p : Nat) : (s.pulse p).dealTime = s.dealTime := rfl
@[simp] theorem State.pulse_fresh (s : State) (p : Nat) : (s.pulse p).fresh = s.fresh := rfl
@[simp] theorem State.pulse_regs (s : State) (p : Nat) : (s.pulse p).regs = s.regs := rfl
@[simp] theorem State.pulse_shadows (s : State) (p : Nat) : (s.pulse p).shadows = s.shadows := rfl
@[simp] theorem State.pulse_latches (s : State) (p : Nat) : (s.pulse p).latches = s.latches := rfl
@[simp] theorem State.pulse_lowHalves (s : State) (p : Nat) : (s.pulse p).lowHalves = s.lowHalves := rfl
@[simp] theorem State.pulse_cpi (s : State) (p : Nat) : (s.pulse p).cpi = s.cpi := rfl
@[simp] theorem State.pulse_dck (s : State) (p : Nat) : (s.pulse p).dck = s.dck := rfl
@[simp] theorem State.pulse_ctxs (s : State) (p : Nat) : (s.pulse p).ctxs = s.ctxs := rfl
@[simp] theorem State.pulse_buses (s : State) (p : Nat) : (s.pulse p).buses = s.buses := rfl
@[simp] theorem State.pulse_pip (s : State) (p : Nat) : (s.pulse p).pip = s.pip := rfl
@[simp] theorem State.pulse_col (s : State) (p : Nat) : (s.pulse p).col = s.col := rfl
@[simp] theorem State.pulse_sta (s : State) (p : Nat) : (s.pulse p).sta = s.sta := rfl
@[simp] theorem State.pulse_eng (s : State) (p : Nat) : (s.pulse p).eng = s.eng := rfl
@[simp] theorem State.pulse_mls (s : State) (p : Nat) : (s.pulse p).mls = s.mls := rfl
@[simp] theorem State.pulse_med (s : State) (p : Nat) : (s.pulse p).med = s.med := rfl
@[simp] theorem State.pulse_mem (s : State) (p : Nat) : (s.pulse p).mem = s.mem := rfl
@[simp] theorem State.pulse_lnk (s : State) (p : Nat) : (s.pulse p).lnk = s.lnk := rfl
@[simp] theorem State.pulse_out (s : State) (p : Nat) : (s.pulse p).out = s.out := rfl
@[simp] theorem State.pulse_aud (s : State) (p : Nat) : (s.pulse p).aud = s.aud := rfl
@[simp] theorem State.pulse_ptu (s : State) (p : Nat) : (s.pulse p).ptu = s.ptu := rfl
@[simp] theorem State.pulse_val (s : State) (p : Nat) : (s.pulse p).val = s.val := rfl
@[simp] theorem State.pulse_integ (s : State) (p : Nat) : (s.pulse p).integ = s.integ := rfl
@[simp] theorem State.pulse_store (s : State) (p : Nat) : (s.pulse p).store = s.store := rfl
@[simp] theorem State.pulse_boot (s : State) (p : Nat) : (s.pulse p).boot = s.boot := rfl
@[simp] theorem State.pulse_tap (s : State) (p : Nat) : (s.pulse p).tap = s.tap := rfl
@[simp] theorem State.pulse_pins (s : State) (p : Nat) : (s.pulse p).pins = s.pins := rfl
@[simp] theorem State.pulse_pending (s : State) (p : Nat) : (s.pulse p).pending = s.pending := rfl

@[simp] theorem State.report_dealTime (s : State) (c d0 d1 : Nat) : (s.report c d0 d1).dealTime = s.dealTime := rfl
@[simp] theorem State.report_fresh (s : State) (c d0 d1 : Nat) : (s.report c d0 d1).fresh = s.fresh := rfl
@[simp] theorem State.report_regs (s : State) (c d0 d1 : Nat) : (s.report c d0 d1).regs = s.regs := rfl
@[simp] theorem State.report_shadows (s : State) (c d0 d1 : Nat) : (s.report c d0 d1).shadows = s.shadows := rfl
@[simp] theorem State.report_latches (s : State) (c d0 d1 : Nat) : (s.report c d0 d1).latches = s.latches := rfl
@[simp] theorem State.report_lowHalves (s : State) (c d0 d1 : Nat) : (s.report c d0 d1).lowHalves = s.lowHalves := rfl
@[simp] theorem State.report_cpi (s : State) (c d0 d1 : Nat) : (s.report c d0 d1).cpi = s.cpi := rfl
@[simp] theorem State.report_dck (s : State) (c d0 d1 : Nat) : (s.report c d0 d1).dck = s.dck := rfl
@[simp] theorem State.report_ctxs (s : State) (c d0 d1 : Nat) : (s.report c d0 d1).ctxs = s.ctxs := rfl
@[simp] theorem State.report_buses (s : State) (c d0 d1 : Nat) : (s.report c d0 d1).buses = s.buses := rfl
@[simp] theorem State.report_pip (s : State) (c d0 d1 : Nat) : (s.report c d0 d1).pip = s.pip := rfl
@[simp] theorem State.report_col (s : State) (c d0 d1 : Nat) : (s.report c d0 d1).col = s.col := rfl
@[simp] theorem State.report_sta (s : State) (c d0 d1 : Nat) : (s.report c d0 d1).sta = s.sta := rfl
@[simp] theorem State.report_eng (s : State) (c d0 d1 : Nat) : (s.report c d0 d1).eng = s.eng := rfl
@[simp] theorem State.report_mls (s : State) (c d0 d1 : Nat) : (s.report c d0 d1).mls = s.mls := rfl
@[simp] theorem State.report_med (s : State) (c d0 d1 : Nat) : (s.report c d0 d1).med = s.med := rfl
@[simp] theorem State.report_mem (s : State) (c d0 d1 : Nat) : (s.report c d0 d1).mem = s.mem := rfl
@[simp] theorem State.report_lnk (s : State) (c d0 d1 : Nat) : (s.report c d0 d1).lnk = s.lnk := rfl
@[simp] theorem State.report_out (s : State) (c d0 d1 : Nat) : (s.report c d0 d1).out = s.out := rfl
@[simp] theorem State.report_aud (s : State) (c d0 d1 : Nat) : (s.report c d0 d1).aud = s.aud := rfl
@[simp] theorem State.report_evf (s : State) (c d0 d1 : Nat) : (s.report c d0 d1).evf = s.evf := rfl
@[simp] theorem State.report_ptu (s : State) (c d0 d1 : Nat) : (s.report c d0 d1).ptu = s.ptu := rfl
@[simp] theorem State.report_val (s : State) (c d0 d1 : Nat) : (s.report c d0 d1).val = s.val := rfl
@[simp] theorem State.report_store (s : State) (c d0 d1 : Nat) : (s.report c d0 d1).store = s.store := rfl
@[simp] theorem State.report_boot (s : State) (c d0 d1 : Nat) : (s.report c d0 d1).boot = s.boot := rfl
@[simp] theorem State.report_tap (s : State) (c d0 d1 : Nat) : (s.report c d0 d1).tap = s.tap := rfl
@[simp] theorem State.report_pins (s : State) (c d0 d1 : Nat) : (s.report c d0 d1).pins = s.pins := rfl
@[simp] theorem State.report_pending (s : State) (c d0 d1 : Nat) : (s.report c d0 d1).pending = s.pending := rfl

@[simp] theorem State.modDck_dealTime (s : State) (g : Dck → Dck) : (s.modDck g).dealTime = s.dealTime := rfl
@[simp] theorem State.modDck_fresh (s : State) (g : Dck → Dck) : (s.modDck g).fresh = s.fresh := rfl
@[simp] theorem State.modDck_regs (s : State) (g : Dck → Dck) : (s.modDck g).regs = s.regs := rfl
@[simp] theorem State.modDck_shadows (s : State) (g : Dck → Dck) : (s.modDck g).shadows = s.shadows := rfl
@[simp] theorem State.modDck_latches (s : State) (g : Dck → Dck) : (s.modDck g).latches = s.latches := rfl
@[simp] theorem State.modDck_lowHalves (s : State) (g : Dck → Dck) : (s.modDck g).lowHalves = s.lowHalves := rfl
@[simp] theorem State.modDck_cpi (s : State) (g : Dck → Dck) : (s.modDck g).cpi = s.cpi := rfl
@[simp] theorem State.modDck_ctxs (s : State) (g : Dck → Dck) : (s.modDck g).ctxs = s.ctxs := rfl
@[simp] theorem State.modDck_buses (s : State) (g : Dck → Dck) : (s.modDck g).buses = s.buses := rfl
@[simp] theorem State.modDck_pip (s : State) (g : Dck → Dck) : (s.modDck g).pip = s.pip := rfl
@[simp] theorem State.modDck_col (s : State) (g : Dck → Dck) : (s.modDck g).col = s.col := rfl
@[simp] theorem State.modDck_sta (s : State) (g : Dck → Dck) : (s.modDck g).sta = s.sta := rfl
@[simp] theorem State.modDck_eng (s : State) (g : Dck → Dck) : (s.modDck g).eng = s.eng := rfl
@[simp] theorem State.modDck_mls (s : State) (g : Dck → Dck) : (s.modDck g).mls = s.mls := rfl
@[simp] theorem State.modDck_med (s : State) (g : Dck → Dck) : (s.modDck g).med = s.med := rfl
@[simp] theorem State.modDck_mem (s : State) (g : Dck → Dck) : (s.modDck g).mem = s.mem := rfl
@[simp] theorem State.modDck_lnk (s : State) (g : Dck → Dck) : (s.modDck g).lnk = s.lnk := rfl
@[simp] theorem State.modDck_out (s : State) (g : Dck → Dck) : (s.modDck g).out = s.out := rfl
@[simp] theorem State.modDck_aud (s : State) (g : Dck → Dck) : (s.modDck g).aud = s.aud := rfl
@[simp] theorem State.modDck_evf (s : State) (g : Dck → Dck) : (s.modDck g).evf = s.evf := rfl
@[simp] theorem State.modDck_ptu (s : State) (g : Dck → Dck) : (s.modDck g).ptu = s.ptu := rfl
@[simp] theorem State.modDck_val (s : State) (g : Dck → Dck) : (s.modDck g).val = s.val := rfl
@[simp] theorem State.modDck_integ (s : State) (g : Dck → Dck) : (s.modDck g).integ = s.integ := rfl
@[simp] theorem State.modDck_store (s : State) (g : Dck → Dck) : (s.modDck g).store = s.store := rfl
@[simp] theorem State.modDck_boot (s : State) (g : Dck → Dck) : (s.modDck g).boot = s.boot := rfl
@[simp] theorem State.modDck_tap (s : State) (g : Dck → Dck) : (s.modDck g).tap = s.tap := rfl
@[simp] theorem State.modDck_pins (s : State) (g : Dck → Dck) : (s.modDck g).pins = s.pins := rfl
@[simp] theorem State.modDck_pending (s : State) (g : Dck → Dck) : (s.modDck g).pending = s.pending := rfl

@[simp] theorem State.modVal_dealTime (s : State) (g : Val → Val) : (s.modVal g).dealTime = s.dealTime := rfl
@[simp] theorem State.modVal_fresh (s : State) (g : Val → Val) : (s.modVal g).fresh = s.fresh := rfl
@[simp] theorem State.modVal_regs (s : State) (g : Val → Val) : (s.modVal g).regs = s.regs := rfl
@[simp] theorem State.modVal_shadows (s : State) (g : Val → Val) : (s.modVal g).shadows = s.shadows := rfl
@[simp] theorem State.modVal_latches (s : State) (g : Val → Val) : (s.modVal g).latches = s.latches := rfl
@[simp] theorem State.modVal_lowHalves (s : State) (g : Val → Val) : (s.modVal g).lowHalves = s.lowHalves := rfl
@[simp] theorem State.modVal_cpi (s : State) (g : Val → Val) : (s.modVal g).cpi = s.cpi := rfl
@[simp] theorem State.modVal_dck (s : State) (g : Val → Val) : (s.modVal g).dck = s.dck := rfl
@[simp] theorem State.modVal_ctxs (s : State) (g : Val → Val) : (s.modVal g).ctxs = s.ctxs := rfl
@[simp] theorem State.modVal_buses (s : State) (g : Val → Val) : (s.modVal g).buses = s.buses := rfl
@[simp] theorem State.modVal_pip (s : State) (g : Val → Val) : (s.modVal g).pip = s.pip := rfl
@[simp] theorem State.modVal_col (s : State) (g : Val → Val) : (s.modVal g).col = s.col := rfl
@[simp] theorem State.modVal_sta (s : State) (g : Val → Val) : (s.modVal g).sta = s.sta := rfl
@[simp] theorem State.modVal_eng (s : State) (g : Val → Val) : (s.modVal g).eng = s.eng := rfl
@[simp] theorem State.modVal_mls (s : State) (g : Val → Val) : (s.modVal g).mls = s.mls := rfl
@[simp] theorem State.modVal_med (s : State) (g : Val → Val) : (s.modVal g).med = s.med := rfl
@[simp] theorem State.modVal_mem (s : State) (g : Val → Val) : (s.modVal g).mem = s.mem := rfl
@[simp] theorem State.modVal_lnk (s : State) (g : Val → Val) : (s.modVal g).lnk = s.lnk := rfl
@[simp] theorem State.modVal_out (s : State) (g : Val → Val) : (s.modVal g).out = s.out := rfl
@[simp] theorem State.modVal_aud (s : State) (g : Val → Val) : (s.modVal g).aud = s.aud := rfl
@[simp] theorem State.modVal_evf (s : State) (g : Val → Val) : (s.modVal g).evf = s.evf := rfl
@[simp] theorem State.modVal_ptu (s : State) (g : Val → Val) : (s.modVal g).ptu = s.ptu := rfl
@[simp] theorem State.modVal_integ (s : State) (g : Val → Val) : (s.modVal g).integ = s.integ := rfl
@[simp] theorem State.modVal_store (s : State) (g : Val → Val) : (s.modVal g).store = s.store := rfl
@[simp] theorem State.modVal_boot (s : State) (g : Val → Val) : (s.modVal g).boot = s.boot := rfl
@[simp] theorem State.modVal_tap (s : State) (g : Val → Val) : (s.modVal g).tap = s.tap := rfl
@[simp] theorem State.modVal_pins (s : State) (g : Val → Val) : (s.modVal g).pins = s.pins := rfl
@[simp] theorem State.modVal_pending (s : State) (g : Val → Val) : (s.modVal g).pending = s.pending := rfl

@[simp] theorem State.modInteg_dealTime (s : State) (g : Integ → Integ) : (s.modInteg g).dealTime = s.dealTime := rfl
@[simp] theorem State.modInteg_fresh (s : State) (g : Integ → Integ) : (s.modInteg g).fresh = s.fresh := rfl
@[simp] theorem State.modInteg_regs (s : State) (g : Integ → Integ) : (s.modInteg g).regs = s.regs := rfl
@[simp] theorem State.modInteg_shadows (s : State) (g : Integ → Integ) : (s.modInteg g).shadows = s.shadows := rfl
@[simp] theorem State.modInteg_latches (s : State) (g : Integ → Integ) : (s.modInteg g).latches = s.latches := rfl
@[simp] theorem State.modInteg_lowHalves (s : State) (g : Integ → Integ) : (s.modInteg g).lowHalves = s.lowHalves := rfl
@[simp] theorem State.modInteg_cpi (s : State) (g : Integ → Integ) : (s.modInteg g).cpi = s.cpi := rfl
@[simp] theorem State.modInteg_dck (s : State) (g : Integ → Integ) : (s.modInteg g).dck = s.dck := rfl
@[simp] theorem State.modInteg_ctxs (s : State) (g : Integ → Integ) : (s.modInteg g).ctxs = s.ctxs := rfl
@[simp] theorem State.modInteg_buses (s : State) (g : Integ → Integ) : (s.modInteg g).buses = s.buses := rfl
@[simp] theorem State.modInteg_pip (s : State) (g : Integ → Integ) : (s.modInteg g).pip = s.pip := rfl
@[simp] theorem State.modInteg_col (s : State) (g : Integ → Integ) : (s.modInteg g).col = s.col := rfl
@[simp] theorem State.modInteg_sta (s : State) (g : Integ → Integ) : (s.modInteg g).sta = s.sta := rfl
@[simp] theorem State.modInteg_eng (s : State) (g : Integ → Integ) : (s.modInteg g).eng = s.eng := rfl
@[simp] theorem State.modInteg_mls (s : State) (g : Integ → Integ) : (s.modInteg g).mls = s.mls := rfl
@[simp] theorem State.modInteg_med (s : State) (g : Integ → Integ) : (s.modInteg g).med = s.med := rfl
@[simp] theorem State.modInteg_mem (s : State) (g : Integ → Integ) : (s.modInteg g).mem = s.mem := rfl
@[simp] theorem State.modInteg_lnk (s : State) (g : Integ → Integ) : (s.modInteg g).lnk = s.lnk := rfl
@[simp] theorem State.modInteg_out (s : State) (g : Integ → Integ) : (s.modInteg g).out = s.out := rfl
@[simp] theorem State.modInteg_aud (s : State) (g : Integ → Integ) : (s.modInteg g).aud = s.aud := rfl
@[simp] theorem State.modInteg_evf (s : State) (g : Integ → Integ) : (s.modInteg g).evf = s.evf := rfl
@[simp] theorem State.modInteg_ptu (s : State) (g : Integ → Integ) : (s.modInteg g).ptu = s.ptu := rfl
@[simp] theorem State.modInteg_val (s : State) (g : Integ → Integ) : (s.modInteg g).val = s.val := rfl
@[simp] theorem State.modInteg_store (s : State) (g : Integ → Integ) : (s.modInteg g).store = s.store := rfl
@[simp] theorem State.modInteg_boot (s : State) (g : Integ → Integ) : (s.modInteg g).boot = s.boot := rfl
@[simp] theorem State.modInteg_tap (s : State) (g : Integ → Integ) : (s.modInteg g).tap = s.tap := rfl
@[simp] theorem State.modInteg_pins (s : State) (g : Integ → Integ) : (s.modInteg g).pins = s.pins := rfl
@[simp] theorem State.modInteg_pending (s : State) (g : Integ → Integ) : (s.modInteg g).pending = s.pending := rfl

@[simp] theorem State.modEvf_dealTime (s : State) (g : Evf → Evf) : (s.modEvf g).dealTime = s.dealTime := rfl
@[simp] theorem State.modEvf_fresh (s : State) (g : Evf → Evf) : (s.modEvf g).fresh = s.fresh := rfl
@[simp] theorem State.modEvf_regs (s : State) (g : Evf → Evf) : (s.modEvf g).regs = s.regs := rfl
@[simp] theorem State.modEvf_shadows (s : State) (g : Evf → Evf) : (s.modEvf g).shadows = s.shadows := rfl
@[simp] theorem State.modEvf_latches (s : State) (g : Evf → Evf) : (s.modEvf g).latches = s.latches := rfl
@[simp] theorem State.modEvf_lowHalves (s : State) (g : Evf → Evf) : (s.modEvf g).lowHalves = s.lowHalves := rfl
@[simp] theorem State.modEvf_cpi (s : State) (g : Evf → Evf) : (s.modEvf g).cpi = s.cpi := rfl
@[simp] theorem State.modEvf_dck (s : State) (g : Evf → Evf) : (s.modEvf g).dck = s.dck := rfl
@[simp] theorem State.modEvf_ctxs (s : State) (g : Evf → Evf) : (s.modEvf g).ctxs = s.ctxs := rfl
@[simp] theorem State.modEvf_buses (s : State) (g : Evf → Evf) : (s.modEvf g).buses = s.buses := rfl
@[simp] theorem State.modEvf_pip (s : State) (g : Evf → Evf) : (s.modEvf g).pip = s.pip := rfl
@[simp] theorem State.modEvf_col (s : State) (g : Evf → Evf) : (s.modEvf g).col = s.col := rfl
@[simp] theorem State.modEvf_sta (s : State) (g : Evf → Evf) : (s.modEvf g).sta = s.sta := rfl
@[simp] theorem State.modEvf_eng (s : State) (g : Evf → Evf) : (s.modEvf g).eng = s.eng := rfl
@[simp] theorem State.modEvf_mls (s : State) (g : Evf → Evf) : (s.modEvf g).mls = s.mls := rfl
@[simp] theorem State.modEvf_med (s : State) (g : Evf → Evf) : (s.modEvf g).med = s.med := rfl
@[simp] theorem State.modEvf_mem (s : State) (g : Evf → Evf) : (s.modEvf g).mem = s.mem := rfl
@[simp] theorem State.modEvf_lnk (s : State) (g : Evf → Evf) : (s.modEvf g).lnk = s.lnk := rfl
@[simp] theorem State.modEvf_out (s : State) (g : Evf → Evf) : (s.modEvf g).out = s.out := rfl
@[simp] theorem State.modEvf_aud (s : State) (g : Evf → Evf) : (s.modEvf g).aud = s.aud := rfl
@[simp] theorem State.modEvf_ptu (s : State) (g : Evf → Evf) : (s.modEvf g).ptu = s.ptu := rfl
@[simp] theorem State.modEvf_val (s : State) (g : Evf → Evf) : (s.modEvf g).val = s.val := rfl
@[simp] theorem State.modEvf_integ (s : State) (g : Evf → Evf) : (s.modEvf g).integ = s.integ := rfl
@[simp] theorem State.modEvf_store (s : State) (g : Evf → Evf) : (s.modEvf g).store = s.store := rfl
@[simp] theorem State.modEvf_boot (s : State) (g : Evf → Evf) : (s.modEvf g).boot = s.boot := rfl
@[simp] theorem State.modEvf_tap (s : State) (g : Evf → Evf) : (s.modEvf g).tap = s.tap := rfl
@[simp] theorem State.modEvf_pins (s : State) (g : Evf → Evf) : (s.modEvf g).pins = s.pins := rfl
@[simp] theorem State.modEvf_pending (s : State) (g : Evf → Evf) : (s.modEvf g).pending = s.pending := rfl

@[simp] theorem State.showPins_dealTime (s : State) : (s.showPins).dealTime = s.dealTime := rfl
@[simp] theorem State.showPins_fresh (s : State) : (s.showPins).fresh = s.fresh := rfl
@[simp] theorem State.showPins_regs (s : State) : (s.showPins).regs = s.regs := rfl
@[simp] theorem State.showPins_shadows (s : State) : (s.showPins).shadows = s.shadows := rfl
@[simp] theorem State.showPins_latches (s : State) : (s.showPins).latches = s.latches := rfl
@[simp] theorem State.showPins_lowHalves (s : State) : (s.showPins).lowHalves = s.lowHalves := rfl
@[simp] theorem State.showPins_cpi (s : State) : (s.showPins).cpi = s.cpi := rfl
@[simp] theorem State.showPins_dck (s : State) : (s.showPins).dck = s.dck := rfl
@[simp] theorem State.showPins_ctxs (s : State) : (s.showPins).ctxs = s.ctxs := rfl
@[simp] theorem State.showPins_buses (s : State) : (s.showPins).buses = s.buses := rfl
@[simp] theorem State.showPins_pip (s : State) : (s.showPins).pip = s.pip := rfl
@[simp] theorem State.showPins_col (s : State) : (s.showPins).col = s.col := rfl
@[simp] theorem State.showPins_sta (s : State) : (s.showPins).sta = s.sta := rfl
@[simp] theorem State.showPins_eng (s : State) : (s.showPins).eng = s.eng := rfl
@[simp] theorem State.showPins_mls (s : State) : (s.showPins).mls = s.mls := rfl
@[simp] theorem State.showPins_med (s : State) : (s.showPins).med = s.med := rfl
@[simp] theorem State.showPins_mem (s : State) : (s.showPins).mem = s.mem := rfl
@[simp] theorem State.showPins_lnk (s : State) : (s.showPins).lnk = s.lnk := rfl
@[simp] theorem State.showPins_out (s : State) : (s.showPins).out = s.out := rfl
@[simp] theorem State.showPins_aud (s : State) : (s.showPins).aud = s.aud := rfl
@[simp] theorem State.showPins_evf (s : State) : (s.showPins).evf = s.evf := rfl
@[simp] theorem State.showPins_ptu (s : State) : (s.showPins).ptu = s.ptu := rfl
@[simp] theorem State.showPins_val (s : State) : (s.showPins).val = s.val := rfl
@[simp] theorem State.showPins_integ (s : State) : (s.showPins).integ = s.integ := rfl
@[simp] theorem State.showPins_store (s : State) : (s.showPins).store = s.store := rfl
@[simp] theorem State.showPins_boot (s : State) : (s.showPins).boot = s.boot := rfl
@[simp] theorem State.showPins_tap (s : State) : (s.showPins).tap = s.tap := rfl
@[simp] theorem State.showPins_pending (s : State) : (s.showPins).pending = s.pending := rfl

@[simp] theorem State.setFault_dealTime (s : State) (on : Bool) : (s.setFault on).dealTime = s.dealTime := rfl
@[simp] theorem State.setFault_fresh (s : State) (on : Bool) : (s.setFault on).fresh = s.fresh := rfl
@[simp] theorem State.setFault_regs (s : State) (on : Bool) : (s.setFault on).regs = s.regs := rfl
@[simp] theorem State.setFault_shadows (s : State) (on : Bool) : (s.setFault on).shadows = s.shadows := rfl
@[simp] theorem State.setFault_latches (s : State) (on : Bool) : (s.setFault on).latches = s.latches := rfl
@[simp] theorem State.setFault_lowHalves (s : State) (on : Bool) : (s.setFault on).lowHalves = s.lowHalves := rfl
@[simp] theorem State.setFault_cpi (s : State) (on : Bool) : (s.setFault on).cpi = s.cpi := rfl
@[simp] theorem State.setFault_dck (s : State) (on : Bool) : (s.setFault on).dck = s.dck := rfl
@[simp] theorem State.setFault_ctxs (s : State) (on : Bool) : (s.setFault on).ctxs = s.ctxs := rfl
@[simp] theorem State.setFault_buses (s : State) (on : Bool) : (s.setFault on).buses = s.buses := rfl
@[simp] theorem State.setFault_pip (s : State) (on : Bool) : (s.setFault on).pip = s.pip := rfl
@[simp] theorem State.setFault_col (s : State) (on : Bool) : (s.setFault on).col = s.col := rfl
@[simp] theorem State.setFault_sta (s : State) (on : Bool) : (s.setFault on).sta = s.sta := rfl
@[simp] theorem State.setFault_eng (s : State) (on : Bool) : (s.setFault on).eng = s.eng := rfl
@[simp] theorem State.setFault_mls (s : State) (on : Bool) : (s.setFault on).mls = s.mls := rfl
@[simp] theorem State.setFault_med (s : State) (on : Bool) : (s.setFault on).med = s.med := rfl
@[simp] theorem State.setFault_mem (s : State) (on : Bool) : (s.setFault on).mem = s.mem := rfl
@[simp] theorem State.setFault_lnk (s : State) (on : Bool) : (s.setFault on).lnk = s.lnk := rfl
@[simp] theorem State.setFault_out (s : State) (on : Bool) : (s.setFault on).out = s.out := rfl
@[simp] theorem State.setFault_aud (s : State) (on : Bool) : (s.setFault on).aud = s.aud := rfl
@[simp] theorem State.setFault_evf (s : State) (on : Bool) : (s.setFault on).evf = s.evf := rfl
@[simp] theorem State.setFault_ptu (s : State) (on : Bool) : (s.setFault on).ptu = s.ptu := rfl
@[simp] theorem State.setFault_val (s : State) (on : Bool) : (s.setFault on).val = s.val := rfl
@[simp] theorem State.setFault_integ (s : State) (on : Bool) : (s.setFault on).integ = s.integ := rfl
@[simp] theorem State.setFault_store (s : State) (on : Bool) : (s.setFault on).store = s.store := rfl
@[simp] theorem State.setFault_boot (s : State) (on : Bool) : (s.setFault on).boot = s.boot := rfl
@[simp] theorem State.setFault_tap (s : State) (on : Bool) : (s.setFault on).tap = s.tap := rfl
@[simp] theorem State.setFault_pending (s : State) (on : Bool) : (s.setFault on).pending = s.pending := rfl

@[simp] theorem State.raise_dealTime (s : State) (e : Fld) (b i : Nat) : (s.raise e b i).dealTime = s.dealTime := by
  simp only [State.raise]; split <;> rfl
@[simp] theorem State.raise_fresh (s : State) (e : Fld) (b i : Nat) : (s.raise e b i).fresh = s.fresh := by
  simp only [State.raise]; split <;> rfl
@[simp] theorem State.raise_shadows (s : State) (e : Fld) (b i : Nat) : (s.raise e b i).shadows = s.shadows := by
  simp only [State.raise]; split <;> rfl
@[simp] theorem State.raise_latches (s : State) (e : Fld) (b i : Nat) : (s.raise e b i).latches = s.latches := by
  simp only [State.raise]; split <;> rfl
@[simp] theorem State.raise_lowHalves (s : State) (e : Fld) (b i : Nat) : (s.raise e b i).lowHalves = s.lowHalves := by
  simp only [State.raise]; split <;> rfl
@[simp] theorem State.raise_cpi (s : State) (e : Fld) (b i : Nat) : (s.raise e b i).cpi = s.cpi := by
  simp only [State.raise]; split <;> rfl
@[simp] theorem State.raise_dck (s : State) (e : Fld) (b i : Nat) : (s.raise e b i).dck = s.dck := by
  simp only [State.raise]; split <;> rfl
@[simp] theorem State.raise_ctxs (s : State) (e : Fld) (b i : Nat) : (s.raise e b i).ctxs = s.ctxs := by
  simp only [State.raise]; split <;> rfl
@[simp] theorem State.raise_buses (s : State) (e : Fld) (b i : Nat) : (s.raise e b i).buses = s.buses := by
  simp only [State.raise]; split <;> rfl
@[simp] theorem State.raise_pip (s : State) (e : Fld) (b i : Nat) : (s.raise e b i).pip = s.pip := by
  simp only [State.raise]; split <;> rfl
@[simp] theorem State.raise_col (s : State) (e : Fld) (b i : Nat) : (s.raise e b i).col = s.col := by
  simp only [State.raise]; split <;> rfl
@[simp] theorem State.raise_sta (s : State) (e : Fld) (b i : Nat) : (s.raise e b i).sta = s.sta := by
  simp only [State.raise]; split <;> rfl
@[simp] theorem State.raise_eng (s : State) (e : Fld) (b i : Nat) : (s.raise e b i).eng = s.eng := by
  simp only [State.raise]; split <;> rfl
@[simp] theorem State.raise_mls (s : State) (e : Fld) (b i : Nat) : (s.raise e b i).mls = s.mls := by
  simp only [State.raise]; split <;> rfl
@[simp] theorem State.raise_med (s : State) (e : Fld) (b i : Nat) : (s.raise e b i).med = s.med := by
  simp only [State.raise]; split <;> rfl
@[simp] theorem State.raise_mem (s : State) (e : Fld) (b i : Nat) : (s.raise e b i).mem = s.mem := by
  simp only [State.raise]; split <;> rfl
@[simp] theorem State.raise_lnk (s : State) (e : Fld) (b i : Nat) : (s.raise e b i).lnk = s.lnk := by
  simp only [State.raise]; split <;> rfl
@[simp] theorem State.raise_out (s : State) (e : Fld) (b i : Nat) : (s.raise e b i).out = s.out := by
  simp only [State.raise]; split <;> rfl
@[simp] theorem State.raise_aud (s : State) (e : Fld) (b i : Nat) : (s.raise e b i).aud = s.aud := by
  simp only [State.raise]; split <;> rfl
@[simp] theorem State.raise_evf (s : State) (e : Fld) (b i : Nat) : (s.raise e b i).evf = s.evf := by
  simp only [State.raise]; split <;> rfl
@[simp] theorem State.raise_ptu (s : State) (e : Fld) (b i : Nat) : (s.raise e b i).ptu = s.ptu := by
  simp only [State.raise]; split <;> rfl
@[simp] theorem State.raise_val (s : State) (e : Fld) (b i : Nat) : (s.raise e b i).val = s.val := by
  simp only [State.raise]; split <;> rfl
@[simp] theorem State.raise_integ (s : State) (e : Fld) (b i : Nat) : (s.raise e b i).integ = s.integ := by
  simp only [State.raise]; split <;> rfl
@[simp] theorem State.raise_store (s : State) (e : Fld) (b i : Nat) : (s.raise e b i).store = s.store := by
  simp only [State.raise]; split <;> rfl
@[simp] theorem State.raise_boot (s : State) (e : Fld) (b i : Nat) : (s.raise e b i).boot = s.boot := by
  simp only [State.raise]; split <;> rfl
@[simp] theorem State.raise_tap (s : State) (e : Fld) (b i : Nat) : (s.raise e b i).tap = s.tap := by
  simp only [State.raise]; split <;> rfl
@[simp] theorem State.raise_pins (s : State) (e : Fld) (b i : Nat) : (s.raise e b i).pins = s.pins := by
  simp only [State.raise]; split <;> rfl
@[simp] theorem State.raise_pending (s : State) (e : Fld) (b i : Nat) : (s.raise e b i).pending = s.pending := by
  simp only [State.raise]; split <;> rfl

end Sys2Proof.Machine
end

