-- ==== Sys2Proof/Laws/Tables.lean ====
section
/-!
SUPPORT. Laws of tables, unit entries and the register file: what a write leaves to be read, at its index and at every other.
-/
namespace Sys2Proof.Machine

@[simp] theorem tget_tins_same {α : Type} (a : α) (t : Tab α) (i : Nat) : tget (tins a t i) i = some a := by
  induction t with
  | nil => simp [tins, tget]
  | cons p t ih =>
    obtain ⟨k, b⟩ := p
    simp only [tins]
    split
    · simp [tget]
    · split <;> simp_all [tget]

theorem tget_tins_ne {α : Type} (a : α) (t : Tab α) {i j : Nat} (h : j ≠ i) : tget (tins a t i) j = tget t j := by
  induction t with
  | nil => simp [tins, tget, h.symm]
  | cons p t ih =>
    obtain ⟨k, b⟩ := p
    simp only [tins]
    split
    · simp [tget, h.symm]
    · split
      · subst_vars; simp [tget, h.symm]
      · simp [tget, ih]

@[simp] theorem tget_tdel_same {α : Type} (t : Tab α) (i : Nat) : tget (tdel t i) i = none := by
  induction t with
  | nil => rfl
  | cons p t ih =>
    obtain ⟨k, b⟩ := p
    simp only [tdel]
    split <;> simp_all [tget]

theorem tget_tdel_ne {α : Type} (t : Tab α) {i j : Nat} (h : j ≠ i) : tget (tdel t i) j = tget t j := by
  induction t with
  | nil => rfl
  | cons p t ih =>
    obtain ⟨k, b⟩ := p
    simp only [tdel]
    split
    · subst_vars; simp [tget, h.symm, ih]
    · simp [tget, ih]

@[simp] theorem tgetD_tput_same {α : Type} [DecidableEq α] (d : α) (t : Tab α) (i : Nat) (a : α) :
    tgetD d (tput d t i a) i = a := by
  unfold tput tgetD
  split <;> simp_all

theorem tgetD_tput_ne {α : Type} [DecidableEq α] (d : α) (t : Tab α) {i j : Nat} (a : α) (h : j ≠ i) :
    tgetD d (tput d t i a) j = tgetD d t j := by
  unfold tput tgetD
  split
  · rw [tget_tdel_ne t h]
  · rw [tget_tins_ne a t h]

/-! ### Unit entries -/

@[simp] theorem State.host_setHost (s : State) (n : Nat) (h : HostSlot) : (s.setHost n h).host n = h := tgetD_tput_same _ _ _ _
@[simp] theorem State.ctx_setCtx (s : State) (n : Nat) (c : Ctx) : (s.setCtx n c).ctx n = c := tgetD_tput_same _ _ _ _
@[simp] theorem State.scb_setScb (s : State) (n : Nat) (b : Bus) : (s.setScb n b).scb n = b := tgetD_tput_same _ _ _ _
@[simp] theorem State.kernel_setKernel (s : State) (n : Nat) (k : Kernel) : (s.setKernel n k).kernel n = some k := tget_tins_same _ _ _
@[simp] theorem State.codec_setCodec (s : State) (n : Nat) (c : Codec) : (s.setCodec n c).codec n = c := tgetD_tput_same _ _ _ _
@[simp] theorem State.dec_setDec (s : State) (n : Nat) (d : Dec) : (s.setDec n d).dec n = d := tgetD_tput_same _ _ _ _
@[simp] theorem State.magz_setMag (s : State) (n : Nat) (m : Mag) : (s.setMag n m).magz n = m := tgetD_tput_same _ _ _ _
@[simp] theorem State.take_setTake (s : State) (n : Nat) (t : Take) : (s.setTake n t).take n = t := tgetD_tput_same _ _ _ _
@[simp] theorem State.link_setLink (s : State) (n : Nat) (l : Link) : (s.setLink n l).link n = l := tgetD_tput_same _ _ _ _
@[simp] theorem State.output_setOutput (s : State) (n : Nat) (o : Out) : (s.setOutput n o).output n = o := tgetD_tput_same _ _ _ _
@[simp] theorem State.port_setPort (s : State) (n : Nat) (a : Aud) : (s.setPort n a).port n = a := tgetD_tput_same _ _ _ _
@[simp] theorem State.queue_setQueue (s : State) (p : Nat) (q : List QEntry) : (s.setQueue p q).queue p = q := tgetD_tput_same _ _ _ _

theorem State.host_setHost_ne (s : State) {n m : Nat} (h : HostSlot) (e : m ≠ n) : (s.setHost n h).host m = s.host m :=
  tgetD_tput_ne _ _ _ e
theorem State.ctx_setCtx_ne (s : State) {n m : Nat} (c : Ctx) (e : m ≠ n) : (s.setCtx n c).ctx m = s.ctx m := tgetD_tput_ne _ _ _ e
theorem State.take_setTake_ne (s : State) {n m : Nat} (t : Take) (e : m ≠ n) : (s.setTake n t).take m = s.take m := tgetD_tput_ne _ _ _ e
theorem State.queue_setQueue_ne (s : State) {p r : Nat} (q : List QEntry) (e : r ≠ p) : (s.setQueue p q).queue r = s.queue r :=
  tgetD_tput_ne _ _ _ e
theorem State.owner_setOwner (s : State) (id n : Nat) : (s.setOwner id n).owner id = n := tgetD_tput_same _ _ _ _
theorem State.owner_setOwner_ne (s : State) {id k : Nat} (n : Nat) (e : k ≠ id) : (s.setOwner id n).owner k = s.owner k :=
  tgetD_tput_ne _ _ _ e

/-! ### The register file -/

theorem lookReg_eq_tget (l : List (Nat × BitVec 32)) (a : Nat) : lookReg l a = tget l a := by
  induction l with
  | nil => rfl
  | cons p t ih => obtain ⟨k, v⟩ := p; simp only [lookReg, tget, ih]

/-- A register reads as written. -/
theorem State.rd_wr (s : State) (r : Reg) (v i j : Nat) : (s.wr r v i j).rd r i j = v % 2 ^ 32 := by
  have h := tgetD_tput_same (BitVec.ofNat 32 (r.resetVal i j)) s.regs (r.addr i j) (BitVec.ofNat 32 v)
  unfold tgetD at h
  simp only [State.rd, State.wr, lookReg_eq_tget, h, BitVec.toNat_ofNat]

/-- A write leaves every register at another address. -/
theorem State.rd_wr_ne (s : State) (r q : Reg) (v i j k l : Nat) (h : q.addr k l ≠ r.addr i j) :
    (s.wr r v i j).rd q k l = s.rd q k l := by
  simp only [State.rd, State.wr, lookReg_eq_tget, tput]
  split
  · rw [tget_tdel_ne _ h]
  · rw [tget_tins_ne _ _ h]

theorem mem_tdel {α : Type} (t : Tab α) (i : Nat) {p : Nat × α} (h : p ∈ tdel t i) : p ∈ t := by
  induction t with
  | nil => simp [tdel] at h
  | cons q t ih =>
    obtain ⟨k, b⟩ := q
    simp only [tdel] at h
    split at h
    · exact .tail _ (ih h)
    · cases h with
      | head => exact .head _
      | tail _ h => exact .tail _ (ih h)

theorem mem_tins {α : Type} (a : α) (t : Tab α) (i : Nat) {p : Nat × α} (h : p ∈ tins a t i) : p = (i, a) ∨ p ∈ t := by
  induction t with
  | nil => simp [tins] at h; exact .inl h
  | cons q t ih =>
    obtain ⟨k, b⟩ := q
    simp only [tins] at h
    split at h
    · simpa using h
    · split at h
      · simp only [List.mem_cons] at h ⊢
        rcases h with h | h
        · exact .inl h
        · exact .inr (.inr h)
      · simp only [List.mem_cons] at h ⊢
        rcases h with h | h
        · exact .inr (.inl h)
        · rcases ih h with h | h
          · exact .inl h
          · exact .inr (.inr h)

/-- A write keeps the register file at rising addresses. -/
theorem tput_rising {α : Type} [DecidableEq α] (d a : α) (t : Tab α) (i : Nat) (h : t.Pairwise fun a b => a.1 < b.1) :
    (tput d t i a).Pairwise fun a b => a.1 < b.1 := by
  unfold tput
  split
  · rename_i hd; clear hd
    induction t with
    | nil => exact h
    | cons q t ih =>
      obtain ⟨k, b⟩ := q
      simp only [tdel]
      have h' := List.pairwise_cons.mp h
      split
      · exact ih h'.2
      · exact List.pairwise_cons.mpr ⟨fun p hp => h'.1 p (mem_tdel t i hp), ih h'.2⟩
  · rename_i hd; clear hd
    induction t with
    | nil => simp [tins]
    | cons q t ih =>
      obtain ⟨k, b⟩ := q
      have h' := List.pairwise_cons.mp h
      simp only [tins]
      split
      · rename_i hk
        refine List.pairwise_cons.mpr ⟨fun p hp => ?_, h⟩
        cases hp with
        | head => exact hk
        | tail _ hp => exact Nat.lt_trans hk (h'.1 p hp)
      · split
        · subst_vars
          exact List.pairwise_cons.mpr ⟨fun p hp => h'.1 p hp, h'.2⟩
        · rename_i h1 h2
          refine List.pairwise_cons.mpr ⟨fun p hp => ?_, ih h'.2⟩
          rcases mem_tins a t i hp with hp | hp
          · subst hp; simp; omega
          · exact h'.1 p hp

theorem State.wr_rising (s : State) (r : Reg) (v i j : Nat) (h : s.regs.Pairwise fun a b => a.1 < b.1) :
    (s.wr r v i j).regs.Pairwise fun a b => a.1 < b.1 := tput_rising _ _ _ _ h

/-! ### Fields -/

theorem State.rd_lt (s : State) (r : Reg) (i j : Nat) : s.rd r i j < 2 ^ 32 := BitVec.isLt _

/-- A field of a word reads as it was replaced. -/
theorem bitsOf_withBits (v hi lo x : Nat) : bitsOf (withBits v hi lo x) hi lo = x % 2 ^ (hi + 1 - lo) := by
  unfold withBits bitsOf
  generalize hw : hi + 1 - lo = w
  have hp : 0 < 2 ^ lo := Nat.two_pow_pos lo
  have hq : 0 < 2 ^ w := Nat.two_pow_pos w
  have e : v - v / 2 ^ lo % 2 ^ w * 2 ^ lo = v % 2 ^ lo + (v / 2 ^ lo / 2 ^ w * 2 ^ w) * 2 ^ lo := by
    have h1 := Nat.div_add_mod v (2 ^ lo)
    have h2 := Nat.div_add_mod (v / 2 ^ lo) (2 ^ w)
    have h3 : v / 2 ^ lo * 2 ^ lo = (v / 2 ^ lo / 2 ^ w * 2 ^ w) * 2 ^ lo + v / 2 ^ lo % 2 ^ w * 2 ^ lo := by
      rw [← Nat.add_mul]; congr 1; rw [Nat.mul_comm _ (2 ^ w)]; exact h2.symm
    rw [Nat.mul_comm] at h1
    omega
  rw [e]
  have h4 : (v % 2 ^ lo + v / 2 ^ lo / 2 ^ w * 2 ^ w * 2 ^ lo + x % 2 ^ w * 2 ^ lo) / 2 ^ lo =
      v / 2 ^ lo / 2 ^ w * 2 ^ w + x % 2 ^ w := by
    rw [Nat.add_mul_div_right _ _ hp, Nat.add_mul_div_right _ _ hp, Nat.div_eq_of_lt (Nat.mod_lt _ hp)]
    omega
  rw [h4, Nat.mul_comm, Nat.mul_add_mod, Nat.mod_mod]

end Sys2Proof.Machine
end

