-- ==== Sys2Proof/Laws/Answer.lean ====
section
/-!
SUPPORT. What an answer leaves, what the front command of the queue does, and how a packet that begins at once runs.
-/
namespace Sys2Proof.Machine

/-! ### Answers -/

@[simp] theorem State.shown_pending (s t : State) : (s.shown t).pending = s.pending := rfl

theorem State.answer_next {s t : State} {o : Out'} (h : s.answer o = .next t) : ∃ u, o = .next u ∧ t = s.shown u := by
  cases o with
  | next u => exact ⟨u, rfl, by simpa [State.answer] using h.symm⟩
  | fault f => simp [State.answer] at h
  | refused r => simp [State.answer] at h

/-- What the pins show depends on nothing that showing them changes. -/
theorem State.showPins_shows (s : State) : PinsShow s.showPins := ⟨rfl, rfl, rfl⟩

theorem State.settled_shows (s : State) : PinsShow s.showPins.settle := ⟨rfl, rfl, rfl⟩

theorem State.shown_shows (s t : State) : PinsShow (s.shown t) := ⟨rfl, rfl, rfl⟩

/-- Every command answers through `answer`. -/
theorem exec_answers (c : Instr) (s : State) : ∃ o, exec c s = s.answer o := by
  cases c <;> (dsimp only [exec]; exact ⟨_, rfl⟩)

/-- A packet command's answer is its packet's delivery. -/
theorem exec_packet (c : Instr) (s : State) (p : Hdr × Packet) (e : packetOf c = some p) :
    exec c s = s.answer (s.packet p.1 c p.2) := by
  cases c <;> cases e <;> rfl

/-- A command whose event answers a next state leaves it. -/
theorem answer_eq {s e : State} {o : Out'} (h : o = .next e) : s.answer o = .next (s.shown e) := by rw [h]; rfl

/-! ### Packets from a ring -/

/-- With no packet left in the ring the doorbell of one more is in order, and changes no more than SQ_TAIL. -/
theorem implyDoorbell_room {s : State} {n : Nat} (none : s.untakenOf n = 0) :
    ∃ u, s.implyDoorbell n = some u ∧ u.cpi = s.cpi ∧ u.boot = s.boot := by
  simp only [State.implyDoorbell, none]
  split
  · exact ⟨s, rfl, rfl, rfl⟩
  · split
    · omega
    · exact ⟨_, rfl, rfl, rfl⟩

theorem State.pulled_boot {s : State} {n : Fin 8} (none : s.untakenOf n.val = 0) : (s.pulled n).boot = s.boot := by
  obtain ⟨u, hu, _, hb⟩ := implyDoorbell_room none
  simp [State.pulled, hu, State.takeFromRing, hb]

theorem State.pulled_cpi {s : State} {n : Fin 8} (none : s.untakenOf n.val = 0) :
    (s.pulled n).cpi = { s.cpi with order := s.cpi.order + 1 } := by
  obtain ⟨u, hu, hc, _⟩ := implyDoorbell_room none
  simp [State.pulled, hu, State.takeFromRing, hc]

/-- No image waits in a ring that holds nothing. -/
theorem imageFirst_none {s : State} {n : Fin 8} (seq : BitVec 32) (opcode : Nat) (none : s.untakenOf n.val = 0) :
    s.imageFirst n seq opcode = false := by
  have e : (s.cpi.untaken.find? fun p => p.1 == n.val) = Option.none := by
    rw [State.untakenOf, List.length_eq_zero_iff, List.filter_eq_nil_iff] at none
    exact List.find?_eq_none.mpr none
  simp only [State.imageFirst, e]

/-- A packet that arrives is taken from its ring. -/
theorem deliver_arrives {s : State} {n : Fin 8} {h : Hdr} (m : Packet) (c : Instr) (a : Arrives s n h) :
    s.deliver h c m =
      if headerStatus h m.immediate ≠ .DONE then
        (s.pulled n).finalReply h.via h.seq m.opcode (quietOf h) (headerStatus h m.immediate) .empty
      else (s.taken n).accept h c m := by
  obtain ⟨via, phase, att, untak, reps, res, tak⟩ := a
  obtain ⟨u, hu, hc, hb⟩ := implyDoorbell_room untak
  have img := imageFirst_none h.seq m.opcode untak
  have serves : s.serves (.ring n) = true := by simp [State.serves, phase, att]
  have hun : u.untakenOf n.val = 0 := by simpa [State.untakenOf, hc] using untak
  have hre : ¬ 64 ≤ (u.host n.val).replies.length := by simpa [State.host, hc] using reps
  have hp : s.pulled n = u.takeFromRing (.ring n) := by simp [State.pulled, hu]
  rw [via] at res tak
  unfold State.deliver
  rw [via]
  simp [res, tak, serves, img, hu, hun, hre, State.receive, via, State.taken, hp]

/-- Taking a packet leaves an orderly shutdown as it stands. -/
theorem State.taken_shuttingDown {s : State} {n : Fin 8} (none : s.untakenOf n.val = 0) :
    (s.taken n).cpi.shuttingDown = s.cpi.shuttingDown := by
  obtain ⟨u, hu, hc, _⟩ := implyDoorbell_room none
  simp [State.taken, State.renew, State.setHost, State.pulled, hu, State.takeFromRing, hc]

/-- A packet that passes and is held up by nothing goes on to checks 10 and 11. -/
theorem accept_begins {s : State} {n : Fin 8} {h : Hdr} {m : Packet} (c : Instr) (p : Passes s n h m) (w : Unheld s n h m) :
    (s.taken n).accept h c m = (s.taken n).begin h m false (s.taken n).cpi.order := by
  obtain ⟨⟨via, phase, att, untak, reps, res, tak⟩, hdr, fit, par, pend⟩ := p
  obtain ⟨launch, may⟩ := w
  have hb : (s.taken n).boot.phase = .ready := by
    rw [State.taken]; simp [State.renew, State.setHost, State.pulled_boot untak, phase]
  simp only [State.accept, via, slotOf, hb, launch, fit, par, may]
  simp [Nat.not_le.mpr pend]

/-- A packet that begins is delivered to its own meaning. -/
theorem deliver_begins {s : State} {n : Fin 8} {h : Hdr} {m : Packet} (c : Instr) (b : Begins s n h m) :
    s.deliver h c m = (s.taken n).begin h m false (s.taken n).cpi.order := by
  obtain ⟨p, w, _, _, _⟩ := b
  rw [deliver_arrives m c p.1, p.2.1, ← accept_begins c p w]
  simp

/-- A packet that begins runs, its rights and the state being as it needs them. -/
theorem begin_runs {s : State} {n : Fin 8} {h : Hdr} {m : Packet} (b : Begins s n h m) :
    (s.taken n).begin h m false (s.taken n).cpi.order = (match m.run h.via (s.taken n) with
      | .done b t => t.finalReply h.via h.seq m.opcode (quietOf h) .DONE b
      | .both b t => (t.reply h.via h.seq m.opcode .ACCEPTED .empty).finalReply h.via h.seq m.opcode (quietOf h) .DONE b
      | .refuse r t => t.finalReply h.via h.seq m.opcode (quietOf h) r .empty
      | .failed r b t => t.finalReply h.via h.seq m.opcode (quietOf h) r b
      | .wait k t =>
        let t := t.reply h.via h.seq m.opcode .ACCEPTED .empty
        { t with cpi := { t.cpi with waiting := t.cpi.waiting ++
          [⟨h.via, h.seq, m.opcode, quietOf h, m.acts (slotOf h.via) (s.taken n), (s.taken n).cpi.order, false, k⟩] } }) := by
  obtain ⟨⟨⟨via, _, _, untak, _⟩, _⟩, _, judged, shut, checked⟩ := b
  have hs : ((s.taken n).cpi.shuttingDown.isSome && decide (m.cls ≠ .observe)) = false := by
    rw [State.taken_shuttingDown untak]
    rcases shut with shut | shut <;> simp [shut]
  simp only [State.begin, via, slotOf, hs]
  simp [judged, checked]
  all_goals rfl

section
variable {s : State} {n : Fin 8} {c : Instr} {h : Hdr} {m : Packet} {d : Body} {k : WaitKind} {r : Status} {t : State} {o : Nat}

/-- A packet that begins and ends at once: its effect, its DONE reply, the pins. -/
theorem packet_done (b : Begins s n h m) (p : packetOf c = some (h, m)) (op : m.opcode = o)
    (e : m.run (.ring n) (s.taken n) = .done d t) : Ends s h c o d t := by
  subst op
  rw [Ends, exec_packet c s _ p, State.packet, deliver_begins c b, begin_runs b, b.1.1.1, e, ← b.1.1.1]
  rfl

/-- A packet that begins and ends with both its replies on one tick. -/
theorem packet_both (b : Begins s n h m) (p : packetOf c = some (h, m)) (op : m.opcode = o)
    (e : m.run (.ring n) (s.taken n) = .both d t) : EndsAtOnce s h c o d t := by
  subst op
  rw [EndsAtOnce, exec_packet c s _ p, State.packet, deliver_begins c b, begin_runs b, b.1.1.1, e, ← b.1.1.1]
  rfl

/-- A packet that its own meaning ends with a status that comes with a body. -/
theorem packet_failed (b : Begins s n h m) (p : packetOf c = some (h, m)) (op : m.opcode = o)
    (e : m.run (.ring n) (s.taken n) = .failed r d t) : EndsWith s h c o r d t := by
  subst op
  rw [EndsWith, exec_packet c s _ p, State.packet, deliver_begins c b, begin_runs b, b.1.1.1, e, ← b.1.1.1]
  rfl

/-- A packet that its own meaning refuses. -/
theorem packet_refused (b : Begins s n h m) (p : packetOf c = some (h, m)) (op : m.opcode = o)
    (e : m.run (.ring n) (s.taken n) = .refuse r t) : Refuses s h c o r t := by
  subst op
  rw [Refuses, exec_packet c s _ p, State.packet, deliver_begins c b, begin_runs b, b.1.1.1, e, ← b.1.1.1]
  rfl

/-- A packet that begins and waits: its effect so far, its ACCEPTED reply, what it waits for. -/
theorem packet_waits (b : Begins s n h m) (p : packetOf c = some (h, m))
    (e : m.run (.ring n) (s.taken n) = .wait k t) : Waits s n h c m k t := by
  rw [Waits, exec_packet c s _ p, State.packet, deliver_begins c b, begin_runs b, b.1.1.1, e, State.waits, b.1.1.1]
  rfl

end

end Sys2Proof.Machine
end

