-- ==== Sys2Proof/Laws/Line.lean ====
section
/-!
SUPPORT. What a lane sends, its receiver reads: descrambling undoes scrambling and removing undoes stuffing (R333).
-/
namespace Sys2Proof.Machine

theorem descramble_scramble (r : BitVec 58) (bs : List Bool) : descramble r (scramble r bs).1 = (bs, (scramble r bs).2) := by
  induction bs generalizing r with
  | nil => rfl
  | cons b t ih => simp [scramble, descramble, ih]

theorem unstuff_stuff (l : Bool) (n : Nat) (bs : List Bool) (h : n < 24) :
    unstuff (l, n) (stuff (l, n) bs).1 = (bs, (stuff (l, n) bs).2) := by
  induction bs generalizing l n with
  | nil => rfl
  | cons b t ih =>
    have hn : ¬n = 24 := by omega
    by_cases e : b = l
    · by_cases m : n + 1 = 24
      · simp [stuff, unstuff, e, m, hn, ih (!l) 1 (by omega)]
      · simp [stuff, unstuff, e, m, hn, ih l (n + 1) (by omega), show min 24 (n + 1) = n + 1 by omega]
    · simp [stuff, unstuff, e, hn, ih b 1 (by omega)]

/-- The line of a cell, received with the states the sender began in, is the cell. -/
theorem receive_sent (r : BitVec 58) (l : Bool) (n : Nat) (bs : List Bool) (h : n < 24) :
    receiveLine r (l, n) (stuff (l, n) (scramble r bs).1).1 = bs := by
  simp [receiveLine, unstuff_stuff l n _ h, descramble_scramble]

/-- The count of equal bits on a line is below 24 after every cell: its receiver and its sender stay in step. -/
theorem stuff_bounded (l : Bool) (n : Nat) (bs : List Bool) (h : n < 24) : (stuff (l, n) bs).2.2 < 24 := by
  induction bs generalizing l n with
  | nil => exact h
  | cons b t ih =>
    by_cases e : b = l
    · by_cases m : n + 1 = 24
      · simpa [stuff, e, m] using ih (!l) 1 (by omega)
      · simpa [stuff, e, m] using ih l (n + 1) (by omega)
    · simpa [stuff, e] using ih b 1 (by omega)

end Sys2Proof.Machine
end

