-- ==== Sys2Proof/WellFormed.lean ====
section
/-!
DEFINITION. Well-formed commands: every operand fits the field of the packet, word or cell that carries it.
Values inside a field that the spec refuses (a context above 7, a count out of range) are well formed: the meaning
refuses them with the spec's status.
-/
namespace Sys2Proof

/-- `n` fits a field of `w` bits. -/
def fits (w n : Nat) : Bool := decide (n < 2 ^ w)

/-- A parameter area of bytes: at most 4,096 (R61). -/
def byteArea (b : List Byte) : Bool := decide (b.length ≤ 4160)

/-- A parameter area of words: at most 1,024. -/
def wordArea (w : List (BitVec 32)) : Bool := decide (w.length ≤ 1024)

/-- A bus operation takes 8 bytes (R109). -/
def scbOp (b : List Byte) : Bool := decide (b.length = 8)

/-- A signed 64-bit value. -/
def signed64 (z : Int) : Bool := decide (-(2 ^ 63 : Int) ≤ z) && decide (z < (2 ^ 63 : Int))

/-- Endpoints that exist (R68, R343). -/
def Endpoint.wf (e : Endpoint) : Bool :=
  match e.transport with
  | .pcie => decide (e.number < 4)
  | .spi => decide (e.number < 2)
  | .draxa => decide (e.number < 128)

/-- A header came by a ring, or by the mailbox of an endpoint that exists; PARAM_LEN is a 32-bit field. -/
def Hdr.wf (h : Hdr) : Bool :=
  (match h.via with
   | .ring _ => true
   | .mailbox e => e.wf) && fits 32 h.paramLen

def ReadArgs.wf (r : ReadArgs) : Bool := fits 32 r.frame && fits 64 r.sof && fits 32 r.off && fits 32 r.len

/-- A line names a virtual channel 0 … 15 (R91) and carries sensor codes of at most 16 bits (R114). -/
def Line.wf (l : Line) : Bool := fits 8 l.vc && l.px.all (fits 16)

/-- Serial numbers of 16 bytes, superblocks within T, two checkpoint slots, eight superblocks of journal (R259). -/
def Label.wf (l : Label) : Bool :=
  decide (l.serial.length = 16) && decide (l.module.length = 16) && fits 64 l.formatted && fits 18 l.total && fits 18 l.user &&
    decide (l.slots.length = 2) && decide (l.ring.length = 8) && (l.lastResort :: l.slots ++ l.ring).all (fun b => decide (2 ≤ b ∧ b < l.total))

def LabelCopy.wf : LabelCopy → Bool
  | .valid l => l.wf
  | _ => true

/-- Pages of 64 KiB in a ring of 8,192, stripes of 2 MiB (R258, R262). -/
def MountFound.wf (f : MountFound) : Bool :=
  f.copy0.wf && f.copy1.wf && f.pages.all (fun p => fits 13 p.1 && decide (p.2.length = 65536)) &&
    f.stripes.all (fun p => fits 32 p.1 && decide (p.2.data.length = 2097152))

/-- Fourteen rails and four lid sensors (R414, R417). -/
def Telemetry.wf (t : Telemetry) : Bool :=
  decide (t.volts.length = 14) && decide (t.amps.length = 14) && decide (t.estimate.length = 14) &&
    decide (t.lids.length = 4) && fits 16 t.vin && fits 16 t.bank && t.volts.all (fits 16)

def StartOutcome.wf (o : StartOutcome) : Bool := fits 16 o.readyMs && decide (o.straps.length = 6) && o.straps.all (fits 2)

/-- A command is well formed when each operand fits the field that carries it. -/
def Instr.wf : Instr → Bool
  | .sysIdentity h => h.wf
  | .sysStatus h => h.wf
  | .regRead h addr count => h.wf && fits 32 addr && fits 32 count
  | .regWrite h addr count words => h.wf && fits 32 addr && fits 32 count && wordArea words
  | .regModify h addr _ _ => h.wf && fits 32 addr
  | .sysReset h kind => h.wf && fits 32 kind
  | .sysShutdown h => h.wf
  | .fwBegin h len => h.wf && fits 32 len
  | .fwData h off data => h.wf && fits 32 off && byteArea data
  | .fwCommit h => h.wf
  | .sysSubscribe h _ => h.wf
  | .sysBootSet h transport number => h.wf && fits 8 transport && fits 8 number
  | .hostAttach h lease name => h.wf && fits 32 lease && byteArea name
  | .hostDetach h => h.wf
  | .hostHeartbeat h => h.wf
  | .hostList h => h.wf
  | .leaseSet h slot lease => h.wf && fits 32 slot && fits 32 lease
  | .resAssign h target ids => h.wf && fits 32 target && ids.all (fits 16)
  | .resRelease h ids => h.wf && ids.all (fits 16)
  | .resQuery h ids => h.wf && ids.all (fits 16)
  | .partSet h slot pool clusters => h.wf && fits 32 slot && fits 32 pool && fits 32 clusters
  | .dckInfo h => h.wf
  | .dckSourceSet h _ _ _ => h.wf
  | .dckStep h time => h.wf && fits 64 time
  | .dealQueue h entries => h.wf && entries.all (fun e => fits 32 e.1)
  | .dealCancel h port tag => h.wf && fits 32 port && fits 16 tag
  | .dealPortSet h port _ => h.wf && fits 32 port
  | .tcSet h _ _ time _ _ => h.wf && fits 64 time
  | .dealList h port => h.wf && fits 32 port
  | .snsInfo h ctx => h.wf && fits 32 ctx
  | .snsPortConfig h ctx _ maps _ => h.wf && fits 32 ctx && wordArea maps
  | .snsCtxConfig h ctx _ _ _ _ _ => h.wf && fits 32 ctx
  | .snsCtxEnable h ctx => h.wf && fits 32 ctx
  | .snsCtxDisable h ctx => h.wf && fits 32 ctx
  | .snsScbConfig h bus _ => h.wf && fits 32 bus
  | .snsScbListLoad h bus list ops => h.wf && fits 32 bus && fits 32 list && ops.all scbOp
  | .snsScbXfer h bus op => h.wf && fits 32 bus && scbOp op
  | .snsScbResult h bus list => h.wf && fits 32 bus && fits 32 list
  | .pipInfo h ctx => h.wf && fits 32 ctx
  | .pipCtxConfig h ctx _ units => h.wf && fits 32 ctx && fits 32 units
  | .pipParamSet h ctx params => h.wf && fits 32 ctx && wordArea params
  | .pipDefectLoad h ctx bank first count _ entries => h.wf && fits 32 ctx && fits 32 bank && fits 32 first && fits 32 count && wordArea entries
  | .pipShadeLoad h ctx bank plane first count gains => h.wf && fits 32 ctx && fits 32 bank && fits 32 plane && fits 32 first && fits 32 count && gains.all (fits 16)
  | .pipTapConfig h ctx slots => h.wf && fits 32 ctx && fits 32 slots
  | .pipInlineSet h ctx => h.wf && fits 32 ctx
  | .pipBankSwap h ctx bank => h.wf && fits 32 ctx && fits 32 bank
  | .pipDropLog h ctx => h.wf && fits 32 ctx
  | .colInfo h _ index => h.wf && fits 32 index
  | .colCtxConfig h ctx calAlloc devSlots => h.wf && fits 32 ctx && fits 32 calAlloc && fits 32 devSlots
  | .colCalLoad h ctx bank region first count data => h.wf && fits 32 ctx && fits 32 bank && fits 32 region && fits 32 first && fits 32 count && data.all (fits 32)
  | .colCalSeal h ctx bank _ => h.wf && fits 32 ctx && fits 32 bank
  | .colCalSwap h ctx bank => h.wf && fits 32 ctx && fits 32 bank
  | .colLookConfig h out src banks run => h.wf && fits 32 out && fits 32 src && fits 32 banks && fits 32 run
  | .colLookLoad h out bank part first count data => h.wf && fits 32 out && fits 32 bank && fits 32 part && fits 32 first && fits 32 count && data.all (fits 48)
  | .colLookSeal h out bank _ => h.wf && fits 32 out && fits 32 bank
  | .colLookSwap h out bank => h.wf && fits 32 out && fits 32 bank
  | .colLookParam h out _ mats _ _ tfs => h.wf && fits 32 out && wordArea mats && wordArea tfs
  | .staInfo h ctx => h.wf && fits 32 ctx
  | .staCtxConfig h ctx en slots => h.wf && fits 32 ctx && fits 32 en && fits 32 slots
  | .staCfgSet h ctx bank values => h.wf && fits 32 ctx && fits 32 bank && wordArea values
  | .staCfgSwap h ctx bank => h.wf && fits 32 ctx && fits 32 bank
  | .staRead h ctx rd => h.wf && fits 32 ctx && rd.wf
  | .staDeliver h ctx addr slots => h.wf && fits 32 ctx && fits 64 addr && fits 32 slots
  | .engInfo h _ id => h.wf && fits 32 id
  | .engKernelCreate h clusters len => h.wf && clusters.all (fits 32) && fits 32 len
  | .engKernelData h handle off data => h.wf && fits 16 handle && fits 32 off && byteArea data
  | .engKernelSeal h handle => h.wf && fits 16 handle
  | .engInputAttach h handle input _ ctx tap fmt rows granules => h.wf && fits 16 handle && fits 32 input && fits 32 ctx && fits 32 tap && fits 32 fmt && fits 32 rows && fits 32 granules
  | .engOutputConfig h handle output slots bytes => h.wf && fits 16 handle && fits 32 output && fits 32 slots && fits 32 bytes
  | .engKernelStart h handle => h.wf && fits 16 handle
  | .engKernelStop h handle => h.wf && fits 16 handle
  | .engKernelFree h handle => h.wf && fits 16 handle
  | .engResultRead h handle output rd => h.wf && fits 16 handle && fits 32 output && rd.wf
  | .mlsInfo h _ id => h.wf && fits 32 id
  | .mlsCtxCreate h profile src dest index hostMib _ _ _ _ _ => h.wf && fits 32 profile && fits 32 src && fits 32 dest && fits 32 index && fits 32 hostMib
  | .mlsCtxSet h handle _ _ _ _ _ => h.wf && fits 16 handle
  | .mlsCtxDelete h handle => h.wf && fits 16 handle
  | .mlsStreamBind h stream handle => h.wf && fits 32 stream && fits 16 handle
  | .mlsStreamStart h stream => h.wf && fits 32 stream
  | .mlsStreamStop h stream => h.wf && fits 32 stream
  | .mlsSwitch h stream handle => h.wf && fits 32 stream && fits 16 handle
  | .mlsPlanSet h handle ceiling quants => h.wf && fits 16 handle && fits 32 ceiling && quants.all (fits 8)
  | .mlsRecordRead h handle rd => h.wf && fits 16 handle && rd.wf
  | .mlsCtxRun h handle _ => h.wf && fits 16 handle
  | .mlsDecInfo h handle => h.wf && fits 16 handle
  | .mlsDecCreate h owner source srcIndex profile cols rows slots ring inMib rate conceal timeout => h.wf && fits 16 owner && fits 32 source && fits 32 srcIndex && fits 32 profile && fits 32 cols && fits 32 rows && fits 32 slots && fits 32 ring && fits 32 inMib && fits 32 rate && fits 32 conceal && fits 32 timeout
  | .mlsDecStart h handle => h.wf && fits 16 handle
  | .mlsDecStop h handle => h.wf && fits 16 handle
  | .mlsDecDelete h handle => h.wf && fits 16 handle
  | .mlsDecFeed h handle count tag data => h.wf && fits 16 handle && fits 32 count && fits 64 tag && byteArea data
  | .mlsDecRead h handle rd => h.wf && fits 16 handle && rd.wf
  | .mlsDecRecordRead h handle rd => h.wf && fits 16 handle && rd.wf
  | .mlsDecSet h handle conceal timeout => h.wf && fits 16 handle && fits 32 conceal && fits 32 timeout
  | .medInfo h _ index => h.wf && fits 32 index
  | .medMagFormat h mag spare => h.wf && fits 32 mag && spare.all (fits 32)
  | .medMagEject h mag => h.wf && fits 32 mag
  | .medTakePrepare h stream primary secondary takeId metadata => h.wf && fits 32 stream && fits 32 primary && fits 32 secondary && byteArea takeId && byteArea metadata
  | .medTakeStart h handle => h.wf && fits 16 handle
  | .medTakeStop h handle => h.wf && fits 16 handle
  | .medTakeMark h handle code => h.wf && fits 16 handle && fits 32 code
  | .medTakeList h mag first count => h.wf && fits 32 mag && fits 32 first && fits 32 count
  | .medTakeRead h mag entry seq off len => h.wf && fits 32 mag && fits 32 entry && fits 32 seq && fits 64 off && fits 32 len
  | .medTakeDelete h mag entry => h.wf && fits 32 mag && fits 32 entry
  | .medCeilSet h mag ceil => h.wf && fits 32 mag && fits 32 ceil
  | .medPlay h session mag entry first => h.wf && fits 16 session && fits 32 mag && fits 32 entry && fits 32 first
  | .medTask h _ _ _ _ _ => h.wf
  | .medQueueReset h mag all => h.wf && fits 32 mag && fits 32 all
  | .medCqSet h base => h.wf && fits 64 base
  | .medMagTarget h mag on => h.wf && fits 32 mag && fits 32 on
  | .medBufAlloc h mib => h.wf && fits 32 mib
  | .memInfo h => h.wf
  | .memPortSet h port _ => h.wf && fits 32 port
  | .memMargin h stack => h.wf && fits 32 stack
  | .memMarginRead h stack => h.wf && fits 32 stack
  | .memTrainRead h stack => h.wf && fits 32 stack
  | .memOrderSet h tx5 => h.wf && fits 32 tx5
  | .memTest h pattern mask => h.wf && fits 32 pattern && fits 64 mask
  | .memDiagRead h _ addr count pc => h.wf && fits 64 addr && fits 32 count && fits 32 pc
  | .lnkInfo h kind index => h.wf && fits 32 kind && fits 32 index
  | .lnkQuadConfig h quad _ persist => h.wf && fits 32 quad && fits 32 persist
  | .lnkDrxConfig h link _ => h.wf && fits 32 link
  | .lnkEthConfig h eth _ => h.wf && fits 32 eth
  | .lnkMagMap h mag link => h.wf && fits 32 mag && fits 32 link
  | .lnkPartnerRead h link => h.wf && fits 32 link
  | .lnkPrbs h quad start pattern => h.wf && fits 32 quad && fits 32 start && fits 32 pattern
  | .lnkFomRead h quad => h.wf && fits 32 quad
  | .lnkLinkReset h link => h.wf && fits 32 link
  | .outInfo h out => h.wf && fits 32 out
  | .outConfig h out _ _ => h.wf && fits 32 out
  | .outStart h out => h.wf && fits 32 out
  | .outStop h out => h.wf && fits 32 out
  | .outSourceSet h out _ => h.wf && fits 32 out
  | .outScaleSet h out _ _ _ _ _ => h.wf && fits 32 out
  | .outOverlaySet h out _ rects thrs => h.wf && fits 32 out && rects.all (fits 64) && thrs.all (fits 16)
  | .outTextSet h out line text => h.wf && fits 32 out && fits 32 line && byteArea text
  | .outAudioSet h out _ map => h.wf && fits 32 out && map.all (fits 16)
  | .outIpSet h out settings => h.wf && fits 32 out && byteArea settings
  | .outSdpRead h out => h.wf && fits 32 out
  | .audInfo h port => h.wf && fits 32 port
  | .audConfig h port _ _ cap play => h.wf && fits 32 port && fits 32 cap && fits 32 play
  | .audMaskSet h port _ _ _ _ => h.wf && fits 32 port
  | .audStart h mask time => h.wf && fits 32 mask && fits 64 time
  | .audStop h mask => h.wf && fits 32 mask
  | .audRead h port pos len => h.wf && fits 32 port && fits 64 pos && fits 32 len
  | .audWrite h port count data => h.wf && fits 32 port && fits 32 count && byteArea data
  | .evfInfo h kind index => h.wf && fits 32 kind && fits 32 index
  | .evfChannelSet h chan consumer spacing ceiling => h.wf && fits 32 chan && fits 32 consumer && fits 32 spacing && fits 32 ceiling
  | .evfEnableSet h chan enable producers => h.wf && fits 32 chan && fits 32 enable && producers.all (fits 32)
  | .evfCellSet h cell _ _ => h.wf && fits 32 cell
  | .evfPinSet h pin _ => h.wf && fits 32 pin
  | .evfSourceSet h source => h.wf && fits 32 source
  | .evfSourceClear h source => h.wf && fits 32 source
  | .evfUnquench h chan => h.wf && fits 32 chan
  | .evfStormSet h period => h.wf && fits 32 period
  | .ptuInfo h kind index => h.wf && fits 32 kind && fits 32 index
  | .ptuEncConfig h enc _ => h.wf && fits 32 enc
  | .ptuEngineConfig h engine _ _ => h.wf && fits 32 engine
  | .ptuStrobeConfig h strobe _ => h.wf && fits 32 strobe
  | .ptuTableCreate h engine cluster entries origin feed passes width minInterval rewind => h.wf && fits 32 engine && fits 32 cluster && fits 32 entries && signed64 origin && fits 32 feed && fits 32 passes && fits 32 width && fits 32 minInterval && fits 32 rewind
  | .ptuTableLoad h handle first count entries => h.wf && fits 16 handle && fits 32 first && fits 32 count && entries.all (fits 64)
  | .ptuTableSeal h handle _ => h.wf && fits 16 handle
  | .ptuTableArm h handle => h.wf && fits 16 handle
  | .ptuTableDisarm h engine => h.wf && fits 32 engine
  | .ptuStrobeFire h engine mask => h.wf && fits 32 engine && fits 16 mask
  | .ptuStrobeReset h engine mask => h.wf && fits 32 engine && fits 16 mask
  | .ptuTableFree h handle => h.wf && fits 16 handle
  | .valInfo h => h.wf
  | .valConfig h _ => h.wf
  | .valThermalEval h => h.wf
  | .valThermalRead h => h.wf
  | .valReplan h => h.wf
  | .valRecordRead h rd => h.wf && rd.wf
  | .valMonConfig h unit tap shift _ => h.wf && fits 32 unit && fits 32 tap && fits 32 shift
  | .valMonStart h unit window => h.wf && fits 32 unit && fits 32 window
  | .valMonRead h unit => h.wf && fits 32 unit
  | .valSnapshot h => h.wf
  | .intInfo h => h.wf
  | .intFaultRead h rd => h.wf && rd.wf
  | .intClear h tallyReset => h.wf && fits 32 tallyReset
  | .intSafeEnter h => h.wf
  | .intInject h code => h.wf && fits 32 code
  | .intKeyRead h slot _ rd => h.wf && fits 32 slot && rd.wf
  | .intAttest h nonce => h.wf && byteArea nonce
  | .leaseExpiry _ => true
  | .sqTailDoorbell _ _ images => images.all byteArea
  | .rqHeadAdvance _ _ => true
  | .heldReplyWrite _ => true
  | .spiStatus _ => true
  | .bar0Write _ addr bytes _ => fits 32 addr && fits 8 bytes
  | .dckPush _ _ => true
  | .lockGained src phase freq => fits 4 src && signed64 phase && signed64 freq
  | .lockLost => true
  | .switchDelayExpiry => true
  | .sourceReturn src => fits 4 src
  | .xchkWindow count => fits 32 count
  | .ltcFrameDecoded _ _ boundary => fits 64 boundary
  | .ltcLoss => true
  | .jamTimeout => true
  | .tcFrameBoundary => true
  | .dealMissed _ => true
  | .tcJam => true
  | .tcAnchor _ => true
  | .ppsPulse _ => true
  | .wclkStart _ => true
  | .wclkStop => true
  | .frameStart _ => true
  | .contextEnable _ => true
  | .contextDisable _ => true
  | .exposeStart _ _ => true
  | .exposeEnd _ _ => true
  | .scbRun _ _ => true
  | .inlineSwitch _ => true
  | .pipeTableSwap _ _ => true
  | .lookSwap _ _ => true
  | .calSwap _ _ => true
  | .statsConfigSwap _ _ => true
  | .kernelStart _ => true
  | .kernelStop _ => true
  | .codecSwitch _ _ => true
  | .streamStart _ => true
  | .streamStop _ => true
  | .takeStart _ _ _ => true
  | .takeStop _ _ => true
  | .takeMark _ _ _ => true
  | .marginMeasure _ => true
  | .fomSample _ => true
  | .prbsStart _ _ => true
  | .prbsStop _ => true
  | .outFrameStart _ => true
  | .outSourceSwitch _ _ => true
  | .audClockStart _ => true
  | .audDataStart _ => true
  | .audDataStop _ => true
  | .audClockStop _ => true
  | .eventPulse _ => true
  | .cellReset _ => true
  | .tableArm _ _ => true
  | .tableDisarm _ => true
  | .strobeFire _ _ => true
  | .thermalEval => true
  | .telemetrySnapshot => true
  | .monitorWindow _ _ => true
  | .packetExec _ _ => true
  | .scbListEnd _ _ op data => fits 8 op && byteArea data
  | .scbOpTimeout _ op data => fits 8 op && byteArea data
  | .portLock _ skew lanes => fits 8 skew && fits 7 lanes
  | .portLockLost _ _ skew lanes => fits 8 skew && fits 7 lanes
  | .frameStartMarker _ => true
  | .lineArrival _ line => line.wf
  | .trailer _ => true
  | .trailerWaitExpiry _ => true
  | .trigWindowExpiry _ => true
  | .pipelineArbitration => true
  | .frameLeavesDemosaic _ => true
  | .katPass _ _ => true
  | .frameLeavesColour _ => true
  | .statsPublish _ => true
  | .resultPublish _ _ _ frame data => fits 32 frame && byteArea data
  | .kernelDoneWord _ => true
  | .drainExpiry _ => true
  | .kernelFault _ _ _ _ pc => fits 16 pc
  | .encodeBoundary _ => true
  | .contextSpill _ => true
  | .sliceEmit _ => true
  | .frameRecordPublish _ => true
  | .planQueue _ => true
  | .roundTripCheck _ _ => true
  | .knownAnswerSlice _ _ => true
  | .decFrameHeader _ => true
  | .decSlotFreed _ => true
  | .decSlice _ => true
  | .decFramePublish _ => true
  | .decFrameTimeout _ => true
  | .mount _ found => found.all (·.wf)
  | .stripeProgrammed _ _ frame => fits 32 frame
  | .journalPageProgrammed _ => true
  | .programFailure _ superblock _ frame _ => fits 32 superblock && fits 32 frame.frame && fits 32 frame.stripe
  | .read _ _ _ => true
  | .write _ _ _ data => byteArea data
  | .flush _ _ _ => true
  | .trim _ _ _ => true
  | .identify _ _ _ => true
  | .powerState _ _ _ => true
  | .taskAccept _ => true
  | .taskComplete _ _ _ => true
  | .queueReset _ _ => true
  | .resetRecord _ => true
  | .powerStateReached _ => true
  | .marginDone _ widths => widths.all (fits 8)
  | .patrolScrub addr _ syndrome => fits 64 addr && fits 16 syndrome
  | .hbmFreeze _ _ addr syndrome => fits 64 addr && fits 16 syndrome
  | .parityReplay _ _ => true
  | .trainingComplete _ sweeps0 sweeps1 again0 again1 =>
    [sweeps0, sweeps1, again0, again1].all fun l => decide (l.length = 128) && l.all fun p => fits 64 p.1 && fits 64 p.2
  | .alignFound _ lanes skew => fits 8 lanes && fits 8 skew
  | .discoverPage _ flags payload _ => fits 4 flags && byteArea payload
  | .enumerationComplete _ trips => trips.all (fits 16)
  | .discoverRepeat _ => true
  | .linkRetry _ => true
  | .draxaLinkLoss _ => true
  | .dataCell _ channel flags payload _ => fits 8 channel && fits 4 flags && byteArea payload
  | .flowCell _ grants _ => wordArea grants
  | .echo _ _ time turnaround => fits 64 time && fits 16 turnaround
  | .cpiSeg _ _ _ _ index data => fits 16 index && byteArea data
  | .pcieChange _ speed width => fits 3 speed && fits 4 width
  | .outputSelfStart _ => true
  | .scalerFrameComplete _ => true
  | .lateLine _ line => fits 14 line
  | .audioFrameSync _ samples => samples.all (fits 24)
  | .evioInputEdge _ _ => true
  | .fabricCycle => true
  | .frameTriggerTask _ => true
  | .takeMarkTask _ => true
  | .kernelDoorbell _ => true
  | .evioOutputTask _ => true
  | .cellClearTask _ => true
  | .encoderCountChange _ _ => true
  | .indexEdge _ => true
  | .strobeReadbackMiss _ => true
  | .telemetrySample sample => sample.wf
  | .vinDrop millivolts => fits 16 millivolts
  | .powerFailDeclared => true
  | .vinDip millivolts => fits 16 millivolts
  | .holdupWindowEnd => true
  | .bankAt40v ticks => fits 32 ticks
  | .holdupReady => true
  | .chargeTimeout => true
  | .thermalStale => true
  | .flushEvaluation => true
  | .shutdownRailsOff => true
  | .autoRestart => true
  | .marginReplan slack widths0 widths1 centres failed => slack.all signed64 && widths0.all (fits 8) && widths1.all (fits 8) && centres.all (fits 8) && failed.all (fits 10)
  | .deferredReplanStart => true
  | .monitorWindowEnd _ => true
  | .safeStateEntry => true
  | .faultRecord code detail0 detail1 => fits 8 code && fits 64 detail0 && fits 32 detail1
  | .safeEntryComplete => true
  | .lockstepMismatch _ pair => fits 32 pair
  | .watchdogTimeout last => fits 64 last
  | .startUp outcome => outcome.wf
  | .resetNAssert => true
  | .resetNRelease => true
  | .resetProper => true
  | .bypass => true
  | .idcode => true
  | .samplePreload _ => true
  | .extest => true
  | .extestPulse => true
  | .extestTrain => true
  | .clamp => true
  | .highz => true
  | .trstNAssert => true
  | .sourcePresent src => fits 4 src
  | .readCountAdvance _ _ count => fits 8 count
  | .frameAcquire _ _ => true
  | .frameRelease _ _ => true
  | .memTestComplete failing => fits 64 failing
  | .linkSignalPresent _ => true
  | .cellAlignmentLoss _ lane => fits 4 lane
  | .quadratureError _ => true
  | .fwCommitComplete _ => true
  | .formatComplete _ bad => bad.all (fits 32)
  | .valtuBoot => true

end Sys2Proof
end

