-- ==== Sys2Proof/Tests/Slice0.lean ====
section
/-!
SUPPORT. Small states and headers, ill-formed commands the check refuses, the spec's worked values, single commands on small states, and for
every obligation with hypotheses a state and operands that meet them, clause by clause. Expected values come from the spec's worked examples,
from its tables, or (the CRC, SHA-256 and ECDSA values) from the published definitions of
what it names.
-/
namespace Sys2Proof.Tests
set_option Elab.async false
open Sys2Proof Sys2Proof.Machine

/-! ### Small states -/

/-- After READY with host `n` attached and nothing else. -/
def base (n : Nat) : State :=
  { (State.reset.set .CPI_SLOT_STATE_STATE 1 n) with boot := { State.reset.boot with phase := .ready } }
def up : State := base 0
/-- A sound immediate header from slot 0's ring. -/
def hdr0 : Hdr := ⟨.ring 0, 0x5458, 1, 0, 7, 0, 0, 0, 0, true⟩
/-- The state a packet's effect leaves. -/
def ran (m : Packet) (s : State) : State := match m.run (.ring 0) s with
  | .done _ t => t | .refuse _ t => t | .wait _ t => t | .both _ t => t | .failed _ _ t => t
def taken0 : Taken := ⟨.ring 0, 1, 0x0101, false, false, [], 0, 0, .sysIdentity hdr0⟩
def rec0 : FrameRec := { frame := 1, sof := 2, status := 0, bytes := 0, ended := 0, offset := 0, profile := 0, intra := true, slices := [],
                         raw := [1, 2, 3, 4], unit := [], listeners := [] }
def kernelUp : State := ran (pktEngKernelCreate [0] 64) up
def kernelIn (st : Nat) : State :=
  (kernelUp.modKernel 0 fun e => { e with inputsMax := 4, outputsMax := 4, engines := 1, granules := 1 }).set .ENG_K_STATE_STATE st 0
def imageHead : List Byte := [0x4E, 0x4B, 1, 1, 16] ++ List.replicate 15 0 ++ [1, 1, 1] ++ List.replicate 37 0 ++ [0xe2, 0xac, 0xf4, 0x97]
def kernelImage : State := (ran (pktEngKernelCreate [0] 80) up).modKernel 0 fun e => { e with image := [(0, imageHead)] }
def magIn (st : Nat) : State := (up.set .MED_M_STATE_STATE st 0).set .MED_M_USER_U 8 0
def label0 : Label := ⟨List.replicate 16 0, 0, 64, 8, 30, List.replicate 16 0, [2, 3], [4, 5, 6, 7, 8, 9, 10, 11], 12, false⟩
def magDir : State := (magIn magReady).setMag 0 { live := [(0, ⟨List.replicate 16 0, 1, 0, 0, 0, 0, 4, [(0, 1)], []⟩)] }
def takeIn (st : Nat) : State := (magIn magReady).setTake 0 { gen := 1, state := st, sides := [{ mag := 0, entry := 0 }] }
def codecIn (dest : Nat) : State := (up.wr .MLS_C_CFG (2 ^ 24 + dest * 2 ^ 17) 0).wr .SNS_GEOM 0x01000040 0
def decUp : State := ran (pktMlsDecCreate 0x0200 0 0 0 64 64 2 1 1 2500 0 1) up
def decIn (on : Bool) : State := if on then decUp.set .MLS_D_CFG_RUNNING 1 0 else decUp
def magPlay : State := (magIn magReady).setMag 0
  { live := [(0, ⟨List.replicate 16 0, 1, 0, 0, 0, 0, 0, [], [(1, 1)]⟩)], map := [(1, 0)], stripes := [(0, ⟨1, 0, [0x43, 0x4D, 1, 2]⟩)] }
def playUp : State := (ran (pktMlsDecCreate 0x0200 2 0 0 64 64 2 1 0 2500 0 1) magPlay).set .MLS_D_CFG_RUNNING 1 0
def tableUp : State := ran (pktPtuTableCreate 0 0 1 0 0 1 1 1 0) up
def frame0 : Frame := { id := 0, num := 1, sof := 0, start := 0, cols := 256, rows := 64, twoSubs := false, params := {}, timecode := 0,
                        userBits := 0, untriggered := false, dropped := false, inline := false, slot := false }
def withFrame (f : Frame) : State := (up.setCtx 0 { up.ctx 0 with frames := [f] }).wr .SNS_GEOM 0x01000040 0
def entry0 : QEntry := ⟨⟨0, 0, 0, 0, 0, 0⟩, 0, 0, some 0, none, none, some taken0, none⟩
def pcieUp : State := up.set .LNK_PCIE_CFG_PF_EN 1
def pcieHost : State := (pcieUp.set .CPI_SLOT_STATE_TRANSPORT 1 0).set .CPI_SLOT_STATE_ENDPOINT 0 0
def coding0 : Coding := { id := 0, num := 1, sof := 0, timecode := 0, userBits := 0, cols := 256, rows := 64, codedCols := 256,
                          codedRows := 64, profile := 0, cfa := 0, rawFmt := 0, headroom := 0, pedestal := 0, ws := 3, status := some 0,
                          hold := false, plan := ⟨1000, []⟩, planLate := false, switched := false, iFrame := true, gopPos := 0, scale := 0,
                          matrix := 0, tf := 0, p0 := 0, ended := some 0 }
def codecWith (c : Codec) : State := (codecIn 1).setCodec 0 c
def onStream : State := (codecIn 1).set .MLS_S_CFG_HANDLE 0x100 0
def tagged (op : Nat) : Task := { host := 0, op := op, flush := false, tag := 1, lba := 0, count := 1, buf := 0 }
def staged0 : Staged := { id := 0, host := 0, tag := 1, lba := 0, count := 1, data := none, todo := [0] }
def pend0 : Pend := { take := 0, num := 1, sof := 0, bytes := 0, ended := 0, unit := [] }
def magWith (k : Mag) : State := (magIn magReady).setMag 0 k
def linkIn (st : Nat) : State := (up.set .LNK_D_STAT_STATE st 0).set .LNK_D_CFG_LANES 1 0
def linkHost : State := ((linkIn linkUp).set .LNK_D_STAT_PARTNER 4 0).setLink 0 { pages := [(0, [4, 1, 1]), (1, [])], acked := true }
def audIn (st : Nat) : State := up.set .AUD_P_STAT_STATE st 0
def outUp (k : Out) : State := (up.set .OUT_O_CFG_RUN 1 0).setOutput 0 k
def phaseIn (p : Nat) : State := up.set .MEM_STATUS_PHASE p
def busIn (k : Bus) : State := up.setScb 0 k
def decoding0 : Decoding := { frame := 1, tag := 0, slices := 1, cfa := 0, matrix := 0, pFrame := false, noRef := false, inherited := false,
                              started := 0, slot := 0 }
def due0 : RtDue := { idx := 0, frame := 1, slice := 0, q := 0, floor := false, profile := 0, cols := 64, rows := 64, cfa := 0,
                      reference := none, bytes := [], recon := [] }
def shown0 : OutFrame := ⟨0, 0, 1, 0, false, true, []⟩
def portOn : State := up.setCtx 0 { up.ctx 0 with run := .running }
def hdr1 : Hdr := { hdr0 with via := .ring 1, slotByte := 1 }
def mail : Hdr := { hdr0 with via := .mailbox ⟨.draxa, 5⟩, slotByte := 0xFF }
/-- Nobody attached. -/
def ready : State := { State.reset with boot := { State.reset.boot with phase := .ready } }
def draxaHost : State := ((up.set .CPI_SLOT_STATE_STATE 1 1).set .CPI_SLOT_STATE_TRANSPORT 3 1).set .CPI_SLOT_STATE_ENDPOINT 5 1
def allTaken : State := (List.range 8).foldl (fun s n => s.set .CPI_SLOT_STATE_STATE 1 n) up
def wait0 : Waiting := ⟨.ring 0, 1, 0x0101, false, [], 0, false, .shutdown⟩
def manyWaiting : State := { up with cpi := { up.cpi with waiting := List.replicate 64 wait0 } }
def closing : State := { up with cpi := { up.cpi with shuttingDown := some 1 } }
def almostFull : State := up.setQueue 87 (List.replicate 63 entry0)
def held : State := { up with cpi := { up.cpi with waiting := [{ wait0 with resources := [0x0100] }] } }
def reply0 : Reply := ⟨0, 1, 0x0101, .DONE, 0, .empty⟩
def ringFull : State := up.setHost 0 { up.host 0 with replies := List.replicate 64 reply0 }
def deal0 : Nat × Entry := (24, ⟨0, 0, 0x20000000, 0, 0, 0⟩)
def deal0Hdr : Hdr := { hdr0 with paramLen := 28 }
def fullDeals : State := up.setQueue 24 (List.replicate 64 { entry0 with packet := none })
def safe : State := (magIn magReady).set .VAL_INT_STATUS_SAFE 1
def safeTake : State := (takeIn 1).set .VAL_INT_STATUS_SAFE 1

/-- A kernel with frame 1 delivered, its trailer seen or not. -/
def deliveringWith (status : Option Nat) : State := (kernelIn 3).modKernel 0 fun e =>
  { e with outputs := [(0, ⟨2, 4096, []⟩)]
           inputs := [(0, { frameKind := true, ctx := 0, tap := 0, fmt := 0, rows := 0, granules := 0, port := none,
                            delivered := [⟨0, 1, 0, status, none⟩] })] }
def delivering : State := deliveringWith (some 0)
def locked : State := (up.wr .DCK_SRC 1).set .DCK_STATUS_STATE dckLocked
def acquiring : State := ((up.wr .DCK_SRC 1).set .DCK_STATUS_STATE dckAcquire).set .DCK_STATUS_ACTIVE_SRC 1
def holding : State :=
  let s := (((up.wr .DCK_SRC 0x21).set .DCK_STATUS_STATE dckHoldover).set .DCK_CTRL_AUTO_FALLBACK 1)
  { s with dck := { s.dck with present := [2], lost := 1 } }
def staged : State := up.wr .DCK_STAGE 0x20000000 2
def flushing : State := up.modVal fun v => { v with powerFail := some 0 }
def spiBus : State := up.set .SNS_SCB_CFG_MODE 3 0
def portUp : State := ((up.set .SNS_PORT_CFG_ENABLE 1 0).set .SNS_PORT_CFG_LINKS 1 0).set .SNS_PORT_CFG_LANES_PER_LINK 4 0
def mounting : State := magIn magMounting
def foundOf (copy0 : LabelCopy) (slotA : Option Checkpoint) : MountFound := ⟨copy0, .invalid, slotA, none, [], []⟩
def checkpoint0 : Checkpoint := ⟨1, 0, [], 0, [], []⟩
def recordingTake : State := takeIn 2
/-- A sweep that passes everywhere, and one that passes nowhere. -/
def wide : List (Nat × Nat) := List.replicate 128 (2 ^ 64 - 1, 2 ^ 64 - 1)
def narrow : List (Nat × Nat) := List.replicate 128 (0, 0)
/-- The last reply in slot 0's ring: opcode and status. -/
def lastReply (c : Instr) (s : State) : Option (Nat × Status) := match exec c s with
  | .next t => (t.host 0).replies.getLast?.map fun r => (r.opcode, r.status)
  | _ => none
/-- A figure of the state a command leaves. -/
def after (c : Instr) (s : State) (f : State → Nat) : Option Nat := match exec c s with
  | .next t => some (f t)
  | _ => none
/-- The fault a command ends in. -/
def faultOf (c : Instr) (s : State) : Option Fault := match exec c s with
  | .fault f => some f
  | _ => none
/-- The values of the last reply. -/
def lastValues (c : Instr) (s : State) : Option (List Nat) := match exec c s with
  | .next t => (t.host 0).replies.getLast?.bind fun r => match r.body with
    | .values v => some v
    | .words v => some v
    | _ => none
  | _ => none

/-! ### Ill-formed commands: one for each check -/

theorem wf_sound : (Instr.regRead hdr0 0x10 1).wf = true := by decide
theorem wf_endpoints : (Instr.sysIdentity { hdr0 with via := .mailbox ⟨.pcie, 4⟩ }).wf = false ∧
    (Instr.sysIdentity { hdr0 with via := .mailbox ⟨.spi, 2⟩ }).wf = false ∧
    (Instr.sysIdentity { hdr0 with via := .mailbox ⟨.draxa, 128⟩ }).wf = false := by decide
theorem wf_paramLen : (Instr.sysIdentity { hdr0 with paramLen := 2 ^ 32 }).wf = false := by decide +kernel
theorem wf_fields : (Instr.regRead hdr0 (2 ^ 32) 1).wf = false ∧ (Instr.sysBootSet hdr0 256 0).wf = false ∧
    (Instr.resAssign hdr0 0 [0x10000]).wf = false ∧ (Instr.dckStep hdr0 (2 ^ 64)).wf = false ∧
    (Instr.engKernelStart hdr0 0x10000).wf = false := by decide +kernel
theorem wf_areas : (Instr.fwData hdr0 0 (List.replicate 4161 0)).wf = false ∧ (Instr.regWrite hdr0 0 1 (List.replicate 1025 0)).wf = false ∧
    (Instr.snsScbXfer hdr0 0 [1]).wf = false := by decide +kernel
theorem wf_reads : (Instr.staRead hdr0 0 ⟨0, 0, true, 0, 2 ^ 32⟩).wf = false ∧ (Instr.staRead hdr0 0 ⟨0, 2 ^ 64, true, 0, 4⟩).wf = false := by
  decide +kernel
theorem wf_signed : (Instr.ptuTableCreate hdr0 0 0 1 (2 ^ 63) 0 1 1 1 0).wf = false := by decide +kernel
theorem wf_line : (Instr.lineArrival 0 ⟨256, [], .none, false, false⟩).wf = false ∧ (Instr.lineArrival 0 ⟨0, [65536], .none, false, false⟩).wf = false := by
  decide +kernel
theorem wf_mount : (Instr.mount 0 (some ⟨.valid { label0 with serial := [] }, .invalid, none, none, [], []⟩)).wf = false ∧
    (Instr.mount 0 (some ⟨.valid label0, .unreadable, none, none, [], []⟩)).wf = true := by decide +kernel
theorem wf_telemetry : (Instr.telemetrySample ⟨[], [], [], [], 0, 0, [], []⟩).wf = false := by decide +kernel
theorem wf_startUp : (Instr.startUp ⟨true, true, true, none, true, 65536, [1, 1, 1, 1, 1, 1]⟩).wf = false ∧
    (Instr.startUp ⟨true, true, true, none, true, 900, [1]⟩).wf = false := by decide +kernel

/-! ### Values the spec works out -/

/-- R27: SNS_ID and VAL_ID. -/
theorem test_identity_registers : State.reset.rd .SNS_ID = 0x04420100 ∧ State.reset.rd .VAL_ID = 0x11420100 := by decide +kernel
/-- The table has no bits: no word spells a command. -/
theorem test_no_words : decodeTableWord 32 5 = none := by decide
/-- Worked example of Deal Clock: labels of a 23.976 fps take from T0. -/
theorem test_labels : (Anchor.mk 0 true false 0x01000000 900000000000).labelAt 900012512500 = 0x01000001 ∧
    (Anchor.mk 0 true false 0x01000000 900000000000).labelAt 918018000000 = 0x01010000 := by decide +kernel
/-- Four 48 kHz frames are 25,000 ticks (the same example). -/
theorem test_audio_lead : syncTicks 2 4 = 25000 := by decide
/-- Worked example of Known-answer pass: 63 units, IL_DEPTH 4, fused. -/
theorem test_colsMax : colsMax 63 4 1 = 12384 := by decide
/-- Periods of the worked example of The TX9 at a Glance. -/
theorem test_periods : outPeriod 0 = 12512500 ∧ outPeriod 1 = 12500000 ∧ outPeriod 3 = 10010000 ∧ outPeriod 8 = 5005000 := by decide
/-- R61 and R214: the published check values of CRC-32C and of CRC-16 with polynomial 0x1021 over "123456789" (PRESUMED). -/
theorem test_crcs : crc32c [0x31, 0x32, 0x33, 0x34, 0x35, 0x36, 0x37, 0x38, 0x39] = 0xE3069283 ∧
    crc16 [0x31, 0x32, 0x33, 0x34, 0x35, 0x36, 0x37, 0x38, 0x39] = 0x29B1 := by decide +kernel
/-- R267 and R282: the published digest of "abc" and the published P-256 signature of "sample" (PRESUMED). -/
theorem test_sha256 : unBigEndian (sha256 (ascii "abc")) = 0xba7816bf8f01cfea414140de5dae2223b00361a396177a9cb410ff61f20015ad := by
  decide +kernel
theorem test_ecdsa : signWith 0xC9AFA9D845BA75166B5C215767B1D6934E50C3DB36E89B127B8A622B120F6721
    0xA6E3C57DD01ABE90086538398355DD4C3B17AA873382B0F24D6129493D8AAD60
    (bigEndian 32 0xAF2BDBE1AA9B6EC1E2ADE1D694F41FC71A831D0268E9891562113D8A62ADD1BF) =
    (0xEFD48B2AACB6A8FD1140DD9CD45E81D69D2C877B56AAF991C34D0EA84EAF3716,
     0xF7CB1C942D657C41D436C7A1B6E29F65F3E900DBB9AFF4064DC4AB2F843ACDA8) := by decide +kernel
/-- R207 at 1.0, −1.0 and infinity. -/
theorem test_ordered : orderedCode 0x3C00 = 0xBC00 ∧ orderedCode 0xBC00 = 0x43FF ∧ orderedCode 0x7C00 = 0xFBFF := by decide
/-- R211. -/
theorem test_escape : escape [0, 0, 1, 0, 0, 0] = [0, 0, 3, 1, 0, 0, 3, 0] := by decide

/-! ### Single commands -/

/-- R62: a packet replies with its opcode and DONE. -/
theorem test_identity_replies : lastReply (.sysIdentity hdr0) up = some (0x0101, .DONE) := by decide +kernel
/-- R26. -/
theorem test_high_address : lastReply (.regRead { hdr0 with paramLen := 8 } 0x10000000 1) up = some (0x0103, .CPI_BAD_ADDRESS) := by
  decide +kernel
/-- R8, R27: a block's first word is its identity. -/
theorem test_regRead : lastValues (.regRead { hdr0 with paramLen := 8 } 0x02000000 1) up = some [0x04420100] := by decide +kernel
/-- R65: the magic is checked first. -/
theorem test_magic_first : lastReply (.regRead { hdr0 with magic := 0, crcOk := false } 1 1) up = some (0x0103, .CPI_BAD_MAGIC) := by
  decide +kernel
/-- R80: RES_ASSIGN to the shared pool moves the resource. -/
theorem test_resAssign : after (.resAssign hdr0 0xFF [0x0100]) up (fun t => t.owner 0x0100) = some 0xFF := by decide +kernel
/-- R83: a lease that runs out ends the session, and the slot is free. -/
theorem test_leaseExpiry : after (.leaseExpiry 1) (base 1) (fun t => t.get .CPI_SLOT_STATE_STATE 1) = some 0 := by decide +kernel
/-- R56: a scheduled packet takes a place on DP87. -/
theorem test_scheduled : after (.snsCtxDisable { hdr0 with launch := 1000 } 0) up (fun t => (t.queue 87).length) = some 1 := by decide +kernel
/-- R373: AUD_CLOCK_START leaves STOPPED for CLOCKED. -/
theorem test_clockStart : after (.audClockStart 0) up (fun t => t.audState 0) = some 1 := by decide +kernel
/-- R398: a count change counts up, down with INVERT. -/
theorem test_encoder : after (.encoderCountChange 0 true) up (fun t => (t.count 0).toNat) = some 1 := by decide +kernel
/-- R331: PRBS_START on a quad that is not in TEST has no effect but the event. -/
theorem test_prbs : after (.prbsStart 0 0) up (fun t => t.lnk.checking.length) = some 0 := by decide +kernel
/-- A launch of a packet that waits on no port: the one fault (log 4). -/
theorem test_packetExec : faultOf (.packetExec 0 1) up = some .noLaunchedPacket := by decide +kernel

/-! ### States that meet the hypotheses -/

theorem wit_StepRunsFrontCommand : State.reset.pending = [] ∧ State.reset.timeRuns = false ∧ up.timeRuns = true := by
  refine ⟨?_, ?_, ?_⟩ <;> decide +kernel
theorem wit_EveryCommandAnswers : ∀ slot seq, Instr.bypass ≠ .packetExec slot seq := by simp
theorem wit_CommandsKeepTheQueue : ∃ t, exec (.sysIdentity hdr0) up = .next t := ⟨_, rfl⟩
theorem wit_StepsShowThePins : PinsShow State.reset ∧ ∃ t, step State.reset = .next t := ⟨by decide +kernel, _, rfl⟩
/-- One header or state for each check of R65. -/
theorem wit_PacketsAreRefusedInOrder :
    Arrives up 0 { hdr0 with magic := 0 } ∧
    Arrives up 0 { hdr0 with version := 2 } ∧ Arrives up 0 { hdr0 with slotByte := 1 } ∧ Arrives up 0 { hdr0 with paramLen := 4100 } ∧
    Arrives up 0 { hdr0 with paramLen := 4095 } ∧ Arrives up 0 { hdr0 with paramLen := 4096, crcOk := false } ∧
    Arrives up 0 { hdr0 with flags := 4 } ∧ Arrives up 0 { hdr0 with reserved := 1 } ∧
    (Arrives up 0 { hdr0 with launch := 1 } ∧ (pktSysBootSet 1 0).immediate = true) ∧
    (Arrives up 0 { hdr0 with paramLen := 4 } ∧ headerStatus { hdr0 with paramLen := 4 } pktSysIdentity.immediate = .DONE ∧
      pktSysIdentity.fits { hdr0 with paramLen := 4 } = false) ∧
    (headerStatus hdr0 false = .DONE ∧ (pktSnsInfo 8).fits hdr0 = true ∧ (pktSnsInfo 8).params (up.taken 0) ≠ .DONE) ∧
    (Arrives manyWaiting 0 hdr0 ∧ pktSysIdentity.fits hdr0 = true ∧ pktSysIdentity.params (manyWaiting.taken 0) = .DONE ∧
      64 ≤ (manyWaiting.taken 0).pendingOf 0) := by
  refine ⟨?_, ?_, ?_, ?_, ?_, ?_, ?_, ?_, ?_, ?_, ?_, ?_⟩ <;> decide +kernel
theorem wit_packetOf : packetOf (.sysIdentity hdr0) = some (hdr0, pktSysIdentity) := rfl
theorem wit_PacketsAreRefusedInOrder_later :
    (Passes (base 1) 1 hdr1 (pktSnsCtxDisable 0) ∧ Unheld (base 1) 1 hdr1 (pktSnsCtxDisable 0) ∧
      ((base 1).taken 1).judgeAll 1 ((pktSnsCtxDisable 0).rights 1 ((base 1).taken 1)) ≠ .DONE) ∧
    (Passes closing 0 hdr0 (pktSnsCtxDisable 0) ∧ Unheld closing 0 hdr0 (pktSnsCtxDisable 0) ∧
      (closing.taken 0).judgeAll 0 ((pktSnsCtxDisable 0).rights 0 (closing.taken 0)) = .DONE ∧
      closing.cpi.shuttingDown ≠ none ∧ (pktSnsCtxDisable 0).cls ≠ .observe) ∧
    (Passes up 0 hdr0 (pktSnsCtxEnable 0) ∧ Unheld up 0 hdr0 (pktSnsCtxEnable 0) ∧ Served up (pktSnsCtxEnable 0) ∧
      (up.taken 0).judgeAll 0 ((pktSnsCtxEnable 0).rights 0 (up.taken 0)) = .DONE ∧
      (pktSnsCtxEnable 0).checks 0 (up.taken 0) ≠ .DONE) := by
  refine ⟨?_, ?_, ?_⟩ <;> decide +kernel
theorem wit_PacketsWaitTheirTurn :
    (Passes up 0 { hdr0 with launch := 1 } (pktSnsCtxDisable 0) ∧ ((up.taken 0).queue 87).length < 64) ∧
    (Passes almostFull 0 { hdr0 with launch := 1 } (pktSnsCtxDisable 0) ∧ ((almostFull.taken 0).queue 87).length = 63) ∧
    (Passes held 0 hdr0 (pktSnsCtxDisable 0) ∧
      (held.taken 0).mayBeginNow (.ring 0) (fenceOf hdr0) ((pktSnsCtxDisable 0).acts 0 (held.taken 0)) = false) ∧
    (ringFull.boot.phase = .ready ∧ ringFull.attached 0 = true ∧ ringFull.untakenOf 0 = 0 ∧ 64 ≤ (ringFull.host 0).replies.length ∧
      (hdr0.via, hdr0.seq) ∉ ringFull.cpi.resuming ∧ (hdr0.via, hdr0.seq) ∉ ringFull.cpi.taking) := by
  refine ⟨?_, ?_, ?_, ?_⟩ <;> decide +kernel
theorem wit_HostAttachTakesASlot :
    (mail.via = .mailbox ⟨.draxa, 5⟩ ∧ up.boot.phase = .ready ∧ headerStatus mail true = .DONE ∧ (mail.via, mail.seq) ∉ up.cpi.resuming ∧
      up.cpi.shuttingDown = none ∧ up.mayBeginNow mail.via (fenceOf mail) [] = true) ∧
    (up.slotAt ⟨.draxa, 5⟩ = none ∧ (⟨.draxa, 5⟩ : Endpoint) ≠ up.boot.endpoint ∧ up.slotFree 1 = true) ∧
    (draxaHost.slotAt ⟨.draxa, 5⟩ ≠ none ∧ draxaHost.mayBeginNow mail.via (fenceOf mail) [] = true) ∧
    (ready.slotAt ready.boot.endpoint = none ∧ ready.boot.endpoint = ⟨.spi, 0⟩ ∧ ready.boot.phase = .ready) ∧
    (allTaken.slotAt ⟨.draxa, 5⟩ = none ∧ (⟨.draxa, 5⟩ : Endpoint) ≠ allTaken.boot.endpoint ∧
      (∀ n < 8, n ≠ 0 → allTaken.slotFree n = false)) ∧
    Begins up 0 hdr0 (pktHostAttach 100 (List.replicate 16 0)) := by
  refine ⟨?_, ?_, ?_, ?_, ?_, ?_⟩ <;> decide +kernel
theorem wit_RegistersReadBack : Reg.addr .SNS_GEOM 1 0 ≠ Reg.addr .SNS_GEOM 0 0 ∧
    (Fld.SNS_GEOM_COLS.lo ≤ Fld.SNS_GEOM_COLS.hi ∧ Fld.SNS_GEOM_COLS.hi = 31) ∧
    (Fld.SNS_GEOM_ROWS.reg = Fld.SNS_GEOM_COLS.reg ∧ Fld.SNS_GEOM_ROWS.hi < Fld.SNS_GEOM_COLS.lo) ∧ Rising State.reset.regs := by
  refine ⟨?_, ?_, ?_, ?_⟩ <;> decide +kernel
theorem wit_HighAddressesAreRefused : Arrives up 0 hdr0 ∧ headerStatus hdr0 false = .DONE ∧ 0x10000000 ≤ 0x10000000 ∧ 0x0FFFFFFE % 4 ≠ 0 := by
  refine ⟨?_, ?_, ?_, ?_⟩ <;> decide +kernel
theorem wit_ReservedBitsReadZero : regAt 0x0000FFFC = none ∧ regAt 0x02010000 = some (.SNS_PORT_CFG, 0, 0) ∧
    (∀ f ∈ Reg.SNS_PORT_CFG.fields, 13 < f.lo ∨ f.hi < 13) ∧ Begins up 0 hdr0 (pktRegRead 0x0000FFFC 1) ∧
    Begins up 0 hdr0 (pktRegWrite 0x0000FFFC 1 [5]) := by
  refine ⟨?_, ?_, ?_, ?_, ?_⟩ <;> decide +kernel
theorem wit_DealQueueInsertsAllOrNone :
    (Arrives up 0 hdr0 ∧ headerStatus hdr0 false = .DONE) ∧
    (Passes up 0 deal0Hdr (pktDealQueue [deal0]) ∧ Unheld up 0 deal0Hdr (pktDealQueue [deal0]) ∧ Served up (pktDealQueue [deal0]) ∧
      (up.taken 0).judgeAll 0 ([deal0].flatMap fun (p, e) => (up.taken 0).entryRights p e) = .DONE ∧ (up.queue 24).length + 1 ≤ 64) ∧
    (Passes fullDeals 0 deal0Hdr (pktDealQueue [deal0]) ∧ Unheld fullDeals 0 deal0Hdr (pktDealQueue [deal0]) ∧ Served fullDeals (pktDealQueue [deal0]) ∧
      (fullDeals.taken 0).judgeAll 0 ([deal0].flatMap fun (p, e) => (fullDeals.taken 0).entryRights p e) = .DONE ∧
      64 < ((fullDeals.taken 0).queue 24).length + 1) := by
  refine ⟨?_, ?_, ?_⟩ <;> decide +kernel
theorem wit_DealEntriesStayInOrder : [entry0].Pairwise (fun a b => a.key ≤ b.key) ∧ 4 < ({ entry0 with due := some 5 } : QEntry).key ∧
    entry0.key ≤ 0 := by
  refine ⟨?_, ?_, ?_⟩ <;> decide +kernel
theorem wit_OwnersChangeAtOneCut : Begins up 0 hdr0 (pktResAssign 0xFF [0x0100, 0x0D3F]) ∧ Begins up 0 hdr0 (pktResRelease [0x0100]) := by
  refine ⟨?_, ?_⟩ <;> decide +kernel
theorem wit_SafeStateRefusesTakes :
    ((safe.taken 0).safe = true ∧ Passes safe 0 hdr0 (pktMedTakePrepare 0 0 0xFF (List.replicate 16 0) []) ∧
      Unheld safe 0 hdr0 (pktMedTakePrepare 0 0 0xFF (List.replicate 16 0) []) ∧ Served safe (pktMedTakePrepare 0 0 0xFF (List.replicate 16 0) []) ∧
      (safe.taken 0).judgeAll 0 ((pktMedTakePrepare 0 0 0xFF (List.replicate 16 0) []).rights 0 (safe.taken 0)) = .DONE) ∧
    (Passes safeTake 0 hdr0 (pktMedTakeStart 0x100) ∧ Unheld safeTake 0 hdr0 (pktMedTakeStart 0x100) ∧ Served safeTake (pktMedTakeStart 0x100) ∧
      (safeTake.taken 0).judgeAll 0 ((pktMedTakeStart 0x100).rights 0 (safeTake.taken 0)) = .DONE ∧ (safeTake.taken 0).safe = true) ∧
    (Passes safe 0 hdr0 (pktMedMagFormat 0 (some 10)) ∧ Unheld safe 0 hdr0 (pktMedMagFormat 0 (some 10)) ∧ Served safe (pktMedMagFormat 0 (some 10)) ∧
      (safe.taken 0).judgeAll 0 ((pktMedMagFormat 0 (some 10)).rights 0 (safe.taken 0)) = .DONE) := by
  refine ⟨?_, ?_, ?_⟩ <;> decide +kernel
theorem wit_HeaderFieldsArePacked : (packFields [(4, 5), (3, 7)]).length % 7 = 0 := by decide
theorem wit_HeadersReadBack : ∀ f ∈ frameHeaderWidths.zip
    (⟨15, 3, 4294967295, 32767, 16383, 32767, 16383, 7, 1, 7, 4095, 15, 1, 255, 127, 1, 15⟩ : FrameHeader).values, f.2 < 2 ^ f.1 := by decide
/-- A level at the end of R216's range, and a block state whose predictor is small. -/
theorem wit_CodedBlocksReadBack : (-(2 ^ 31 : Int) ≤ -(2 ^ 31) ∧ -(2 ^ 31 : Int) < 2 ^ 31) ∧
    (∀ v ∈ [(2 : Int) ^ 30 - 1, -(2 ^ 30) + 1], -(2 ^ 30) < v ∧ v < 2 ^ 30) ∧ ({} : BlockState).preds.getD 0 0 = 0 := by decide
theorem wit_SliceTableEntries : (∀ x ∈ [SliceInfo.mk true 127 (2 ^ 24 - 1) 0], x.q < 128 ∧ x.length < 2 ^ 24) ∧
    24 + ([SliceInfo.mk true 127 (2 ^ 24 - 1) 0].map (·.length)).sum < 2 ^ 32 := by decide
theorem wit_TimecodeLabelsCountFrames : (2589407 < dayFrames 30 true ∧ 2591999 < dayFrames 30 false) ∧
    ((Anchor.mk 2 false true 0 0).code < 6 ∧ (Anchor.mk 5 false true 0 0).code < 6) := by decide
/-- The last of each list of the frame statements; the others are met by the witnesses of the packets below. -/
theorem wit_frames : Begins up 0 hdr0 pktIntInfo ∧ Begins up 0 hdr0 (pktResQuery [0x0100]) ∧ Begins up 0 hdr0 (pktEngInfo false 0) ∧
    Begins up 0 hdr0 (pktOutSdpRead 0) ∧ Begins up 0 hdr0 (pktEvfStormSet 300000000) ∧ Begins up 0 hdr0 (pktValMonConfig 63 0 31 0) ∧
    (297000 ≤ 303000 ∧ 303000 ≤ 303000) := by
  refine ⟨?_, ?_, ?_, ?_, ?_, ?_, ?_⟩ <;> decide +kernel

/-! ### Seals and a prepared take: their conditions are proved, not evaluated -/

def calSeal : State := up.set .COL_CTX_CFG_CAL_ALLOC 1 0
def calGood : State := (up.set .COL_CTX_CFG_CAL_ALLOC 1 0).setCalBank 0 1 { entries := [(200000, 0x10001)] }
def lookBad : State := (up.set .COL_LOOK_CFG_BANKS 2 0).setLookBank 0 1 { entries := [(12288, 0x7C00)] }
def lookGood : State := up.set .COL_LOOK_CFG_BANKS 2 0

theorem other_crc (n : Nat) : ∃ crc : BitVec 32, n ≠ crc.toNat := by
  by_cases h : n = 0
  · exact ⟨1, by simp [h]⟩
  · exact ⟨0, by simpa using h⟩

theorem crcStep_lt (k c : Nat) (h : c < 2 ^ 32) : crcStep k c < 2 ^ 32 := by
  induction k generalizing c with
  | zero => exact h
  | succ k ih =>
    rw [crcStep]
    split
    · exact ih _ (Nat.xor_lt_two_pow (by omega) (by decide))
    · exact ih _ (by omega)

theorem crc32c_lt (bs : List Byte) : crc32c bs < 2 ^ 32 := by
  suffices h : ∀ c < 2 ^ 32, bs.foldl (fun c b => crcStep 8 (c ^^^ b.toNat)) c < 2 ^ 32 from
    Nat.xor_lt_two_pow (by decide) (h _ (by decide))
  induction bs with
  | nil => exact fun c h => h
  | cons b bs ih => exact fun c h => ih _ (crcStep_lt _ _ (Nat.xor_lt_two_pow h (by omega)))

theorem own_crc (bs : List Byte) : ∃ crc : BitVec 32, crc32c bs = crc.toNat :=
  ⟨BitVec.ofNat 32 (crc32c bs), by rw [BitVec.toNat_ofNat]; exact (Nat.mod_eq_of_lt (crc32c_lt bs)).symm⟩

theorem calValid_good : ({ entries := [(200000, 0x10001)] } : TableBank).calValid = true := by
  have h : ((List.range 35937).all fun i => decide ((({ entries := [(200000, 0x10001)] } : TableBank)).node i / 1024 <
      bitsOf ((({ entries := [(200000, 0x10001)] } : TableBank)).param 0) 23 16)) = true := by
    rw [List.all_eq_true]
    intro i hi
    have hi := List.mem_range.1 hi
    have n : (({ entries := [(200000, 0x10001)] } : TableBank)).node i = 0 := by
      simp [TableBank.node, tgetD, tget, show ¬200000 = i by omega]
    rw [n]
    decide +kernel
  unfold TableBank.calValid
  simp only [h]
  decide +kernel
/-- Beginning depends on nothing of a packet but its checks, its rights and what it acts on. -/
theorem begins_alike {s : State} {n : Fin 8} {h : Hdr} {m k : Packet} (i : m.immediate = k.immediate) (l : m.length = k.length)
    (c : m.cls = k.cls) (p : m.params = k.params) (r : m.rights = k.rights) (a : m.acts = k.acts) (x : m.checks = k.checks)
    (b : Begins s n h m) : Begins s n h k := by
  simpa only [Begins, Passes, Unheld, Served, Packet.fits, i, l, c, p, r, a, x] using b
theorem calSeal_begins {s : State} (crc : BitVec 32) (b : Begins s 0 hdr0 (pktColCalSeal 0 1 0)) : Begins s 0 hdr0 (pktColCalSeal 0 1 crc) := by
  refine begins_alike ?_ ?_ ?_ ?_ ?_ ?_ ?_ b <;> dsimp only [pktColCalSeal]
theorem lookSeal_begins {s : State} (crc : BitVec 32) (b : Begins s 0 hdr0 (pktColLookSeal 0 1 0)) :
    Begins s 0 hdr0 (pktColLookSeal 0 1 crc) := by
  refine begins_alike ?_ ?_ ?_ ?_ ?_ ?_ ?_ b <;> dsimp only [pktColLookSeal]
theorem wit_calSeal_other : ∃ crc, Begins calSeal 0 hdr0 (pktColCalSeal 0 1 crc) ∧ crc32c ((calSeal.taken 0).calBank 0 1).calImage ≠ crc.toNat := by
  have h : Begins calSeal 0 hdr0 (pktColCalSeal 0 1 0) := by decide +kernel
  obtain ⟨crc, e⟩ := other_crc (crc32c ((calSeal.taken 0).calBank 0 1).calImage)
  exact ⟨crc, calSeal_begins crc h, e⟩
theorem wit_calSeal_invalid : ∃ crc, Begins calSeal 0 hdr0 (pktColCalSeal 0 1 crc) ∧ crc32c ((calSeal.taken 0).calBank 0 1).calImage = crc.toNat ∧
    ((calSeal.taken 0).calBank 0 1).calValid = false := by
  have h : Begins calSeal 0 hdr0 (pktColCalSeal 0 1 0) := by decide +kernel
  obtain ⟨crc, e⟩ := own_crc ((calSeal.taken 0).calBank 0 1).calImage
  exact ⟨crc, calSeal_begins crc h, e, by decide +kernel⟩
theorem wit_calSeal_done : ∃ crc, Begins calGood 0 hdr0 (pktColCalSeal 0 1 crc) ∧ crc32c ((calGood.taken 0).calBank 0 1).calImage = crc.toNat ∧
    ((calGood.taken 0).calBank 0 1).calValid = true := by
  have h : Begins calGood 0 hdr0 (pktColCalSeal 0 1 0) := by decide +kernel
  obtain ⟨crc, e⟩ := own_crc ((calGood.taken 0).calBank 0 1).calImage
  exact ⟨crc, calSeal_begins crc h, e, calValid_good⟩
theorem wit_lookSeal_other : ∃ crc, Begins lookBad 0 hdr0 (pktColLookSeal 0 1 crc) ∧ crc32c ((lookBad.taken 0).lookBank 0 1).lookImage ≠ crc.toNat := by
  have h : Begins lookBad 0 hdr0 (pktColLookSeal 0 1 0) := by decide +kernel
  obtain ⟨crc, e⟩ := other_crc (crc32c ((lookBad.taken 0).lookBank 0 1).lookImage)
  exact ⟨crc, lookSeal_begins crc h, e⟩
theorem wit_lookSeal_invalid : ∃ crc, Begins lookBad 0 hdr0 (pktColLookSeal 0 1 crc) ∧ crc32c ((lookBad.taken 0).lookBank 0 1).lookImage = crc.toNat ∧
    ((lookBad.taken 0).lookBank 0 1).lookValid = false := by
  have h : Begins lookBad 0 hdr0 (pktColLookSeal 0 1 0) := by decide +kernel
  obtain ⟨crc, e⟩ := own_crc ((lookBad.taken 0).lookBank 0 1).lookImage
  exact ⟨crc, lookSeal_begins crc h, e, by decide +kernel⟩
theorem wit_lookSeal_done : ∃ crc, Begins lookGood 0 hdr0 (pktColLookSeal 0 1 crc) ∧ crc32c ((lookGood.taken 0).lookBank 0 1).lookImage = crc.toNat ∧
    ((lookGood.taken 0).lookBank 0 1).lookValid = true := by
  have h : Begins lookGood 0 hdr0 (pktColLookSeal 0 1 0) := by decide +kernel
  obtain ⟨crc, e⟩ := own_crc ((lookGood.taken 0).lookBank 0 1).lookImage
  exact ⟨crc, lookSeal_begins crc h, e, by decide +kernel⟩

theorem unle_zero : ∀ l : List Byte, (∀ b ∈ l, b = 0) → unle l = 0
  | [], _ => rfl
  | b :: t, h => by simp [unle, h b (by simp), unle_zero t fun x hx => h x (by simp [hx])]
/-- A directory entry of a magazine that holds nothing is free. -/
theorem empty_dir (e : Nat) : (({} : Mag).dir e).state = 0 := by
  refine unle_zero _ fun b hb => ?_
  have := List.mem_of_mem_drop (List.mem_of_mem_take hb)
  replace this := List.mem_of_mem_drop (List.mem_of_mem_take this)
  obtain ⟨g, -, hg⟩ := List.mem_flatMap.1 this
  have z : ¬granuleBytes = 0 ∧ b = 0 := by simpa [Mag.granule, tget] using hg
  exact z.2
theorem empty_used : ({} : Mag).dirUsed = [] := by simp [Mag.dirUsed, empty_dir]
def blank : State := magIn magReady
theorem blank_magz : (blank.taken 0).magz 0 = {} := by rfl
theorem wit_takePrepare : Begins blank 0 hdr0 (pktMedTakePrepare 0 0 0xFF (List.replicate 16 0) []) ∧ ((blank.taken 0).freeTakeSlot).isSome := by
  have e1 : ((blank.taken 0).freeEntry 0).isSome = true := by
    simp only [State.freeEntry, List.find?_isSome, blank_magz, empty_dir]
    exact ⟨0, List.mem_range.2 (by omega), by decide +kernel⟩
  have e2 : (((blank.taken 0).magz 0).freeExtents ((blank.taken 0).get .MED_M_USER_U 0)).isEmpty = false := by
    rw [blank_magz, Mag.freeExtents, empty_used]
    decide +kernel
  have e3 : (pktMedTakePrepare 0 0 0xFF (List.replicate 16 0) []).checks 0 (blank.taken 0) = .DONE := by
    have p : prepMags 0 0xFF = [0] := by decide
    simp only [pktMedTakePrepare, p, List.map_cons, List.map_nil, List.all_cons, List.all_nil, Bool.and_true, e1, e2]
    decide +kernel
  exact ⟨⟨by decide +kernel, by decide +kernel, by decide +kernel, by decide +kernel, e3⟩, by decide +kernel⟩

/-! ### One state and operands for every clause with hypotheses -/

theorem wit_SystemPacketsDo :
  (Begins up 0 hdr0 (pktSysIdentity )) ∧
  (Begins up 0 hdr0 (pktSysStatus )) ∧
  (Begins up 0 hdr0 (pktRegRead 0 1)) ∧
  (Begins up 0 hdr0 (pktRegWrite 0x10 1 [0])) ∧
  (Begins up 0 hdr0 (pktRegModify 0x10 0 0)) ∧
  (Begins up 0 hdr0 (pktSysReset 0)) ∧
  (Begins up 0 hdr0 (pktSysShutdown )) ∧
  (Begins up 0 hdr0 (pktFwBegin 64)) ∧
  (Begins ({ up with cpi := { up.cpi with fw := some ⟨64, [], false⟩ } }) 0 hdr0 (pktFwData 0 [1, 2, 3, 4])) ∧
  (Begins ({ up with cpi := { up.cpi with fw := some ⟨64, [], false⟩ } }) 0 hdr0 (pktFwCommit )) ∧
  (Begins up 0 hdr0 (pktSysSubscribe 0)) ∧
  (Begins up 0 hdr0 (pktSysBootSet 1 0)) := by
  refine ⟨?_, ?_, ?_, ?_, ?_, ?_, ?_, ?_, ?_, ?_, ?_, ?_⟩ <;> decide +kernel

theorem wit_SessionPacketsDo :
  (Begins up 0 hdr0 (pktHostDetach )) ∧
  (Begins up 0 hdr0 (pktHostHeartbeat )) ∧
  (Begins up 0 hdr0 (pktHostList )) ∧
  (Begins up 0 hdr0 (pktLeaseSet 0 1000)) ∧
  (Begins up 0 hdr0 (pktResAssign 0xFF [0x0100])) ∧
  (Begins up 0 hdr0 (pktResRelease [0x0100])) ∧
  (Begins up 0 hdr0 (pktResQuery [0x0100])) ∧
  (Begins up 0 hdr0 (pktPartSet 0 0 0)) := by
  refine ⟨?_, ?_, ?_, ?_, ?_, ?_, ?_, ?_⟩ <;> decide +kernel

theorem wit_DealClockPacketsDo :
  (Begins up 0 hdr0 (pktDckInfo )) ∧
  (Begins up 0 hdr0 (pktDckSourceSet 0x00000001 0 0x0A00)) ∧
  (Begins up 0 hdr0 (pktDckStep 0)) ∧
  (Begins up 0 deal0Hdr (pktDealQueue [deal0])) ∧
  (Begins up 0 hdr0 (pktDealCancel 0 0)) ∧
  (Begins up 0 hdr0 (pktDealPortSet 0 0)) ∧
  (Begins up 0 hdr0 (pktTcSet 0 0 0 0 false)) ∧
  (Begins up 0 hdr0 (pktDealList 0)) := by
  refine ⟨?_, ?_, ?_, ?_, ?_, ?_, ?_, ?_⟩ <;> decide +kernel

theorem wit_SensorPacketsDo :
  (Begins up 0 hdr0 (pktSnsInfo 0)) ∧
  (Begins portOn 0 hdr0 (pktSnsPortConfig 0 (BitVec.ofNat 32 (portOn.rd .SNS_PORT_CFG 0))
      ((List.range 16).map fun k => BitVec.ofNat 32 (portOn.rd .SNS_PORT_MAP 0 k)) (BitVec.ofNat 32 (portOn.rd .SNS_PORT_SYNC 0))) ∧
    (portOn.taken 0).enabled 0 = true) ∧
  (Begins up 0 hdr0 (pktSnsPortConfig 0 0 (List.replicate 16 0) 0) ∧ ¬((up.taken 0).enabled 0 = true)) ∧
  (Begins up 0 hdr0 (pktSnsCtxConfig 0 0 0x01000040 0x00010401 0 0)) ∧
  (Begins (up.set .PIP_CTX_LB_UNITS 1 0) 0 hdr0 (pktSnsCtxEnable 0)) ∧
  (Begins up 0 hdr0 (pktSnsCtxDisable 0) ∧
    (fun (s : State) (ctx : Nat) =>
    decide (!s.enabled ctx)) (up.taken 0) 0 = true) ∧
  (Begins ((withFrame frame0).setCtx 0 { (withFrame frame0).ctx 0 with run := .running }) 0 hdr0 (pktSnsCtxDisable 0) ∧
    (fun (s : State) (ctx : Nat) =>
    let t := s.disableCtx ctx;
    decide (s.enabled ctx) &&
    (decide (t.enabled ctx))) (((withFrame frame0).setCtx 0 { (withFrame frame0).ctx 0 with run := .running }).taken 0) 0 = true) ∧
  (Begins (up.setCtx 0 { up.ctx 0 with run := .running }) 0 hdr0 (pktSnsCtxDisable 0) ∧
    (fun (s : State) (ctx : Nat) =>
    let t := s.disableCtx ctx;
    decide (s.enabled ctx) &&
    (decide (¬(t.enabled ctx)))) ((up.setCtx 0 { up.ctx 0 with run := .running }).taken 0) 0 = true) ∧
  (Begins up 0 hdr0 (pktSnsScbConfig 0 0x00010000)) ∧
  (Begins up 0 hdr0 (pktSnsScbListLoad 0 0 [[0xF0, 0, 0, 0, 0, 0, 0, 0]])) ∧
  (Begins up 0 hdr0 (pktSnsScbXfer 0 [0x10, 0, 0, 0, 0, 0, 0, 0])) ∧
  (Begins up 0 hdr0 (pktSnsScbResult 0 0)) := by
  refine ⟨?_, ?_, ?_, ?_, ?_, ?_, ?_, ?_, ?_, ?_, ?_, ?_⟩ <;> decide +kernel

theorem wit_PipelinePacketsDo :
  (Begins up 0 hdr0 (pktPipInfo 0)) ∧
  (Begins up 0 hdr0 (pktPipCtxConfig 0 0x00800001 0)) ∧
  (Begins up 0 hdr0 (pktPipParamSet 0 [0, 0x01000000, 0, 0, 0, 0, 0x00100010, 0, 0, 1, 0])) ∧
  (Begins up 0 hdr0 (pktPipDefectLoad 0 1 0 1 true [0])) ∧
  (Begins up 0 hdr0 (pktPipShadeLoad 0 1 0 0 1 [4096])) ∧
  (Begins up 0 hdr0 (pktPipTapConfig 0 0)) ∧
  (Begins up 0 hdr0 (pktPipInlineSet 0) ∧
    (fun (s : State) (ctx : Nat) =>
    match s.inlineSwitch ctx with
    | (.refused, _) => (true)
    | _ => false) (up.taken 0) 0 = true) ∧
  (Begins (((up.setCtx 0 { up.ctx 0 with run := .running }).set .PIP_CTX_CFG_INLINE_OK 1 0).set .PIP_INLINE_VALID 1) 0 hdr0
    (pktPipInlineSet 0) ∧
    (fun (s : State) (ctx : Nat) =>
    match s.inlineSwitch ctx with
    | (.done, _) => (true)
    | _ => false) ((((up.setCtx 0 { up.ctx 0 with run := .running }).set .PIP_CTX_CFG_INLINE_OK 1 0).set .PIP_INLINE_VALID 1).taken 0)
      0 = true) ∧
  (Begins ((up.setCtx 0 { up.ctx 0 with run := .running }).set .PIP_CTX_CFG_INLINE_OK 1 0) 0 hdr0 (pktPipInlineSet 0) ∧
    (fun (s : State) (ctx : Nat) =>
    match s.inlineSwitch ctx with
    | (.pending, _) => (true)
    | _ => false) (((up.setCtx 0 { up.ctx 0 with run := .running }).set .PIP_CTX_CFG_INLINE_OK 1 0).taken 0) 0 = true) ∧
  (Begins (up.putPipBank 0 1 { allocated := true, last := true, nodes := List.replicate 33540 (0, 1) }) 0 hdr0 (pktPipBankSwap 0 1)) ∧
  (Begins up 0 hdr0 (pktPipDropLog 0)) := by
  refine ⟨?_, ?_, ?_, ?_, ?_, ?_, ?_, ?_, ?_, ?_, ?_⟩ <;> decide +kernel

theorem wit_ColourAndStatisticsPacketsDo_1 :
  (Begins up 0 hdr0 (pktColInfo false 0)) ∧
  (Begins up 0 hdr0 (pktColCtxConfig 0 0 0)) ∧
  (Begins (up.set .COL_CTX_CFG_CAL_ALLOC 1 0) 0 hdr0 (pktColCalLoad 0 1 0 0 1 [0]) ∧
    (fun (_ : State) (region : Nat) =>
    match calRegion region with
    | some (_, _, _) => (true)
    | _ => false) ((up.set .COL_CTX_CFG_CAL_ALLOC 1 0).taken 0) 0 = true) ∧
  (Begins (up.set .COL_CTX_BANK_COMPLETE 2 0) 0 hdr0 (pktColCalSwap 0 1)) ∧
  (Begins up 0 hdr0 (pktColLookConfig 0 0 1 0)) ∧
  (Begins (up.set .COL_LOOK_CFG_BANKS 2 0) 0 hdr0 (pktColLookLoad 0 1 0 0 1 [0])) ∧
  (Begins (((up.set .COL_LOOK_CFG_BANKS 2 0).set .COL_LOOK_BANK_COMPLETE 2 0).set .OUT_O_CFG_RUN 1 0) 0 hdr0 (pktColLookSwap 0 1) ∧
    (fun (s : State) (out : Nat) =>
    decide (s.outRunning out)) ((((up.set .COL_LOOK_CFG_BANKS 2 0).set .COL_LOOK_BANK_COMPLETE 2 0).set .OUT_O_CFG_RUN 1 0).taken 0) 0
      = true) ∧
  (Begins ((up.set .COL_LOOK_CFG_BANKS 2 0).set .COL_LOOK_BANK_COMPLETE 2 0) 0 hdr0 (pktColLookSwap 0 1) ∧
    (fun (s : State) (out : Nat) =>
    decide (¬(s.outRunning out))) (((up.set .COL_LOOK_CFG_BANKS 2 0).set .COL_LOOK_BANK_COMPLETE 2 0).taken 0) 0 = true) ∧
  (Begins up 0 hdr0 (pktColLookParam 0 0 (List.replicate 9 0) 0 0x003F0000 (List.replicate 6 0))) ∧
  (Begins up 0 hdr0 (pktStaInfo 0)) ∧
  (Begins up 0 hdr0 (pktStaCtxConfig 0 0 2)) ∧
  (Begins up 0 hdr0 (pktStaCfgSet 0 1 [0, 0xdab704a, 0, 0x6478, 0x00020001, 0x00040003, 0x00060005, 7])) := by
  refine ⟨?_, ?_, ?_, ?_, ?_, ?_, ?_, ?_, ?_, ?_, ?_, ?_⟩ <;> decide +kernel

theorem wit_ColourAndStatisticsPacketsDo_2 :
  (Begins up 0 hdr0 (pktStaCfgSwap 0 0)) ∧
  (Begins ({ up with sta := { up.sta with rings := [(0, [⟨1, 2, List.replicate 8 0⟩])] } }) 0 hdr0 (pktStaRead 0 ⟨0, 0, true, 0, 4⟩) ∧
    (fun (s : State) (ctx : Nat) (rd : ReadArgs) =>
    match findHeld (tgetD [] s.sta.rings ctx) rd with
    | some _ => (true)
    | _ => false) (({ up with sta := { up.sta with rings := [(0, [⟨1, 2, List.replicate 8 0⟩])] } }).taken 0) 0 ⟨0, 0, true, 0, 4⟩
      = true) ∧
  (Begins (up.set .CPI_SLOT_STATE_TRANSPORT 1 0) 0 hdr0 (pktStaDeliver 0 0 2)) := by
  refine ⟨?_, ?_, ?_⟩ <;> decide +kernel

theorem wit_EnginePacketsDo :
  (Begins up 0 hdr0 (pktEngInfo false 0)) ∧
  (Begins up 0 hdr0 (pktEngKernelCreate [0] 64) ∧
    (fun (s : State) =>
    match ((List.range 32).find? fun k => (s.kernel k).isNone) with
    | some _ => (true)
    | _ => false) (up.taken 0) = true) ∧
  (Begins ((kernelIn 1)) 0 hdr0 (pktEngKernelData 0x100 0 [0]) ∧
    (fun (s : State) (handle : Nat) =>
    match s.kernelOf handle with
    | some _ => (true)
    | _ => false) (((kernelIn 1)).taken 0) 0x100 = true) ∧
  (Begins (kernelImage) 0 hdr0 (pktEngKernelSeal 0x100) ∧
    (fun (s : State) (handle : Nat) =>
    match s.kernelOf handle with
    | some _ => (true)
    | _ => false) ((kernelImage).taken 0) 0x100 = true) ∧
  (Begins ((kernelIn 2)) 0 hdr0 (pktEngInputAttach 0x100 0 false 0 0 0 2 4) ∧
    (fun (s : State) (handle : Nat) =>
    match s.kernelOf handle with
    | some _ => (true)
    | _ => false) (((kernelIn 2)).taken 0) 0x100 = true) ∧
  (Begins ((kernelIn 2)) 0 hdr0 (pktEngOutputConfig 0x100 0 2 4096) ∧
    (fun (s : State) (handle : Nat) =>
    match s.kernelOf handle with
    | some _ => (true)
    | _ => false) (((kernelIn 2)).taken 0) 0x100 = true) ∧
  (Begins ((kernelIn 2)) 0 hdr0 (pktEngKernelStart 0x100) ∧
    (fun (s : State) (handle : Nat) =>
    match s.kernelOf handle with
    | some _ => (true)
    | _ => false) (((kernelIn 2)).taken 0) 0x100 = true) ∧
  (Begins ((kernelIn 3)) 0 hdr0 (pktEngKernelStop 0x100) ∧
    (fun (s : State) (handle : Nat) =>
    match s.kernelOf handle with
    | some _ => (true)
    | _ => false) (((kernelIn 3)).taken 0) 0x100 = true) ∧
  (Begins ((kernelIn 1)) 0 hdr0 (pktEngKernelFree 0x100) ∧
    (fun (s : State) (handle : Nat) =>
    match s.kernelOf handle with
    | some _ => (true)
    | _ => false) (((kernelIn 1)).taken 0) 0x100 = true) ∧
  (Begins ((kernelIn 3).modKernel 0 fun e => { e with outputs := [(0, ⟨2, 4096, [⟨1, 2, [1, 2, 3, 4]⟩]⟩)] }) 0 hdr0
    (pktEngResultRead 0x100 0 ⟨0, 0, true, 0, 4⟩) ∧
    (fun (s : State) (handle : Nat) (output : Nat) (rd : ReadArgs) =>
    match (((s.kernelOf handle).bind s.kernel).bind fun e => (tget e.outputs output).bind fun o => findHeld o.results rd) with
    | some _ => (true)
    | _ => false) (((kernelIn 3).modKernel 0 fun e => { e with outputs := [(0, ⟨2, 4096, [⟨1, 2, [1, 2, 3, 4]⟩]⟩)] }).taken 0) 0x100 0
      ⟨0, 0, true, 0, 4⟩ = true) := by
  refine ⟨?_, ?_, ?_, ?_, ?_, ?_, ?_, ?_, ?_, ?_⟩ <;> decide +kernel

theorem wit_EncoderPacketsDo :
  (Begins ((codecIn 1)) 0 hdr0 (pktMlsInfo false 0x100)) ∧
  (Begins ((up.set .PIP_TAP_RAW_SLOTS 2 0).wr .SNS_GEOM 0x01000040 0) 0 hdr0
    (pktMlsCtxCreate 0 0 1 0 0 0x10000000 0x10000000 0x02185F00 1 0) ∧
    (fun (s : State) =>
    match s.freeCodec with
    | some _ => (true)
    | _ => false) (((up.set .PIP_TAP_RAW_SLOTS 2 0).wr .SNS_GEOM 0x01000040 0).taken 0) = true) ∧
  (Begins ((codecIn 1)) 0 hdr0 (pktMlsCtxSet 0x100 0x10000000 0x10000000 0x02185F00 1 0) ∧
    (fun (s : State) (handle : Nat) =>
    match s.codecOf handle with
    | some _ => (true)
    | _ => false) (((codecIn 1)).taken 0) 0x100 = true) ∧
  (Begins ((codecIn 1)) 0 hdr0 (pktMlsCtxDelete 0x100) ∧
    (fun (s : State) (handle : Nat) =>
    match s.codecOf handle with
    | some _ => (true)
    | _ => false) (((codecIn 1)).taken 0) 0x100 = true) ∧
  (Begins ((codecIn 1)) 0 hdr0 (pktMlsStreamBind 0 0x100)) ∧
  (Begins ((codecIn 1).set .MLS_S_CFG_HANDLE 0x100 0) 0 hdr0 (pktMlsStreamStart 0) ∧
    (fun (s : State) (stream : Nat) =>
    match s.bound stream with
    | some _ => (true)
    | _ => false) (((codecIn 1).set .MLS_S_CFG_HANDLE 0x100 0).taken 0) 0 = true) ∧
  (Begins ((codecIn 1).set .MLS_S_CFG_RUNNING 1 0) 0 hdr0 (pktMlsSwitch 0 0x100) ∧
    (fun (s : State) (handle : Nat) =>
    match s.codecOf handle with
    | some _ => (true)
    | _ => false) (((codecIn 1).set .MLS_S_CFG_RUNNING 1 0).taken 0) 0x100 = true) ∧
  (Begins (((codecIn 1).wr .MLS_C_RC 0x82185F00 0).wr .MLS_C_CEIL 0x10000000 0) 0 hdr0
    (pktMlsPlanSet 0x100 0x10000000 (List.replicate 96 0)) ∧
    (fun (s : State) (handle : Nat) =>
    match s.codecOf handle with
    | some _ => (true)
    | _ => false) ((((codecIn 1).wr .MLS_C_RC 0x82185F00 0).wr .MLS_C_CEIL 0x10000000 0).taken 0) 0x100 = true) ∧
  (Begins ((codecIn 1).setCodec 0 { records := [rec0] }) 0 hdr0
    (pktMlsRecordRead 0x100 ⟨0, 0, true, 0, 4⟩) ∧
    (fun (s : State) (handle : Nat) (rd : ReadArgs) =>
    match s.codecOf handle with
    | some i => (match findHeld ((s.codec i).records.map fun r => ⟨r.frame, r.sof, r.raw⟩) rd with
    | some _ => (true)
    | _ => false)
    | _ => false) (((codecIn 1).setCodec 0 { records := [rec0] }).taken 0) 0x100
      ⟨0, 0, true, 0, 4⟩ = true) ∧
  (Begins ((codecIn 3)) 0 hdr0 (pktMlsCtxRun 0x100 true) ∧
    (fun (s : State) (handle : Nat) (start : Bool) =>
    match s.codecOf handle with
    | some _ => (decide start)
    | _ => false) (((codecIn 3)).taken 0) 0x100 true = true) ∧
  (Begins ((codecIn 3).set .MLS_C_CFG_ACTIVE 1 0) 0 hdr0 (pktMlsCtxRun 0x100 false) ∧
    (fun (s : State) (handle : Nat) (start : Bool) =>
    match s.codecOf handle with
    | some i => (decide (¬start) &&
    (decide ((s.codec i).coding.isEmpty)))
    | _ => false) (((codecIn 3).set .MLS_C_CFG_ACTIVE 1 0).taken 0) 0x100 false = true) ∧
  (Begins (((codecIn 3).set .MLS_C_CFG_ACTIVE 1 0).setCodec 0 { coding := [coding0] }) 0 hdr0 (pktMlsCtxRun 0x100 false) ∧
    (fun (s : State) (handle : Nat) (start : Bool) =>
    match s.codecOf handle with
    | some i => (decide (¬start) &&
    (decide (¬((s.codec i).coding.isEmpty))))
    | _ => false) ((((codecIn 3).set .MLS_C_CFG_ACTIVE 1 0).setCodec 0 { coding := [coding0] }).taken 0) 0x100 false = true) := by
  refine ⟨?_, ?_, ?_, ?_, ?_, ?_, ?_, ?_, ?_, ?_, ?_, ?_⟩ <;> decide +kernel

theorem wit_DecoderPacketsDo :
  (Begins ((decIn false)) 0 hdr0 (pktMlsDecInfo 0x100)) ∧
  (Begins up 0 hdr0 (pktMlsDecCreate 0x0200 0 0 0 64 64 2 1 1 2500 0 1) ∧
    (fun (s : State) =>
    match s.freeDec with
    | some _ => (true)
    | _ => false) (up.taken 0) = true) ∧
  (Begins ((decIn false)) 0 hdr0 (pktMlsDecStart 0x100) ∧
    (fun (s : State) (handle : Nat) =>
    match s.decOf handle with
    | some _ => (true)
    | _ => false) (((decIn false)).taken 0) 0x100 = true) ∧
  (Begins ((decIn true)) 0 hdr0 (pktMlsDecStop 0x100) ∧
    (fun (s : State) (handle : Nat) =>
    match s.decOf handle with
    | some _ => (true)
    | _ => false) (((decIn true)).taken 0) 0x100 = true) ∧
  (Begins ((decIn false)) 0 hdr0 (pktMlsDecDelete 0x100) ∧
    (fun (s : State) (handle : Nat) =>
    match s.decOf handle with
    | some _ => (true)
    | _ => false) (((decIn false)).taken 0) 0x100 = true) ∧
  (Begins ((decIn true)) 0 hdr0 (pktMlsDecFeed 0x100 1 0 [1, 0, 0, 0]) ∧
    (fun (s : State) (handle : Nat) =>
    match s.decOf handle with
    | some _ => (true)
    | _ => false) (((decIn true)).taken 0) 0x100 = true) ∧
  (Begins ((decIn true).modDec 0 fun k => { k with ring := [⟨1, 2, 0, 0, true, 0, 0, [[[1, 2, 3, 4]]], []⟩] }) 0 hdr0
    (pktMlsDecRead 0x100 ⟨0, 0, true, 0, 4⟩) ∧
    (fun (s : State) (handle : Nat) (rd : ReadArgs) =>
    match s.decOf handle with
    | some d => (match findHeld ((s.dec d).ring.reverse.map fun f =>
    ⟨f.frame, f.tag, f.bytes (s.get .MLS_D_CFG_PROFILE d) (s.dec d).cols (s.dec d).rows⟩) rd with
    | some _ => (true)
    | _ => false)
    | _ => false) (((decIn true).modDec 0 fun k => { k with ring := [⟨1, 2, 0, 0, true, 0, 0, [[[1, 2, 3, 4]]], []⟩] }).taken 0) 0x100
      ⟨0, 0, true, 0, 4⟩ = true) ∧
  (Begins ((decIn true).modDec 0 fun k => { k with records := [⟨1, 2, [1, 2, 3, 4]⟩] }) 0 hdr0
    (pktMlsDecRecordRead 0x100 ⟨0, 0, true, 0, 4⟩) ∧
    (fun (s : State) (handle : Nat) (rd : ReadArgs) =>
    match s.decOf handle with
    | some d => (match findHeld (s.dec d).records rd with
    | some _ => (true)
    | _ => false)
    | _ => false) (((decIn true).modDec 0 fun k => { k with records := [⟨1, 2, [1, 2, 3, 4]⟩] }).taken 0) 0x100 ⟨0, 0, true, 0, 4⟩
      = true) ∧
  (Begins ((decIn false)) 0 hdr0 (pktMlsDecSet 0x100 1 1) ∧
    (fun (s : State) (handle : Nat) =>
    match s.decOf handle with
    | some _ => (true)
    | _ => false) (((decIn false)).taken 0) 0x100 = true) := by
  refine ⟨?_, ?_, ?_, ?_, ?_, ?_, ?_, ?_, ?_⟩ <;> decide +kernel

theorem wit_RecordingPacketsDo_1 :
  (Begins ((codecWith { coding := [coding0] }).set .MLS_S_CFG_RUNNING 1 0 |>.set .MLS_S_CFG_HANDLE 0x100 0) 0 hdr0 (pktMlsStreamStop 0)
    ∧
    (fun (s : State) (stream : Nat) =>
    let s := ((s.stopStreamTakes stream).stopStream stream).settleTakes;
    decide (s.streamOn stream)) (((codecWith { coding := [coding0] }).set .MLS_S_CFG_RUNNING 1 0 |>.set .MLS_S_CFG_HANDLE 0x100
      0).taken 0) 0 = true) ∧
  (Begins ((codecIn 1).set .MLS_S_CFG_RUNNING 1 0) 0 hdr0 (pktMlsStreamStop 0) ∧
    (fun (s : State) (stream : Nat) =>
    let s := ((s.stopStreamTakes stream).stopStream stream).settleTakes;
    decide (¬(s.streamOn stream))) (((codecIn 1).set .MLS_S_CFG_RUNNING 1 0).taken 0) 0 = true) ∧
  (Begins up 0 hdr0 (pktMedInfo false 0)) ∧
  (Begins ((magIn magReady)) 0 hdr0 (pktMedMagFormat 0 (some 10))) ∧
  (Begins ((magIn magReady)) 0 hdr0 (pktMedMagEject 0) ∧
    (fun (s : State) (mag : Nat) =>
    let s := s.modMag mag fun k => { k with ejecting := true };
    decide ((s.magz mag).quiet)) (((magIn magReady)).taken 0) 0 = true) ∧
  (Begins (magWith { page := [.map 0 1] }) 0 hdr0 (pktMedMagEject 0) ∧
    (fun (s : State) (mag : Nat) =>
    let s := s.modMag mag fun k => { k with ejecting := true };
    decide (¬((s.magz mag).quiet))) ((magWith { page := [.map 0 1] }).taken 0) 0 = true) ∧
  (Begins ((takeIn 1).set .MED_HOLDUP_HOLDUP_READY 1) 0 hdr0 (pktMedTakeStart 0x100) ∧
    (fun (s : State) (handle : Nat) =>
    match s.takeOf handle with
    | some _ => (true)
    | _ => false) (((takeIn 1).set .MED_HOLDUP_HOLDUP_READY 1).taken 0) 0x100 = true) ∧
  (Begins ((takeIn 2)) 0 hdr0 (pktMedTakeStop 0x100) ∧
    (fun (s : State) (handle : Nat) =>
    match s.takeOf handle with
    | some _ => (true)
    | _ => false) (((takeIn 2)).taken 0) 0x100 = true) ∧
  (Begins ((takeIn 2)) 0 hdr0 (pktMedTakeMark 0x100 0) ∧
    (fun (s : State) (handle : Nat) =>
    match s.takeOf handle with
    | some _ => (true)
    | _ => false) (((takeIn 2)).taken 0) 0x100 = true) ∧
  (Begins ((magIn magReady)) 0 hdr0 (pktMedTakeList 0 0 1)) ∧
  (Begins (magDir) 0 hdr0 (pktMedTakeRead 0 0 0 0 4)) ∧
  (Begins (magDir) 0 hdr0 (pktMedTakeDelete 0 0)) := by
  refine ⟨?_, ?_, ?_, ?_, ?_, ?_, ?_, ?_, ?_, ?_, ?_, ?_⟩ <;> decide +kernel

theorem wit_RecordingPacketsDo_2 :
  (Begins up 0 hdr0 (pktMedCeilSet 0 1)) ∧
  (Begins (playUp) 0 hdr0 (pktMedPlay 0x100 0 0 0) ∧
    (fun (s : State) (session : Nat) =>
    match s.decOf session with
    | some _ => (true)
    | _ => false) ((playUp).taken 0) 0x100 = true) := by
  refine ⟨?_, ?_⟩ <;> decide +kernel

theorem wit_MediaChannelPacketsDo :
  (Begins up 0 hdr0 (pktMedTask 0 0 0 0 0) ∧
    (fun (s : State) (cmd : BitVec 32) (lba : BitVec 32) (count : BitVec 32) (bufLo : BitVec 32) (bufHi : BitVec 32) =>
    let s := ([.MED_T_CMD, .MED_T_LBA, .MED_T_COUNT, .MED_T_BUF_LO, .MED_T_BUF_HI].zip [cmd, lba, count, bufLo, bufHi]).foldl
          (fun s (r, w) => s.writeWord none r w.toNat 0 0) s;
    match s.submit 0 with
    | (st, _) => (decide (st ≠ .DONE))) (up.taken 0) 0 0 0 0 0 = true) ∧
  (Begins (magIn magReady) 0 hdr0 (pktMedTask 0x03000000 0 0 0 0) ∧
    (fun (s : State) (cmd : BitVec 32) (lba : BitVec 32) (count : BitVec 32) (bufLo : BitVec 32) (bufHi : BitVec 32) =>
    let s := ([.MED_T_CMD, .MED_T_LBA, .MED_T_COUNT, .MED_T_BUF_LO, .MED_T_BUF_HI].zip [cmd, lba, count, bufLo, bufHi]).foldl
          (fun s (r, w) => s.writeWord none r w.toNat 0 0) s;
    match s.submit 0 with
    | (st, t) => (decide (st = .DONE) &&
    (decide (t.flag .MED_T_STAT_BUSY 0)))) ((magIn magReady).taken 0) 0x03000000 0 0 0 0 = true) ∧
  (Begins ((magIn magReady).setHost 0 { up.host 0 with cqSet := true }) 0 hdr0 (pktMedTask 0x03000000 0 0 0 0) ∧
    (fun (s : State) (cmd : BitVec 32) (lba : BitVec 32) (count : BitVec 32) (bufLo : BitVec 32) (bufHi : BitVec 32) =>
    let s := ([.MED_T_CMD, .MED_T_LBA, .MED_T_COUNT, .MED_T_BUF_LO, .MED_T_BUF_HI].zip [cmd, lba, count, bufLo, bufHi]).foldl
          (fun s (r, w) => s.writeWord none r w.toNat 0 0) s;
    match s.submit 0 with
    | (st, t) => (decide (st = .DONE) &&
    (decide (¬(t.flag .MED_T_STAT_BUSY 0))))) (((magIn magReady).setHost 0 { up.host 0 with cqSet := true }).taken 0) 0x03000000 0 0 0
      0 = true) ∧
  (Begins up 0 hdr0 (pktMedQueueReset 0 0)) ∧
  (Begins up 0 hdr0 (pktMedCqSet 0)) ∧
  (Begins ((magIn magReady)) 0 hdr0 (pktMedMagTarget 0 1)) ∧
  (Begins up 0 hdr0 (pktMedBufAlloc 1)) := by
  refine ⟨?_, ?_, ?_, ?_, ?_, ?_, ?_⟩ <;> decide +kernel

theorem wit_MemoryPacketsDo :
  (Begins up 0 hdr0 (pktMemInfo )) ∧
  (Begins up 0 hdr0 (pktMemPortSet 10 0x00000100)) ∧
  (Begins up 0 hdr0 (pktMemMargin 0)) ∧
  (Begins up 0 hdr0 (pktMemMarginRead 0)) ∧
  (Begins up 0 hdr0 (pktMemTrainRead 0)) ∧
  (Begins up 0 hdr0 (pktMemOrderSet 0)) ∧
  (Begins (up.set .MEM_STATUS_PHASE memService) 0 hdr0 (pktMemTest 0 1)) ∧
  (Begins (up.set .MEM_STATUS_PHASE memFrozen) 0 hdr0 (pktMemDiagRead false 0 1 0)) := by
  refine ⟨?_, ?_, ?_, ?_, ?_, ?_, ?_, ?_⟩ <;> decide +kernel

theorem wit_LinkPacketsDo :
  (Begins up 0 hdr0 (pktLnkInfo 0 0)) ∧
  (Begins up 0 hdr0 (pktLnkQuadConfig 0 0x00001000 0)) ∧
  (Begins up 0 hdr0 (pktLnkDrxConfig 0 0)) ∧
  (Begins up 0 hdr0 (pktLnkEthConfig 0 0)) ∧
  (Begins up 0 hdr0 (pktLnkMagMap 0 0xFF)) ∧
  (Begins up 0 hdr0 (pktLnkPartnerRead 0)) ∧
  (Begins ((up.set .LNK_Q_CFG_PROTOCOL protoTest 0).set .LNK_Q_CFG_TEST_RATE 1250 0) 0 hdr0 (pktLnkPrbs 0 1 0)) ∧
  (Begins up 0 hdr0 (pktLnkFomRead 0)) ∧
  (Begins up 0 hdr0 (pktLnkLinkReset 0)) := by
  refine ⟨?_, ?_, ?_, ?_, ?_, ?_, ?_, ?_, ?_⟩ <;> decide +kernel

theorem wit_OutputPacketsDo_1 :
  (Begins up 0 hdr0 (pktOutInfo 0)) ∧
  (Begins up 0 hdr0 (pktOutConfig 0 0 0)) ∧
  (Begins (up.set .OUT_O_CFG_KIND 1 0) 0 hdr0 (pktOutStart 0)) ∧
  (Begins up 0 hdr0 (pktOutStop 0) ∧
    (fun (s : State) (out : Nat) =>
    decide (!s.outRunning out)) (up.taken 0) 0 = true) ∧
  (Begins (outUp {}) 0 hdr0 (pktOutStop 0) ∧
    (fun (s : State) (out : Nat) =>
    decide (s.outRunning out) &&
    (decide ((s.output out).lastRef.isNone ∨ s.flushing))) ((outUp {}).taken 0) 0 = true) ∧
  (Begins (outUp { lastRef := some 0 }) 0 hdr0 (pktOutStop 0) ∧
    (fun (s : State) (out : Nat) =>
    decide (s.outRunning out) &&
    (decide (¬((s.output out).lastRef.isNone ∨ s.flushing)))) ((outUp { lastRef := some 0 }).taken 0) 0 = true) ∧
  (Begins (outUp {}) 0 hdr0 (pktOutSourceSet 0 0) ∧
    (fun (s : State) (out : Nat) =>
    decide (s.outRunning out)) ((outUp {}).taken 0) 0 = true) ∧
  (Begins up 0 hdr0 (pktOutSourceSet 0 0) ∧
    (fun (s : State) (out : Nat) =>
    decide (¬(s.outRunning out))) (up.taken 0) 0 = true) ∧
  (Begins up 0 hdr0 (pktOutScaleSet 0 0 0 0 0 0)) ∧
  (Begins up 0 hdr0 (pktOutOverlaySet 0 0 [] [1, 2, 3, 4, 5, 6, 7])) ∧
  (Begins up 0 hdr0 (pktOutTextSet 0 0 [])) ∧
  (Begins up 0 hdr0 (pktOutAudioSet 0 0 [])) := by
  refine ⟨?_, ?_, ?_, ?_, ?_, ?_, ?_, ?_, ?_, ?_, ?_, ?_⟩ <;> decide +kernel

theorem wit_OutputPacketsDo_2 :
  (Begins up 0 hdr0 (pktOutIpSet 0 [])) ∧
  (Begins up 0 hdr0 (pktOutSdpRead 0)) := by
  refine ⟨?_, ?_⟩ <;> decide +kernel

theorem wit_AudioPacketsDo :
  (Begins up 0 hdr0 (pktAudInfo 0)) ∧
  (Begins up 0 hdr0 (pktAudConfig 0 0x0200 0x00011000 1 0)) ∧
  (Begins up 0 hdr0 (pktAudMaskSet 0 0 0 0 0) ∧
    (fun (s : State) (port : Nat) =>
    decide (s.audState port = audStopped)) (up.taken 0) 0 = true) ∧
  (Begins (audIn audRunning) 0 hdr0 (pktAudMaskSet 0 0 0 0 0) ∧
    (fun (s : State) (port : Nat) =>
    decide (¬(s.audState port = audStopped))) ((audIn audRunning).taken 0) 0 = true) ∧
  (Begins up 0 hdr0 (pktAudStart 1 1000000000)) ∧
  (Begins up 0 hdr0 (pktAudStop 1) ∧
    (fun (s : State) (mask : Nat) =>
    let live := (bitList 16 mask).filter fun p => s.audState p != audStopped;
    decide (live.isEmpty)) (up.taken 0) 1 = true) ∧
  (Begins (audIn audRunning) 0 hdr0 (pktAudStop 1) ∧
    (fun (s : State) (mask : Nat) =>
    let live := (bitList 16 mask).filter fun p => s.audState p != audStopped;
    decide (¬(live.isEmpty))) ((audIn audRunning).taken 0) 1 = true) ∧
  (Begins ((up.modPort 0 fun a => { a with capture := [1, 2, 3, 4] }).wr64 .AUD_P_CAP_WR_LO .AUD_P_CAP_WR_HI 4 0) 0 hdr0
    (pktAudRead 0 0 4)) ∧
  (Begins (up.set .AUD_P_RING_PLAY 1 0) 0 hdr0 (pktAudWrite 0 3 [1, 2, 3, 0])) := by
  refine ⟨?_, ?_, ?_, ?_, ?_, ?_, ?_, ?_, ?_⟩ <;> decide +kernel

theorem wit_EventFabricPacketsDo :
  (Begins up 0 hdr0 (pktEvfInfo 0 0)) ∧
  (Begins up 0 hdr0 (pktEvfChannelSet 0 0 0 0)) ∧
  (Begins up 0 hdr0 (pktEvfEnableSet 0 1 [0])) ∧
  (Begins up 0 hdr0 (pktEvfCellSet 0 0 0)) ∧
  (Begins up 0 hdr0 (pktEvfPinSet 0 0x00000100)) ∧
  (Begins (up.wr .EVF_SRC (2 ^ 31 + 8) 0) 0 hdr0 (pktEvfSourceSet 0x08) ∧
    (fun (s : State) (source : Nat) =>
    match s.sourceSlot source with
    | some _ => (true)
    | _ => false) ((up.wr .EVF_SRC (2 ^ 31 + 8) 0).taken 0) 0x08 = true) ∧
  (Begins up 0 hdr0 (pktEvfSourceSet 0x08) ∧
    (fun (s : State) (source : Nat) =>
    decide (s.sourceSlot source = none) &&
    (match ((List.range 96).find? fun u => !s.flag .EVF_SRC_VALID u) with
    | some _ => (true)
    | _ => false)) (up.taken 0) 0x08 = true) ∧
  (Begins up 0 hdr0 (pktEvfSourceClear 0x08) ∧
    (fun (s : State) (source : Nat) =>
    decide (s.sourceSlot source = none)) (up.taken 0) 0x08 = true) ∧
  (Begins (up.wr .EVF_SRC (2 ^ 31 + 8) 0) 0 hdr0 (pktEvfSourceClear 0x08) ∧
    (fun (s : State) (source : Nat) =>
    match s.sourceSlot source with
    | some _ => (true)
    | _ => false) ((up.wr .EVF_SRC (2 ^ 31 + 8) 0).taken 0) 0x08 = true) ∧
  (Begins up 0 hdr0 (pktEvfUnquench 0)) ∧
  (Begins up 0 hdr0 (pktEvfStormSet 3000)) := by
  refine ⟨?_, ?_, ?_, ?_, ?_, ?_, ?_, ?_, ?_, ?_, ?_⟩ <;> decide +kernel

theorem wit_PositionTriggerPacketsDo_1 :
  (Begins up 0 hdr0 (pktPtuInfo 0 0)) ∧
  (Begins up 0 hdr0 (pktPtuEncConfig 0 0)) ∧
  (Begins up 0 hdr0 (pktPtuEngineConfig 0 0 0)) ∧
  (Begins up 0 hdr0 (pktPtuStrobeConfig 0 0x00100001)) ∧
  (Begins up 0 hdr0 (pktPtuTableCreate 0 0 1 0 0 1 1 1 0) ∧
    (fun (s : State) =>
    match ((List.range 4).find? fun t => !(s.table t).live) with
    | some _ => (true)
    | _ => false) (up.taken 0) = true) ∧
  (Begins (tableUp) 0 hdr0 (pktPtuTableLoad 0x100 0 1 [0]) ∧
    (fun (s : State) (handle : Nat) =>
    match s.tableOf handle with
    | some _ => (true)
    | _ => false) ((tableUp).taken 0) 0x100 = true) ∧
  (Begins (tableUp) 0 hdr0 (pktPtuTableSeal 0x100 0) ∧
    (fun (s : State) (handle : Nat) (crc : BitVec 32) =>
    match s.tableOf handle with
    | some t => (let k := s.table t;
    decide (crc32c k.image ≠ crc.toNat))
    | _ => false) ((tableUp).taken 0) 0x100 0 = true) ∧
  (Begins tableUp 0 hdr0 (pktPtuTableSeal 0x100 (BitVec.ofNat 32 (crc32c (tableUp.table 0).image))) ∧
    (fun (s : State) (handle : Nat) (crc : BitVec 32) =>
    match s.tableOf handle with
    | some t => (let k := s.table t;
    decide (crc32c k.image = crc.toNat) &&
    (decide (!k.valid)))
    | _ => false) (tableUp.taken 0) 0x100 (BitVec.ofNat 32 (crc32c (tableUp.table 0).image)) = true) ∧
  (Begins (ran (pktPtuTableLoad 0x100 0 1 [2 ^ 32]) tableUp) 0 hdr0 (pktPtuTableSeal 0x100 (BitVec.ofNat 32 (crc32c (le 8 (2 ^ 32))))) ∧
    (fun (s : State) (handle : Nat) (crc : BitVec 32) =>
    match s.tableOf handle with
    | some t => (let k := s.table t;
    decide (crc32c k.image = crc.toNat) &&
    (decide (k.valid)))
    | _ => false) ((ran (pktPtuTableLoad 0x100 0 1 [2 ^ 32]) tableUp).taken 0) 0x100 (BitVec.ofNat 32 (crc32c (le 8 (2 ^ 32)))) = true)
      ∧
  (Begins (tableUp.setTable 0 { tableUp.table 0 with sealed := true }) 0 hdr0 (pktPtuTableArm 0x100) ∧
    (fun (s : State) (handle : Nat) =>
    match s.tableOf handle with
    | some _ => (true)
    | _ => false) ((tableUp.setTable 0 { tableUp.table 0 with sealed := true }).taken 0) 0x100 = true) ∧
  (Begins up 0 hdr0 (pktPtuTableDisarm 0)) ∧
  (Begins up 0 hdr0 (pktPtuStrobeFire 0 1)) := by
  refine ⟨?_, ?_, ?_, ?_, ?_, ?_, ?_, ?_, ?_, ?_, ?_, ?_⟩ <;> decide +kernel

theorem wit_PositionTriggerPacketsDo_2 :
  (Begins up 0 hdr0 (pktPtuStrobeReset 0 1)) ∧
  (Begins (tableUp) 0 hdr0 (pktPtuTableFree 0x100) ∧
    (fun (s : State) (handle : Nat) =>
    match s.tableOf handle with
    | some _ => (true)
    | _ => false) ((tableUp).taken 0) 0x100 = true) := by
  refine ⟨?_, ?_⟩ <;> decide +kernel

theorem wit_SupervisorPacketsDo :
  (Begins up 0 hdr0 (pktValInfo )) ∧
  (Begins (up.set .VAL_VIN_VIN 12000) 0 hdr0 (pktValConfig 80)) ∧
  (Begins up 0 hdr0 (pktValThermalEval )) ∧
  (Begins up 0 hdr0 (pktValThermalRead )) ∧
  (Begins up 0 hdr0 (pktValReplan )) ∧
  (Begins up 0 hdr0 (pktValRecordRead ⟨0, 0, true, 0, 4⟩) ∧
    (fun (s : State) (rd : ReadArgs) =>
    match s.replanRec rd with
    | some (_, _, _) => (true)
    | _ => false) (up.taken 0) ⟨0, 0, true, 0, 4⟩ = true) ∧
  (Begins up 0 hdr0 (pktValMonConfig 0 0 0 0)) ∧
  (Begins up 0 hdr0 (pktValMonStart 0 1)) ∧
  (Begins up 0 hdr0 (pktValMonRead 0)) ∧
  (Begins up 0 hdr0 (pktValSnapshot )) := by
  refine ⟨?_, ?_, ?_, ?_, ?_, ?_, ?_, ?_, ?_, ?_⟩ <;> decide +kernel

theorem wit_IntegrityPacketsDo :
  (Begins up 0 hdr0 (pktIntInfo )) ∧
  (Begins ({ up with store := { up.store with faults := [⟨1, 0, 0, 0, 0, 0, 0, 0, 0⟩] } }) 0 hdr0 (pktIntFaultRead ⟨0, 0, true, 0, 4⟩) ∧
    (fun (s : State) (rd : ReadArgs) =>
    match s.faultRec rd with
    | some _ => (true)
    | _ => false) (({ up with store := { up.store with faults := [⟨1, 0, 0, 0, 0, 0, 0, 0, 0⟩] } }).taken 0) ⟨0, 0, true, 0, 4⟩ = true)
      ∧
  (Begins up 0 hdr0 (pktIntClear 0)) ∧
  (Begins up 0 hdr0 pktIntSafeEnter ∧
    (fun (s : State) =>
    let s := s.detect 0x20 (0) 0 false;
    decide (s.integ.due || s.flag .VAL_INT_STATUS_ENTERING)) (up.taken 0) = true) ∧
  (Begins (up.set .VAL_INT_STATUS_SAFE 1) 0 hdr0 pktIntSafeEnter ∧
    (fun (s : State) =>
    let s := s.detect 0x20 (0) 0 false;
    decide (¬(s.integ.due || s.flag .VAL_INT_STATUS_ENTERING))) ((up.set .VAL_INT_STATUS_SAFE 1).taken 0) = true) ∧
  (Begins up 0 hdr0 (pktIntInject 1)) ∧
  (Begins up 0 hdr0 (pktIntKeyRead 2 false ⟨0, 0, true, 0, 4⟩) ∧
    (fun (_ : State) (slot : Nat) (certificate : Bool) =>
    decide (certificate || slot == 2)) (up.taken 0) 2 false = true) ∧
  (Begins up 0 hdr0 (pktIntKeyRead 0 false ⟨0, 0, true, 0, 4⟩) ∧
    (fun (_ : State) (slot : Nat) (certificate : Bool) =>
    decide (¬(certificate || slot == 2))) (up.taken 0) 0 false = true) ∧
  (Begins up 0 hdr0 (pktIntAttest (List.replicate 32 0))) := by
  refine ⟨?_, ?_, ?_, ?_, ?_, ?_, ?_, ?_, ?_⟩ <;> decide +kernel

theorem wit_ControlEventsDo_1 :
  ((!up.serves (.ring 1) || up.get .CPI_SLOT_STATE_TRANSPORT 1 == 3) = true) ∧
  (¬(!up.serves (.ring 0) || up.get .CPI_SLOT_STATE_TRANSPORT 0 == 3) = true ∧ up.tailOk 0 1 = true) ∧
  (¬(!up.serves (.ring 0) || up.get .CPI_SLOT_STATE_TRANSPORT 0 == 3) = true ∧ ¬up.tailOk 0 127 = true) ∧
  (up.headOk 0 0 = true) ∧
  (¬up.headOk 0 1 = true) ∧
  (up.spiServes = true) ∧
  (¬State.reset.spiServes = true) ∧
  ((!State.reset.barServes 0) = true) ∧
  (up.barServes 0 = true ∧ inMailbox 0x10000 = true ∧ 0x10000 < mailboxBase + ringSlotBytes) ∧
  (up.barServes 0 = true ∧ inMailbox 0x11040 = true ∧ ¬0x11040 < mailboxBase + ringSlotBytes) ∧
  (up.barServes 0 = true ∧ ¬inMailbox 0 = true ∧ (0 ≠ 4 ∨ 0 % 4 ≠ 0 ∨ 0x10000000 ≤ 0)) ∧
  (up.barServes 0 = true ∧ ¬inMailbox 0 = true ∧ ¬(4 ≠ 4 ∨ 0 % 4 ≠ 0 ∨ 0x10000000 ≤ 0) ∧ up.slotAt ⟨.pcie, 0⟩ = none) ∧
  (pcieHost.barServes 0 = true ∧ pcieHost.slotAt ⟨.pcie, 0⟩ = some 0 ∧ pcieHost.barStatus 0 0 0 = .DONE ∧ ¬pcieHost.barIgnored 0 0 = true) ∧
  (pcieHost.barServes 0 = true ∧ pcieHost.slotAt ⟨.pcie, 0⟩ = some 0 ∧ ¬inMailbox (Reg.addr .CPI_SLOT_SQ_TAIL 0 0) = true ∧
    Reg.addr .CPI_SLOT_SQ_TAIL 0 0 % 4 = 0 ∧ Reg.addr .CPI_SLOT_SQ_TAIL 0 0 < 0x10000000 ∧
    pcieHost.barStatus 0 (Reg.addr .CPI_SLOT_SQ_TAIL 0 0) 127 = .DONE ∧ pcieHost.barIgnored (Reg.addr .CPI_SLOT_SQ_TAIL 0 0) 127 = true) ∧
  (let s := { pcieHost with cpi := { pcieHost.cpi with shuttingDown := some 1 } };
    s.barServes 0 = true ∧ s.slotAt ⟨.pcie, 0⟩ = some 0 ∧ ¬s.barStatus 0 0 0 = .DONE) := by
  refine ⟨?_, ?_, ?_, ?_, ?_, ?_, ?_, ?_, ?_, ?_, ?_, ?_, ?_, ?_, ?_⟩ <;> decide +kernel

theorem wit_ControlEventsDo_2 :
  ((fun (s : State) (slot : Fin 8) (seq : BitVec 32) (d : Taken) =>
    decide (s.cpi.launched.find? (fun (d : Taken) => slotOf d.via == slot.val && d.seq == seq) = some d))
      ({ up with cpi := { up.cpi with launched := [taken0] } }) 0 1
        taken0 = true) ∧
  ((fun (s : State) (slot : Fin 8) (seq : BitVec 32) (d : Taken) =>
    decide (s.cpi.launched.find? (fun (d : Taken) => slotOf d.via == slot.val && d.seq == seq) = none) &&
    (decide (((s.queue (87 + slot.val)).findSome? fun e => e.packet.filter fun d => slotOf d.via == slot.val && d.seq == seq) = some
      d))) (up.setQueue 87 [entry0]) 0 1 taken0 = true) ∧
  ((fun (s : State) (slot : Fin 8) (seq : BitVec 32) =>
    decide (s.cpi.launched.find? (fun (d : Taken) => slotOf d.via == slot.val && d.seq == seq) = none) &&
    (decide (((s.queue (87 + slot.val)).findSome? fun e => e.packet.filter fun d => slotOf d.via == slot.val && d.seq == seq) = none)))
      up 0 0 = true) ∧
  ((fun (s : State) =>
    decide (s.cpi.fw = none)) up = true) ∧
  ((fun (s : State) =>
    match s.cpi.fw with
    | some f => (decide (!f.committing))
    | _ => false) ({ up with cpi := { up.cpi with fw := some ⟨64, [], false⟩ } }) = true) ∧
  ((fun (s : State) =>
    match s.cpi.fw with
    | some f => (decide (f.committing))
    | _ => false) ({ up with cpi := { up.cpi with fw := some ⟨64, [], true⟩ } }) = true) := by
  refine ⟨?_, ?_, ?_, ?_, ?_, ?_⟩ <;> decide +kernel

theorem wit_DealClockEventsDo_1 :
  (up.dckState ≠ dckAcquire ∨ 1 ≠ up.get .DCK_STATUS_ACTIVE_SRC) ∧
  (¬(acquiring.dckState ≠ dckAcquire ∨ 1 ≠ acquiring.get .DCK_STATUS_ACTIVE_SRC)) ∧
  ((fun (s : State) =>
    let st := s.dckState;
    decide ((st = dckFree ∨ st = dckHoldover))) up = true) ∧
  ((fun (s : State) =>
    let st := s.dckState;
    decide (¬(st = dckFree ∨ st = dckHoldover))) locked = true) ∧
  ((fun (s : State) =>
    decide ((s.dckState ≠ dckHoldover ∨ !s.flag .DCK_CTRL_AUTO_FALLBACK))) up = true) ∧
  ((fun (s : State) =>
    decide (¬(s.dckState ≠ dckHoldover ∨ !s.flag .DCK_CTRL_AUTO_FALLBACK)) &&
    (match s.firstUsable with
    | some _ => (true)
    | _ => false)) ({ ((up.wr .DCK_SRC 1).set .DCK_STATUS_STATE dckHoldover).set .DCK_CTRL_AUTO_FALLBACK 1 with dck := { up.dck with present := [1] } }) = true) ∧
  ((fun (s : State) =>
    decide (¬(s.dckState ≠ dckHoldover ∨ !s.flag .DCK_CTRL_AUTO_FALLBACK)) &&
    (decide (s.firstUsable = none))) ((up.set .DCK_STATUS_STATE dckHoldover).set .DCK_CTRL_AUTO_FALLBACK 1) = true) ∧
  ((fun (s : State) (src : Nat) =>
    let s1 := s.srcPresent src;
    decide (s1.srcListed src)) (up.wr .DCK_SRC 1) 1 = true) ∧
  ((fun (s : State) (src : Nat) =>
    let s1 := s.srcPresent src;
    decide (¬(s1.srcListed src))) up 0 = true) ∧
  ((fun (_ : State) (count : Nat) =>
    decide ((297000 ≤ count ∧ count ≤ 303000))) up 300000 = true) ∧
  ((fun (_ : State) (count : Nat) =>
    decide (¬(297000 ≤ count ∧ count ≤ 303000))) up 0 = true) ∧
  ((fun (s : State) =>
    decide (!s.flag .DCK_TC_CFG_LTC_IN_EN)) up = true) := by
  refine ⟨?_, ?_, ?_, ?_, ?_, ?_, ?_, ?_, ?_, ?_, ?_, ?_⟩ <;> decide +kernel

theorem wit_DealClockEventsDo_2 :
  ((up.set .DCK_TC_CFG_LTC_IN_EN 1).flag .DCK_TC_CFG_LTC_IN_EN = true) ∧
  ((!up.flag .DCK_TC_CFG_LTC_IN_EN || up.dck.ltcLost) = true) ∧
  (¬(!(up.set .DCK_TC_CFG_LTC_IN_EN 1).flag .DCK_TC_CFG_LTC_IN_EN || (up.set .DCK_TC_CFG_LTC_IN_EN 1).dck.ltcLost) = true) ∧
  (up.dck.jam.isNone = true) ∧
  (¬({ up with dck := { up.dck with jam := some 5 } } : State).dck.jam.isNone = true) ∧
  (flushing.dealsStopped = true ∧ ¬up.dealsStopped = true) ∧
  ((fun (s : State) (label : BitVec 32) =>
    decide (s.labelOk label.toNat)) up 0 = true) ∧
  ((fun (s : State) (label : BitVec 32) =>
    decide (¬(s.labelOk label.toNat))) up 0xFFFFFFFF = true) ∧
  ((fun (s : State) (src : Nat) =>
    let s1 := s.srcPresent src;
    decide (s1.srcListed src)) (up.wr .DCK_SRC 1) 1 = true) ∧
  ((fun (s : State) (src : Nat) =>
    let s1 := s.srcPresent src;
    decide (¬(s1.srcListed src))) up 0 = true) := by
  refine ⟨?_, ?_, ?_, ?_, ?_, ?_, ?_, ?_, ?_, ?_⟩ <;> decide +kernel

theorem wit_DealClockEventsComplete :
  (bitsOf 24 6 0 = 24 ∧ staged.entryStatus 24 staged.stagedEntry = .DONE ∧
    staged.judgeAll 0 (staged.entryRights 24 staged.stagedEntry) = .DONE ∧ (staged.queue 24).length < 64) ∧
  (acquiring.dckState = dckAcquire ∧ 1 = acquiring.get .DCK_STATUS_ACTIVE_SRC) ∧
  (locked.dckState = dckLocked) ∧
  (holding.dckState = dckHoldover ∧ holding.flag .DCK_CTRL_AUTO_FALLBACK = true ∧ holding.firstUsable = some 2) ∧
  (holding.srcListed 1 = true ∧ 1 = holding.dck.lost) ∧
  ((up.wr .DCK_SRC 1).dckState = dckFree ∧ (up.wr .DCK_SRC 1).get .DCK_STATUS_ACTIVE_SRC = 0 ∧ (up.wr .DCK_SRC 1).srcListed 1 = true) ∧
  ((up.set .DCK_TC_CFG_LTC_IN_EN 1).startJam.flag .DCK_TC_CFG_LTC_IN_EN = true ∧ (up.set .DCK_TC_CFG_LTC_IN_EN 1).startJam.dck.jam ≠ none) ∧
  (up.dealsStopped = false) ∧
  (up.labelOk 0 = true) := by
  refine ⟨?_, ?_, ?_, ?_, ?_, ?_, ?_, ?_, ?_⟩ <;> decide +kernel

theorem wit_SensorEventsDo_1 :
  ((fun (s : State) (ctx : Fin 8) =>
    decide (s.mayEnable ctx.val)) (up.set .PIP_CTX_LB_UNITS 1 0) 0 = true) ∧
  ((fun (s : State) (ctx : Fin 8) =>
    decide (¬(s.mayEnable ctx.val))) up 0 = true) ∧
  (¬up.scbClaimed 0 = true ∧ (up.scb 0).running.isNone = true) ∧
  (spiBus.scbClaimed 1 = true) ∧
  ((fun (s : State) (bus : Fin 32) =>
    let b := bus.val;
    let k := s.scb b;
    decide (¬(s.scbClaimed b) ∧ ¬(k.running.isNone)) &&
    (decide (k.waitingList.isNone))) (busIn { running := some (.inr ⟨0, [0x10, 0, 0, 0, 0, 0, 0, 0]⟩) }) 0 = true) ∧
  ((fun (s : State) (bus : Fin 32) =>
    let b := bus.val;
    let k := s.scb b;
    decide (¬(k.running.isNone)) &&
    (decide (¬(k.waitingList.isNone)))) (busIn { running := some (.inl 0), waitingList := some 1 }) 0 = true) ∧
  ((!up.portOn 0) = true) ∧
  (portUp.portOn 0 = true ∧ portUp.deskewFails 0 65 4 = true ∧ portUp.deskewFails 0 64 3 = true) ∧
  (portUp.portOn 0 = true ∧ ¬portUp.deskewFails 0 64 4 = true) ∧
  ((fun (s : State) (ctx : Fin 8) =>
    decide (s.receiving ctx.val)) (((up.set .SNS_PORT_CFG_ENABLE 1 0).set .SNS_PORT_STAT_LOCKED 1 0).setCtx 0
      { up.ctx 0 with run := .running }) 0 = true) ∧
  ((fun (s : State) (ctx : Fin 8) =>
    decide (¬(s.receiving ctx.val))) up 0 = true) ∧
  ((fun (s : State) (ctx : Fin 8) =>
    let n := ctx.val;
    decide ((s.ctx n).latch.isSome)) (up.setCtx 0 { up.ctx 0 with latch := some 5 }) 0 = true) := by
  refine ⟨?_, ?_, ?_, ?_, ?_, ?_, ?_, ?_, ?_, ?_, ?_, ?_⟩ <;> decide +kernel

theorem wit_SensorEventsDo_2 :
  ((fun (s : State) (ctx : Fin 8) =>
    let n := ctx.val;
    decide (¬((s.ctx n).latch.isSome))) up 0 = true) ∧
  ((fun (s : State) (ctx : Fin 8) =>
    let n := ctx.val;
    decide (((s.ctx n).frames.find? fun f => !f.coloured && !f.dropped) = none)) up 0 = true) ∧
  ((fun (s : State) (ctx : Fin 8) =>
    let n := ctx.val;
    match ((s.ctx n).frames.find? fun f => !f.coloured && !f.dropped) with
    | some f => (decide (!f.demosaicked || !f.closed))
    | _ => false) (withFrame frame0) 0 = true) ∧
  ((fun (s : State) (ctx : Fin 8) =>
    let n := ctx.val;
    match ((s.ctx n).frames.find? fun f => !f.coloured && !f.dropped) with
    | some f => (decide (¬(!f.demosaicked || !f.closed)))
    | _ => false) (withFrame { frame0 with demosaicked := true, closed := true }) 0 = true) := by
  refine ⟨?_, ?_, ?_, ?_⟩ <;> decide +kernel

theorem wit_PipelineColourAndStatisticsEventsDo_1 :
  ((fun (s : State) (ctx : Fin 8) (bank : BitVec 32) =>
    let n := ctx.val;
    let b := bank.toNat;
    decide ((b < 2 ∧ (s.pipBank n b).complete))) (up.putPipBank 0 1
      { allocated := true, last := true, nodes := List.replicate 33540 (0, 1) }) 0 1 = true) ∧
  ((fun (s : State) (ctx : Fin 8) (bank : BitVec 32) =>
    let n := ctx.val;
    let b := bank.toNat;
    decide (¬(b < 2 ∧ (s.pipBank n b).complete))) up 0 0 = true) ∧
  ((fun (s : State) (out : Fin 8) (bank : BitVec 32) =>
    decide ((bank.toNat < 2 ∧ s.lookSwapOk out.val bank.toNat))) ((up.set .COL_LOOK_CFG_BANKS 2 0).set .COL_LOOK_BANK_COMPLETE 2 0) 0 1
      = true) ∧
  ((fun (s : State) (out : Fin 8) (bank : BitVec 32) =>
    decide (¬(bank.toNat < 2 ∧ s.lookSwapOk out.val bank.toNat))) up 0 0 = true) ∧
  ((fun (s : State) (ctx : Fin 8) (bank : BitVec 32) =>
    decide ((bank.toNat < 2 ∧ s.calComplete ctx.val bank.toNat))) (up.set .COL_CTX_BANK_COMPLETE 2 0) 0 1 = true) ∧
  ((fun (s : State) (ctx : Fin 8) (bank : BitVec 32) =>
    decide (¬(bank.toNat < 2 ∧ s.calComplete ctx.val bank.toNat))) up 0 0 = true) ∧
  ((fun (_ : State) (bank : BitVec 32) =>
    decide (bank.toNat < 2)) up 0 = true) ∧
  ((fun (_ : State) (bank : BitVec 32) =>
    decide (¬(bank.toNat < 2))) up 0x100 = true) ∧
  ((fun (s : State) (ctx : Fin 8) =>
    let n := ctx.val;
    decide (((s.ctx n).frames.find? fun f => !f.demosaicked && f.fed == f.rows) = none)) up 0 = true) ∧
  ((fun (s : State) (ctx : Fin 8) =>
    let n := ctx.val;
    match ((s.ctx n).frames.find? fun f => !f.demosaicked && f.fed == f.rows) with
    | some _ => (true)
    | _ => false) (withFrame { frame0 with fed := 64 }) 0 = true) ∧
  (up.pip.katDue = []) ∧
  (({ up with pip := { up.pip with katDue := [(0, 1)] } } : State).pip.katDue = (0, 1) :: [] ∧ true = true ∧ ¬false = true) := by
  refine ⟨?_, ?_, ?_, ?_, ?_, ?_, ?_, ?_, ?_, ?_, ?_, ?_⟩ <;> decide +kernel

theorem wit_PipelineColourAndStatisticsEventsDo_2 :
  ((fun (s : State) (ctx : Fin 8) =>
    let n := ctx.val;
    decide (((s.ctx n).frames.find? (·.recordDue)) = none)) up 0 = true) ∧
  ((fun (s : State) (ctx : Fin 8) =>
    let n := ctx.val;
    match ((s.ctx n).frames.find? (·.recordDue)) with
    | some f => (decide (!f.coloured || s.frozen))
    | _ => false) (withFrame { frame0 with recordDue := true }) 0 = true) ∧
  ((fun (s : State) (ctx : Fin 8) =>
    let n := ctx.val;
    match ((s.ctx n).frames.find? (·.recordDue)) with
    | some f => (decide (¬(!f.coloured || s.frozen)))
    | _ => false) (withFrame { frame0 with recordDue := true, coloured := true }) 0 = true) := by
  refine ⟨?_, ?_, ?_⟩ <;> decide +kernel

theorem wit_EngineEventsDo_1 :
  ((fun (s : State) (handle : BitVec 32) =>
    decide (s.kernelOf handle.toNat = none)) up 0 = true) ∧
  ((fun (s : State) (handle : BitVec 32) =>
    match s.kernelOf handle.toNat with
    | some k => (decide (s.kState k = 2))
    | _ => false) (kernelIn 2) 0x100 = true) ∧
  ((fun (s : State) (handle : BitVec 32) =>
    match s.kernelOf handle.toNat with
    | some k => (decide (¬(s.kState k = 2)))
    | _ => false) (kernelIn 3) 0x100 = true) ∧
  ((fun (s : State) (handle : BitVec 32) =>
    decide (s.kernelOf handle.toNat = none)) up 0 = true) ∧
  ((fun (s : State) (handle : BitVec 32) =>
    match s.kernelOf handle.toNat with
    | some k => (decide (s.kState k = 3))
    | _ => false) (kernelIn 3) 0x100 = true) ∧
  ((fun (s : State) (handle : BitVec 32) =>
    match s.kernelOf handle.toNat with
    | some k => (decide (¬(s.kState k = 3)))
    | _ => false) (kernelIn 2) 0x100 = true) ∧
  ((fun (s : State) (slot : Fin 32) =>
    decide (s.kernel slot.val = none)) up 0 = true) ∧
  ((fun (s : State) (slot : Fin 32) =>
    match s.kernel slot.val with
    | some _ => (decide (((s.kState slot.val ≠ 3 ∧ s.kState slot.val ≠ 4) ∨ s.frozen)))
    | _ => false) (kernelIn 2) 0 = true) ∧
  ((fun (s : State) (slot : Fin 32) (output : Fin 4) (input : Fin 4) (frame : Nat) (data : List Byte) =>
    match s.kernel slot.val with
    | some e => (decide (¬((s.kState slot.val ≠ 3 ∧ s.kState slot.val ≠ 4) ∨ s.frozen)) &&
    (let found := (tget e.inputs input.val).bind fun x =>
          (x.delivered.find? fun d => d.frame == frame).filter fun d => !x.abandoned.contains d.id;
    decide ((tget e.outputs output.val = none ∨ found = none ∨ (tget e.outputs output.val).any fun out => out.slotBytes <
      data.length))))
    | _ => false) (kernelIn 3) 0 0 0 0 [] = true) ∧
  ((fun (s : State) (slot : Fin 32) =>
    decide (s.kState slot.val = 4)) (kernelIn 4) 0 = true) ∧
  ((fun (s : State) (slot : Fin 32) =>
    decide (¬(s.kState slot.val = 4))) up 0 = true) ∧
  ((fun (s : State) (slot : Fin 32) =>
    let k := slot.val;
    decide ((s.kState k = 3 ∧ ((s.kernel k).bind (·.deadline)).isSome)))
      ((kernelIn 3).modKernel 0 fun e => { e with deadline := some 5 }) 0 = true) := by
  refine ⟨?_, ?_, ?_, ?_, ?_, ?_, ?_, ?_, ?_, ?_, ?_, ?_⟩ <;> decide +kernel

theorem wit_EngineEventsDo_2 :
  ((fun (s : State) (slot : Fin 32) =>
    let k := slot.val;
    decide (¬(s.kState k = 3 ∧ ((s.kernel k).bind (·.deadline)).isSome)) &&
    (decide (s.kState k = 4))) (kernelIn 4) 0 = true) ∧
  ((fun (s : State) (slot : Fin 32) =>
    let k := slot.val;
    decide (¬(s.kState k = 3 ∧ ((s.kernel k).bind (·.deadline)).isSome)) &&
    (decide (¬(s.kState k = 4)))) up 0 = true) ∧
  ((fun (s : State) (slot : Fin 32) =>
    let k := slot.val;
    decide ((s.kState k ≠ 3 ∧ s.kState k ≠ 4))) up 0 = true) ∧
  ((fun (s : State) (slot : Fin 32) =>
    let k := slot.val;
    decide (¬(s.kState k ≠ 3 ∧ s.kState k ≠ 4))) (kernelIn 3) 0 = true) ∧
  ((fun (s : State) (slot : Fin 32) =>
    decide (!s.kernelAlive slot.val)) up 0 = true) ∧
  ((fun (s : State) (slot : Fin 32) =>
    decide (s.kernelAlive slot.val)) (kernelIn 3) 0 = true) ∧
  ((fun (s : State) (slot : Fin 32) (input : Fin 4) =>
    let k := slot.val;
    let i := input.val;
    decide (((s.kernel k).bind fun e => tget e.inputs i) = none)) up 0 0 = true) ∧
  ((fun (s : State) (slot : Fin 32) (input : Fin 4) =>
    let k := slot.val;
    let i := input.val;
    match ((s.kernel k).bind fun e => tget e.inputs i) with
    | some x => (let held := x.newest.any fun id => (s.ctx x.ctx).frames.any fun f => f.id == id &&
      (if x.tap = 0 then f.rawSlot else f.devSlot);
    decide (!s.kernelAlive k || !x.frameKind || x.acquired.isSome || !held))
    | _ => false) delivering 0 0 = true) ∧
  ((fun (s : State) (slot : Fin 32) (input : Fin 4) =>
    let k := slot.val;
    let i := input.val;
    match ((s.kernel k).bind fun e => tget e.inputs i) with
    | some x => (let held := x.newest.any fun id => (s.ctx x.ctx).frames.any fun f => f.id == id &&
      (if x.tap = 0 then f.rawSlot else f.devSlot);
    decide (¬(!s.kernelAlive k || !x.frameKind || x.acquired.isSome || !held)))
    | _ => false) ((((withFrame { frame0 with rawSlot := true }).setKernel 0
      { inputs := [(0, { frameKind := true, ctx := 0, tap := 0, fmt := 0, rows := 0, granules := 0, port := none, newest := some 0 })] }).set .ENG_K_STATE_STATE 3 0)) 0 0 = true) ∧
  ((fun (s : State) (slot : Fin 32) =>
    decide (!s.kernelAlive slot.val)) up 0 = true) ∧
  ((fun (s : State) (slot : Fin 32) =>
    decide (s.kernelAlive slot.val)) (kernelIn 3) 0 = true) ∧
  (∀ status ∈ [none, some 0], ((deliveringWith status).kernel 0).any (fun e => ((tget e.inputs 0).bind fun x =>
      (x.delivered.find? fun d => d.frame == 1).filter fun d => !x.abandoned.contains d.id) == some ⟨0, 1, 0, status, none⟩ &&
      (tget e.outputs 0).isSome) = true) := by
  refine ⟨?_, ?_, ?_, ?_, ?_, ?_, ?_, ?_, ?_, ?_, ?_, ?_⟩ <;> decide +kernel

theorem wit_EncoderEventsDo_1 :
  ((fun (s : State) (stream : Fin 8) (handle : BitVec 32) =>
    decide ((s.bound stream.val = none ∨ s.codecOf handle.toNat = none))) up 0 0 = true) ∧
  ((fun (s : State) (stream : Fin 8) =>
    decide (s.bound stream.val = none)) up 0 = true) ∧
  ((fun (s : State) (stream : Fin 8) =>
    match s.bound stream.val with
    | some _ => (decide (s.streamOn stream.val))
    | _ => false) (onStream.set .MLS_S_CFG_RUNNING 1 0) 0 = true) ∧
  ((fun (s : State) (stream : Fin 8) =>
    match s.bound stream.val with
    | some h => (decide (¬(s.streamOn stream.val)) &&
    (decide (s.codecTime (s.activeWith h none))))
    | _ => false) onStream 0 = true) ∧
  ((fun (s : State) (stream : Fin 8) =>
    match s.bound stream.val with
    | some h => (decide (¬(s.streamOn stream.val)) &&
    (decide (¬(s.codecTime (s.activeWith h none)))))
    | _ => false) ((onStream.wr .SNS_GEOM 0x40003000 0).set .PIP_CTX_CFG_RATE_DECL 0xFFFF 0) 0 = true) ∧
  ((fun (s : State) (idx : Fin 64) =>
    let h := idx.val;
    decide (s.mls.resident.contains h || (s.codec h).coding.isEmpty)) up 0 = true) ∧
  ((fun (s : State) (idx : Fin 64) =>
    let h := idx.val;
    decide (¬(s.mls.resident.contains h || (s.codec h).coding.isEmpty)) &&
    (decide (s.mls.resident.length < 16))) (codecWith { coding := [coding0] }) 0 = true) ∧
  ((fun (s : State) (idx : Fin 64) =>
    let h := idx.val;
    decide (¬(s.mls.resident.contains h || (s.codec h).coding.isEmpty)) &&
    (decide (¬(s.mls.resident.length < 16)) &&
    (match (s.mls.resident.find? fun r => (s.codec r).coding.isEmpty) with
    | some _ => (true)
    | _ => false))) ({ codecWith { coding := [coding0] } with mls := { (codecWith { coding := [coding0] }).mls with resident := (List.range 16).map (· + 1) } }) 0 = true) ∧
  ((fun (s : State) (idx : Fin 64) =>
    let h := idx.val;
    decide (¬(s.mls.resident.contains h || (s.codec h).coding.isEmpty)) &&
    (decide (¬(s.mls.resident.length < 16)) &&
    (decide ((s.mls.resident.find? fun r => (s.codec r).coding.isEmpty) = none))))
      ({ ((List.range 17).foldl (fun s i => s.setCodec i { coding := [coding0] }) up) with mls := { ((List.range 17).foldl (fun s i => s.setCodec i { coding := [coding0] }) up).mls with resident := (List.range 16).map (· + 1) } }) 0 = true) ∧
  ((fun (s : State) (idx : Fin 64) =>
    let h := idx.val;
    decide (((s.codec h).ends) = [])) up 0 = true) ∧
  ((fun (s : State) (idx : Fin 64) =>
    let h := idx.val;
    match ((s.codec h).ends) with
    | _ :: _ => (true)
    | _ => false) (codecWith { ends := [(none, 0)] }) 0 = true) ∧
  ((fun (s : State) (idx : Fin 64) =>
    let h := idx.val;
    decide ((s.mls.rtDue.find? (·.idx == h)) = none)) up 0 = true) := by
  refine ⟨?_, ?_, ?_, ?_, ?_, ?_, ?_, ?_, ?_, ?_, ?_, ?_⟩ <;> decide +kernel

theorem wit_EncoderEventsDo_2 :
  (({ up with mls := { up.mls with rtDue := [due0] } } : State).mls.rtDue.find? (·.idx == 0) = some due0) ∧
  (onStream.bound 0 = some 0 ∧ onStream.codecOf 0x100 = some 0) := by
  refine ⟨?_, ?_⟩ <;> decide +kernel

theorem wit_DecoderEventsDo :
  (¬up.decRunning 0 = true ∨ (up.dec 0).inFrame.isSome = true) ∧
  ((decIn true).decRunning 0 = true ∧ ((decIn true).dec 0).inFrame = none) := by
  refine ⟨?_, ?_⟩ <;> decide +kernel

theorem wit_RecordingEventsDo_1 :
  ((fun (s : State) (stream : Fin 8) =>
    let st := stream.val;
    decide ((s.bound st).isNone)) up 0 = true) ∧
  ((fun (s : State) (stream : Fin 8) =>
    let st := stream.val;
    decide (¬((s.bound st).isNone)) &&
    (decide (s.streamOn st))) (onStream.set .MLS_S_CFG_RUNNING 1 0) 0 = true) ∧
  ((fun (s : State) (stream : Fin 8) =>
    let st := stream.val;
    decide (¬((s.bound st).isNone)) &&
    (decide (¬(s.streamOn st)))) onStream 0 = true) ∧
  ((fun (s : State) (handle : BitVec 32) =>
    decide (s.takeOf handle.toNat = none)) up 0 = true) ∧
  ((fun (s : State) (mag : Fin 4) (stream : Fin 8) (handle : BitVec 32) =>
    match s.takeOf handle.toNat with
    | some t => (decide (((s.take t).primary = mag.val ∧ (s.take t).stream = stream.val ∧ s.startStatus t = .DONE)))
    | _ => false) ((takeIn 1).set .MED_HOLDUP_HOLDUP_READY 1) 0 0 0x100 = true) ∧
  ((fun (s : State) (mag : Fin 4) (stream : Fin 8) (handle : BitVec 32) =>
    match s.takeOf handle.toNat with
    | some t => (decide (¬((s.take t).primary = mag.val ∧ (s.take t).stream = stream.val ∧ s.startStatus t = .DONE)))
    | _ => false) (takeIn 2) 0 0 0x100 = true) ∧
  ((fun (s : State) (mag : Fin 4) (stream : Fin 8) =>
    decide (s.recordingOn mag.val stream.val = none)) up 0 0 = true) ∧
  ((fun (s : State) (mag : Fin 4) (stream : Fin 8) =>
    match s.recordingOn mag.val stream.val with
    | some _ => (true)
    | _ => false) (takeIn 2) 0 0 = true) ∧
  ((fun (s : State) (mag : Fin 4) (stream : Fin 8) =>
    decide (s.recordingOn mag.val stream.val = none)) up 0 0 = true) ∧
  ((fun (s : State) (mag : Fin 4) (stream : Fin 8) =>
    match s.recordingOn mag.val stream.val with
    | some _ => (true)
    | _ => false) (takeIn 2) 0 0 = true) ∧
  ((fun (s : State) (idx : Fin 64) =>
    let h := idx.val;
    decide (!s.mayEncode h)) up 0 = true) ∧
  ((fun (s : State) (idx : Fin 64) =>
    let h := idx.val;
    decide (s.mayEncode h) &&
    (decide (s.nextFrame h = none))) (codecIn 1) 0 = true) := by
  refine ⟨?_, ?_, ?_, ?_, ?_, ?_, ?_, ?_, ?_, ?_, ?_, ?_⟩ <;> decide +kernel

theorem wit_RecordingEventsDo_2 :
  ((fun (s : State) (idx : Fin 64) =>
    let h := idx.val;
    decide (s.mayEncode h) &&
    (match s.nextFrame h with
    | some _ => (true)
    | _ => false)) ((((withFrame { frame0 with rawUses := [0] }).wr .MLS_C_CFG (2 ^ 24 + 2 ^ 17) 0))) 0 = true) ∧
  ((fun (s : State) (idx : Fin 64) =>
    decide ((s.frozen ∨ s.publishRec idx.val = none))) up 0 = true) ∧
  ((fun (s : State) (idx : Fin 64) =>
    decide (¬(s.frozen)) &&
    (match s.publishRec idx.val with
    | some (_, _, _) => (true)
    | _ => false)) (codecWith { coding := [coding0] }) 0 = true) ∧
  (up.magState 0 ≠ magMounting) ∧
  (mounting.magState 0 = magMounting ∧ (mounting.magz 0).label = none ∧
    ∀ c ∈ [LabelCopy.unreadable, .invalid], ((mounting.magz 0).found (foundOf c none)).label = none) ∧
  (((mounting.magz 0).found (foundOf (.valid label0) none)).label ≠ none ∧
    ((mounting.magz 0).found (foundOf (.valid label0) none)).newestCheckpoint = none) ∧
  (((mounting.magz 0).found (foundOf (.valid label0) (some checkpoint0))).label = some label0 ∧
    ((mounting.magz 0).found (foundOf (.valid label0) (some checkpoint0))).newestCheckpoint = some checkpoint0) ∧
  (up.nextWrite 0 = none) ∧
  ((magWith { staged := [staged0] }).nextWrite 0 = some staged0) ∧
  (up.nextProgrammed 0 0 = none) ∧
  ((magWith { pend := [pend0] }).nextProgrammed 0 1 = some pend0) := by
  refine ⟨?_, ?_, ?_, ?_, ?_, ?_, ?_, ?_, ?_, ?_, ?_⟩ <;> decide +kernel

theorem wit_RecordingEventsDo_3 :
  ((fun (s : State) (mag : Fin 4) =>
    let m := mag.val;
    let page := (s.magz m).page;
    decide (page.isEmpty)) up 0 = true) ∧
  ((fun (s : State) (mag : Fin 4) =>
    let m := mag.val;
    let page := (s.magz m).page;
    decide (¬(page.isEmpty))) (magWith { page := [.map 0 1] }) 0 = true) ∧
  ((up.bump .MED_M_WEAR_PROG_FAIL 0).magState 0 ≠ magReady) ∧
  (((magIn magReady).bump .MED_M_WEAR_PROG_FAIL 0).magState 0 = magReady ∧
    ¬(false || !((magIn magReady).get .MED_M_POOL_POOL 0 == 0)) = true) ∧
  (∀ erase, (((magIn magReady).set .MED_M_POOL_POOL 1 0).bump .MED_M_WEAR_PROG_FAIL 0).magState 0 = magReady ∧
    (erase || !(((magIn magReady).set .MED_M_POOL_POOL 1 0).get .MED_M_POOL_POOL 0 == 0)) = true) ∧
  ((fun (s : State) (mag : Fin 4) =>
    let m := mag.val;
    decide (((s.magz m).format) = none)) up 0 = true) ∧
  ((fun (s : State) (mag : Fin 4) =>
    let m := mag.val;
    match ((s.magz m).format) with
    | some _ => (true)
    | _ => false) (magWith { format := some 10 }) 0 = true) := by
  refine ⟨?_, ?_, ?_, ?_, ?_, ?_, ?_⟩ <;> decide +kernel

theorem wit_MediaChannelEventsDo_1 :
  ((fun (s : State) (slot : Fin 8) (mag : Fin 4) (tag : Fin 32) =>
    let m := mag.val;
    decide (s.runnable m slot.val tag.val opRead = none)) up 0 0 0 = true) ∧
  ((fun (s : State) (slot : Fin 8) (mag : Fin 4) (tag : Fin 32) =>
    let m := mag.val;
    match s.runnable m slot.val tag.val opRead with
    | some _ => (true)
    | _ => false) (magWith { queue := [tagged opRead] }) 0 0 1 = true) ∧
  ((fun (s : State) (slot : Fin 8) (mag : Fin 4) (tag : Fin 32) =>
    decide (s.runnable mag.val slot.val tag.val opWrite = none)) up 0 0 0 = true) ∧
  ((fun (s : State) (slot : Fin 8) (mag : Fin 4) (tag : Fin 32) =>
    match s.runnable mag.val slot.val tag.val opWrite with
    | some _ => (true)
    | _ => false) (magWith { queue := [tagged opWrite] }) 0 0 1 = true) ∧
  ((fun (s : State) (slot : Fin 8) (mag : Fin 4) (tag : Fin 32) =>
    decide (s.runnable mag.val slot.val tag.val opFlush = none)) up 0 0 0 = true) ∧
  ((fun (s : State) (slot : Fin 8) (mag : Fin 4) (tag : Fin 32) =>
    match s.runnable mag.val slot.val tag.val opFlush with
    | some _ => (true)
    | _ => false) (magWith { queue := [tagged opFlush] }) 0 0 1 = true) ∧
  ((fun (s : State) (slot : Fin 8) (mag : Fin 4) (tag : Fin 32) =>
    decide (s.runnable mag.val slot.val tag.val opTrim = none)) up 0 0 0 = true) ∧
  ((fun (s : State) (slot : Fin 8) (mag : Fin 4) (tag : Fin 32) =>
    match s.runnable mag.val slot.val tag.val opTrim with
    | some _ => (true)
    | _ => false) (magWith { queue := [tagged opTrim] }) 0 0 1 = true) ∧
  ((fun (s : State) (slot : Fin 8) (mag : Fin 4) (tag : Fin 32) =>
    let m := mag.val;
    decide (s.runnable m slot.val tag.val opIdentify = none)) up 0 0 0 = true) ∧
  ((fun (s : State) (slot : Fin 8) (mag : Fin 4) (tag : Fin 32) =>
    let m := mag.val;
    match s.runnable m slot.val tag.val opIdentify with
    | some _ => (true)
    | _ => false) (magWith { queue := [tagged opIdentify] }) 0 0 1 = true) ∧
  ((fun (s : State) (slot : Fin 8) (mag : Fin 4) (tag : Fin 32) =>
    let m := mag.val;
    decide (s.runnable m slot.val tag.val opPower = none)) up 0 0 0 = true) ∧
  ((fun (s : State) (slot : Fin 8) (mag : Fin 4) (tag : Fin 32) =>
    let m := mag.val;
    match s.runnable m slot.val tag.val opPower with
    | some t => (decide (!(((s.magz m).queue.takeWhile fun q => !(q.host == t.host && q.tag == t.tag)).isEmpty)))
    | _ => false) (magWith { queue := [tagged opRead, { tagged opPower with tag := 0 }] }) 0 0 0 = true) := by
  refine ⟨?_, ?_, ?_, ?_, ?_, ?_, ?_, ?_, ?_, ?_, ?_, ?_⟩ <;> decide +kernel

theorem wit_MediaChannelEventsDo_2 :
  ((fun (s : State) (slot : Fin 8) (mag : Fin 4) (tag : Fin 32) =>
    let m := mag.val;
    match s.runnable m slot.val tag.val opPower with
    | some t => (decide (¬(!(((s.magz m).queue.takeWhile fun q => !(q.host == t.host && q.tag == t.tag)).isEmpty))))
    | _ => false) (magWith { queue := [tagged opPower] }) 0 0 1 = true) ∧
  ((fun (s : State) (slot : Fin 8) (mag : Fin 4) (tag : Fin 32) =>
    decide (((s.magz mag.val).queue.find? fun t => t.host == slot.val && t.tag == tag.val) = none)) up 0 0 0 = true) ∧
  ((fun (s : State) (slot : Fin 8) (mag : Fin 4) (tag : Fin 32) =>
    match ((s.magz mag.val).queue.find? fun t => t.host == slot.val && t.tag == tag.val) with
    | some _ => (true)
    | _ => false) (magWith { queue := [tagged opRead] }) 0 0 1 = true) ∧
  ((fun (_ : State) (slot : Fin 8) (value : BitVec 32) =>
    let all := bitsOf value.toNat 4 4 == 1;
    decide (all && slot.val != 0)) up 1 0xFFFFFFFF = true) ∧
  ((fun (_ : State) (slot : Fin 8) (value : BitVec 32) =>
    let all := bitsOf value.toNat 4 4 == 1;
    decide (¬(all && slot.val != 0))) up 0 0 = true) ∧
  ((fun (s : State) (slot : Fin 8) =>
    decide ((s.med.resets.find? (·.host == slot.val)) = none)) up 0 = true) ∧
  ((fun (s : State) (slot : Fin 8) =>
    match (s.med.resets.find? (·.host == slot.val)) with
    | some _ => (true)
    | _ => false) ({ up with med := { up.med with resets := [⟨0, 0, 0, 0, 0⟩] } }) 0 = true) ∧
  ((fun (s : State) (mag : Fin 4) =>
    let m := mag.val;
    decide (((s.magz m).powerTask) = none)) up 0 = true) ∧
  ((fun (s : State) (mag : Fin 4) =>
    let m := mag.val;
    match ((s.magz m).powerTask) with
    | some t => (decide ((1 < (s.magz m).queue.length ∨ (t.count = 2 ∧ !(s.magz m).quiet))))
    | _ => false) (magWith { queue := [tagged opRead, tagged opPower], powerTask := some (tagged opPower) }) 0 = true) ∧
  ((fun (s : State) (mag : Fin 4) =>
    let m := mag.val;
    match ((s.magz m).powerTask) with
    | some t => (decide (¬(1 < (s.magz m).queue.length ∨ (t.count = 2 ∧ !(s.magz m).quiet))))
    | _ => false) (magWith { queue := [tagged opPower], powerTask := some (tagged opPower) }) 0 = true) := by
  refine ⟨?_, ?_, ?_, ?_, ?_, ?_, ?_, ?_, ?_, ?_⟩ <;> decide +kernel

theorem wit_MemoryEventsDo_1 :
  ((fun (s : State) (stack : Fin 2) =>
    decide (s.mem.measuring.contains stack.val || s.memPhase != memService)) up 0 = true) ∧
  ((fun (s : State) (stack : Fin 2) =>
    decide (¬(s.mem.measuring.contains stack.val || s.memPhase != memService))) (phaseIn memService) 0 = true) ∧
  ((fun (s : State) (stack : Fin 2) =>
    let k := stack.val;
    decide (!s.mem.measuring.contains k)) up 0 = true) ∧
  ((fun (s : State) (stack : Fin 2) =>
    let k := stack.val;
    decide (s.mem.measuring.contains k)) ({ phaseIn memService with mem := { up.mem with measuring := [0] } }) 0 = true) ∧
  ((fun (_ : State) (result : Fin 3) =>
    decide (result = 0)) up 0 = true) ∧
  ((fun (_ : State) (result : Fin 3) =>
    decide (result = 1)) up 1 = true) ∧
  ((phaseIn memService).memPhase = memService) ∧
  ((phaseIn memFrozen).memPhase = memFrozen ∧ (phaseIn memFailed).memPhase = memFailed) ∧
  (up.memPhase ≠ memService ∧ up.memPhase ≠ memFrozen ∧ up.memPhase ≠ memFailed) ∧
  ((fun (s : State) (cause : Fin 4) =>
    decide ((cause.val = 0 ∨ s.memPhase = memFrozen ∨ s.memPhase = memFailed))) up 0 = true) ∧
  ((fun (s : State) (cause : Fin 4) =>
    decide (¬(cause.val = 0 ∨ s.memPhase = memFrozen ∨ s.memPhase = memFailed)) &&
    (decide (s.memPhase = memService))) (phaseIn memService) 1 = true) ∧
  ((fun (s : State) (cause : Fin 4) =>
    decide (¬(cause.val = 0 ∨ s.memPhase = memFrozen ∨ s.memPhase = memFailed)) &&
    (decide (¬(s.memPhase = memService)) &&
    (decide (cause.val = 3)))) up 3 = true) := by
  refine ⟨?_, ?_, ?_, ?_, ?_, ?_, ?_, ?_, ?_, ?_, ?_, ?_⟩ <;> decide +kernel

theorem wit_MemoryEventsDo_2 :
  ((fun (s : State) (cause : Fin 4) =>
    decide (¬(cause.val = 0 ∨ s.memPhase = memFrozen ∨ s.memPhase = memFailed)) &&
    (decide (¬(s.memPhase = memService)) &&
    (decide (¬(cause.val = 3))))) up 1 = true) ∧
  ((fun (s : State) =>
    decide ((s.memPhase ≠ memTraining ∧ s.memPhase ≠ memTest ∧ s.memPhase ≠ memRecovery))) (phaseIn memService) = true) ∧
  ((fun (s : State) =>
    decide (¬(s.memPhase ≠ memTraining ∧ s.memPhase ≠ memTest ∧ s.memPhase ≠ memRecovery))) up = true) ∧
  ((fun (s : State) =>
    decide ((s.memPhase ≠ memTraining ∧ s.memPhase ≠ memRecovery))) (phaseIn memService) = true) ∧
  (¬(up.memPhase ≠ memTraining ∧ up.memPhase ≠ memRecovery) ∧ (trainLanes (wide ++ wide) []).isSome = true) ∧
  (¬(up.memPhase ≠ memTraining ∧ up.memPhase ≠ memRecovery) ∧ trainLanes (narrow ++ wide) [] = none) ∧
  ((fun (s : State) =>
    decide (s.memPhase ≠ memTest)) up = true) ∧
  ((fun (s : State) =>
    decide (s.memPhase = memTest)) (phaseIn memTest) = true) := by
  refine ⟨?_, ?_, ?_, ?_, ?_, ?_, ?_, ?_⟩ <;> decide +kernel

theorem wit_LinkEventsDo_1 :
  ((fun (s : State) (quad : Fin 24) (pattern : BitVec 32) =>
    decide ((s.prbsOk quad.val ∧ pattern.toNat ≤ 2))) ((up.set .LNK_Q_CFG_PROTOCOL protoTest 0).set .LNK_Q_CFG_TEST_RATE 1250 0) 0 0
      = true) ∧
  ((fun (s : State) (quad : Fin 24) (pattern : BitVec 32) =>
    decide (¬(s.prbsOk quad.val ∧ pattern.toNat ≤ 2))) up 0 0 = true) ∧
  ((fun (s : State) (quad : Fin 24) =>
    decide (s.prbsOk quad.val)) ((up.set .LNK_Q_CFG_PROTOCOL protoTest 0).set .LNK_Q_CFG_TEST_RATE 1250 0) 0 = true) ∧
  ((fun (s : State) (quad : Fin 24) =>
    decide (¬(s.prbsOk quad.val))) up 0 = true) ∧
  ((fun (s : State) (link : Fin 32) =>
    let k := link.val;
    decide (s.linkState k ≠ linkAligning)) up 0 = true) ∧
  ((fun (s : State) (link : Fin 32) (lanes : Nat) =>
    let k := link.val;
    decide (s.linkState k = linkAligning) &&
    (decide (lanes ≠ s.get .LNK_D_CFG_LANES k))) (linkIn linkAligning) 0 0 = true) ∧
  ((fun (s : State) (link : Fin 32) (lanes : Nat) (skew : Nat) =>
    let k := link.val;
    decide (s.linkState k = linkAligning) &&
    (decide (lanes = s.get .LNK_D_CFG_LANES k) &&
    (decide (16 < skew)))) (linkIn linkAligning) 0 1 24 = true) ∧
  ((fun (s : State) (link : Fin 32) (lanes : Nat) (skew : Nat) =>
    let k := link.val;
    decide (s.linkState k = linkAligning) &&
    (decide (lanes = s.get .LNK_D_CFG_LANES k) &&
    (decide (¬(16 < skew))))) (linkIn linkAligning) 0 1 0 = true) ∧
  ((fun (s : State) (link : Fin 32) (crcOk : Bool) =>
    let k := link.val;
    decide (!crcOk) &&
    (decide ((linkEnumerating ≤ s.linkState k ∧ s.linkState k ≤ linkUp)))) (linkIn linkEnumerating) 0 false = true) ∧
  ((fun (s : State) (link : Fin 32) (crcOk : Bool) =>
    let k := link.val;
    decide (!crcOk) &&
    (decide (¬(linkEnumerating ≤ s.linkState k ∧ s.linkState k ≤ linkUp)))) up 0 false = true) ∧
  ((fun (s : State) (link : Fin 32) (crcOk : Bool) =>
    let k := link.val;
    decide crcOk &&
    (decide (s.linkState k ≠ linkEnumerating))) up 0 true = true) ∧
  ((fun (s : State) (link : Fin 32) (flags : Nat) (crcOk : Bool) =>
    let k := link.val;
    decide crcOk &&
    (decide (s.linkState k = linkEnumerating) &&
    (decide (flags = 15)))) (linkIn linkEnumerating) 0 15 true = true) := by
  refine ⟨?_, ?_, ?_, ?_, ?_, ?_, ?_, ?_, ?_, ?_, ?_, ?_⟩ <;> decide +kernel

theorem wit_LinkEventsDo_2 :
  ((fun (s : State) (link : Fin 32) (flags : Nat) (crcOk : Bool) =>
    let k := link.val;
    decide crcOk &&
    (decide (s.linkState k = linkEnumerating) &&
    (decide (¬(flags = 15))))) (linkIn linkEnumerating) 0 0 true = true) ∧
  ((fun (s : State) (link : Fin 32) =>
    let k := link.val;
    let l := s.link k;
    decide ((s.linkState k ≠ linkEnumerating ∨ !l.complete ∨ !l.acked))) up 0 = true) ∧
  ((fun (s : State) (link : Fin 32) =>
    let k := link.val;
    let l := s.link k;
    decide (¬(s.linkState k ≠ linkEnumerating ∨ !l.complete ∨ !l.acked)))
      ((linkIn linkEnumerating).setLink 0 { pages := [(0, [1, 1]), (1, [])], acked := true }) 0 = true) ∧
  ((fun (s : State) (link : Fin 32) =>
    let k := link.val;
    decide ((s.linkState k = linkEnumerating ∧ !(s.link k).acked))) (linkIn linkEnumerating) 0 = true) ∧
  ((fun (s : State) (link : Fin 32) =>
    let k := link.val;
    decide (¬(s.linkState k = linkEnumerating ∧ !(s.link k).acked))) up 0 = true) ∧
  ((fun (s : State) (link : Fin 32) =>
    let k := link.val;
    decide (s.linkState k ≠ linkFailed)) up 0 = true) ∧
  ((fun (s : State) (link : Fin 32) =>
    let k := link.val;
    decide (s.linkState k = linkFailed)) (linkIn linkFailed) 0 = true) ∧
  ((fun (s : State) (link : Fin 32) =>
    let k := link.val;
    decide (s.linkState k ≠ linkUp)) up 0 = true) ∧
  ((fun (s : State) (link : Fin 32) (crcOk : Bool) =>
    let k := link.val;
    decide (s.linkState k = linkUp) &&
    (decide (!crcOk))) (linkIn linkUp) 0 false = true) ∧
  ((fun (s : State) (link : Fin 32) (channel : Nat) (crcOk : Bool) =>
    let k := link.val;
    decide (s.linkState k = linkUp) &&
    (decide crcOk &&
    (decide ((s.partnerUp k 1 ∧ !(s.fedBy k channel).isEmpty)))))
      ((((linkIn linkUp).set .LNK_D_STAT_PARTNER 1 0).set .SNS_CTX_CFG_SOURCE 1 0).setCtx 0 { up.ctx 0 with run := .running }) 0 0 true
        = true) ∧
  ((fun (s : State) (link : Fin 32) (channel : Nat) (crcOk : Bool) =>
    let k := link.val;
    decide (s.linkState k = linkUp) &&
    (decide crcOk &&
    (decide (¬(s.partnerUp k 1 ∧ !(s.fedBy k channel).isEmpty))))) (linkIn linkUp) 0 0 true = true) ∧
  ((fun (s : State) (link : Fin 32) =>
    let k := link.val;
    decide (s.linkState k ≠ linkUp)) up 0 = true) := by
  refine ⟨?_, ?_, ?_, ?_, ?_, ?_, ?_, ?_, ?_, ?_, ?_, ?_⟩ <;> decide +kernel

theorem wit_LinkEventsDo_3 :
  ((fun (s : State) (link : Fin 32) (crcOk : Bool) =>
    let k := link.val;
    decide (s.linkState k = linkUp) &&
    (decide (!crcOk))) (linkIn linkUp) 0 false = true) ∧
  ((fun (s : State) (link : Fin 32) (crcOk : Bool) =>
    let k := link.val;
    decide (s.linkState k = linkUp) &&
    (decide crcOk)) (linkIn linkUp) 0 true = true) ∧
  ((fun (s : State) (link : Fin 32) =>
    let k := link.val;
    decide ((s.linkState k ≠ linkEnumerating ∧ s.linkState k ≠ linkUp))) up 0 = true) ∧
  ((fun (s : State) (link : Fin 32) (reply : Bool) =>
    let k := link.val;
    decide (¬(s.linkState k ≠ linkEnumerating ∧ s.linkState k ≠ linkUp)) &&
    (decide reply)) (linkIn linkEnumerating) 0 true = true) ∧
  ((fun (s : State) (link : Fin 32) (reply : Bool) =>
    let k := link.val;
    decide (¬(s.linkState k ≠ linkEnumerating ∧ s.linkState k ≠ linkUp)) &&
    (decide (¬reply))) (linkIn linkEnumerating) 0 false = true) ∧
  ((fun (s : State) (link : Fin 32) (channel : Fin 4) =>
    let k := link.val;
    let c := channel.val + 1;
    decide ((!s.partnerUp k 4 ∨ (s.link k).byte 1 0 < c)) &&
    (decide (s.linkState k = linkUp))) (linkIn linkUp) 0 0 = true) ∧
  ((fun (s : State) (link : Fin 32) (channel : Fin 4) =>
    let k := link.val;
    let c := channel.val + 1;
    decide ((!s.partnerUp k 4 ∨ (s.link k).byte 1 0 < c)) &&
    (decide (¬(s.linkState k = linkUp)))) up 0 0 = true) ∧
  ((fun (s : State) (link : Fin 32) (channel : Fin 4) (first : Bool) (index : Nat) =>
    let k := link.val;
    let c := channel.val + 1;
    decide (¬(!s.partnerUp k 4 ∨ (s.link k).byte 1 0 < c)) &&
    (let u := s.setLink k ((s.link k).grant c 1);
    let l := u.link k;
    let cur := if first then (if index = 0 then some ([], 0) else none) else tget l.segments c;
    decide (cur = none))) (linkHost.setLink 0 { pages := [(0, [4, 1, 1]), (1, [1])], acked := true }) 0 0 false 0 = true) ∧
  ((fun (s : State) (link : Fin 32) (channel : Fin 4) (first : Bool) (index : Nat) =>
    let k := link.val;
    let c := channel.val + 1;
    decide (¬(!s.partnerUp k 4 ∨ (s.link k).byte 1 0 < c)) &&
    (let u := s.setLink k ((s.link k).grant c 1);
    let l := u.link k;
    let cur := if first then (if index = 0 then some ([], 0) else none) else tget l.segments c;
    match cur with
    | some (_, next) => (decide ((index ≠ next ∨ 172 ≤ index)))
    | _ => false)) (linkHost.setLink 0 { pages := [(0, [4, 1, 1]), (1, [1])], acked := true, segments := [(1, ([], 0))] }) 0 0 false 1
      = true) ∧
  ((fun (s : State) (link : Fin 32) (channel : Fin 4) (first : Bool) (last : Bool) (index : Nat) =>
    let k := link.val;
    let c := channel.val + 1;
    decide (¬(!s.partnerUp k 4 ∨ (s.link k).byte 1 0 < c)) &&
    (let u := s.setLink k ((s.link k).grant c 1);
    let l := u.link k;
    let cur := if first then (if index = 0 then some ([], 0) else none) else tget l.segments c;
    match cur with
    | some (_, next) => (decide (¬(index ≠ next ∨ 172 ≤ index)) &&
    (decide (!last)))
    | _ => false)) (linkHost.setLink 0 { pages := [(0, [4, 1, 1]), (1, [1])], acked := true }) 0 0 true false 0 = true) ∧
  ((fun (s : State) (link : Fin 32) (channel : Fin 4) (first : Bool) (last : Bool) (index : Nat) =>
    let k := link.val;
    let c := channel.val + 1;
    decide (¬(!s.partnerUp k 4 ∨ (s.link k).byte 1 0 < c)) &&
    (let u := s.setLink k ((s.link k).grant c 1);
    let l := u.link k;
    let cur := if first then (if index = 0 then some ([], 0) else none) else tget l.segments c;
    match cur with
    | some (_, next) => (decide (¬(index ≠ next ∨ 172 ≤ index)) &&
    (decide last))
    | _ => false)) (linkHost.setLink 0 { pages := [(0, [4, 1, 1]), (1, [1])], acked := true }) 0 0 true true 0 = true) ∧
  ((fun (s : State) =>
    decide (s.get .LNK_Q_CFG_PROTOCOL 8 ≠ protoPcie)) (up.set .LNK_Q_CFG_PROTOCOL 0 8) = true) := by
  refine ⟨?_, ?_, ?_, ?_, ?_, ?_, ?_, ?_, ?_, ?_, ?_, ?_⟩ <;> decide +kernel

theorem wit_LinkEventsDo_4 :
  ((fun (s : State) =>
    decide (s.get .LNK_Q_CFG_PROTOCOL 8 = protoPcie)) up = true) ∧
  ((fun (s : State) (link : Fin 32) =>
    let k := link.val;
    decide (s.linkState k = linkLocking)) (linkIn linkLocking) 0 = true) ∧
  ((fun (s : State) (link : Fin 32) =>
    let k := link.val;
    decide (¬(s.linkState k = linkLocking))) up 0 = true) ∧
  ((fun (s : State) (link : Fin 32) (lane : Nat) =>
    let k := link.val;
    decide ((s.linkState k ≠ linkUp ∨ s.get .LNK_D_CFG_LANES k ≤ lane))) up 0 0 = true) ∧
  ((fun (s : State) (link : Fin 32) (lane : Nat) =>
    let k := link.val;
    decide (¬(s.linkState k ≠ linkUp ∨ s.get .LNK_D_CFG_LANES k ≤ lane))) (linkIn linkUp) 0 0 = true) := by
  refine ⟨?_, ?_, ?_, ?_, ?_⟩ <;> decide +kernel

theorem wit_OutputAndAudioEventsDo_1 :
  ((fun (s : State) (out : Fin 8) =>
    let o := out.val;
    decide ((!s.outRunning o ∨ s.flushing))) up 0 = true) ∧
  ((fun (s : State) (out : Fin 8) =>
    let o := out.val;
    decide (¬(!s.outRunning o ∨ s.flushing)) &&
    (match ((s.output o).lastRef) with
    | some r => (decide (s.now < r + outPeriod (s.get .OUT_O_CFG_RATE o)))
    | _ => false)) (outUp { lastRef := some 0 }) 0 = true) ∧
  ((fun (s : State) (out : Fin 8) =>
    let o := out.val;
    decide (¬(!s.outRunning o ∨ s.flushing)) &&
    (match ((s.output o).lastRef) with
    | some r => (decide (¬(s.now < r + outPeriod (s.get .OUT_O_CFG_RATE o))))
    | _ => false)) ({ outUp { lastRef := some 0 } with dealTime := 100000000 }) 0 = true) ∧
  ((fun (s : State) (out : Fin 8) =>
    let o := out.val;
    decide (¬(!s.outRunning o ∨ s.flushing)) &&
    (decide (((s.output o).lastRef) = none))) (outUp {}) 0 = true) ∧
  ((fun (s : State) (port : Fin 16) =>
    let p := port.val;
    decide (s.audState p ≠ audStopped)) (audIn audClocked) 0 = true) ∧
  ((fun (s : State) (port : Fin 16) =>
    let p := port.val;
    decide (s.audState p = audStopped)) up 0 = true) ∧
  ((fun (s : State) (port : Fin 16) =>
    let p := port.val;
    decide (s.audState p ≠ audClocked)) up 0 = true) ∧
  ((fun (s : State) (port : Fin 16) =>
    let p := port.val;
    decide (s.audState p = audClocked)) (audIn audClocked) 0 = true) ∧
  ((fun (s : State) (port : Fin 16) =>
    let p := port.val;
    decide (s.audState p ≠ audRunning)) up 0 = true) ∧
  ((fun (s : State) (port : Fin 16) =>
    let p := port.val;
    decide (s.audState p = audRunning)) (audIn audRunning) 0 = true) ∧
  ((fun (s : State) (port : Fin 16) =>
    let p := port.val;
    decide (s.audState p ≠ audClocked)) up 0 = true) ∧
  ((fun (s : State) (port : Fin 16) =>
    let p := port.val;
    decide (s.audState p = audClocked)) (audIn audClocked) 0 = true) := by
  refine ⟨?_, ?_, ?_, ?_, ?_, ?_, ?_, ?_, ?_, ?_, ?_, ?_⟩ <;> decide +kernel

theorem wit_OutputAndAudioEventsDo_2 :
  ((fun (s : State) (session : Fin 8) =>
    let d := session.val;
    decide (s.frameEnd d = none)) up 0 = true) ∧
  ((((decIn true).modDec 0 fun k => { k with inFrame := some decoding0, input := [0, 0, 1, 0xF2] }).frameEnd 0).any fun t =>
    (t.publishDecoded 0 false).2.isSome) ∧
  (({ (decIn true).modDec 0 (fun k => { k with inFrame := some decoding0 }) with dealTime := 10 ^ 9 } : State).frameLate 0 = true ∧
    (({ (decIn true).modDec 0 (fun k => { k with inFrame := some decoding0 }) with dealTime := 10 ^ 9 } : State).publishDecoded 0
      true).2.isSome = true) ∧
  ((!(decIn true).frameLate 0) = true) ∧
  ((fun (s : State) (out : Fin 8) =>
    let o := out.val;
    decide (!(s.selfStartDue o).any (fun t => decide (t ≤ s.now)))) up 0 = true) ∧
  ((fun (s : State) (out : Fin 8) =>
    let o := out.val;
    decide (¬(!(s.selfStartDue o).any (fun t => decide (t ≤ s.now)))) &&
    (decide ((s.output o).stopPending))) ({ outUp { lastRef := some 0, stopPending := true } with dealTime := 100000000 }) 0 = true) ∧
  ((fun (s : State) (out : Fin 8) =>
    let o := out.val;
    decide (¬(!(s.selfStartDue o).any (fun t => decide (t ≤ s.now)))) &&
    (decide (¬((s.output o).stopPending)))) ({ outUp { lastRef := some 0 } with dealTime := 100000000 }) 0 = true) ∧
  ((fun (s : State) (out : Fin 8) =>
    let o := out.val;
    let k := s.output o;
    decide (k.writing = none)) up 0 = true) ∧
  ((fun (s : State) (out : Fin 8) =>
    let o := out.val;
    let k := s.output o;
    match k.writing with
    | some w => (decide ((!w.arrived ∨ s.frozen ∨ s.flushing)))
    | _ => false) (outUp { writing := some { shown0 with arrived := false } }) 0 = true) ∧
  ((fun (s : State) (out : Fin 8) =>
    let o := out.val;
    let k := s.output o;
    match k.writing with
    | some w => (decide (¬(!w.arrived ∨ s.frozen ∨ s.flushing)))
    | _ => false) (outUp { writing := some shown0 }) 0 = true) ∧
  ((fun (s : State) (out : Fin 8) (line : Nat) =>
    let o := out.val;
    decide (((s.output o).shown.isNone ∨ (s.output o).lastRef.isNone ∨ line = 0 ∨ (rasterOf (s.get .OUT_O_CFG_FORMAT o)).2 < line))) up
      0 0 = true) := by
  refine ⟨?_, ?_, ?_, ?_, ?_, ?_, ?_, ?_, ?_, ?_, ?_⟩ <;> decide +kernel

theorem wit_OutputAndAudioEventsDo_3 :
  ((fun (s : State) (out : Fin 8) (line : Nat) =>
    let o := out.val;
    decide (¬((s.output o).shown.isNone ∨ (s.output o).lastRef.isNone ∨ line = 0 ∨ (rasterOf (s.get .OUT_O_CFG_FORMAT o)).2 < line)))
      (outUp { lastRef := some 0, shown := some shown0 }) 0 1 = true) := by
  decide +kernel

theorem wit_FabricAndPositionEventsDo :
  ((fun (s : State) (pin : Fin 256) (high : Bool) =>
    let p := pin.val;
    decide ((s.get .EVF_PIN_DIR p = 2 ∨ (s.pin p).level = high))) up 0 false = true) ∧
  ((fun (s : State) (pin : Fin 256) (high : Bool) =>
    let p := pin.val;
    decide (¬(s.get .EVF_PIN_DIR p = 2 ∨ (s.pin p).level = high))) up 0 true = true) ∧
  ((fun (s : State) (enc : Fin 8) (up : Bool) =>
    let n := enc.val;
    let s1 := s.setCount n (s.count n + if up != s.flag .PTU_ENC_CFG_INVERT n then 1 else -1);
    decide (s1.flushing)) (up.modVal fun v => { v with powerFail := some 0 }) 0 false = true) ∧
  ((fun (s : State) (enc : Fin 8) (up : Bool) =>
    let n := enc.val;
    let s1 := s.setCount n (s.count n + if up != s.flag .PTU_ENC_CFG_INVERT n then 1 else -1);
    decide (¬(s1.flushing))) up 0 false = true) ∧
  ((fun (s : State) (enc : Fin 8) =>
    let n := enc.val;
    let s1 := ((s.wrSigned .PTU_ENC_IDX_LO .PTU_ENC_IDX_HI (s.count n) n).bump .PTU_ENC_STAT_INDEX n).pulseSource (0x90 + n);
    let armed := (List.range 2).any fun e =>
          s1.get .PTU_E_CFG_ENC e == n && (s1.engState e == engArmed || s1.engState e == engRewind);
    decide (s1.flag .PTU_ENC_CFG_INDEX_ZERO n && !armed)) (up.set .PTU_ENC_CFG_INDEX_ZERO 1 0) 0 = true) ∧
  ((fun (s : State) (enc : Fin 8) =>
    let n := enc.val;
    let s1 := ((s.wrSigned .PTU_ENC_IDX_LO .PTU_ENC_IDX_HI (s.count n) n).bump .PTU_ENC_STAT_INDEX n).pulseSource (0x90 + n);
    let armed := (List.range 2).any fun e =>
          s1.get .PTU_E_CFG_ENC e == n && (s1.engState e == engArmed || s1.engState e == engRewind);
    decide (¬(s1.flag .PTU_ENC_CFG_INDEX_ZERO n && !armed))) up 0 = true) ∧
  ((fun (s : State) (strobe : Fin 32) =>
    let b := strobe.val;
    decide (!s.flag .PTU_STB_CFG_FB_EN b)) up 0 = true) ∧
  ((fun (s : State) (strobe : Fin 32) =>
    let b := strobe.val;
    decide (s.flag .PTU_STB_CFG_FB_EN b)) (up.set .PTU_STB_CFG_FB_EN 1 0) 0 = true) := by
  refine ⟨?_, ?_, ?_, ?_, ?_, ?_, ?_, ?_⟩ <;> decide +kernel

theorem wit_SupervisorEventsDo :
  ((fun (s : State) (unit : Fin 64) =>
    decide (s.flag .VAL_MON_CFG_RUNNING unit.val)) (up.set .VAL_MON_CFG_RUNNING 1 0) 0 = true) ∧
  ((fun (s : State) (unit : Fin 64) =>
    decide (¬(s.flag .VAL_MON_CFG_RUNNING unit.val))) up 0 = true) ∧
  ((fun (s : State) (millivolts : Nat) =>
    let s1 := s.set .VAL_VIN_VIN millivolts;
    decide (s1.val.declared)) (up.modVal fun v => { v with declared := true }) 0 = true) ∧
  ((fun (s : State) (millivolts : Nat) =>
    let s1 := s.set .VAL_VIN_VIN millivolts;
    decide (¬(s1.val.declared))) up 0 = true) ∧
  ((fun (s : State) =>
    decide (s.val.bankAbove)) (up.modVal fun v => { v with bankAbove := true }) = true) ∧
  ((fun (s : State) =>
    decide (¬(s.val.bankAbove))) up = true) ∧
  ((fun (s : State) =>
    decide (s.val.shutdownAt.isNone)) up = true) ∧
  ((fun (s : State) =>
    decide (¬(s.val.shutdownAt.isNone))) (up.modVal fun v => { v with shutdownAt := some 5 }) = true) ∧
  ((fun (s : State) =>
    decide (s.flag .VAL_STATUS_REPLAN_DEFERRED && !s.recording)) (up.set .VAL_STATUS_REPLAN_DEFERRED 1) = true) ∧
  ((fun (s : State) =>
    decide (¬(s.flag .VAL_STATUS_REPLAN_DEFERRED && !s.recording))) up = true) ∧
  (¬up.recording = true ∧ recordingTake.recording = true) ∧
  ((fun (s : State) (unit : Fin 64) =>
    decide (!s.flag .VAL_MON_CFG_RUNNING unit.val)) up 0 = true) ∧
  ((fun (s : State) (unit : Fin 64) =>
    decide (s.flag .VAL_MON_CFG_RUNNING unit.val)) (up.set .VAL_MON_CFG_RUNNING 1 0) 0 = true) := by
  refine ⟨?_, ?_, ?_, ?_, ?_, ?_, ?_, ?_, ?_, ?_, ?_, ?_, ?_⟩ <;> decide +kernel

theorem wit_IntegrityResetAndTapEventsDo :
  ((fun (s : State) =>
    decide (s.boot.phase == .off && s.boot.thermalOff && s.flag .VAL_CFG_AUTO_RESTART))
      (({ up with boot := { up.boot with phase := .off, thermalOff := true } }).set .VAL_CFG_AUTO_RESTART 1) = true) ∧
  ((fun (s : State) =>
    decide (¬(s.boot.phase == .off && s.boot.thermalOff && s.flag .VAL_CFG_AUTO_RESTART))) up = true) ∧
  ((fun (s : State) (code : Nat) (x : Nat × Nat × Nat × Bool) =>
    decide (s.integ.inbox.find? (fun x => x.1 == code) = some x)) (up.modInteg fun k => { k with inbox := [(1, 0, 0, false)] }) 1
      (1, 0, 0, false) = true) ∧
  ((fun (s : State) (code : Nat) =>
    decide (s.integ.inbox.find? (fun x => x.1 == code) = none)) up 0 = true) ∧
  ((fun (_ : State) (valtu : Bool) =>
    decide valtu) up true = true) ∧
  ((fun (_ : State) (valtu : Bool) =>
    decide (¬valtu)) up false = true) ∧
  ((fun (s : State) =>
    decide (s.boot.resetLow)) ({ up with boot := { up.boot with resetLow := true } }) = true) ∧
  ((fun (s : State) =>
    decide (¬(s.boot.resetLow))) up = true) ∧
  ((fun (s : State) =>
    let t := s.tapLoad .samplePreload;
    decide (t.tap.loaded == .samplePreload)) ({ up with boot := { up.boot with resetLow := true } }) = true) ∧
  ((fun (s : State) =>
    let t := s.tapLoad .samplePreload;
    decide (¬(t.tap.loaded == .samplePreload))) up = true) ∧
  ((fun (s : State) =>
    decide (!s.val.railsOn.isEmpty)) (up.modVal fun v => { v with railsOn := [0] }) = true) ∧
  ((fun (s : State) =>
    decide (s.val.railsOn.isEmpty)) up = true) := by
  refine ⟨?_, ?_, ?_, ?_, ?_, ?_, ?_, ?_, ?_, ?_, ?_, ?_⟩ <;> decide +kernel

end Sys2Proof.Tests
end

section
/-!
SUPPORT. Bits of words, fields and masks, and the proofs of the register file's statements: what was written reads back, and reserved
bits and unimplemented addresses read as 0 (R9, R10).
-/
namespace Sys2Proof.Machine

/-! ### Fields of a word, bit by bit -/

theorem testBit_bitsOf (v hi lo k : Nat) : (bitsOf v hi lo).testBit k = (decide (k < hi + 1 - lo) && v.testBit (lo + k)) := by
  rw [bitsOf, Nat.testBit_mod_two_pow, Nat.testBit_div_two_pow, Nat.add_comm k]

/-- A word with a field replaced, in its three parts: above the field, the field, below it. -/
theorem withBits_eq (v hi lo x : Nat) :
    withBits v hi lo x =
      2 ^ lo * (2 ^ (hi + 1 - lo) * (v / 2 ^ lo / 2 ^ (hi + 1 - lo)) + x % 2 ^ (hi + 1 - lo)) + v % 2 ^ lo := by
  have below := Nat.div_add_mod v (2 ^ lo)
  have above := congrArg (2 ^ lo * ·) (Nat.div_add_mod (v / 2 ^ lo) (2 ^ (hi + 1 - lo)))
  simp only [withBits, bitsOf, Nat.mul_comm _ (2 ^ lo), Nat.mul_add] at above ⊢
  omega

theorem testBit_withBits (v hi lo x k : Nat) :
    (withBits v hi lo x).testBit k = if lo ≤ k ∧ k ≤ hi then x.testBit (k - lo) else v.testBit k := by
  rw [withBits_eq, Nat.testBit_two_pow_mul_add _ (Nat.mod_lt _ (Nat.two_pow_pos lo)),
    Nat.testBit_two_pow_mul_add _ (Nat.mod_lt _ (Nat.two_pow_pos _))]
  by_cases below : k < lo
  · simp [below, Nat.not_le.mpr below]
  · by_cases inside : k ≤ hi
    · simp [below, inside, Nat.le_of_not_lt below, show k - lo < hi + 1 - lo by omega]
    · simp [below, inside, show ¬ k - lo < hi + 1 - lo by omega,
        Nat.testBit_div_two_pow, show k - lo - (hi + 1 - lo) + (hi + 1 - lo) + lo = k by omega]

/-- Replacing a field of an `n`-bit word leaves an `n`-bit word. -/
theorem withBits_lt {v hi lo n : Nat} (x : Nat) (hv : v < 2 ^ n) (hhi : hi < n) : withBits v hi lo x < 2 ^ n := by
  refine Nat.lt_pow_two_of_testBit _ fun k hk => ?_
  rw [testBit_withBits, if_neg (by omega)]
  exact Nat.testBit_lt_two_pow (Nat.lt_of_lt_of_le hv (Nat.pow_le_pow_right Nat.two_pos hk))

/-- Replacing a field leaves every field that shares no bit with it. -/
theorem bitsOf_withBits_disjoint (v x : Nat) {hi lo hi' lo' : Nat} (apart : hi' < lo ∨ hi < lo') :
    bitsOf (withBits v hi lo x) hi' lo' = bitsOf v hi' lo' := by
  refine Nat.eq_of_testBit_eq fun k => ?_
  rw [testBit_bitsOf, testBit_bitsOf, testBit_withBits]
  by_cases hk : k < hi' + 1 - lo'
  · rw [if_neg (by omega)]
  · simp [hk]

/-! ### Fields of the register file -/

theorem State.rd_set (s : State) (f : Fld) (v i j : Nat) (h : f.hi < 32) :
    (s.set f v i j).rd f.reg i j = withBits (s.rd f.reg i j) f.hi f.lo v := by
  rw [State.set, State.rd_wr, Nat.mod_eq_of_lt (withBits_lt v (s.rd_lt f.reg i j) h)]

theorem State.get_set_same (s : State) (f : Fld) (v i j : Nat) (h : f.hi < 32) :
    (s.set f v i j).get f i j = v % 2 ^ (f.hi + 1 - f.lo) := by
  rw [State.get, s.rd_set f v i j h, bitsOf_withBits]

theorem State.get_set_disjoint (s : State) {f g : Fld} (v i j : Nat) (same : g.reg = f.reg) (h : f.hi < 32)
    (apart : g.hi < f.lo ∨ f.hi < g.lo) : (s.set f v i j).get g i j = s.get g i j := by
  rw [State.get, State.get, same, s.rd_set f v i j h, bitsOf_withBits_disjoint _ _ apart]

/-- Settles O9: the laws of `rd` and `wr`, and of fields on top of them. -/
theorem registersReadBack : Obligations.RegistersReadBack :=
  ⟨State.rd_wr, State.rd_wr_ne, fun s f v i j _ top => s.get_set_same f v i j top,
    fun s _ _ v i j same _ _ top _ apart => s.get_set_disjoint v i j same top apart, State.wr_rising⟩

/-! ### The mask of a register's fields -/

/-- Fields listed from the top bit down, no two of them sharing a bit. -/
abbrev FieldsFall (l : List FieldRow) : Prop := l.Pairwise fun f g => g.hi < f.lo

theorem registers_fieldsFall : ∀ r ∈ registers, FieldsFall r.fields := by decide +kernel

theorem regAtIn_mem {l : List Reg} {a : Nat} {r : Reg} {i j : Nat} (h : regAtIn l a = some (r, i, j)) : r ∈ l := by
  induction l with
  | nil => cases h
  | cons q t ih =>
    simp only [regAtIn] at h
    split at h
    · cases h; exact .head _
    · exact .tail _ (ih h)

/-- The word of ones in bits [hi:lo]. -/
def fieldOnes (f : FieldRow) : Nat := (2 ^ (f.hi + 1 - f.lo) - 1) * 2 ^ f.lo

/-- One step of `Reg.mask`. -/
def addField (p : Acc → Bool) (m : Nat) (f : FieldRow) : Nat := if p f.acc then m + fieldOnes f else m

theorem Reg.mask_eq_foldl (r : Reg) (p : Acc → Bool) : r.mask p = r.fields.foldl (addField p) 0 := rfl

theorem testBit_fieldOnes (f : FieldRow) (b : Nat) : (fieldOnes f).testBit b = decide (f.lo ≤ b ∧ b ≤ f.hi) := by
  rw [fieldOnes, Nat.testBit_mul_two_pow, Nat.testBit_two_pow_sub_one, ← Bool.decide_and]
  exact decide_eq_decide.mpr (by omega)

theorem fieldOnes_lt (f : FieldRow) : fieldOnes f < 2 ^ (f.hi + 1) :=
  Nat.lt_pow_two_of_testBit _ fun b hb => by rw [testBit_fieldOnes]; exact decide_eq_false (by omega)

/-- A field put below all bits of a mask sets no bit outside itself. -/
theorem testBit_addField (p : Acc → Bool) {m b : Nat} {f : FieldRow} (above : 2 ^ (f.hi + 1) ∣ m) (out : b < f.lo ∨ f.hi < b) :
    (addField p m f).testBit b = m.testBit b := by
  obtain ⟨a, rfl⟩ := above
  unfold addField
  split
  · rw [Nat.testBit_two_pow_mul_add a (fieldOnes_lt f), Nat.testBit_two_pow_mul, testBit_fieldOnes,
      decide_eq_false (by omega : ¬(f.lo ≤ b ∧ b ≤ f.hi))]
    by_cases hb : b < f.hi + 1
    · simp [hb, Nat.not_le.mpr hb]
    · simp [hb, Nat.le_of_not_lt hb]
  · rfl

/-- A field that ends above bit `hi` leaves the bits up to `hi` clear. -/
theorem dvd_addField (p : Acc → Bool) {m hi : Nat} {f : FieldRow} (h : 2 ^ (hi + 1) ∣ m) (low : hi < f.lo) :
    2 ^ (hi + 1) ∣ addField p m f := by
  unfold addField
  split
  · exact Nat.dvd_add h (Nat.dvd_mul_left_of_dvd (Nat.pow_dvd_pow 2 low) _)
  · exact h

/-- Fields collected from the top down set no bit outside them. -/
theorem testBit_foldl_addField (p : Acc → Bool) {b : Nat} {l : List FieldRow} {m : Nat} (fall : FieldsFall l)
    (above : ∀ f ∈ l, 2 ^ (f.hi + 1) ∣ m) (out : ∀ f ∈ l, b < f.lo ∨ f.hi < b) :
    (l.foldl (addField p) m).testBit b = m.testBit b := by
  induction l generalizing m with
  | nil => rfl
  | cons f t ih =>
    obtain ⟨falls, fall⟩ := List.pairwise_cons.mp fall
    obtain ⟨here, above⟩ := List.forall_mem_cons.mp above
    obtain ⟨outHere, out⟩ := List.forall_mem_cons.mp out
    rw [List.foldl_cons, ih fall (fun g hg => dvd_addField p (above g hg) (falls g hg)) out, testBit_addField p here outHere]

/-- A bit in no field of a register of the map is in no mask of it. -/
theorem Reg.testBit_mask_reserved {r : Reg} (p : Acc → Bool) {b : Nat} (hr : r ∈ registers)
    (out : ∀ f ∈ r.fields, b < f.lo ∨ f.hi < b) : (r.mask p).testBit b = false := by
  rw [r.mask_eq_foldl, testBit_foldl_addField p (registers_fieldsFall r hr) (fun _ _ => Nat.dvd_zero _) out, Nat.zero_testBit]

/-! ### Reads and writes by address -/

theorem State.readReg_unimplemented (s : State) (n : Nat) {a : Nat} (h : regAt a = none) : s.readReg n a = (0, s) := by
  simp only [State.readReg, h]

theorem State.writeReg_unimplemented (s : State) (n v : Nat) {a : Nat} (h : regAt a = none) : s.writeReg n a v = s := by
  simp only [State.writeReg, h]

/-- Whether it comes from a latch or from the register, a word read shows bits of fields only. -/
theorem State.readReg_masked (s : State) (n : Nat) {a i j : Nat} {r : Reg} (h : regAt a = some (r, i, j)) :
    ∃ w, (s.readReg n a).1 = w &&& r.mask fun _ => true := by
  simp only [State.readReg, h]
  split
  · exact ⟨_, rfl⟩
  · simp only [apply_ite Prod.fst, ite_self]
    exact ⟨_, rfl⟩

theorem State.readReg_reserved (s : State) (n : Nat) {a i j b : Nat} {r : Reg} (h : regAt a = some (r, i, j))
    (out : ∀ f ∈ r.fields, b < f.lo ∨ f.hi < b) : (s.readReg n a).1.testBit b = false := by
  obtain ⟨w, hw⟩ := s.readReg_masked n h
  rw [hw, Nat.testBit_and, Reg.testBit_mask_reserved _ (regAtIn_mem h) out, Bool.and_false]

/-- REG_READ of one unimplemented address runs to the word 0 and changes nothing. -/
theorem pktRegRead_run_unimplemented (s : State) (via : Via) {a : Nat} (h : regAt a = none) :
    (pktRegRead a 1).run via s = .done (.words [0]) s := by
  simp only [pktRegRead, State.readRegs, s.readReg_unimplemented _ h]

/-- REG_WRITE to one unimplemented address changes nothing. -/
theorem pktRegWrite_run_unimplemented (s : State) (via : Via) (w : BitVec 32) {a : Nat} (h : regAt a = none) :
    (pktRegWrite a 1 [w]).run via s = .done .empty s := by
  simp only [pktRegWrite, State.writeRegs, wordsFrom, List.foldl_cons, List.foldl_nil, s.writeReg_unimplemented _ _ h]

/-- Settles O11: no mask of a register holds a reserved bit, and an unimplemented address reaches no register. -/
theorem reservedBitsReadZero : Obligations.ReservedBitsReadZero := by
  refine ⟨fun s n _ h => s.readReg_unimplemented n h, fun s n _ v h => s.writeReg_unimplemented n v h, ?_, ?_, ?_⟩
  · intro s n a r i j b h out
    have clear := s.readReg_reserved n h out
    rw [Nat.testBit_eq_decide_div_mod_eq, decide_eq_false_iff_not] at clear
    omega
  · rintro was _ sender hdr a rfl begins h
    exact packet_done begins rfl rfl (pktRegRead_run_unimplemented _ _ h)
  · rintro was _ sender hdr a w rfl begins h
    exact packet_done begins rfl rfl (pktRegWrite_run_unimplemented _ _ w h)

end Sys2Proof.Machine
end

section
/-!
SUPPORT. Packets that arrive with a sound header and fail the check of their parameters (R65), and the proof that register packets refuse
addresses outside the register space (R9, R26).
-/
namespace Sys2Proof.Machine

/-! ### Check 8 of R65 -/

theorem need_false (t : Status) : need false t = t := rfl

/-- Of a list of checks whose first fails, that failure is the answer. -/
theorem firstFail_failed {t : Status} (ts : List Status) (failed : t ≠ .DONE) : firstFail (t :: ts) = t := if_neg failed

theorem State.taken_boot {s : State} {n : Fin 8} (none : s.untakenOf n.val = 0) : (s.taken n).boot = s.boot := by
  simp [State.taken, State.renew, State.pulled_boot none]

section
variable {s : State} {n : Fin 8} {c : Instr} {h : Hdr} {m : Packet} {r : Status} {o : Nat}

/-- An arrived packet of the right length whose parameters are wrong goes no further than that check. -/
theorem accept_badParams (cmd : Instr) (a : Arrives s n h) (fit : m.fits h = true) (params : m.params (s.taken n) = r)
    (failed : r ≠ .DONE) :
    (s.taken n).accept h cmd m = (s.taken n).finalReply h.via h.seq m.opcode (quietOf h) r .empty := by
  obtain ⟨via, phase, -, none, -⟩ := a
  have ready : (s.taken n).boot.phase = .ready := by rw [State.taken_boot none, phase]
  simp [State.accept, via, ready, fit, params, failed]

/-- A packet with a sound header whose parameters are wrong is refused with the status of that check, its lease renewed (R65, R82). -/
theorem packet_badParams (a : Arrives s n h) (sound : headerStatus h m.immediate = .DONE) (fit : m.fits h = true)
    (params : m.params (s.taken n) = r) (failed : r ≠ .DONE) (p : packetOf c = some (h, m)) (op : m.opcode = o) :
    Refuses s h c o r (s.taken n) := by
  subst op
  rw [Refuses, exec_packet c s _ p, State.packet, deliver_arrives m c a, if_neg (not_not_intro sound),
    accept_badParams c a fit params failed]
  rfl

end

/-! ### Register addresses -/

/-- However many words follow, an address outside the space or off the word grid is a bad one (R9, R26). -/
theorem addrStatus_bad {addr : Nat} (count : Nat) (bad : 0x10000000 ≤ addr ∨ addr % 4 ≠ 0) : addrStatus addr (count + 1) = .CPI_BAD_ADDRESS := by
  have outside : (addr % 4 == 0 && decide (addr + 4 * (count + 1) ≤ 0x10000000)) = false := by
    rcases bad with high | unaligned
    · rw [decide_eq_false (by omega), Bool.and_false]
    · rw [beq_false_of_ne unaligned, Bool.false_and]
  rw [addrStatus, outside, need_false]

/-- The check of the first word's address comes ahead of every other check of parameters. -/
theorem firstFail_addrStatus {addr : Nat} (ts : List Status) (bad : 0x10000000 ≤ addr ∨ addr % 4 ≠ 0) :
    firstFail (addrStatus addr 1 :: ts) = .CPI_BAD_ADDRESS := by
  rw [addrStatus_bad 0 bad, firstFail_failed ts Status.noConfusion]

/-- Settles O10: both packets check the first word's address before anything else of their parameters. -/
theorem highAddressesAreRefused : Obligations.HighAddressesAreRefused := by
  intro s n h addr count words arrives sound bad
  exact ⟨packet_badParams arrives sound rfl (firstFail_addrStatus _ bad) Status.noConfusion rfl rfl,
    packet_badParams arrives sound rfl (firstFail_addrStatus _ bad) Status.noConfusion rfl rfl⟩

end Sys2Proof.Machine
end

section
/-!
SUPPORT. Timecode labels (R40, log 13): the label of a frame's place in the day, read back, and the proof that labels count frames.
-/
namespace Sys2Proof.Machine

/-! ### BCD fields -/

theorem toBcd_lt (n : Nat) : toBcd n < 256 := by unfold toBcd; omega

theorem bcdByte_toBcd {n : Nat} (h : n < 100) : bcdByte (toBcd n) = some n := by
  rw [bcdByte, toBcd, if_pos (by omega)]
  exact congrArg some (by omega)

/-- A label with the given hours, minutes, seconds and frames. -/
def packLabel (h m s f : Nat) : Nat := toBcd h * 2 ^ 24 + toBcd m * 2 ^ 16 + toBcd s * 2 ^ 8 + toBcd f

theorem bitsOf_packLabel (h m s f : Nat) :
    bitsOf (packLabel h m s f) 31 24 = toBcd h ∧ bitsOf (packLabel h m s f) 23 16 = toBcd m ∧
      bitsOf (packLabel h m s f) 15 8 = toBcd s ∧ bitsOf (packLabel h m s f) 7 0 = toBcd f := by
  have := toBcd_lt h
  have := toBcd_lt m
  have := toBcd_lt s
  have := toBcd_lt f
  simp only [bitsOf, packLabel]
  omega

theorem labelParts_packLabel {h m s f : Nat} (hh : h < 100) (hm : m < 100) (hs : s < 100) (hf : f < 100) :
    labelParts (packLabel h m s f) = some (h, m, s, f) := by
  obtain ⟨eh, em, es, ef⟩ := bitsOf_packLabel h m s f
  simp only [labelParts, eh, em, es, ef, bcdByte_toBcd, hh, hm, hs, hf]
  rfl

/-! ### Labels by their parts -/

section
variable {rate l h m s f : Nat} {drop : Bool}

theorem labelFrames_of_parts (parts : labelParts l = some (h, m, s, f)) :
    labelFrames rate drop l =
      if drop then ((h * 60 + m) * 60 + s) * rate + f - dropCount rate * (h * 60 + m - (h * 60 + m) / 10)
      else ((h * 60 + m) * 60 + s) * rate + f := by
  simp only [labelFrames, parts]

theorem labelValid_of_parts (parts : labelParts l = some (h, m, s, f)) (hh : h < 24) (hm : m < 60) (hs : s < 60) (hf : f < rate)
    (kept : drop = true → m % 10 ≠ 0 → s = 0 → dropCount rate ≤ f) : labelValid rate drop l = true := by
  simp only [labelValid, parts, hh, hm, hs, hf, decide_true, Bool.true_and, Bool.not_eq_true', Bool.and_eq_false_iff,
    beq_eq_false_iff_ne, bne_eq_false_iff_eq, decide_eq_false_iff_not]
  cases drop with
  | false => simp
  | true => have := kept rfl; omega

end

/-! ### The label at a place of the day -/

/-- The label at place `i` of the day, where every label has a place, dropped or not. -/
def placeLabel (rate i : Nat) : Nat := packLabel (i / rate / 3600) (i / rate / 60 % 60) (i / rate % 60) (i % rate)

section
variable {rate i : Nat}

theorem labelParts_placeLabel (fast : rate ≤ 60) (day : i < rate * 86400) :
    labelParts (placeLabel rate i) = some (i / rate / 3600, i / rate / 60 % 60, i / rate % 60, i % rate) := by
  have seconds : i / rate < 86400 := Nat.div_lt_of_lt_mul day
  have frames : i % rate < rate := Nat.mod_lt i (by omega)
  exact labelParts_packLabel (by omega) (by omega) (by omega) (by omega)

/-- The frame count of a place: where frames are dropped, less those dropped in the minutes before it. -/
theorem labelFrames_placeLabel (drop : Bool) (fast : rate ≤ 60) (day : i < rate * 86400) :
    labelFrames rate drop (placeLabel rate i) =
      if drop then i - dropCount rate * (i / rate / 60 - i / rate / 60 / 10) else i := by
  have minutes : i / rate / 3600 * 60 + i / rate / 60 % 60 = i / rate / 60 := by omega
  have seconds : i / rate / 60 * 60 + i / rate % 60 = i / rate := by omega
  rw [labelFrames_of_parts (labelParts_placeLabel fast day), minutes, seconds, Nat.div_add_mod']

/-- A place has a valid label unless it is one of those dropped at the start of a minute. -/
theorem labelValid_placeLabel (drop : Bool) (fast : rate ≤ 60) (day : i < rate * 86400)
    (kept : drop = true → i / rate / 60 % 10 ≠ 0 → i / rate % 60 = 0 → dropCount rate ≤ i % rate) :
    labelValid rate drop (placeLabel rate i) = true := by
  have seconds : i / rate < 86400 := Nat.div_lt_of_lt_mul day
  have frames : i % rate < rate := Nat.mod_lt i (by omega)
  exact labelValid_of_parts (labelParts_placeLabel fast day) (by omega) (by omega) (by omega) frames
    fun d notTenth => kept d (by omega)

end

/-! ### The place of a frame -/

theorem framesLabel_nondrop {rate n : Nat} (day : n < dayFrames rate false) : framesLabel rate false n = placeLabel rate n := by
  have e : n % (rate * 86400) = n := Nat.mod_eq_of_lt day
  simp only [framesLabel, Bool.false_eq_true, if_false, e]
  rfl

/-- The minute of the day in which frame `n` of a drop-frame day stands: ten of them to a block, the first of them whole (log 13). -/
def dropMinute (rate n : Nat) : Nat :=
  let d := dropCount rate
  let block := rate * 600 - 9 * d
  10 * (n / block) + (n % block - d) / (rate * 60 - d)

/-- The place of frame `n` of a drop-frame day: its count with the labels dropped up to its minute. -/
def dropPlace (rate n : Nat) : Nat := n + dropCount rate * (dropMinute rate n - dropMinute rate n / 10)

section
variable {rate n : Nat} (rates : rate = 30 ∨ rate = 60) (day : n < dayFrames rate true)
include rates day

theorem dropMinute_lt : dropMinute rate n < 1440 := by
  rcases rates with rfl | rfl <;> simp only [dayFrames, dropMinute, dropCount, if_true] at day ⊢ <;> omega

/-- The place lies in the minute, behind the labels dropped at its start. -/
theorem dropPlace_bounds :
    dropMinute rate n * (rate * 60) ≤ dropPlace rate n ∧ dropPlace rate n < (dropMinute rate n + 1) * (rate * 60) ∧
      (dropMinute rate n % 10 ≠ 0 → dropMinute rate n * (rate * 60) + dropCount rate ≤ dropPlace rate n) := by
  rcases rates with rfl | rfl <;> simp only [dayFrames, dropPlace, dropMinute, dropCount, if_true] at day ⊢ <;> omega

theorem framesLabel_drop : framesLabel rate true n = placeLabel rate (dropPlace rate n) := by
  have wrap : n % ((rate * 600 - 9 * dropCount rate) * 144) = n := Nat.mod_eq_of_lt day
  have early : ∀ r d x : Nat, (if r < d then 0 else (r - d) / x) = (r - d) / x := fun r d x => by
    split
    · rw [Nat.sub_eq_zero_of_le (by omega), Nat.zero_div]
    · rfl
  have place : n + n / (rate * 600 - 9 * dropCount rate) * 9 * dropCount rate +
      (n % (rate * 600 - 9 * dropCount rate) - dropCount rate) / (rate * 60 - dropCount rate) * dropCount rate = dropPlace rate n := by
    rcases rates with rfl | rfl <;> simp only [dayFrames, dropPlace, dropMinute, dropCount, if_true] at day ⊢ <;> omega
  simp only [framesLabel, if_true, wrap, early, place]
  rfl

theorem dropPlace_minute : dropPlace rate n / rate / 60 = dropMinute rate n := by
  obtain ⟨low, high, -⟩ := dropPlace_bounds rates day
  rw [Nat.div_div_eq_div_mul]
  exact Nat.div_eq_of_lt_le low high

theorem dropPlace_inDay : dropPlace rate n < rate * 86400 := by
  obtain ⟨-, inMinute, -⟩ := dropPlace_bounds rates day
  calc dropPlace rate n
    _ < (dropMinute rate n + 1) * (rate * 60) := inMinute
    _ ≤ 1440 * (rate * 60) := Nat.mul_le_mul_right _ (dropMinute_lt rates day)
    _ = rate * 86400 := by omega

/-- In a minute that drops labels, the place of a frame of the first second is behind them. -/
theorem dropPlace_kept (notTenth : dropMinute rate n % 10 ≠ 0) (first : dropPlace rate n / rate % 60 = 0) :
    dropCount rate ≤ dropPlace rate n % rate := by
  have minute := dropPlace_minute rates day
  obtain ⟨-, -, kept⟩ := dropPlace_bounds rates day
  have := kept notTenth
  rcases rates with rfl | rfl <;> omega

end

/-- A frame count of the day becomes a valid label and reads back (R40, R41). -/
theorem framesLabel_reads_back {rate n : Nat} {drop : Bool} (fast : rate ≤ 60) (drops : drop = true → rate = 30 ∨ rate = 60)
    (day : n < dayFrames rate drop) :
    labelValid rate drop (framesLabel rate drop n) = true ∧ labelFrames rate drop (framesLabel rate drop n) = n := by
  cases drop with
  | false =>
    rw [framesLabel_nondrop day]
    exact ⟨labelValid_placeLabel false fast day nofun, labelFrames_placeLabel false fast day⟩
  | true =>
    have rates := drops rfl
    have inDay := dropPlace_inDay rates day
    have minute := dropPlace_minute rates day
    rw [framesLabel_drop rates day]
    refine ⟨labelValid_placeLabel true fast inDay fun _ => ?_, ?_⟩
    · rw [minute]
      exact dropPlace_kept rates day
    · rw [labelFrames_placeLabel true fast inDay, if_pos rfl, minute, dropPlace, Nat.add_sub_cancel]

theorem tcRate_mem {code : Nat} (h : code < 6) : tcRate code ∈ [24, 25, 30, 48, 50, 60] := by
  have codes : code = 0 ∨ code = 1 ∨ code = 2 ∨ code = 3 ∨ code = 4 ∨ code = 5 := by omega
  rcases codes with rfl | rfl | rfl | rfl | rfl | rfl <;> decide

theorem rates_le {rate : Nat} (h : rate ∈ [24, 25, 30, 48, 50, 60]) : rate ≤ 60 := by
  simp only [List.mem_cons, List.not_mem_nil, or_false] at h
  omega

theorem dayFrames_pos {rate : Nat} (h : rate ∈ [24, 25, 30, 48, 50, 60]) (drop : Bool) : 0 < dayFrames rate drop := by
  simp only [List.mem_cons, List.not_mem_nil, or_false] at h
  cases drop <;> simp only [dayFrames, dropCount] <;> simp <;> omega

/-- Settles O22: the places of the day give every frame its label; the label of a deal time is that of a count within the day. -/
theorem timecodeLabelsCountFrames : Obligations.TimecodeLabelsCountFrames := by
  refine ⟨fun rate rates drop drops n day => framesLabel_reads_back (rates_le rates) drops day, fun a t code drops => ?_⟩
  have rates := tcRate_mem code
  have positive : (0 : Int) < dayFrames (tcRate a.code) a.drop := Int.natCast_pos.mpr (dayFrames_pos rates a.drop)
  have count := Int.toNat_of_nonneg (Int.emod_nonneg (labelFrames (tcRate a.code) a.drop a.label + a.periods t) (Int.ne_of_gt positive))
  have day := Int.emod_lt_of_pos (labelFrames (tcRate a.code) a.drop a.label + a.periods t) positive
  rw [Anchor.labelAt, (framesLabel_reads_back (rates_le rates) (fun d => ?_) (by omega)).2, count, Anchor.periods]
  rcases drops d with e | e <;> rw [e] <;> decide

end Sys2Proof.Machine
end

section
/-!
SUPPORT. Deal port queues: the order that an entry's insertion and launch keep (R48), and what the entries of a DEAL_QUEUE add to each port.
-/
namespace Sys2Proof.Machine

/-! ### Insertion and launch (R48) -/

/-- Entries stand in order of due time. -/
abbrev InKeyOrder (q : List QEntry) : Prop := q.Pairwise fun a b => a.key ≤ b.key

@[simp] theorem mem_insertEntry {x e : QEntry} {q : List QEntry} : x ∈ insertEntry e q ↔ x = e ∨ x ∈ q := by
  induction q with
  | nil => simp [insertEntry]
  | cons y t ih =>
    simp only [insertEntry]
    split
    · rw [List.mem_cons, ih, List.mem_cons]
      exact or_left_comm
    · exact List.mem_cons

@[simp] theorem length_insertEntry (e : QEntry) (q : List QEntry) : (insertEntry e q).length = q.length + 1 := by
  induction q with
  | nil => rfl
  | cons y t ih =>
    simp only [insertEntry]
    split
    · rw [List.length_cons, ih, List.length_cons]
    · rfl

theorem insertEntry_inKeyOrder (e : QEntry) {q : List QEntry} (h : InKeyOrder q) : InKeyOrder (insertEntry e q) := by
  induction q with
  | nil => exact List.pairwise_singleton _ _
  | cons y t ih =>
    obtain ⟨first, rest⟩ := List.pairwise_cons.mp h
    simp only [insertEntry]
    split
    next before =>
      refine List.pairwise_cons.mpr ⟨fun x hx => ?_, ih rest⟩
      rcases mem_insertEntry.mp hx with rfl | hx
      · exact before
      · exact first x hx
    next behind =>
      refine List.pairwise_cons.mpr ⟨fun x hx => ?_, h⟩
      rcases List.mem_cons.mp hx with rfl | hx
      · omega
      · have := first x hx
        omega

/-- In an ordered queue an entry joins behind all due no later and ahead of all due later. -/
theorem insertEntry_eq_filter (e : QEntry) {q : List QEntry} (h : InKeyOrder q) :
    insertEntry e q = (q.filter fun x => x.key ≤ e.key) ++ [e] ++ (q.filter fun x => e.key < x.key) := by
  induction q with
  | nil => rfl
  | cons y t ih =>
    obtain ⟨first, rest⟩ := List.pairwise_cons.mp h
    by_cases before : y.key ≤ e.key
    · simp [insertEntry, before, Nat.not_lt.mpr before, ih rest]
    · have later : ∀ x ∈ t, e.key < x.key := fun x hx => Nat.lt_of_lt_of_le (Nat.lt_of_not_le before) (first x hx)
      have none : t.filter (fun x => x.key ≤ e.key) = [] :=
        List.filter_eq_nil_iff.mpr fun x hx => by simpa using later x hx
      have all : t.filter (fun x => e.key < x.key) = t :=
        List.filter_eq_self.mpr fun x hx => by simpa using later x hx
      simp [insertEntry, before, Nat.lt_of_not_le before, none, all]

/-- The first entry waits while its time is to come. -/
theorem launchFrom_early {now : Nat} {e : QEntry} (q : List QEntry) (h : now < e.key) : launchFrom now (e :: q) = none := if_pos h

/-- The entry that launches, with one occurrence less and its launch noted. -/
def QEntry.launched (e : QEntry) (now : Nat) : QEntry :=
  { (if e.late.isSome then { e with late := none } else e.advance 1) with last := some now }

/-- Once its time is reached the first entry launches; it joins the queue again where an occurrence is to come. -/
theorem launchFrom_due {now : Nat} {e : QEntry} (q : List QEntry) (h : e.key ≤ now) :
    launchFrom now (e :: q) = some (e, if (e.launched now).live then insertEntry (e.launched now) q else q) :=
  if_neg (Nat.not_lt.mpr h)

/-- Settles O13: the two lists `insertEntry` is made of, and the queue after a launch, which is the rest or the rest with one insertion. -/
theorem dealEntriesStayInOrder : Obligations.DealEntriesStayInOrder := by
  refine ⟨fun e q h => ⟨insertEntry_inKeyOrder e h, insertEntry_eq_filter e h⟩, fun now e q h => launchFrom_early q h, ?_⟩
  intro now e q due h
  have rest := (List.pairwise_cons.mp h).2
  refine ⟨_, launchFrom_due q due, ?_, fun x hx => ?_⟩
  · split
    · exact insertEntry_inKeyOrder _ rest
    · exact rest
  · split
    · exact mem_insertEntry.mpr (.inr hx)
    · exact hx

/-! ### Ports of the state -/

theorem State.queue_set (s : State) (f : Fld) (v i j p : Nat) : (s.set f v i j).queue p = s.queue p := rfl

theorem State.queue_putQueue (s : State) (p r : Nat) (q : List QEntry) :
    (s.putQueue p q).queue r = if r = p then q else s.queue r := by
  rw [State.putQueue, State.queue_set]
  split
  next same => rw [same, State.queue_setQueue]
  next other => exact s.queue_setQueue_ne q other

theorem State.queue_enqueue (s : State) (p r : Nat) (e : QEntry) :
    (s.enqueue p e).queue r = if r = p then insertEntry e (s.queue p) else s.queue r := s.queue_putQueue p r _

theorem State.enqueue_now (s : State) (p : Nat) (e : QEntry) : (s.enqueue p e).now = s.now := rfl

/-! ### Entries inserted together (R51) -/

theorem State.insertEntries_cons (s : State) (host : Nat) (x : Nat × Entry) (es : List (Nat × Entry)) :
    s.insertEntries host (x :: es) = (s.enqueue x.1 (newEntry x.2 host s.now none)).insertEntries host es := rfl

/-- Insertion puts every entry in its port, with the tick it is accepted on, and nothing else. -/
theorem State.mem_insertEntries (s : State) (host p : Nat) (es : List (Nat × Entry)) (x : QEntry) :
    x ∈ (s.insertEntries host es).queue p ↔ x ∈ s.queue p ∨ ∃ e, (p, e) ∈ es ∧ x = newEntry e host s.now none := by
  induction es generalizing s with
  | nil => simp [State.insertEntries]
  | cons y t ih =>
    obtain ⟨r, e⟩ := y
    rw [s.insertEntries_cons, ih, s.enqueue_now, s.queue_enqueue]
    by_cases same : p = r
    · subst same
      simp [or_and_right, exists_or, or_assoc, or_left_comm]
    · simp [same]

/-- A port grows by the entries listed for it. -/
theorem State.length_insertEntries (s : State) (host p : Nat) (es : List (Nat × Entry)) :
    ((s.insertEntries host es).queue p).length = (s.queue p).length + (es.filter fun x => x.1 == p).length := by
  induction es generalizing s with
  | nil => rfl
  | cons y t ih =>
    obtain ⟨r, e⟩ := y
    rw [s.insertEntries_cons, ih, s.queue_enqueue]
    by_cases same : p = r
    · subst same
      simp [Nat.add_assoc, Nat.add_comm 1]
    · simp [same, Ne.symm same]

theorem State.roomFor_iff (s : State) (es : List (Nat × Entry)) : s.roomFor es = true ↔
    ∀ p < 96, 0 < (es.filter fun x => x.1 == p).length → (s.queue p).length + (es.filter fun x => x.1 == p).length ≤ 64 := by
  simp only [State.roomFor, List.all_eq_true, List.mem_range, Bool.or_eq_true, beq_iff_eq, decide_eq_true_eq]
  refine forall₂_congr fun p _ => ?_
  omega

end Sys2Proof.Machine
end

section
/-!
SUPPORT. Packets that are refused, scheduled, held up or left in their ring (R56, R65, R70 … R72), the checks of DEAL_QUEUE (R51), and the
proofs about them.
-/
namespace Sys2Proof.Machine

/-! ### The checks of DEAL_QUEUE (R51) -/

theorem need_done {ok : Bool} {t : Status} (failing : t ≠ .DONE) : need ok t = .DONE ↔ ok = true := by
  cases ok <;> simp [need, failing]

theorem firstFail_done {ts : List Status} : firstFail ts = .DONE ↔ ∀ t ∈ ts, t = .DONE := by
  induction ts with
  | nil => simp [firstFail]
  | cons t ts ih =>
    by_cases done : t = .DONE
    · simp [firstFail, done, ih]
    · simp [firstFail, done]

/-- Sound entries name a port the TX9 has. -/
theorem State.entryStatus_port {s : State} {p : Nat} {e : Entry} (sound : s.entryStatus p e = .DONE) : p < 96 := by
  refine Nat.lt_of_not_le fun outside => ?_
  rw [State.entryStatus, if_pos outside] at sound
  cases sound

theorem pktDealQueue_params (es : List (Nat × Entry)) (s : State) : (pktDealQueue es).params s =
    firstFail (need (decide (1 ≤ es.length ∧ es.length ≤ 64)) .BAD_LENGTH :: es.map fun x => s.entryStatus x.1 x.2) := rfl

theorem pktDealQueue_checks (es : List (Nat × Entry)) (n : Nat) (s : State) :
    (pktDealQueue es).checks n s = need (s.roomFor es) .DCK_QUEUE_FULL := rfl

theorem pktDealQueue_sound {es : List (Nat × Entry)} {s : State} (h : (pktDealQueue es).params s = .DONE) :
    1 ≤ es.length ∧ es.length ≤ 64 ∧ ∀ x ∈ es, s.entryStatus x.1 x.2 = .DONE := by
  rw [pktDealQueue_params] at h
  have all := firstFail_done.mp h
  have count := (need_done Status.noConfusion).mp (all _ (.head _))
  obtain ⟨low, high⟩ := of_decide_eq_true count
  exact ⟨low, high, fun x hx => all _ (List.mem_cons_of_mem _ (List.mem_map.mpr ⟨x, hx, rfl⟩))⟩

/-- A port that entries are listed for is one of the 96. -/
theorem listedPort_lt {es : List (Nat × Entry)} {s : State} (sound : ∀ x ∈ es, s.entryStatus x.1 x.2 = .DONE) {p : Nat}
    (listed : 0 < (es.filter fun x => x.1 == p).length) : p < 96 := by
  obtain ⟨x, hx⟩ := List.length_pos_iff_exists_mem.mp listed
  obtain ⟨inList, port⟩ := List.mem_filter.mp hx
  rw [← eq_of_beq port]
  exact State.entryStatus_port (sound x inList)

/-! ### Packets that arrive: refused, scheduled, held up (R56, R65, R70 … R72) -/

section
variable {s : State} {n : Fin 8} {c : Instr} {h : Hdr} {m : Packet} {o : Nat} {r : Status}

theorem Arrives.taken_ready (a : Arrives s n h) : (s.taken n).boot.phase = .ready := by
  obtain ⟨-, phase, -, untaken, -⟩ := a
  rw [State.taken_boot untaken, phase]

/-- A packet that arrives with a sound header is answered as `accept` answers it. -/
theorem exec_accepts (a : Arrives s n h) (sound : headerStatus h m.immediate = .DONE) (p : packetOf c = some (h, m)) :
    exec c s = .next (s.shown ((s.taken n).accept h c m)) := by
  rw [exec_packet c s _ p, State.packet, deliver_arrives m c a, if_neg (not_not_intro sound)]
  rfl

/-- An arrived packet whose PARAM_LEN does not fit its opcode is refused (R65, R84). -/
theorem packet_unfit (a : Arrives s n h) (sound : headerStatus h m.immediate = .DONE) (unfit : m.fits h = false)
    (p : packetOf c = some (h, m)) (op : m.opcode = o) : Refuses s h c o .BAD_LENGTH (s.taken n) := by
  subst op
  have ready := a.taken_ready
  have ⟨via, _⟩ := a
  have refused : (s.taken n).accept h c m = (s.taken n).finalReply h.via h.seq m.opcode (quietOf h) .BAD_LENGTH .empty := by
    simp [State.accept, via, ready, unfit]
  rw [Refuses, exec_accepts a sound p, refused]
  rfl

/-- A packet that is held up by nothing, with its sender's rights in order, is refused where the state is not one it can run in
(check 11 of R65). -/
theorem packet_badState (passes : Passes s n h m) (unheld : Unheld s n h m)
    (judged : (s.taken n).judgeAll n.val (m.rights n.val (s.taken n)) = .DONE) (served : Served s m)
    (checked : m.checks n.val (s.taken n) = r) (failed : r ≠ .DONE) (p : packetOf c = some (h, m)) (op : m.opcode = o) :
    Refuses s h c o r (s.taken n) := by
  subst op
  have ⟨arrives, sound, _⟩ := passes
  have ⟨via, _, _, untaken, _⟩ := arrives
  have noShutdown : ((s.taken n).cpi.shuttingDown.isSome && decide (m.cls ≠ .observe)) = false := by
    rw [State.taken_shuttingDown untaken]
    rcases served with none | observes
    · simp [none]
    · simp [observes]
  have refused : (s.taken n).begin h m false (s.taken n).cpi.order =
      (s.taken n).finalReply h.via h.seq m.opcode (quietOf h) r .empty := by
    simp only [State.begin, via, slotOf, noShutdown]
    simp [judged, checked, failed]
  rw [Refuses, exec_accepts arrives sound p, accept_begins c passes unheld, refused]
  rfl

/-- A packet with LAUNCH takes a place on its sender's CPI port (R56). -/
theorem packet_scheduled (passes : Passes s n h m) (launch : h.launch ≠ 0) (room : ((s.taken n).queue (87 + n.val)).length < 64)
    (p : packetOf c = some (h, m)) :
    exec c s = .next (s.shown (((s.taken n).enqueue (87 + n.val)
      (newEntry (packetEntry h) n.val (s.taken n).now (some (takenOf h m c (s.taken n))))).reply h.via h.seq m.opcode .ACCEPTED
        (.values [(s.taken n).now]))) := by
  obtain ⟨arrives, sound, fit, params, pending⟩ := passes
  have ready := arrives.taken_ready
  have ⟨via, _⟩ := arrives
  rw [exec_accepts arrives sound p]
  simp only [State.accept, via, slotOf, ready, if_pos launch]
  simp [fit, params, Nat.not_le.mpr pending, Nat.not_le.mpr room]

/-- A packet that an earlier one holds up waits to begin (R70, R71; log 95). -/
theorem packet_deferred (passes : Passes s n h m) (launch : h.launch = 0)
    (held : (s.taken n).mayBeginNow (.ring n) (fenceOf h) (m.acts n.val (s.taken n)) = false) (p : packetOf c = some (h, m)) :
    exec c s = .next (s.shown (((s.taken n).defer (takenOf h m c (s.taken n))).reply h.via h.seq m.opcode .ACCEPTED .empty)) := by
  obtain ⟨arrives, sound, fit, params, pending⟩ := passes
  have ready := arrives.taken_ready
  have ⟨via, _⟩ := arrives
  rw [exec_accepts arrives sound p]
  simp [State.accept, via, slotOf, ready, fit, params, Nat.not_le.mpr pending, launch, held]

/-- A packet whose sender's reply ring is full stays in its ring, its doorbell rung (R72). -/
theorem deliver_ringFull (m : Packet) (c : Instr) (via : h.via = .ring n) (phase : s.boot.phase = .ready)
    (attached : s.attached n.val = true) (untaken : s.untakenOf n.val = 0) (resuming : (h.via, h.seq) ∉ s.cpi.resuming)
    (taking : (h.via, h.seq) ∉ s.cpi.taking) (full : 64 ≤ (s.host n.val).replies.length) :
    let rung := (s.implyDoorbell n.val).getD s
    s.deliver h c m = { rung with cpi := { rung.cpi with untaken := rung.cpi.untaken ++ [(n.val, .inl c)] } } := by
  obtain ⟨u, rings, cpi, -⟩ := implyDoorbell_room untaken
  have image := imageFirst_none h.seq m.opcode untaken
  have serves : s.serves (.ring n) = true := by simp [State.serves, phase, attached]
  have full : 64 ≤ (u.host n.val).replies.length := by simpa [State.host, cpi] using full
  rw [via] at resuming taking
  simp [State.deliver, via, resuming, taking, serves, image, rings, full]

end

/-- Settles O7: a scheduled packet, one held up, one behind a full reply ring. -/
theorem packetsWaitTheirTurn : Obligations.PacketsWaitTheirTurn := by
  refine ⟨fun s n h m c p passes => ⟨fun launch room => packet_scheduled passes launch room p,
    fun launch held => packet_deferred passes launch held p⟩, ?_⟩
  intro s n h m c p via phase attached untaken resuming taking full
  rw [exec_packet c s _ p, State.packet, deliver_ringFull m c via phase attached untaken resuming taking full]
  rfl

/-- Settles O12: the check before insertion covers every port that entries are listed for, since sound entries name no other. -/
theorem dealQueueInsertsAllOrNone : Obligations.DealQueueInsertsAllOrNone := by
  rintro was _ sender h es rfl
  refine ⟨fun arrives sound count => ?_, fun passes unheld served judged => ?_⟩
  · by_cases fit : (pktDealQueue es).fits h = true
    · have wrong : ¬(1 ≤ es.length ∧ es.length ≤ 64) := by omega
      have refused : (pktDealQueue es).params (was.taken sender) = .BAD_LENGTH := by
        rw [pktDealQueue_params, decide_eq_false wrong]
        exact firstFail_failed _ nofun
      exact packet_badParams arrives sound fit refused nofun rfl rfl
    · exact packet_unfit arrives sound (Bool.eq_false_iff.mpr fit) rfl rfl
  · have ⟨_, _, _, params, _⟩ := passes
    obtain ⟨low, high, sound⟩ := pktDealQueue_sound params
    constructor
    · rintro ⟨p, listed, beyond⟩
      have full : (was.taken sender).roomFor es = false := by
        rw [Bool.eq_false_iff, ne_eq, State.roomFor_iff]
        intro room
        exact Nat.not_le.mpr beyond (room p (listedPort_lt sound listed) listed)
      have refused : (pktDealQueue es).checks sender.val (was.taken sender) = .DCK_QUEUE_FULL := by
        rw [pktDealQueue_checks, full, need_false]
      exact packet_badState passes unheld judged served refused nofun rfl rfl
    · intro room
      have checked : (pktDealQueue es).checks sender.val (was.taken sender) = .DONE :=
        (need_done Status.noConfusion).mpr ((State.roomFor_iff _ _).mpr fun p _ => room p)
      exact ⟨low, high, _, packet_done ⟨passes, unheld, judged, served, checked⟩ rfl rfl rfl,
        fun p => State.length_insertEntries _ _ p es,
        fun p e here => (State.mem_insertEntries _ _ p es e).mpr (.inl here),
        fun p e listed => (State.mem_insertEntries _ _ p es _).mpr (.inr ⟨e, listed, rfl⟩)⟩

end Sys2Proof.Machine
end

section
/-!
SUPPORT. Registers under a field's write, a raised event and a count, and what replies and notices to the hosts leave alone.
-/
namespace Sys2Proof.Machine

/-! ### Registers and fields -/

section
variable (s : State)

theorem State.rd_set_ne (f : Fld) {q : Reg} (v i j k l : Nat) (h : q.addr k l ≠ f.reg.addr i j) :
    (s.set f v i j).rd q k l = s.rd q k l := s.rd_wr_ne _ _ _ i j k l h

theorem State.rd_markRaised (a w : Nat) (q : Reg) (k l : Nat) : (s.markRaised a w).rd q k l = s.rd q k l := rfl

theorem State.rd_raise_ne (f : Fld) {q : Reg} (b i k l : Nat) (h : q.addr k l ≠ f.reg.addr i 0) :
    (s.raise f b i).rd q k l = s.rd q k l := by
  rw [State.raise, State.rd_markRaised]
  split
  · rfl
  · exact s.rd_set_ne f _ i 0 k l h

/-- An event bit that is raised reads as 1. -/
theorem State.get_raise_bit (f : Fld) (i : Nat) (bit : f.hi = f.lo) (word : f.hi < 32) : (s.raise f 0 i).get f i = 1 := by
  have width : f.hi + 1 - f.lo = 1 := by omega
  have small : s.get f i < 2 := by
    rw [State.get, bitsOf, width]
    exact Nat.mod_lt _ Nat.two_pos
  rw [State.raise]
  split
  next raised =>
    show s.get f i = 1
    omega
  next clear =>
    show (s.set f (s.get f i + 2 ^ 0) i).get f i = 1
    rw [s.get_set_same f _ i 0 word, width]
    omega

/-- A count goes up to the largest value of its field and stays there. -/
theorem State.get_bump (f : Fld) (i n j : Nat) (word : f.hi < 32) :
    (s.bump f i n j).get f i j = min (s.get f i j + n) (2 ^ f.width - 1) := by
  show (s.set f _ i j).get f i j = _
  rw [s.get_set_same f _ i j word]
  exact Nat.mod_eq_of_lt (Nat.lt_of_le_of_lt (Nat.min_le_right _ _) (Nat.sub_lt (Nat.two_pow_pos _) Nat.one_pos))

theorem State.get_lt (f : Fld) (i j : Nat) : s.get f i j < 2 ^ f.width := Nat.mod_lt _ (Nat.two_pow_pos _)

end

/-! ### What a word to the hosts leaves alone -/

/-- `t` differs from `s` in the control processor interface only: its registers lie below 0x0100_0000. -/
structure HostsOnly (s t : State) : Prop where
  rd : ∀ (r : Reg) (i j : Nat), 0x01000000 ≤ r.addr i j → t.rd r i j = s.rd r i j
  dck : t.dck = s.dck

namespace HostsOnly

theorem refl (s : State) : HostsOnly s s := ⟨fun _ _ _ _ => rfl, rfl⟩

theorem trans {s t u : State} (a : HostsOnly s t) (b : HostsOnly t u) : HostsOnly s u :=
  ⟨fun r i j h => (b.rd r i j h).trans (a.rd r i j h), b.dck.trans a.dck⟩

theorem get {s t : State} (a : HostsOnly s t) (f : Fld) (i j : Nat) (h : 0x01000000 ≤ f.reg.addr i j) : t.get f i j = s.get f i j := by
  rw [State.get, State.get, a.rd f.reg i j h]

theorem set (s : State) (f : Fld) (v i j : Nat) (h : f.reg.addr i j < 0x01000000) : HostsOnly s (s.set f v i j) :=
  ⟨fun _ _ _ above => s.rd_set_ne f v i j _ _ (by omega), rfl⟩

theorem bump (s : State) (f : Fld) (i n j : Nat) (h : f.reg.addr i j < 0x01000000) : HostsOnly s (s.bump f i n j) :=
  ⟨(set s f _ i j h).rd, rfl⟩

theorem foldl {α : Type} (step : State → α → State) (l : List α) (s : State) (h : ∀ s, ∀ a ∈ l, HostsOnly s (step s a)) :
    HostsOnly s (l.foldl step s) := by
  induction l generalizing s with
  | nil => exact refl s
  | cons a t ih => exact (h s a (.head _)).trans (ih _ fun s b hb => h s b (.tail _ hb))

theorem ringReply (s : State) {n : Nat} (v : Nat) (r : Reply) (h : n < 8) : HostsOnly s (s.ringReply n v r) := by
  have tail : Reg.addr .CPI_SLOT_RQ_TAIL n 0 < 0x01000000 := by simp only [Reg.addr, Reg.CPI_SLOT_RQ_TAIL]; omega
  have moved := HostsOnly.set s .CPI_SLOT_RQ_TAIL_INDEX (s.get .CPI_SLOT_RQ_TAIL_INDEX n + 1) n 0 tail
  simp only [State.ringReply]
  split
  · exact ⟨fun _ _ _ _ => rfl, rfl⟩
  · split
    · exact ⟨moved.rd, moved.dck⟩
    · exact ⟨moved.rd, moved.dck⟩

theorem reply (s : State) (via : Via) (seq : BitVec 32) (opcode : Nat) (t : Status) (b : Body) :
    HostsOnly s (s.reply via seq opcode t b) := by
  cases via with
  | ring n => exact ringReply s 0 _ n.isLt
  | mailbox e => exact ⟨fun _ _ _ _ => rfl, rfl⟩

theorem finalReply (s : State) (via : Via) (seq : BitVec 32) (opcode : Nat) (quiet : Bool) (t : Status) (b : Body) :
    HostsOnly s (s.finalReply via seq opcode quiet t b) := by
  have said : ∀ u, HostsOnly s u → HostsOnly s (if quiet && t == .DONE then u else u.reply via seq opcode t b) := fun u counted => by
    split
    · exact counted
    · exact counted.trans (reply u via seq opcode t b)
  cases via with
  | mailbox e => exact said s (refl s)
  | ring n =>
    have slot : Reg.addr .CPI_SLOT_STAT n.val 0 < 0x01000000 := by simp only [Reg.addr, Reg.CPI_SLOT_STAT]; omega
    have counted : HostsOnly s (if t.isRefusal then s.bump .CPI_SLOT_STAT_REFUSED n.val else s) := by
      split
      · exact bump s .CPI_SLOT_STAT_REFUSED n.val 1 0 slot
      · exact refl s
    exact said _ counted

theorem notify (s : State) (c : Cause) (detail : Nat) (except : Option Nat) : HostsOnly s (s.notify c detail except) := by
  refine foldl _ _ s fun s n hn => ?_
  split
  · exact ringReply s 1 _ (List.mem_range.mp hn)
  · exact refl s

end HostsOnly

end Sys2Proof.Machine
end

section
/-!
SUPPORT. What the events of the deal clock leave in its registers and records (R34 … R49, R54), and the proof that they complete.
-/
namespace Sys2Proof.Machine

/-! ### The discipline (R35 … R37) -/

section
variable (s : State) (st src : Nat)

/-- STATE and its source as a change shows them, with the tick since which the clock holds over. -/
def State.clockShown : State :=
  ((s.set .DCK_STATUS_STATE st).set .DCK_STATUS_ACTIVE_SRC src).modDck fun d =>
    { d with holdoverSince := if st = dckHoldover then d.holdoverSince.or (some s.now) else none }

/-- The change with its event, before the hosts are told. -/
def State.clockRaised : State :=
  if st = dckHoldover ∧ s.dckState ≠ dckHoldover then (s.clockShown st src).raise .DCK_EVT_HOLDOVER else s.clockShown st src

theorem State.setClock_eq : s.setClock st src =
    if st = s.dckState then s.clockRaised st src else (s.clockRaised st src).notify .clockState st := rfl

theorem State.setClock_hosts : HostsOnly (s.clockRaised st src) (s.setClock st src) := by
  rw [State.setClock_eq]
  split
  · exact .refl _
  · exact .notify _ _ _ _

theorem State.clockRaised_rd {q : Reg} {k l : Nat} (evt : q.addr k l ≠ Reg.addr .DCK_EVT 0 0) :
    (s.clockRaised st src).rd q k l = ((s.set .DCK_STATUS_STATE st).set .DCK_STATUS_ACTIVE_SRC src).rd q k l := by
  rw [State.clockRaised]
  split
  · exact (s.clockShown st src).rd_raise_ne _ 0 0 k l evt
  · rfl

theorem State.clockRaised_dck : (s.clockRaised st src).dck = (s.clockShown st src).dck := by
  rw [State.clockRaised]
  split
  · exact (s.clockShown st src).raise_dck _ _ _
  · rfl

/-- Of the clock's records a change of STATE touches only the tick since which it holds over. -/
theorem State.setClock_dck : (s.setClock st src).dck = (s.clockShown st src).dck :=
  (s.setClock_hosts st src).dck.trans (s.clockRaised_dck st src)

theorem State.setClock_present : (s.setClock st src).dck.present = s.dck.present := by rw [State.setClock_dck]; rfl

theorem State.setClock_state : (s.setClock st src).dckState = st % 4 := by
  rw [State.dckState, (s.setClock_hosts st src).get .DCK_STATUS_STATE 0 0 (by decide), State.get, s.clockRaised_rd st src (by decide)]
  exact (State.get_set_disjoint _ (f := .DCK_STATUS_ACTIVE_SRC) (g := .DCK_STATUS_STATE) src 0 0 rfl (by decide) (.inl (by decide))).trans
    (s.get_set_same .DCK_STATUS_STATE st 0 0 (by decide))

theorem State.setClock_active : (s.setClock st src).get .DCK_STATUS_ACTIVE_SRC = src % 16 := by
  rw [(s.setClock_hosts st src).get .DCK_STATUS_ACTIVE_SRC 0 0 (by decide), State.get, s.clockRaised_rd st src (by decide)]
  exact State.get_set_same _ .DCK_STATUS_ACTIVE_SRC src 0 0 (by decide)

theorem State.setClock_rd {q : Reg} {k l : Nat} (block : 0x01000000 ≤ q.addr k l) (status : q.addr k l ≠ Reg.addr .DCK_STATUS 0 0)
    (evt : q.addr k l ≠ Reg.addr .DCK_EVT 0 0) : (s.setClock st src).rd q k l = s.rd q k l := by
  rw [(s.setClock_hosts st src).rd q k l block, s.clockRaised_rd st src evt, State.rd_set_ne _ _ _ _ _ _ _ status,
    State.rd_set_ne _ _ _ _ _ _ _ status]

end

/-! ### Usable sources -/

/-- Of the elements that satisfy a predicate, the one found stands first. -/
theorem findIdx_find?_le {p : Nat → Bool} {l : List Nat} {x y : Nat} (found : l.find? p = some x) (py : p y = true) :
    l.findIdx (· == x) ≤ l.findIdx (· == y) := by
  induction l with
  | nil => cases found
  | cons a t ih =>
    by_cases pa : p a = true
    · rw [List.find?_cons_of_pos pa] at found
      simp [Option.some.inj found, List.findIdx_cons]
    · rw [List.find?_cons_of_neg pa] at found
      have notX : (a == x) = false := by
        rw [beq_eq_false_iff_ne]
        rintro rfl
        exact pa (List.find?_some found)
      have notY : (a == y) = false := by
        rw [beq_eq_false_iff_ne]
        rintro rfl
        exact pa py
      simp [List.findIdx_cons, notX, notY, ih found]

theorem srcList_range {word x : Nat} (h : x ∈ srcList word) : x ≠ 0 ∧ x < 16 := by
  obtain ⟨field, nonzero⟩ := List.mem_filter.mp h
  refine ⟨of_decide_eq_true nonzero, ?_⟩
  have nibble : ∀ v hi lo : Nat, hi = lo + 3 → bitsOf v hi lo < 16 := by
    rintro v _ lo rfl
    rw [bitsOf, show lo + 3 + 1 - lo = 4 by omega]
    exact Nat.mod_lt _ (by decide)
  simp only [List.mem_cons, List.not_mem_nil, or_false] at field
  rcases field with rfl | rfl | rfl | rfl <;> exact nibble word _ _ rfl

theorem State.firstUsable_range {s : State} {x : Nat} (h : s.firstUsable = some x) : x ≠ 0 ∧ x < 16 :=
  srcList_range (List.mem_of_find?_eq_some h)

/-- With a listed source usable there is a first usable one, no lower in the list. -/
theorem State.firstUsable_of_listed {s : State} {src : Nat} (listed : s.srcListed src = true) (present : src ∈ s.dck.present) :
    ∃ x, s.firstUsable = some x ∧ s.srcRank x ≤ s.srcRank src := by
  have usable : s.dck.present.contains src = true := List.contains_iff_mem.mpr present
  have isSome : s.firstUsable.isSome = true := List.find?_isSome.mpr ⟨src, List.contains_iff_mem.mp listed, usable⟩
  obtain ⟨x, found⟩ := Option.isSome_iff_exists.mp isSome
  exact ⟨x, found, findIdx_find?_le found usable⟩

theorem State.srcPresent_rd (s : State) (x : Nat) (q : Reg) (k l : Nat) : (s.srcPresent x).rd q k l = s.rd q k l := by
  rw [State.srcPresent]
  split <;> rfl

theorem State.srcPresent_lost (s : State) (x : Nat) : (s.srcPresent x).dck.lost = s.dck.lost := by
  rw [State.srcPresent]
  split <;> rfl

theorem State.mem_srcPresent (s : State) (x : Nat) : x ∈ (s.srcPresent x).dck.present := by
  rw [State.srcPresent]
  split
  next already => exact List.contains_iff_mem.mp already
  next => exact List.mem_append_right _ (List.mem_singleton_self x)

/-- In HOLDOVER the return of the lost source is followed at once (R37; log 78). -/
theorem State.reselect_lost {s : State} (holds : s.dckState = dckHoldover) (listed : s.srcListed s.dck.lost = true)
    (present : s.dck.lost ∈ s.dck.present) : ∃ x, s.reselect = s.setClock dckAcquire x := by
  obtain ⟨x, found, rank⟩ := State.firstUsable_of_listed listed present
  exact ⟨x, by rw [State.reselect, found]; exact (if_pos holds).trans (if_pos rank)⟩

/-- A clock that follows no source acquires the first usable one (R35). -/
theorem State.reselect_free {s : State} {src : Nat} (free : s.dckState = dckFree) (none : s.get .DCK_STATUS_ACTIVE_SRC = 0)
    (listed : s.srcListed src = true) (present : src ∈ s.dck.present) : ∃ x, s.reselect = s.setClock dckAcquire x := by
  obtain ⟨x, found, -⟩ := State.firstUsable_of_listed listed present
  have other : x ≠ s.get .DCK_STATUS_ACTIVE_SRC := fun e => (State.firstUsable_range found).1 (e.trans none)
  have holding : s.dckState ≠ dckHoldover := by rw [free]; decide
  exact ⟨x, by rw [State.reselect, found]; exact (if_neg holding).trans (if_neg other)⟩

/-! ### Lock, loss and return of a source (R34, R35, R37) -/

/-- The clock as LOCK_GAINED leaves it before a step at first lock. -/
def State.lockedOn (s : State) (src : Nat) (phase freq : Int) : State :=
  let t := (s.setClock dckLocked src).raise .DCK_EVT_LOCK_GAINED
  ((t.wr .DCK_PHASE_ERR (phaseWord phase)).wr .DCK_FREQ_ERR (t.rateWord freq)).modDck fun d => { d with everLocked := true }

section
variable (s : State) (src : Nat) (phase freq : Int)

theorem evLockGained_acquiring (acquiring : s.dckState = dckAcquire) (active : src = s.get .DCK_STATUS_ACTIVE_SRC) :
    evLockGained src phase freq s = .next (let t := s.lockedOn src phase freq
      if !s.dck.everLocked ∧ t.flag .DCK_CTRL_STEP_ON_LOCK ∧ 1000000000 < phase.natAbs ∧ t.mayStep
      then t.stepTo (Config.stepAtLock phase t.now).toNat else t) := by
  have follows : ¬(s.dckState ≠ dckAcquire ∨ src ≠ s.get .DCK_STATUS_ACTIVE_SRC) := by simp [acquiring, active]
  rw [evLockGained, if_neg follows]
  rfl

theorem State.lockedOn_rd {q : Reg} {k l : Nat} (evt : q.addr k l ≠ Reg.addr .DCK_EVT 0 0)
    (phaseErr : q.addr k l ≠ Reg.addr .DCK_PHASE_ERR 0 0) (freqErr : q.addr k l ≠ Reg.addr .DCK_FREQ_ERR 0 0) :
    (s.lockedOn src phase freq).rd q k l = (s.setClock dckLocked src).rd q k l :=
  ((State.rd_wr_ne _ _ _ _ 0 0 k l freqErr).trans (State.rd_wr_ne _ _ _ _ 0 0 k l phaseErr)).trans (State.rd_raise_ne _ _ 0 0 k l evt)

theorem State.lockedOn_rate : (s.lockedOn src phase freq).rd .DCK_FREQ_ERR = s.rateWord freq % 2 ^ 32 := by
  have ctrl : ((s.setClock dckLocked src).raise .DCK_EVT_LOCK_GAINED).rd .DCK_CTRL = s.rd .DCK_CTRL := by
    rw [State.rd_raise_ne _ _ _ _ _ _ (by decide), State.setClock_rd _ _ _ (by decide) (by decide) (by decide)]
  have rate : ((s.setClock dckLocked src).raise .DCK_EVT_LOCK_GAINED).rateWord freq = s.rateWord freq := by
    simp only [State.rateWord, State.slewBound, State.get]
    rw [show Fld.reg .DCK_CTRL_SLEW_LIMIT = .DCK_CTRL from rfl, ctrl]
  exact (State.rd_wr _ .DCK_FREQ_ERR _ 0 0).trans (congrArg (· % 2 ^ 32) rate)

/-- A step of deal time moves no register but the record of the event. -/
theorem State.stepTo_rd (v : Nat) {q : Reg} {k l : Nat} (evt : q.addr k l ≠ Reg.addr .DCK_EVT 0 0) :
    (s.stepTo v).rd q k l = s.rd q k l := State.rd_raise_ne _ _ 0 0 k l evt

theorem State.stepTo_everLocked (v : Nat) : (s.stepTo v).dck.everLocked = s.dck.everLocked := by
  rw [State.stepTo, State.raise_dck]
  rfl

/-- A signed word reads as the value it was written with. -/
theorem toInt_ofNat_emod {x : Int} (low : -(2 ^ 31) ≤ x) (high : x < 2 ^ 31) :
    (BitVec.ofNat 32 ((x % 2 ^ 32).toNat % 2 ^ 32)).toInt = x := by
  rw [BitVec.toInt_ofNat', Int.bmod_def]
  omega

/-- The rate correction shown is within SLEW_LIMIT (R33, R60). -/
theorem State.rateWord_within :
    (BitVec.ofNat 32 (s.rateWord freq % 2 ^ 32)).toInt.natAbs ≤ s.get .DCK_CTRL_SLEW_LIMIT * 10000 := by
  have limit : s.get .DCK_CTRL_SLEW_LIMIT < 256 := s.get_lt .DCK_CTRL_SLEW_LIMIT 0 0
  rw [State.rateWord, State.slewBound, toInt_ofNat_emod] <;> omega

/-- LOCK_GAINED of the source being acquired (R34, R35). -/
theorem lockGained_locks (acquiring : s.dckState = dckAcquire) (active : src = s.get .DCK_STATUS_ACTIVE_SRC) :
    ∃ u, evLockGained src phase freq s = .next u ∧ u.dckState = dckLocked ∧ u.get .DCK_STATUS_ACTIVE_SRC = src ∧
      u.dck.everLocked = true ∧ (BitVec.ofNat 32 (u.rd .DCK_FREQ_ERR)).toInt.natAbs ≤ s.get .DCK_CTRL_SLEW_LIMIT * 10000 := by
  have nibble : src < 16 := active ▸ s.get_lt .DCK_STATUS_ACTIVE_SRC 0 0
  have status : (s.lockedOn src phase freq).rd .DCK_STATUS = (s.setClock dckLocked src).rd .DCK_STATUS :=
    s.lockedOn_rd src phase freq (by decide) (by decide) (by decide)
  have keeps : ∀ u : State, u.rd .DCK_STATUS = (s.lockedOn src phase freq).rd .DCK_STATUS →
      u.rd .DCK_FREQ_ERR = (s.lockedOn src phase freq).rd .DCK_FREQ_ERR → u.dck.everLocked = true →
      u.dckState = dckLocked ∧ u.get .DCK_STATUS_ACTIVE_SRC = src ∧ u.dck.everLocked = true ∧
        (BitVec.ofNat 32 (u.rd .DCK_FREQ_ERR)).toInt.natAbs ≤ s.get .DCK_CTRL_SLEW_LIMIT * 10000 := by
    intro u shown rate ever
    refine ⟨?_, ?_, ever, ?_⟩
    · exact (congrArg (bitsOf · 1 0) (shown.trans status)).trans (s.setClock_state dckLocked src)
    · exact (congrArg (bitsOf · 7 4) (shown.trans status)).trans
        ((s.setClock_active dckLocked src).trans (Nat.mod_eq_of_lt nibble))
    · rw [rate, s.lockedOn_rate]
      exact s.rateWord_within freq
  refine ⟨_, evLockGained_acquiring s src phase freq acquiring active, ?_⟩
  dsimp only
  split
  · exact keeps _ (State.stepTo_rd _ _ (by decide)) (State.stepTo_rd _ _ (by decide)) (State.stepTo_everLocked _ _)
  · exact keeps _ rfl rfl rfl

/-- Loss of the source a LOCKED clock follows (R37). -/
theorem lockLost_holds (locked : s.dckState = dckLocked) :
    ∃ u, evLockLost s = .next u ∧ u.dckState = dckHoldover ∧ s.get .DCK_STATUS_ACTIVE_SRC ∉ u.dck.present := by
  have follows : ¬(s.dckState = dckFree ∨ s.dckState = dckHoldover) := by rw [locked]; decide
  refine ⟨_, by rw [evLockLost, if_neg follows, if_pos (.inl locked)], ?_, ?_⟩
  · exact State.setClock_state _ dckHoldover 0
  · rw [State.setClock_present, State.raise_dck]
    simp [State.modDck]

/-- The fallback of R37. -/
theorem switchDelayExpiry_acquires {y : Nat} (holds : s.dckState = dckHoldover) (auto : s.flag .DCK_CTRL_AUTO_FALLBACK = true)
    (usable : s.firstUsable = some y) :
    ∃ u, evSwitchDelayExpiry s = .next u ∧ u.dckState = dckAcquire ∧ u.get .DCK_STATUS_ACTIVE_SRC = y := by
  have nibble := (State.firstUsable_range usable).2
  refine ⟨s.setClock dckAcquire y, ?_, s.setClock_state _ _, (s.setClock_active _ _).trans (Nat.mod_eq_of_lt nibble)⟩
  simp [evSwitchDelayExpiry, holds, auto, usable]

theorem State.srcPresent_dckState : (s.srcPresent src).dckState = s.dckState :=
  congrArg (bitsOf · 1 0) (s.srcPresent_rd src .DCK_STATUS 0 0)

theorem State.srcPresent_active : (s.srcPresent src).get .DCK_STATUS_ACTIVE_SRC = s.get .DCK_STATUS_ACTIVE_SRC :=
  congrArg (bitsOf · 7 4) (s.srcPresent_rd src .DCK_STATUS 0 0)

theorem State.srcPresent_listed (x : Nat) : (s.srcPresent src).srcListed x = s.srcListed x := by
  rw [State.srcListed, State.srcPresent_rd, State.srcListed]

/-- The return of the lost source (R37). -/
theorem sourceReturn_acquires (holds : s.dckState = dckHoldover) (listed : s.srcListed src = true) (lost : src = s.dck.lost) :
    ∃ u, evSourceReturn src s = .next u ∧ u.dckState = dckAcquire ∧ src ∈ u.dck.present := by
  have listed' : (s.srcPresent src).srcListed src = true := (s.srcPresent_listed src src).trans listed
  have lost' : (s.srcPresent src).dck.lost = src := (s.srcPresent_lost src).trans lost.symm
  obtain ⟨x, e⟩ := State.reselect_lost (s := s.srcPresent src) ((s.srcPresent_dckState src).trans holds) (lost'.symm ▸ listed')
    (lost'.symm ▸ s.mem_srcPresent src)
  refine ⟨(s.srcPresent src).setClock dckAcquire x, by rw [evSourceReturn, if_pos listed', e], State.setClock_state _ dckAcquire x, ?_⟩
  rw [State.setClock_present]
  exact s.mem_srcPresent src

/-- A listed source that a FREE clock finds (R35). -/
theorem sourcePresent_acquires (free : s.dckState = dckFree) (none : s.get .DCK_STATUS_ACTIVE_SRC = 0) (listed : s.srcListed src = true) :
    ∃ u, evSourcePresent src s = .next u ∧ u.dckState = dckAcquire ∧ src ∈ u.dck.present := by
  have listed' : (s.srcPresent src).srcListed src = true := (s.srcPresent_listed src src).trans listed
  obtain ⟨x, e⟩ := State.reselect_free ((s.srcPresent_dckState src).trans free) ((s.srcPresent_active src).trans none) listed'
    (s.mem_srcPresent src)
  refine ⟨(s.srcPresent src).setClock dckAcquire x, by rw [evSourcePresent, if_pos listed', e], State.setClock_state _ dckAcquire x, ?_⟩
  rw [State.setClock_present]
  exact s.mem_srcPresent src

end

/-! ### Timecode (R41, R43, R44, R54) -/

section
variable (s : State)

theorem State.setAnchor_rd (label time : Nat) {q : Reg} {k l : Nat} (anchor : q.addr k l ≠ Reg.addr .DCK_TC_ANCHOR 0 0)
    (low : q.addr k l ≠ Reg.addr .DCK_TC_ANCHOR_TIME_LO 0 0) (high : q.addr k l ≠ Reg.addr .DCK_TC_ANCHOR_TIME_HI 0 0) :
    (s.setAnchor label time).rd q k l = s.rd q k l :=
  ((State.rd_wr_ne _ _ _ _ 0 0 k l high).trans (State.rd_wr_ne _ _ _ _ 0 0 k l low)).trans (State.rd_wr_ne _ _ _ _ 0 0 k l anchor)

theorem State.setAnchor_status (label time : Nat) (f : Fld) (status : f.reg = .DCK_STATUS) :
    (s.setAnchor label time).get f = s.get f := by
  rw [State.get, State.get, status, s.setAnchor_rd label time (by decide) (by decide) (by decide)]

theorem State.setAnchor_label (label time : Nat) : (s.setAnchor label time).rd .DCK_TC_ANCHOR = label % 2 ^ 32 :=
  ((State.rd_wr_ne _ _ _ _ 0 0 0 0 (by decide)).trans (State.rd_wr_ne _ _ _ _ 0 0 0 0 (by decide))).trans (s.rd_wr _ _ 0 0)

theorem State.setAnchor_time (label time : Nat) :
    (s.setAnchor label time).rd64 .DCK_TC_ANCHOR_TIME_LO .DCK_TC_ANCHOR_TIME_HI = time % 2 ^ 64 := by
  have low : (s.setAnchor label time).rd .DCK_TC_ANCHOR_TIME_LO = time % 2 ^ 32 % 2 ^ 32 :=
    (State.rd_wr_ne _ _ _ _ 0 0 0 0 (by decide)).trans (State.rd_wr _ _ _ 0 0)
  have high : (s.setAnchor label time).rd .DCK_TC_ANCHOR_TIME_HI = time / 2 ^ 32 % 2 ^ 32 % 2 ^ 32 := State.rd_wr _ _ _ 0 0
  rw [State.rd64, low, high]
  omega

/-- The registers that show a decoded LTC frame (R44, R60). -/
def State.ltcWords (label ub : Nat) : State := ((s.wr .DCK_LTC_IN label).wr .DCK_LTC_IN_UB ub).set .DCK_STATUS_LTC_PRESENT 1

theorem State.ltcWords_in (label ub : Nat) : (s.ltcWords label ub).rd .DCK_LTC_IN = label % 2 ^ 32 := by
  rw [State.ltcWords, State.rd_set_ne _ _ _ _ _ _ _ (by decide), State.rd_wr_ne _ _ _ _ _ _ _ _ (by decide), State.rd_wr]

theorem State.ltcWords_ub (label ub : Nat) : (s.ltcWords label ub).rd .DCK_LTC_IN_UB = ub % 2 ^ 32 := by
  rw [State.ltcWords, State.rd_set_ne _ _ _ _ _ _ _ (by decide), State.rd_wr]

theorem State.ltcWords_present (label ub : Nat) : (s.ltcWords label ub).get .DCK_STATUS_LTC_PRESENT = 1 :=
  State.get_set_same _ .DCK_STATUS_LTC_PRESENT 1 0 0 (by decide)

/-- A decoded label that does not follow the last one is an event (R44). -/
def State.ltcJudged (label : Nat) : State :=
  if s.dck.ltcSeen ∧ label ≠ s.labelAfter (s.rd .DCK_LTC_IN) then s.raise .DCK_EVT_LTC_DISCONT else s

theorem State.ltcJudged_dck (label : Nat) : (s.ltcJudged label).dck = s.dck := by
  rw [State.ltcJudged]
  split
  · exact s.raise_dck _ _ _
  · rfl

/-- What a decoded LTC frame leaves before a jam takes its label (R43, R44). -/
def State.ltcShown (label ub : Nat) : State :=
  ((s.ltcJudged label).ltcWords label ub).modDck fun d =>
    { d with ltcSince := ((s.ltcJudged label).ltcWords label ub).now, ltcLost := false, ltcSeen := true, jam := none }

theorem State.ltcShown_in (label ub : Nat) : (s.ltcShown label ub).rd .DCK_LTC_IN = label % 2 ^ 32 :=
  (s.ltcJudged label).ltcWords_in label ub

theorem State.ltcShown_ub (label ub : Nat) : (s.ltcShown label ub).rd .DCK_LTC_IN_UB = ub % 2 ^ 32 :=
  (s.ltcJudged label).ltcWords_ub label ub

theorem State.ltcShown_present (label ub : Nat) : (s.ltcShown label ub).get .DCK_STATUS_LTC_PRESENT = 1 :=
  (s.ltcJudged label).ltcWords_present label ub

theorem evLtcFrameDecoded_enabled (label ub : BitVec 32) (boundary : Nat) (enabled : s.flag .DCK_TC_CFG_LTC_IN_EN = true) :
    evLtcFrameDecoded label ub boundary s = .next (if s.dck.jam.isSome then
      (s.ltcShown label.toNat ub.toNat).setAnchor ((s.ltcShown label.toNat ub.toNat).labelAfter label.toNat) boundary
    else s.ltcShown label.toNat ub.toNat) := by
  have jam : (s.ltcJudged label.toNat).dck.jam = s.dck.jam := congrArg Dck.jam (s.ltcJudged_dck label.toNat)
  rw [evLtcFrameDecoded, if_neg (by simp [enabled]), ← jam]
  rfl

/-- A decoded frame is shown, and ends a jam with the time of the next boundary as the anchor's (R43, R44). -/
theorem ltcFrameDecoded_shows (label ub : BitVec 32) (boundary : Nat) (enabled : s.flag .DCK_TC_CFG_LTC_IN_EN = true) :
    ∃ u, evLtcFrameDecoded label ub boundary s = .next u ∧ u.rd .DCK_LTC_IN = label.toNat ∧ u.rd .DCK_LTC_IN_UB = ub.toNat ∧
      u.get .DCK_STATUS_LTC_PRESENT = 1 ∧ u.dck.jam = none ∧
      (s.dck.jam ≠ none → u.rd64 .DCK_TC_ANCHOR_TIME_LO .DCK_TC_ANCHOR_TIME_HI = boundary % 2 ^ 64) := by
  have shownIn := (s.ltcShown_in label.toNat ub.toNat).trans (Nat.mod_eq_of_lt label.isLt)
  have shownUb := (s.ltcShown_ub label.toNat ub.toNat).trans (Nat.mod_eq_of_lt ub.isLt)
  have present := s.ltcShown_present label.toNat ub.toNat
  refine ⟨_, evLtcFrameDecoded_enabled s label ub boundary enabled, ?_⟩
  split
  next =>
    exact ⟨(State.setAnchor_rd _ _ _ (by decide) (by decide) (by decide)).trans shownIn,
      (State.setAnchor_rd _ _ _ (by decide) (by decide) (by decide)).trans shownUb,
      (State.setAnchor_status _ _ _ _ rfl).trans present, rfl, fun _ => State.setAnchor_time _ _ _⟩
  next idle =>
    exact ⟨shownIn, shownUb, present, rfl, fun jam => absurd (Option.isSome_iff_ne_none.mpr jam) idle⟩

/-- A jam no longer waits. -/
def State.jamEnded : State := s.modDck fun d => { d with jam := none }

/-- The anchor lies in registers other than the events'. -/
theorem State.anchor_congr {s t : State} (same : ∀ q : Reg, q.addr 0 0 ≠ Reg.addr .DCK_EVT 0 0 → t.rd q = s.rd q) :
    t.anchor = s.anchor := by
  simp only [State.anchor, State.flag, State.get, State.rd64]
  rw [same _ (by decide), same _ (by decide), same _ (by decide), same _ (by decide), same _ (by decide), same _ (by decide)]

/-- A jam that no LTC frame ends leaves the anchor (R43). -/
theorem jamTimeout_keepsAnchor (jam : s.dck.jam ≠ none) :
    ∃ u, evJamTimeout s = .next u ∧ u.dck.jam = none ∧ u.get .DCK_EVT_LTC_LOST = 1 ∧ u.anchor = s.anchor := by
  refine ⟨s.jamEnded.raise .DCK_EVT_LTC_LOST, ?_, ?_, s.jamEnded.get_raise_bit .DCK_EVT_LTC_LOST 0 rfl (by decide), ?_⟩
  · rw [evJamTimeout, if_neg (by simpa using jam)]
    rfl
  · rw [State.raise_dck]
    rfl
  · exact State.anchor_congr fun q h => s.jamEnded.rd_raise_ne _ 0 0 0 0 h

theorem State.applyShadow_shadows (x : Shadow) : (s.applyShadow x).shadows = s.shadows := by
  rw [State.applyShadow]
  split <;> rfl

theorem State.foldl_applyShadow_shadows (l : List Shadow) : (l.foldl State.applyShadow s).shadows = s.shadows := by
  induction l generalizing s with
  | nil => rfl
  | cons x t ih => exact (ih _).trans (s.applyShadow_shadows x)

/-- A commit point leaves no write of its unit that was accepted before this tick (R13). -/
theorem State.commit_shadows (u : CUnit) {x : Shadow} (left : x ∈ (s.commit u).shadows) (owner : x.owner = u) : s.now ≤ x.tick := by
  rw [State.commit, List.partition_eq_filter_filter] at left
  simp only [State.foldl_applyShadow_shadows, List.mem_filter, Function.comp_apply, owner] at left
  simpa using left.2

theorem State.tcCommit_shadows : s.tcCommit.shadows = (s.commit .tc).shadows := by
  simp only [State.tcCommit, State.ltcFrame, State.modDck_shadows, apply_ite State.shadows, ite_self]

/-- LTC_OUT runs where it is enabled, from one boundary to the next (R41). -/
theorem State.ltcFrame_out : s.ltcFrame.flag .DCK_TC_CFG_LTC_OUT_EN = true ↔ s.ltcFrame.dck.ltcOut ≠ none := by
  show s.flag .DCK_TC_CFG_LTC_OUT_EN = true ↔ (if s.flag .DCK_TC_CFG_LTC_OUT_EN = true then _ else none) ≠ none
  split <;> simp_all

theorem State.tcCommit_out : s.tcCommit.flag .DCK_TC_CFG_LTC_OUT_EN = true ↔ s.tcCommit.dck.ltcOut ≠ none := by
  obtain ⟨u, commits⟩ : ∃ u : State, s.tcCommit = u.ltcFrame := ⟨_, rfl⟩
  rw [commits]
  exact u.ltcFrame_out

/-- The generator's frame boundary (R41, R60). -/
theorem tcFrameBoundary_commits : ∃ u, evTcFrameBoundary s = .next u ∧ (∀ x ∈ u.shadows, x.owner = .tc → s.now ≤ x.tick) ∧
    (u.flag .DCK_TC_CFG_LTC_OUT_EN = true ↔ u.dck.ltcOut ≠ none) :=
  ⟨_, rfl, fun _ left owner => s.commit_shadows .tc (s.tcCommit_shadows ▸ left) owner, s.tcCommit_out⟩

/-- The actions TC_JAM and TC_ANCHOR (R43, R54). -/
theorem tcJam_waits : ∃ u, evTcJam s = .next u ∧ u.dck.jam = some (s.now + 4 * s.tcFrame) := ⟨_, rfl, rfl⟩

theorem tcAnchor_sets (label : BitVec 32) (valid : s.labelOk label.toNat = true) :
    ∃ u, evTcAnchor label s = .next u ∧ u.rd .DCK_TC_ANCHOR = label.toNat ∧
      u.rd64 .DCK_TC_ANCHOR_TIME_LO .DCK_TC_ANCHOR_TIME_HI = s.now :=
  ⟨s.setAnchor label.toNat s.now, by rw [evTcAnchor, if_pos valid],
    (s.setAnchor_label _ _).trans (Nat.mod_eq_of_lt label.isLt), (s.setAnchor_time _ _).trans (Nat.mod_eq_of_lt s.dealTime.isLt)⟩

end

/-! ### Missed occurrences (R49, R50) -/

/-- A fold that counts at every element has counted their sum. -/
theorem foldl_counts {α β : Type} (f : β → α → β) (count : β → Nat) (n : α → Nat) (h : ∀ b a, count (f b a) = count b + n a)
    (l : List α) (b : β) : count (l.foldl f b) = count b + (l.map n).sum := by
  induction l generalizing b with
  | nil => rfl
  | cons a t ih => rw [List.foldl_cons, ih, h, List.map_cons, List.sum_cons, Nat.add_assoc]

/-- One entry in the pass over a port's queue: kept where it misses nothing, else under its policy (R49, R50). -/
def missStep (paused missDefault : Bool) (now : Nat) (acc : List QEntry × Nat × List Taken) (e : QEntry) :
    List QEntry × Nat × List Taken :=
  let n := e.missed paused now
  if n = 0 then (insertEntry e acc.1, acc.2) else
  let a := e.afterMiss (e.fireLate missDefault) n
  if a.live then (insertEntry a acc.1, acc.2.1 + n, acc.2.2)
  else (acc.1, acc.2.1 + n, acc.2.2 ++ e.packet.toList)

theorem missStep_counts (paused missDefault : Bool) (now : Nat) (acc : List QEntry × Nat × List Taken) (e : QEntry) :
    (missStep paused missDefault now acc e).2.1 = acc.2.1 + e.missed paused now := by
  rw [missStep]
  split
  next none => rw [none]; rfl
  next =>
    dsimp only
    split <;> rfl

theorem State.missPort_eq (s : State) (p : Nat) :
    let r := (s.queue p).foldl (missStep (s.flag .DCK_PORT_CTRL_PAUSE p) (s.flag .DCK_PORT_CTRL_MISS_DEFAULT p) s.now) ([], 0, [])
    s.missPort p = if r.2.1 = 0 then (s, []) else ((s.putQueue p r.1).bump .DCK_PORT_LATE_COUNT p r.2.1, r.2.2) := rfl

theorem State.putQueue_late (s : State) (p : Nat) (q : List QEntry) :
    (s.putQueue p q).get .DCK_PORT_LATE_COUNT p = s.get .DCK_PORT_LATE_COUNT p := by
  have apart : Reg.addr .DCK_PORT_LATE p 0 ≠ Reg.addr .DCK_PORT_STAT p 0 := by simp [Reg.addr, Reg.DCK_PORT_LATE, Reg.DCK_PORT_STAT]
  exact congrArg (bitsOf · 15 0) ((s.setQueue p q).rd_set_ne .DCK_PORT_STAT_DEPTH _ p 0 p 0 apart)

theorem State.missPort_late (s : State) (p : Nat) : (s.missPort p).1.get .DCK_PORT_LATE_COUNT p =
    min (s.get .DCK_PORT_LATE_COUNT p + ((s.queue p).map fun e => e.missed (s.flag .DCK_PORT_CTRL_PAUSE p) s.now).sum) 0xFFFF := by
  have total := foldl_counts (missStep (s.flag .DCK_PORT_CTRL_PAUSE p) (s.flag .DCK_PORT_CTRL_MISS_DEFAULT p) s.now) (fun acc => acc.2.1)
    (fun e => e.missed (s.flag .DCK_PORT_CTRL_PAUSE p) s.now) (missStep_counts _ _ _) (s.queue p) ([], 0, [])
  rw [Nat.zero_add] at total
  rw [State.missPort_eq, ← total]
  split
  next none =>
    rw [none]
    have := s.get_lt .DCK_PORT_LATE_COUNT p 0
    exact (Nat.min_eq_left (Nat.le_of_lt_succ this)).symm
  next =>
    rw [State.get_bump _ _ _ _ _ (by decide), s.putQueue_late]
    rfl

/-- What DEAL_MISSED counts (R49, R50). -/
theorem State.missed_late (s : State) (p : Nat) : (s.missed p).get .DCK_PORT_LATE_COUNT p =
    min (s.get .DCK_PORT_LATE_COUNT p + ((s.queue p).map fun e => e.missed (s.flag .DCK_PORT_CTRL_PAUSE p) s.now).sum) 0xFFFF := by
  have port : 0x01000000 ≤ Reg.addr .DCK_PORT_LATE p 0 := by simp only [Reg.addr, Reg.DCK_PORT_LATE]; omega
  have told : HostsOnly (s.missPort p).1 (s.missed p) := .foldl _ _ _ fun t d _ => .finalReply t _ _ _ _ _ _
  rw [told.get .DCK_PORT_LATE_COUNT p 0 port, State.missPort_late]

theorem dealMissed_counts (s : State) (port : Fin 96) (running : s.dealsStopped = false) :
    ∃ u, evDealMissed port s = .next u ∧ u.get .DCK_PORT_LATE_COUNT port.val = min (s.get .DCK_PORT_LATE_COUNT port.val +
      ((s.queue port.val).map fun e => e.missed (s.flag .DCK_PORT_CTRL_PAUSE port.val) s.now).sum) 0xFFFF :=
  ⟨s.missed port.val, by simp [evDealMissed, running], s.missed_late port.val⟩

/-! ### DCK_PUSH (R46, R60) -/

/-- A staged entry that passes its checks is queued, and the status says so. -/
theorem State.push_queues (s : State) (slot value : Nat) (sound : s.entryStatus (bitsOf value 6 0) s.stagedEntry = .DONE)
    (judged : s.judgeAll slot (s.entryRights (bitsOf value 6 0) s.stagedEntry) = .DONE)
    (room : (s.queue (bitsOf value 6 0)).length < 64) :
    s.push slot value = (s.insertEntries slot [(bitsOf value 6 0, s.stagedEntry)]).set .DCK_PUSH_RESULT_STATUS 0 := by
  have fits : s.roomFor [(bitsOf value 6 0, s.stagedEntry)] = true := by
    rw [State.roomFor_iff]
    intro p _ listed
    obtain ⟨x, hx⟩ := List.length_pos_iff_exists_mem.mp listed
    simp only [List.mem_filter, List.mem_singleton] at hx
    obtain ⟨rfl, port⟩ := hx
    have same : p = bitsOf value 6 0 := (eq_of_beq port).symm
    have one := List.length_filter_le (fun x => x.1 == p) [(bitsOf value 6 0, s.stagedEntry)]
    rw [List.length_singleton] at one
    rw [← same] at room
    omega
  have status : firstFail [s.entryStatus (bitsOf value 6 0) s.stagedEntry,
      s.judgeAll slot (s.entryRights (bitsOf value 6 0) s.stagedEntry),
      need (s.roomFor [(bitsOf value 6 0, s.stagedEntry)]) .DCK_QUEUE_FULL] = .DONE := by
    simp [firstFail_done, sound, judged, need_done, fits]
  simp only [State.push, status]
  rfl

theorem dckPush_queues (s : State) (slot : Fin 8) (value : BitVec 32)
    (sound : s.entryStatus (bitsOf value.toNat 6 0) s.stagedEntry = .DONE)
    (judged : s.judgeAll slot.val (s.entryRights (bitsOf value.toNat 6 0) s.stagedEntry) = .DONE)
    (room : (s.queue (bitsOf value.toNat 6 0)).length < 64) :
    ∃ u, evDckPush slot value s = .next u ∧ u.get .DCK_PUSH_RESULT_STATUS = 0 ∧
      newEntry s.stagedEntry slot.val s.now none ∈ u.queue (bitsOf value.toNat 6 0) :=
  ⟨_, congrArg Host.Outcome.next (s.push_queues slot.val value.toNat sound judged room),
    (s.insertEntries slot.val [(bitsOf value.toNat 6 0, s.stagedEntry)]).get_set_same .DCK_PUSH_RESULT_STATUS 0 0 0 (by decide),
    (s.mem_insertEntries slot.val _ _ _).mpr (.inr ⟨_, List.mem_singleton_self _, rfl⟩)⟩

/-! ### The events complete -/

/-- A command answers with what its event leaves, shown. -/
theorem exec_event {c : Instr} {s : State} {o : Out'} {P : State → Prop} (dispatch : exec c s = s.answer o)
    (done : ∃ u, o = .next u ∧ P (s.shown u)) : ∃ t, exec c s = .next t ∧ P t := by
  obtain ⟨u, e, p⟩ := done
  exact ⟨_, dispatch.trans (answer_eq e), p⟩

/-- Settles O60: each clause is what its event's own lemma says of the state it leaves; what showing that state changes, the pins and the
queue of commands, bears on none of them. -/
theorem dealClockEventsComplete : Obligations.DealClockEventsComplete := fun s =>
  ⟨fun slot value sound judged room => exec_event rfl (dckPush_queues s slot value sound judged room),
    fun src phase freq acquiring active => exec_event rfl (lockGained_locks s src phase freq acquiring active),
    fun locked => exec_event rfl (lockLost_holds s locked),
    fun _ holds auto usable => exec_event rfl (switchDelayExpiry_acquires s holds auto usable),
    fun src holds listed lost => exec_event rfl (sourceReturn_acquires s src holds listed lost),
    fun src free none listed => exec_event rfl (sourcePresent_acquires s src free none listed),
    fun label ub boundary enabled => exec_event rfl (ltcFrameDecoded_shows s label ub boundary enabled),
    fun jam => exec_event rfl (jamTimeout_keepsAnchor s jam),
    exec_event rfl (tcFrameBoundary_commits s),
    fun port running => exec_event rfl (dealMissed_counts s port running),
    exec_event rfl (tcJam_waits s),
    fun label valid => exec_event rfl (tcAnchor_sets s label valid)⟩

end Sys2Proof.Machine
end

section
/-!
SUPPORT. The pins after a step (R68, R457), the packets that R65 refuses check by check, HOST_ATTACH from a mailbox (R73 … R75), what a
change of owners leaves alone (R80), and the proofs about them.
-/
namespace Sys2Proof.Machine

/-! ### The pins (R68, R457) -/

/-- The tick ends by showing the pins, unless deal time stands still and nothing changes. -/
theorem State.tick_shows {s : State} (shows : PinsShow s) : PinsShow s.tick := by
  unfold State.tick
  split
  next => exact State.settled_shows _
  next => exact shows

/-- A command that answers leaves the pins showing what it has come to, whatever they showed before. -/
theorem exec_shows {c : Instr} {s t : State} (answers : exec c s = .next t) : PinsShow t := by
  obtain ⟨o, dispatch⟩ := exec_answers c s
  obtain ⟨u, -, rfl⟩ := State.answer_next (dispatch.symm.trans answers)
  exact State.shown_shows s u

/-- Settles O4: both a command's answer and the tick end by showing the pins. -/
theorem stepsShowThePins : Obligations.StepsShowThePins := by
  intro s t shows stepped
  unfold step at stepped
  split at stepped
  next =>
    cases stepped
    exact State.tick_shows shows
  next => exact exec_shows stepped

/-! ### Checks 1 … 6 of R65 -/

section
variable {h : Hdr} {immediate : Bool}

theorem headerStatus_badMagic (magic : h.magic ≠ 0x5458) : headerStatus h immediate = .CPI_BAD_MAGIC := if_pos magic

theorem headerStatus_badVersion (magic : h.magic = 0x5458) (version : h.version ≠ 1) :
    headerStatus h immediate = .CPI_BAD_VERSION := by
  rw [headerStatus, if_neg (not_not_intro magic), if_pos version]

theorem headerStatus_badSlot (magic : h.magic = 0x5458) (version : h.version = 1) (slot : h.slotByte.toNat ≠ slotOf h.via) :
    headerStatus h immediate = .CPI_BAD_SLOT := by
  rw [headerStatus, if_neg (not_not_intro magic), if_neg (not_not_intro version), if_pos slot]

section
variable (magic : h.magic = 0x5458) (version : h.version = 1) (slot : h.slotByte.toNat = slotOf h.via)
include magic version slot

/-- With the first three checks passed the next ones decide. -/
theorem headerStatus_addressed : headerStatus h immediate =
    if 4096 < h.paramLen ∨ h.paramLen % 4 ≠ 0 then .BAD_LENGTH
    else if !h.crcOk then .BAD_CRC
    else if h.flags.toNat / 4 ≠ 0 ∨ h.reserved ≠ 0 ∨ (immediate ∧ h.launch ≠ 0) then .CPI_BAD_FLAGS
    else .DONE := by
  rw [headerStatus, if_neg (not_not_intro magic), if_neg (not_not_intro version), if_neg (not_not_intro slot)]

theorem headerStatus_badLength (length : 4096 < h.paramLen ∨ h.paramLen % 4 ≠ 0) : headerStatus h immediate = .BAD_LENGTH := by
  rw [headerStatus_addressed magic version slot, if_pos length]

variable (short : h.paramLen ≤ 4096) (words : h.paramLen % 4 = 0)
include short words

theorem headerStatus_badCrc (crc : h.crcOk = false) : headerStatus h immediate = .BAD_CRC := by
  rw [headerStatus_addressed magic version slot, if_neg (by omega), if_pos (by rw [crc]; rfl)]

theorem headerStatus_badFlags (crc : h.crcOk = true)
    (flags : h.flags.toNat / 4 ≠ 0 ∨ h.reserved ≠ 0 ∨ (immediate = true ∧ h.launch ≠ 0)) :
    headerStatus h immediate = .CPI_BAD_FLAGS := by
  rw [headerStatus_addressed magic version slot, if_neg (by omega), if_neg (by simp [crc]), if_pos flags]

end

/-- An immediate packet with a sound header has no LAUNCH. -/
theorem headerStatus_launch (sound : headerStatus h true = .DONE) : h.launch = 0 := by
  refine Decidable.byContradiction fun launch => ?_
  have flags : h.flags.toNat / 4 ≠ 0 ∨ h.reserved ≠ 0 ∨ (true = true ∧ h.launch ≠ 0) := .inr (.inr ⟨rfl, launch⟩)
  rw [headerStatus, if_pos flags] at sound
  repeat' split at sound
  all_goals cases sound

end

/-! ### The checks of R65 on a packet from a ring -/

section
variable {s : State} {n : Fin 8} {c : Instr} {h : Hdr} {m : Packet} {r : Status}

/-- A packet whose header fails a check is refused as soon as it has left the ring, its lease not renewed (R65, R82). -/
theorem packet_badHeader (a : Arrives s n h) (p : packetOf c = some (h, m)) (header : headerStatus h m.immediate = r)
    (failed : r ≠ .DONE) : Refuses s h c m.opcode r (s.pulled n) := by
  subst header
  rw [Refuses, exec_packet c s _ p, State.packet, deliver_arrives m c a, if_pos failed]
  rfl

/-- A host with 64 packets pending gets no further one accepted (R65, R72). -/
theorem packet_pendingFull (a : Arrives s n h) (sound : headerStatus h m.immediate = .DONE) (fit : m.fits h = true)
    (params : m.params (s.taken n) = .DONE) (full : 64 ≤ (s.taken n).pendingOf n.val) (p : packetOf c = some (h, m)) :
    Refuses s h c m.opcode .CPI_PENDING_FULL (s.taken n) := by
  have ready := a.taken_ready
  have ⟨via, _⟩ := a
  have refused : (s.taken n).accept h c m = (s.taken n).finalReply h.via h.seq m.opcode (quietOf h) .CPI_PENDING_FULL .empty := by
    simp [State.accept, via, slotOf, ready, fit, params, full]
  rw [Refuses, exec_accepts a sound p, refused]
  rfl

/-- A packet that begins without the rights it needs is refused with the status of the first that is missing (check 10 of R65). -/
theorem packet_unentitled (passes : Passes s n h m) (unheld : Unheld s n h m)
    (judged : (s.taken n).judgeAll n.val (m.rights n.val (s.taken n)) = r) (failed : r ≠ .DONE) (p : packetOf c = some (h, m)) :
    Refuses s h c m.opcode r (s.taken n) := by
  have ⟨arrives, sound, _⟩ := passes
  have ⟨via, _⟩ := arrives
  have refused : (s.taken n).begin h m false (s.taken n).cpi.order =
      (s.taken n).finalReply h.via h.seq m.opcode (quietOf h) r .empty := by
    simp [State.begin, via, slotOf, judged, failed]
  rw [Refuses, exec_accepts arrives sound p, accept_begins c passes unheld, refused]
  rfl

/-- In an orderly shutdown a packet that does more than observe is refused (R464). -/
theorem packet_shuttingDown (passes : Passes s n h m) (unheld : Unheld s n h m)
    (judged : (s.taken n).judgeAll n.val (m.rights n.val (s.taken n)) = .DONE) (shutdown : s.cpi.shuttingDown ≠ none)
    (acts : m.cls ≠ .observe) (p : packetOf c = some (h, m)) : Refuses s h c m.opcode .WRONG_STATE (s.taken n) := by
  have ⟨arrives, sound, _⟩ := passes
  have ⟨via, _, _, untaken, _⟩ := arrives
  have stands : (s.taken n).cpi.shuttingDown.isSome = true := by
    rw [State.taken_shuttingDown untaken]
    exact Option.isSome_iff_ne_none.mpr shutdown
  have refused : (s.taken n).begin h m false (s.taken n).cpi.order =
      (s.taken n).finalReply h.via h.seq m.opcode (quietOf h) .WRONG_STATE .empty := by
    simp [State.begin, via, slotOf, judged, stands, acts]
  rw [Refuses, exec_accepts arrives sound p, accept_begins c passes unheld, refused]
  rfl

end

/-- Settles O6: each clause is the lemma of its check. -/
theorem packetsAreRefusedInOrder : Obligations.PacketsAreRefusedInOrder := by
  intro s n h m c p a
  have own : slotOf h.via = n.val := by rw [a.1]; rfl
  refine ⟨fun magic => packet_badHeader a p (headerStatus_badMagic magic) nofun, fun magic =>
    ⟨fun version => packet_badHeader a p (headerStatus_badVersion magic version) nofun, fun version =>
      ⟨fun slot => packet_badHeader a p (headerStatus_badSlot magic version (own ▸ slot)) nofun, fun slot => ?_⟩⟩, ?_, ?_⟩
  · have slot : h.slotByte.toNat = slotOf h.via := slot.trans own.symm
    exact ⟨fun length => packet_badHeader a p (headerStatus_badLength magic version slot length) nofun, fun short words =>
      ⟨fun crc => packet_badHeader a p (headerStatus_badCrc magic version slot short words crc) nofun, fun crc flags =>
        packet_badHeader a p (headerStatus_badFlags magic version slot short words crc flags) nofun⟩⟩
  · exact fun sound => ⟨fun unfit => packet_unfit a sound unfit p rfl,
      fun fit params => packet_badParams a sound fit rfl params p rfl,
      fun fit params full => packet_pendingFull a sound fit params full p⟩
  · exact fun passes unheld => ⟨fun failed => packet_unentitled passes unheld rfl failed p, fun judged =>
      ⟨fun shutdown acts => packet_shuttingDown passes unheld judged shutdown acts p,
        fun served failed => packet_badState passes unheld judged served rfl failed p rfl⟩⟩

/-! ### HOST_ATTACH from a mailbox (R73 … R75) -/

/-- A packet waits in an endpoint's mailbox of a part in service: its header is sound for an immediate opcode, and neither an orderly
shutdown nor an earlier packet is in its way. -/
structure AtMailbox (s : State) (e : Endpoint) (h : Hdr) : Prop where
  via : h.via = .mailbox e
  ready : s.boot.phase = .ready
  sound : headerStatus h true = .DONE
  fresh : (h.via, h.seq) ∉ s.cpi.resuming
  serving : s.cpi.shuttingDown = none
  free : s.mayBeginNow h.via (fenceOf h) [] = true

section
variable {s : State} {e : Endpoint} {h : Hdr} {lease : Nat} {name : List Byte} {r : Status} {t : State} {d : Body}

theorem pktHostAttach_opcode : (pktHostAttach lease name).opcode = 0x0201 := rfl

/-- HOST_ATTACH in a mailbox is answered as `accept` answers it. -/
theorem AtMailbox.exec_accepts (a : AtMailbox s e h) : exec (.hostAttach h lease name) s =
    .next (s.shown (s.accept h (.hostAttach h lease name) (pktHostAttach lease name))) := by
  obtain ⟨via, ready, sound, fresh, -, -⟩ := a
  have serves : s.serves (.mailbox e) = true := by simp [State.serves, ready]
  have immediate : headerStatus h (pktHostAttach lease name).immediate = .DONE := sound
  have delivered : s.deliver h (.hostAttach h lease name) (pktHostAttach lease name) =
      s.accept h (.hostAttach h lease name) (pktHostAttach lease name) := by
    rw [via] at fresh
    simp [State.deliver, State.receive, State.takeFromRing, State.renew, via, fresh, serves, immediate]
  rw [exec_packet _ s _ rfl, State.packet, delivered]
  rfl

/-- The checks of HOST_ATTACH at acceptance are those of its parameters: it carries no LAUNCH and acts on no resource. -/
theorem AtMailbox.accept_eq (a : AtMailbox s e h) : s.accept h (.hostAttach h lease name) (pktHostAttach lease name) =
    if (pktHostAttach lease name).params s ≠ .DONE then
      s.finalReply h.via h.seq 0x0201 (quietOf h) ((pktHostAttach lease name).params s) .empty
    else s.begin h (pktHostAttach lease name) false s.cpi.order := by
  have fit : (pktHostAttach lease name).fits h = true := rfl
  have acts : (pktHostAttach lease name).acts (slotOf h.via) s = [] := rfl
  simp only [State.accept, acts, a.free, headerStatus_launch a.sound]
  simp [a.via, pktHostAttach_opcode, a.ready, fit]

/-- HOST_ATTACH needs no right. -/
theorem pktHostAttach_judged (n : Nat) : s.judgeAll n ((pktHostAttach lease name).rights n s) = .DONE := rfl

/-- HOST_ATTACH has no check of the state ahead of its own meaning. -/
theorem pktHostAttach_checks (n : Nat) : (pktHostAttach lease name).checks n s = .DONE := rfl

/-- HOST_ATTACH with a wrong parameter is refused with the status of that check. -/
theorem AtMailbox.refuses_params (a : AtMailbox s e h) (params : (pktHostAttach lease name).params s = r) (failed : r ≠ .DONE) :
    Refuses s h (.hostAttach h lease name) 0x0201 r s := by
  subst params
  rw [Refuses, a.exec_accepts, a.accept_eq, if_pos failed]
  rfl

/-- The name is 16 bytes long (R88). -/
theorem pktHostAttach_badName (length : name.length ≠ 16) : (pktHostAttach lease name).params s = .BAD_LENGTH := by
  simp [pktHostAttach, firstFail, need, length]

/-- The lease is 100 … 60,000 ms (R82). -/
theorem pktHostAttach_badLease (length : name.length = 16) (outside : lease < 100 ∨ 60000 < lease) :
    (pktHostAttach lease name).params s = .CPI_BAD_LEASE := by
  have bad : leaseOk lease = false := decide_eq_false (by omega)
  simp [pktHostAttach, firstFail, need, length, bad]

theorem pktHostAttach_params (length : name.length = 16) (least : 100 ≤ lease) (most : lease ≤ 60000) :
    (pktHostAttach lease name).params s = .DONE := by
  simp [pktHostAttach, firstFail, need, leaseOk, length, least, most]

section
variable (a : AtMailbox s e h) (params : (pktHostAttach lease name).params s = .DONE)
include a params

theorem AtMailbox.exec_begins : exec (.hostAttach h lease name) s =
    .next (s.shown (s.begin h (pktHostAttach lease name) false s.cpi.order)) := by
  rw [a.exec_accepts, a.accept_eq, if_neg (not_not_intro params)]

/-- HOST_ATTACH that its own meaning refuses. -/
theorem AtMailbox.refuses (runs : (pktHostAttach lease name).run (.mailbox e) s = .refuse r t) :
    Refuses s h (.hostAttach h lease name) 0x0201 r t := by
  rw [Refuses, a.exec_begins params]
  simp [State.begin, State.replied, pktHostAttach_judged, pktHostAttach_checks, pktHostAttach_opcode, a.serving, a.via, runs]

/-- HOST_ATTACH that takes a slot. -/
theorem AtMailbox.ends (runs : (pktHostAttach lease name).run (.mailbox e) s = .done d t) :
    Ends s h (.hostAttach h lease name) 0x0201 d t := by
  rw [Ends, a.exec_begins params]
  simp [State.begin, State.replied, pktHostAttach_judged, pktHostAttach_checks, pktHostAttach_opcode, a.serving, a.via, runs]

end

/-! ### The slot a new session takes (R75) -/

theorem State.slotFor_boot (boot : e = s.boot.endpoint) : s.slotFor e = some 0 := if_pos boot

theorem State.slotFor_lowest {n : Nat} (other : e ≠ s.boot.endpoint) (slot : n < 8) (nonzero : n ≠ 0) (free : s.slotFree n = true)
    (lowest : ∀ k < n, k ≠ 0 → s.slotFree k = false) : s.slotFor e = some n := by
  rw [State.slotFor, if_neg other, List.find?_range_eq_some]
  refine ⟨by simp [nonzero, free], List.mem_range.mpr slot, fun k below => ?_⟩
  by_cases zero : k = 0
  · simp [zero]
  · simp [lowest k below zero]

theorem State.slotFor_none (other : e ≠ s.boot.endpoint) (busy : ∀ n < 8, n ≠ 0 → s.slotFree n = false) : s.slotFor e = none := by
  rw [State.slotFor, if_neg other, List.find?_range_eq_none]
  intro n slot
  by_cases zero : n = 0
  · simp [zero]
  · simp [busy n slot zero]

/-- The ring addresses in the result of HOST_ATTACH: a PCIe host chooses its own (R68, R74; log 60). -/
def attachRings (e : Endpoint) (n : Nat) : List Nat := if e.transport = .pcie then [] else [ringBase 0 n, ringBase 1 n]

theorem pktHostAttach_run_attached (holds : s.slotAt e ≠ none) :
    (pktHostAttach lease name).run (.mailbox e) s = .refuse .CPI_ALREADY_ATTACHED s := by
  simp [pktHostAttach, Option.isSome_iff_ne_none, holds]

theorem pktHostAttach_run_full (outside : s.slotAt e = none) (full : s.slotFor e = none) :
    (pktHostAttach lease name).run (.mailbox e) s = .refuse .HOST_TABLE_FULL (s.raise .CPI_EVT_ATTACH_REFUSED) := by
  simp [pktHostAttach, outside, full]

theorem pktHostAttach_run_slot {n : Nat} (outside : s.slotAt e = none) (slot : s.slotFor e = some n) :
    (pktHostAttach lease name).run (.mailbox e) s = .done (.values ([n, lease] ++ attachRings e n)) (s.beginSession n e lease name) := by
  simp [pktHostAttach, attachRings, outside, slot]

end

/-- Settles O8: with right parameters the answer is that of HOST_ATTACH's own meaning, which the slot for the endpoint decides. -/
theorem hostAttachTakesASlot : Obligations.HostAttachTakesASlot := by
  refine ⟨fun s e h lease name via ready sound fresh shutdown free => ?_,
    fun s n h lease name onRing => packet_refused onRing rfl rfl rfl⟩
  have a : AtMailbox s e h := ⟨via, ready, sound, fresh, shutdown, free⟩
  refine ⟨fun length => ?_, fun length bad => ?_, fun length least most => ?_⟩
  · exact a.refuses_params (pktHostAttach_badName length) nofun
  · exact a.refuses_params (pktHostAttach_badLease length bad) nofun
  · have params : (pktHostAttach lease name).params s = .DONE := pktHostAttach_params length least most
    exact ⟨fun holds => a.refuses params (pktHostAttach_run_attached holds), fun outside =>
      ⟨fun boot => a.ends params (pktHostAttach_run_slot outside (State.slotFor_boot boot)),
        fun other n slot nonzero isFree lowest =>
          a.ends params (pktHostAttach_run_slot outside (State.slotFor_lowest other slot nonzero isFree lowest)),
        fun other busy => a.refuses params (pktHostAttach_run_full outside (State.slotFor_none other busy))⟩⟩

/-! ### What exchanges with the hosts leave alone (R67, R82, R89) -/

/-- The state but for what exchanges with the hosts move: the register file, the slots, the mailboxes, the pins. Of the control processor
interface the owners and the packets waiting, deferred and launched remain. -/
def State.behindHosts (s : State) : State :=
  { s with
    fresh := 0, regs := [], latches := [], lowHalves := [], raised := [], pins := {}, pending := []
    cpi := { owners := s.cpi.owners, waiting := s.cpi.waiting, deferred := s.cpi.deferred, launched := s.cpi.launched } }

section
variable (s t : State)

@[simp] theorem State.bump_behindHosts (f : Fld) (i k j : Nat) : (s.bump f i k j).behindHosts = s.behindHosts := rfl

@[simp] theorem State.shown_behindHosts : (s.shown t).behindHosts = t.behindHosts := rfl

@[simp] theorem State.ringReply_behindHosts (n v : Nat) (r : Reply) : (s.ringReply n v r).behindHosts = s.behindHosts := by
  unfold State.ringReply
  dsimp only
  split
  · rfl
  · split <;> rfl

@[simp] theorem State.reply_behindHosts (via : Via) (seq : BitVec 32) (o : Nat) (r : Status) (b : Body) :
    (s.reply via seq o r b).behindHosts = s.behindHosts := by
  cases via with
  | ring n => exact s.ringReply_behindHosts _ _ _
  | mailbox e => rfl

@[simp] theorem State.finalReply_behindHosts (via : Via) (seq : BitVec 32) (o : Nat) (quiet : Bool) (r : Status) (b : Body) :
    (s.finalReply via seq o quiet r b).behindHosts = s.behindHosts := by
  cases via with
  | ring n =>
    simp only [State.finalReply, apply_ite State.behindHosts, State.reply_behindHosts, State.bump_behindHosts, ite_self]
  | mailbox e => simp only [State.finalReply, apply_ite State.behindHosts, State.reply_behindHosts, ite_self]

@[simp] theorem State.notify_behindHosts (c : Cause) (detail : Nat) (except : Option Nat) :
    (s.notify c detail except).behindHosts = s.behindHosts := by
  unfold State.notify
  generalize List.range 8 = hosts
  induction hosts generalizing s with
  | nil => rfl
  | cons n hosts ih =>
    rw [List.foldl_cons, ih]
    split <;> simp

/-- Taking a packet from its ring moves only the ring and the lease. -/
@[simp] theorem State.taken_behindHosts (n : Fin 8) : (s.taken n).behindHosts = s.behindHosts := by
  have rung : ((s.implyDoorbell n.val).getD s).behindHosts = s.behindHosts := by
    unfold State.implyDoorbell
    dsimp only
    split
    · rfl
    · split <;> rfl
  exact rung

end

/-- What stands behind the hosts holds every unit. -/
theorem sameUnits_behindHosts {s t : State} : SameUnits s.behindHosts t.behindHosts ↔ SameUnits s t := Iff.rfl

/-! ### Owners (R80) -/

/-- The listed resources pass to `n`: the state `assignAll` leaves before its notice. -/
def State.setOwners (s : State) (n : Nat) (ids : List Nat) : State := ids.foldl (fun s id => s.setOwner id n) s

theorem State.setOwners_cons (s : State) (n id : Nat) (ids : List Nat) :
    s.setOwners n (id :: ids) = (s.setOwner id n).setOwners n ids := rfl

/-- Resources passed to one owner are its own; every other keeps its owner. -/
theorem State.owner_setOwners (s : State) (n : Nat) (ids : List Nat) (id : Nat) :
    (s.setOwners n ids).owner id = if id ∈ ids then n else s.owner id := by
  induction ids generalizing s with
  | nil => rfl
  | cons k ids ih =>
    rw [State.setOwners_cons, ih]
    by_cases later : id ∈ ids
    · simp [later]
    · by_cases here : id = k
      · simp [here, State.owner_setOwner]
      · simp [later, here, State.owner_setOwner_ne]

/-- Passing resources to an owner writes the table of owners and nothing else. -/
theorem State.setOwners_eq (s : State) (n : Nat) (ids : List Nat) :
    ∃ owners, s.setOwners n ids = { s with cpi := { s.cpi with owners := owners } } := by
  induction ids generalizing s with
  | nil => exact ⟨s.cpi.owners, rfl⟩
  | cons k ids ih => exact ih (s.setOwner k n)

theorem State.setOwners_behindHosts (s : State) (n : Nat) (ids : List Nat) :
    (s.setOwners n ids).behindHosts = s.behindHosts.setOwners n ids := by
  induction ids generalizing s with
  | nil => rfl
  | cons k ids ih => exact ih (s.setOwner k n)

/-- The notice to the new owner moves nothing behind the hosts (R64, R80). -/
theorem State.assignAll_behindHosts (s : State) (n : Nat) (ids : List Nat) :
    (s.assignAll n ids).behindHosts = s.behindHosts.setOwners n ids := by
  rw [← s.setOwners_behindHosts, State.assignAll]
  split
  · exact State.notify_behindHosts _ _ _ _
  · rfl

/-- A packet that ends with the assignment as its effect has moved exactly the listed resources. -/
theorem owners_moved {was : State} {sender : Fin 8} {h : Hdr} {c : Instr} {o n : Nat} {ids : List Nat} {b : Body}
    (ends : Ends was h c o b ((was.taken sender).assignAll n ids)) :
    ∃ t, exec c was = .next t ∧ (∀ id, t.owner id = if id ∈ ids then n else was.owner id) ∧ SameUnits was t ∧
      t.cpi.waiting = was.cpi.waiting ∧ t.cpi.deferred = was.cpi.deferred ∧ t.cpi.launched = was.cpi.launched := by
  refine ⟨_, ends, ?_⟩
  generalize left : was.replied h o .DONE b ((was.taken sender).assignAll n ids) = t
  have behind : t.behindHosts = was.behindHosts.setOwners n ids := by
    rw [← left, State.replied, State.shown_behindHosts, State.finalReply_behindHosts, State.assignAll_behindHosts,
      State.taken_behindHosts]
  obtain ⟨owners, only⟩ := was.behindHosts.setOwners_eq n ids
  have units : t.behindHosts = { was.behindHosts with cpi := { was.behindHosts.cpi with owners := owners } } := behind.trans only
  refine ⟨fun id => ?_, ?_, congrArg (·.cpi.waiting) units, congrArg (·.cpi.deferred) units, congrArg (·.cpi.launched) units⟩
  · exact (congrArg (State.owner · id) behind).trans (was.behindHosts.owner_setOwners n ids id)
  · rw [← sameUnits_behindHosts, units]
    simp [SameUnits]

/-- Settles O14: both packets end with `assignAll` as their effect, and only the owners differ behind the hosts. -/
theorem ownersChangeAtOneCut : Obligations.OwnersChangeAtOneCut := by
  intro was sender h ids
  exact ⟨fun n assigns => owners_moved (packet_done assigns rfl rfl rfl),
    fun releases => owners_moved (packet_done releases rfl rfl rfl)⟩

end Sys2Proof.Machine
end

section
/-!
SUPPORT. The bitstream's bits and bytes: bit strings and the values they spell, groups of equal length, and the bytes and fields of headers
(R212).
-/
namespace Sys2Proof.Machine

/-! ### Bit strings -/

@[simp] theorem length_bitsBE (n v : Nat) : (bitsBE n v).length = n := by
  induction n with
  | zero => rfl
  | succ n ih => simp [bitsBE, ih]

/-- Most significant bit first: the bit at place `k` of `n` stands for `2 ^ (n - 1 - k)`. -/
theorem getElem?_bitsBE {n k : Nat} (v : Nat) (h : k < n) : (bitsBE n v)[k]? = some (v.testBit (n - 1 - k)) := by
  induction n generalizing k with
  | zero => omega
  | succ n ih =>
    cases k with
    | zero => simp [bitsBE, Nat.testBit_eq_decide_div_mod_eq, Bool.beq_eq_decide_eq]
    | succ k => rw [bitsBE, List.getElem?_cons_succ, ih (by omega), show n + 1 - 1 - (k + 1) = n - 1 - k by omega]

/-- Only the `n` low bits of a value are written. -/
theorem bitsBE_mod (n v : Nat) : bitsBE n (v % 2 ^ n) = bitsBE n v := by
  refine List.ext_getElem? fun k => ?_
  by_cases h : k < n
  · rw [getElem?_bitsBE _ h, getElem?_bitsBE _ h, Nat.testBit_mod_two_pow]
    simp [show n - 1 - k < n by omega]
  · rw [List.getElem?_eq_none (by simpa using h), List.getElem?_eq_none (by simpa using h)]

/-- Reading on from a value `a` moves it up by as many places as there are bits. -/
theorem foldl_ofBits (a : Nat) (l : List Bool) :
    l.foldl (fun a b => a * 2 + (if b then 1 else 0)) a = a * 2 ^ l.length + ofBits l := by
  induction l generalizing a with
  | nil => simp [ofBits]
  | cons b l ih =>
    rw [ofBits, List.foldl_cons, List.foldl_cons, ih, ih, List.length_cons, Nat.pow_succ', Nat.zero_mul, Nat.zero_add, Nat.add_mul,
      Nat.mul_assoc, Nat.add_assoc]

/-- The leading bit of a string of `n + 1` counts `2 ^ n`. -/
theorem ofBits_cons (b : Bool) (l : List Bool) : ofBits (b :: l) = b.toNat * 2 ^ l.length + ofBits l := by
  rw [ofBits, List.foldl_cons, foldl_ofBits]
  cases b <;> rfl

theorem ofBits_lt (l : List Bool) : ofBits l < 2 ^ l.length := by
  induction l with
  | nil => decide
  | cons b l ih =>
    rw [ofBits_cons, List.length_cons, Nat.pow_succ]
    cases b <;> simp <;> omega

@[simp] theorem ofBits_bitsBE (n v : Nat) : ofBits (bitsBE n v) = v % 2 ^ n := by
  induction n with
  | zero => simp [bitsBE, ofBits, Nat.mod_one]
  | succ n ih =>
    have bit : (v / 2 ^ n % 2 == 1).toNat = v / 2 ^ n % 2 := by
      rcases Nat.mod_two_eq_zero_or_one (v / 2 ^ n) with h | h <;> simp [h]
    rw [bitsBE, ofBits_cons, length_bitsBE, ih, bit, Nat.mod_pow_succ, Nat.mul_comm, Nat.add_comm]

/-- A bit string is the writing of the value it spells. -/
theorem bitsBE_ofBits (l : List Bool) : bitsBE l.length (ofBits l) = l := by
  induction l with
  | nil => rfl
  | cons b l ih =>
    have lead : ofBits (b :: l) / 2 ^ l.length = b.toNat := by
      rw [ofBits_cons, Nat.mul_comm, Nat.mul_add_div (Nat.two_pow_pos _), Nat.div_eq_of_lt (ofBits_lt l), Nat.add_zero]
    rw [List.length_cons, bitsBE, lead, ← bitsBE_mod, ofBits_cons, Nat.mul_add_mod_self_right, bitsBE_mod, ih]
    cases b <;> rfl

theorem readBits_append {n : Nat} {l : List Bool} (rest : List Bool) (h : l.length = n) :
    readBits n (l ++ rest) = some (ofBits l, rest) := by
  subst h
  simp [readBits]

@[simp] theorem readBits_bitsBE (n v : Nat) (rest : List Bool) : readBits n (bitsBE n v ++ rest) = some (v % 2 ^ n, rest) := by
  rw [readBits_append rest (length_bitsBE n v), ofBits_bitsBE]

/-! ### Groups of equal length -/

/-- A list of whole groups, taken apart. -/
theorem exists_groups {α : Type} {k : Nat} (m : Nat) (l : List α) (h : l.length = m * k) :
    ∃ gs : List (List α), gs.flatten = l ∧ gs.length = m ∧ ∀ g ∈ gs, g.length = k := by
  induction m generalizing l with
  | zero => exact ⟨[], by simp [List.eq_nil_of_length_eq_zero (by omega : l.length = 0)], rfl, by simp⟩
  | succ m ih =>
    rw [Nat.succ_mul] at h
    obtain ⟨gs, joined, count, sizes⟩ := ih (l.drop k) (by rw [List.length_drop]; omega)
    refine ⟨l.take k :: gs, by simp [joined], by simp [count], ?_⟩
    exact List.forall_mem_cons.mpr ⟨List.length_take_of_le (by omega), sizes⟩

theorem length_flatten_groups {α : Type} {k : Nat} {gs : List (List α)} (sizes : ∀ g ∈ gs, g.length = k) :
    gs.flatten.length = gs.length * k := by
  induction gs with
  | nil => rw [List.flatten_nil, List.length_nil, List.length_nil, Nat.zero_mul]
  | cons g gs ih =>
    obtain ⟨size, sizes⟩ := List.forall_mem_cons.mp sizes
    rw [List.flatten_cons, List.length_append, size, ih sizes, List.length_cons, Nat.succ_mul, Nat.add_comm]

/-- Reading each part back and joining what was read gives the parts joined. -/
theorem flatMap_eq_flatten {α : Type} {gs : List (List α)} {f : List α → List α} (same : ∀ g ∈ gs, f g = g) :
    gs.flatMap f = gs.flatten := by
  rw [List.flatMap, List.map_congr_left same, List.map_id']

/-- Cutting at every `k`-th place undoes joining groups of `k`. -/
theorem groupsOf_flatten {α : Type} {k n : Nat} {gs : List (List α)} (pos : 0 < k) (sizes : ∀ g ∈ gs, g.length = k)
    (fuel : gs.length ≤ n) : groupsOf k n gs.flatten = gs := by
  induction gs generalizing n with
  | nil => cases n <;> rfl
  | cons g gs ih =>
    obtain ⟨size, sizes⟩ := List.forall_mem_cons.mp sizes
    obtain ⟨n, rfl⟩ : ∃ m, n = m + 1 := ⟨n - 1, by simp at fuel; omega⟩
    have full : g ≠ [] := by rintro rfl; simp at size; omega
    rw [groupsOf, List.flatten_cons, List.take_left' size, List.drop_left' size, ih sizes (by simpa using fuel)]
    simp [full]

/-- The group at place `i`, cut out of the joined list. -/
theorem slice_flatten {α : Type} {k : Nat} {gs : List (List α)} (sizes : ∀ g ∈ gs, g.length = k) {i : Nat} {g : List α}
    (at_ : gs[i]? = some g) : slice gs.flatten (k * i) k = g := by
  induction gs generalizing i with
  | nil => simp at at_
  | cons a gs ih =>
    obtain ⟨size, sizes⟩ := List.forall_mem_cons.mp sizes
    cases i with
    | zero =>
      obtain rfl : a = g := by simpa using at_
      simp [slice, ← size]
    | succ i =>
      rw [← ih sizes (by simpa using at_), slice, slice, List.flatten_cons, Nat.mul_succ, Nat.add_comm, ← List.drop_drop,
        List.drop_left' size]

/-- A part with its place and length known. -/
theorem slice_append {α : Type} {off n : Nat} (pre part post : List α) (place : pre.length = off) (size : part.length = n) :
    slice (pre ++ part ++ post) off n = part := by
  rw [slice, List.append_assoc, List.drop_left' place, List.take_left' size]

/-! ### Header bytes (R212) -/

/-- The byte that carries a group of 7 bits, bit 7 set. -/
def groupByte (g : List Bool) : Byte := BitVec.ofNat 8 (128 + ofBits g)

theorem groupByte_toNat {g : List Bool} (size : g.length = 7) : (groupByte g).toNat = 128 + ofBits g := by
  have small : ofBits g < 128 := by simpa [size] using ofBits_lt g
  simp [groupByte]
  omega

theorem bitsBE_groupByte {g : List Bool} (size : g.length = 7) : bitsBE 7 (groupByte g).toNat = g := by
  have low : (groupByte g).toNat % 2 ^ 7 = ofBits g % 2 ^ 7 := by rw [groupByte_toNat size]; omega
  rw [← bitsBE_mod, low, bitsBE_mod, ← size, bitsBE_ofBits]

section
variable {gs : List (List Bool)} (sizes : ∀ g ∈ gs, g.length = 7)
include sizes

theorem headerBytes_flatten : headerBytes gs.flatten = gs.map groupByte := by
  rw [headerBytes, groupsOf_flatten (by decide) sizes (by rw [length_flatten_groups sizes]; omega)]
  rfl

theorem headerBits_groupBytes : headerBits (gs.map groupByte) = some gs.flatten := by
  have bitSet : ∀ g ∈ gs, 128 ≤ (groupByte g).toNat := fun g mem => by rw [groupByte_toNat (sizes g mem)]; omega
  rw [headerBits, if_pos (by simpa using bitSet), List.flatMap_map,
    flatMap_eq_flatten fun g mem => bitsBE_groupByte (sizes g mem)]

end

section
variable {bits : List Bool} {m : Nat} (whole : bits.length = m * 7)
include whole

theorem length_headerBytes : (headerBytes bits).length = m := by
  obtain ⟨gs, rfl, count, sizes⟩ := exists_groups m bits whole
  rw [headerBytes_flatten sizes, List.length_map, count]

theorem headerBits_headerBytes : headerBits (headerBytes bits) = some bits := by
  obtain ⟨gs, rfl, -, sizes⟩ := exists_groups m bits whole
  rw [headerBytes_flatten sizes, headerBits_groupBytes sizes]

theorem getElem?_headerBytes {i : Nat} (h : i < m) : (headerBytes bits)[i]? = some (groupByte (slice bits (7 * i) 7)) := by
  obtain ⟨gs, rfl, count, sizes⟩ := exists_groups m bits whole
  have present : gs[i]? = some gs[i] := List.getElem?_eq_getElem (count ▸ h)
  rw [headerBytes_flatten sizes, List.getElem?_map, present, slice_flatten sizes present, Option.map_some]

theorem length_slice_whole {i : Nat} (h : i < m) : (slice bits (7 * i) 7).length = 7 := by
  rw [slice, List.length_take, List.length_drop]
  omega

/-- Bit 7 of every header byte is 1, so none is 0x00. -/
theorem headerBytes_ne_zero {b : Byte} (mem : b ∈ headerBytes bits) : b ≠ 0 := by
  obtain ⟨gs, rfl, -, sizes⟩ := exists_groups m bits whole
  rw [headerBytes_flatten sizes, List.mem_map] at mem
  obtain ⟨g, mem, rfl⟩ := mem
  intro zero
  have bitSet := groupByte_toNat (sizes g mem)
  rw [zero] at bitSet
  simp at bitSet
  omega

end

/-! ### Fields -/

@[simp] theorem packFields_cons (f : Nat × Nat) (fs : List (Nat × Nat)) :
    packFields (f :: fs) = bitsBE f.1 f.2 ++ packFields fs := rfl

theorem length_packFields (fs : List (Nat × Nat)) : (packFields fs).length = (fs.map (·.1)).sum := by
  induction fs with
  | nil => rfl
  | cons f fs ih => simp [ih]

/-- Every field is read back, cut to its width. -/
theorem unpackFields_packFields (fs : List (Nat × Nat)) :
    unpackFields (fs.map (·.1)) (packFields fs) = fs.map fun f => f.2 % 2 ^ f.1 := by
  induction fs with
  | nil => rfl
  | cons f fs ih =>
    rw [packFields_cons, List.map_cons, List.map_cons, unpackFields, List.take_left' (length_bitsBE _ _),
      List.drop_left' (length_bitsBE _ _), ofBits_bitsBE, ih]

end Sys2Proof.Machine
end

section
/-!
SUPPORT. The escapes of a payload (R211) and the headers of frames and slices (R212 … R214), and the proofs that escapes hide every marker and
that headers read back.
-/
namespace Sys2Proof.Machine

/-! ### Escapes (R211) -/

/-- The zero bytes that end what is written, once a byte follows `z` of them. -/
def zerosAfter (z : Nat) (b : Byte) : Nat := if b = 0 then z + 1 else 0

theorem escapeFrom_low {z : Nat} {b : Byte} (t : List Byte) (zeros : 2 ≤ z) (low : b.toNat ≤ 3) :
    escapeFrom z (b :: t) = 3 :: b :: escapeFrom (zerosAfter 0 b) t := if_pos ⟨zeros, low⟩

theorem escapeFrom_other {z : Nat} {b : Byte} (t : List Byte) (other : 2 ≤ z → 4 ≤ b.toNat) :
    escapeFrom z (b :: t) = b :: escapeFrom (zerosAfter z b) t := if_neg fun h => by have := other h.1; omega

theorem unescapeFrom_escape {z : Nat} (t : List Byte) (zeros : 2 ≤ z) : unescapeFrom z (3 :: t) = unescapeFrom 0 t :=
  if_pos ⟨zeros, rfl⟩

theorem unescapeFrom_other {z : Nat} {b : Byte} (t : List Byte) (other : 2 ≤ z → b ≠ 3) :
    unescapeFrom z (b :: t) = b :: unescapeFrom (zerosAfter z b) t := if_neg fun h => other h.1 h.2

theorem unescapeFrom_escapeFrom (z : Nat) (l : List Byte) : unescapeFrom z (escapeFrom z l) = l := by
  induction l generalizing z with
  | nil => rfl
  | cons b t ih =>
    by_cases low : 2 ≤ z ∧ b.toNat ≤ 3
    · rw [escapeFrom_low t low.1 low.2, unescapeFrom_escape _ low.1, unescapeFrom_other _ (by omega), ih]
    · have other : 2 ≤ z → 4 ≤ b.toNat := by omega
      rw [escapeFrom_other t other, unescapeFrom_other _ fun zeros => ?_, ih]
      rintro rfl
      exact absurd (other zeros) (by decide)

/-- After two zero bytes no byte is below `n`; `z` zero bytes stand before the list. -/
def Guarded (n : Nat) : Nat → List Byte → Prop
  | _, [] => True
  | z, b :: t => (2 ≤ z → n ≤ b.toNat) ∧ Guarded n (zerosAfter z b) t

theorem Guarded.after_zeros {n z : Nat} {pre post : List Byte} {b : Byte} (h : Guarded n z (pre ++ [0, 0, b] ++ post)) :
    n ≤ b.toNat := by
  induction pre generalizing z with
  | nil =>
    obtain ⟨-, -, high, -⟩ := h
    exact high (by simp [zerosAfter])
  | cons a pre ih => exact ih h.2

/-- A list is guarded when no three bytes of it, together with the zero bytes before it, say otherwise. -/
theorem guarded_of_windows {n z : Nat} {done l : List Byte}
    (h : ∀ pre post b, done ++ List.replicate z 0 ++ l = pre ++ [0, 0, b] ++ post → n ≤ b.toNat) : Guarded n z l := by
  induction l generalizing z done with
  | nil => trivial
  | cons b t ih =>
    refine ⟨fun zeros => ?_, ?_⟩
    · obtain ⟨k, rfl⟩ : ∃ k, z = k + 2 := ⟨z - 2, by omega⟩
      refine h (done ++ List.replicate k 0) t b ?_
      rw [← List.replicate_append_replicate]
      simp only [List.append_assoc]
      rfl
    · by_cases zero : b = 0
      · rw [zerosAfter, if_pos zero]
        refine ih (done := done) fun pre post c e => h pre post c ?_
        rw [← e, zero, List.replicate_succ']
        simp
      · rw [zerosAfter, if_neg zero]
        refine ih (done := done ++ List.replicate z 0 ++ [b]) fun pre post c e => h pre post c ?_
        rw [← e]
        simp

theorem guarded_escapeFrom (z : Nat) (l : List Byte) : Guarded 3 z (escapeFrom z l) := by
  induction l generalizing z with
  | nil => trivial
  | cons b t ih =>
    by_cases low : 2 ≤ z ∧ b.toNat ≤ 3
    · rw [escapeFrom_low t low.1 low.2]
      exact ⟨fun _ => Nat.le_refl 3, fun zeros => absurd zeros (by simp [zerosAfter]), ih _⟩
    · have other : 2 ≤ z → 4 ≤ b.toNat := by omega
      rw [escapeFrom_other t other]
      exact ⟨fun zeros => Nat.le_of_succ_le (other zeros), ih _⟩

theorem escapeFrom_of_guarded {z : Nat} {l : List Byte} (h : Guarded 4 z l) : escapeFrom z l = l := by
  induction l generalizing z with
  | nil => rfl
  | cons b t ih => rw [escapeFrom_other t h.1, ih h.2]

/-- A payload with no byte to escape stands as it is. -/
theorem escape_eq_self {l : List Byte} (h : ∀ pre post b, l = pre ++ [0, 0, b] ++ post → 3 < b.toNat) : escape l = l :=
  escapeFrom_of_guarded (guarded_of_windows (done := []) h)

/-- Settles O19: both sides count the same zero bytes, and no byte below 0x03 follows two of them, so the 0x01 of a marker cannot. -/
theorem escapesHideMarkers : Obligations.EscapesHideMarkers := by
  intro l
  have guarded : ∀ pre post b, escape l = pre ++ [0, 0, b] ++ post → 3 ≤ b.toNat := fun pre post b e =>
    (e ▸ guarded_escapeFrom 0 l : Guarded 3 0 (pre ++ [0, 0, b] ++ post)).after_zeros
  refine ⟨unescapeFrom_escapeFrom 0 l, guarded, fun pre post b e => ?_, escape_eq_self⟩
  exact absurd (guarded pre (b :: post) 1 (by simp [e, marker])) (by decide)

/-! ### The headers (R212 … R214) -/

/-- Settles O16: fields are packed bit by bit, and whole groups of 7 bits survive the way through their bytes. -/
theorem headerFieldsArePacked : Obligations.HeaderFieldsArePacked := by
  refine ⟨fun w v rest => rfl, fun w v k h => getElem?_bitsBE v h, fun fields mod7 => ?_⟩
  have whole : (packFields fields).length = (packFields fields).length / 7 * 7 := by omega
  have count := length_headerBytes whole
  have noZero : ∀ b ∈ headerBytes (packFields fields), b ≠ 0 := fun b => headerBytes_ne_zero whole
  refine ⟨by omega, fun i h => ?_, fun i h => ?_, noZero, escape_eq_self fun pre post b e => ?_, headerBits_headerBytes whole,
    unpackFields_packFields fields⟩
  · rw [List.getD_eq_getElem?_getD, getElem?_headerBytes whole (count ▸ h), Option.getD_some,
      groupByte_toNat (length_slice_whole whole (count ▸ h))]
    rfl
  · have size := length_slice_whole whole (count ▸ h)
    have small := ofBits_lt (slice (packFields fields) (7 * i) 7)
    rwa [size] at small
  · exact absurd rfl (noZero 0 (by simp [e]))

/-- Header bytes behind a marker give their bits back. -/
theorem headerBits_behind_marker {m : Nat} {bits : List Bool} (whole : bits.length = m * 7) (b : Byte) (payload : List Byte) :
    headerBits (slice (marker b ++ headerBytes bits ++ payload) 4 m) = some bits := by
  rw [slice_append (off := 4) _ _ _ rfl (length_headerBytes whole), headerBits_headerBytes whole]

/-- A frame header is its fields' values. -/
theorem FrameHeader.ofBits_values {h : FrameHeader} {l : List Bool} (fields : unpackFields frameHeaderWidths l = h.values) :
    FrameHeader.ofBits l = h := by
  rw [FrameHeader.ofBits, fields]
  rfl

theorem frameHeader_whole (h : FrameHeader) : (packFields (frameHeaderWidths.zip h.values)).length = 20 * 7 := by
  rw [length_packFields, show (frameHeaderWidths.zip h.values).map (·.1) = frameHeaderWidths from rfl]
  rfl

theorem frameHeader_readsBack {h : FrameHeader} (fit : ∀ f ∈ frameHeaderWidths.zip h.values, f.2 < 2 ^ f.1) :
    FrameHeader.ofBits (packFields (frameHeaderWidths.zip h.values)) = h := by
  refine FrameHeader.ofBits_values ?_
  have cut := unpackFields_packFields (frameHeaderWidths.zip h.values)
  rw [List.map_congr_left fun f mem => Nat.mod_eq_of_lt (fit f mem)] at cut
  exact cut

/-! CRC-16 stays within 16 bits (R214). -/

theorem crc16Step_lt (n : Nat) {c : Nat} (h : c < 65536) : crc16Step n c < 65536 := by
  induction n generalizing c with
  | zero => exact h
  | succ n ih =>
    rw [crc16Step]
    split
    · exact ih (Nat.xor_lt_two_pow (n := 16) (Nat.mod_lt _ (by decide)) (by decide))
    · exact ih (by omega)

theorem crc16_lt (bs : List Byte) : crc16 bs < 65536 := by
  refine List.foldlRecOn (motive := fun c => c < 65536) bs _ (by decide) fun c h b _ => crc16Step_lt 8 ?_
  have top : b.toNat * 256 < 2 ^ 16 := by omega
  exact Nat.xor_lt_two_pow h top

/-- The fields of a slice header (R214) with their widths. -/
def sliceHeaderFields (index : Nat) (floor : Bool) (q rows frame : Nat) (payload : List Byte) : List (Nat × Nat) :=
  [(7, index), (1, if floor then 1 else 0), (7, q), (8, rows - 1), (24, payload.length), (16, frame % 65536),
    (16, crc16 payload), (5, 0)]

section
variable (index : Nat) (floor : Bool) (q rows frame : Nat) (payload : List Byte)

theorem sliceBytes_eq : sliceBytes index floor q rows frame payload =
    marker 0xF1 ++ headerBytes (packFields (sliceHeaderFields index floor q rows frame payload)) ++ payload := rfl

theorem sliceHeaderFields_whole : (packFields (sliceHeaderFields index floor q rows frame payload)).length = 12 * 7 :=
  length_packFields _

theorem sliceHeaderFields_fit (hi : index < 128) (hq : q < 128) (hr : 1 ≤ rows) (hr' : rows ≤ 256) (hl : payload.length < 2 ^ 24) :
    ∀ f ∈ sliceHeaderFields index floor q rows frame payload, f.2 < 2 ^ f.1 := by
  have crc := crc16_lt payload
  have flag : (if floor then 1 else 0) < 2 := by cases floor <;> decide
  simp only [sliceHeaderFields, List.forall_mem_cons]
  exact ⟨hi, flag, hq, by omega, hl, by omega, crc, by decide, List.forall_mem_nil _⟩

end

/-- Settles O17: both headers are whole groups of 7 bits, and each value is below its width's power of 2. -/
theorem headersReadBack : Obligations.HeadersReadBack := by
  refine ⟨fun h fit => ?_, fun index q rows frame floor payload hi hq hr hr' hl => ?_⟩
  · have whole := frameHeader_whole h
    refine ⟨by rw [FrameHeader.bytes, List.length_append, length_headerBytes whole]; rfl, List.take_left' rfl, ?_⟩
    have back := headerBits_behind_marker whole 0xF0 []
    rw [List.append_nil] at back
    rw [FrameHeader.bytes, back, Option.map_some, frameHeader_readsBack fit]
  · have whole := sliceHeaderFields_whole index floor q rows frame payload
    rw [sliceBytes_eq]
    refine ⟨rfl, ?_, ?_⟩
    · rw [List.drop_left' (by rw [List.length_append, length_headerBytes whole]; rfl)]
    · have fit := sliceHeaderFields_fit index floor q rows frame payload hi hq hr hr' hl
      have cut := unpackFields_packFields (sliceHeaderFields index floor q rows frame payload)
      rw [List.map_congr_left fun f mem => Nat.mod_eq_of_lt (fit f mem)] at cut
      rw [headerBits_behind_marker whole, Option.map_some]
      exact congrArg some cut

end Sys2Proof.Machine
end

section
/-!
SUPPORT. Rice codes and the bits of blocks (R216), and the proof that what the encoder writes for a block is read back.
-/
namespace Sys2Proof.Machine

/-! ### Rice codes (R216) -/

theorem unzigzag_zigzag (v : Int) : unzigzag (zigzag v) = v := by
  unfold unzigzag zigzag
  split <;> split <;> omega

theorem zigzag_lt {v : Int} (low : -(2 ^ 31) ≤ v) (high : v < 2 ^ 31) : zigzag v < 2 ^ 32 := by
  unfold zigzag
  split <;> omega

/-- One bits that a count of at most `m + n` still has room for. -/
theorem leadingOnes_replicate (m n : Nat) (l : List Bool) :
    leadingOnes (m + n) (List.replicate m true ++ l) = ((leadingOnes n l).1 + m, (leadingOnes n l).2) := by
  induction m with
  | zero => simp
  | succ m ih => rw [Nat.add_right_comm, List.replicate_succ, List.cons_append, leadingOnes, ih]; rfl

/-- The one bits of an escaped value: the count stops at 20. -/
theorem leadingOnes_twenty (l : List Bool) : leadingOnes 20 (List.replicate 20 true ++ l) = (20, l) := by
  rw [leadingOnes_replicate 20 0, leadingOnes]
  simp

/-- The one bits of a quotient below 20: the count stops at the 0 bit. -/
theorem leadingOnes_quotient {q : Nat} (l : List Bool) (short : q < 20) :
    leadingOnes 20 (List.replicate q true ++ false :: l) = (q, false :: l) := by
  obtain ⟨n, room⟩ := Nat.exists_eq_add_of_lt short
  rw [room, Nat.add_assoc, leadingOnes_replicate, leadingOnes] <;> simp

section
variable {k q u x : Nat} {b : Bool} {l r rest : List Bool}

theorem readRice_escaped (ones : leadingOnes 20 l = (20, r)) (value : readBits 32 r = some (u, rest)) :
    readRice k l = some (unzigzag u, rest) := by
  simp [readRice, ones, value]

theorem readRice_quotient (ones : leadingOnes 20 l = (q, b :: r)) (short : q < 20) (low : readBits k r = some (x, rest)) :
    readRice k l = some (unzigzag (q * 2 ^ k + x), rest) := by
  have stop : readBits 1 (b :: r) = some (ofBits [b], r) := readBits_append r (l := [b]) rfl
  simp [readRice, ones, Nat.ne_of_lt short, stop, low]

end

theorem readRice_riceBits (k : Nat) {v : Int} (rest : List Bool) (low : -(2 ^ 31) ≤ v) (high : v < 2 ^ 31) :
    readRice k (riceBits k v ++ rest) = some (v, rest) := by
  by_cases long : 20 ≤ zigzag v / 2 ^ k
  · rw [riceBits, if_pos long, List.append_assoc, readRice_escaped (leadingOnes_twenty _) (readBits_bitsBE 32 _ _),
      Nat.mod_eq_of_lt (zigzag_lt low high), unzigzag_zigzag]
  · rw [riceBits, if_neg long, List.append_assoc, List.append_assoc, List.singleton_append,
      readRice_quotient (leadingOnes_quotient _ (Nat.lt_of_not_le long)) (Nat.lt_of_not_le long) (readBits_bitsBE k _ _),
      Nat.div_add_mod', unzigzag_zigzag]

/-! ### Blocks (R216) -/

theorem levelsBits_cons (k : Nat) (v : Int) (t : List Int) :
    levelsBits k (v :: t) = (riceBits k v ++ (levelsBits (adapt k v) t).1, (levelsBits (adapt k v) t).2) := rfl

theorem readLevels_levelsBits (k : Nat) {lv : List Int} (rest : List Bool) (range : ∀ v ∈ lv, -(2 ^ 31) ≤ v ∧ v < 2 ^ 31) :
    readLevels lv.length k ((levelsBits k lv).1 ++ rest) = some (lv, (levelsBits k lv).2, rest) := by
  induction lv generalizing k with
  | nil => rfl
  | cons v t ih =>
    obtain ⟨⟨low, high⟩, range⟩ := List.forall_mem_cons.mp range
    rw [levelsBits_cons, List.append_assoc, List.length_cons, readLevels, readRice_riceBits k _ low high]
    simp [ih (adapt k v) range]

theorem wrap32_of_range {v : Int} (low : -(2 ^ 31) ≤ v) (high : v < 2 ^ 31) : wrap32 v = v := by
  rw [wrap32, BitVec.toInt_ofInt, Int.bmod_eq_of_le] <;> omega

/-- An intra block's bits: LAST, the DC difference, the levels after it. -/
theorem intraBits_cons (st : BlockState) (plane : Nat) (dc : Int) {t : List Int} (size : t.length < 64) :
    intraBits st plane (dc :: t) =
      (bitsBE 7 (t.length + 1) ++ (riceBits st.kd (dc - st.preds.getD plane 0) ++ (levelsBits st.ka t).1),
        { kd := adapt st.kd (dc - st.preds.getD plane 0), ka := (levelsBits st.ka t).2, preds := st.preds.set plane dc }) := by
  rw [intraBits, List.take_of_length_le (Nat.succ_le_of_lt size)]
  simp

theorem interBits_eq (st : BlockState) {lv : List Int} (size : lv.length ≤ 64) :
    interBits st lv = (bitsBE 7 lv.length ++ (levelsBits st.ka lv).1, { st with ka := (levelsBits st.ka lv).2 }) := by
  rw [interBits, List.take_of_length_le size]

section
variable (st : BlockState) (plane : Nat) (rest : List Bool)

theorem readBlock_intra_empty :
    readBlock st true plane ((intraBits st plane []).1 ++ rest) = some ([st.preds.getD plane 0], st, rest) := by
  simp [readBlock, intraBits]

theorem readBlock_intra (dc : Int) {t : List Int} (size : t.length < 64) (dcRange : -(2 ^ 31) ≤ dc ∧ dc < 2 ^ 31)
    (diff : -(2 ^ 31) ≤ dc - st.preds.getD plane 0 ∧ dc - st.preds.getD plane 0 < 2 ^ 31)
    (range : ∀ v ∈ t, -(2 ^ 31) ≤ v ∧ v < 2 ^ 31) :
    readBlock st true plane ((intraBits st plane (dc :: t)).1 ++ rest) = some (dc :: t, (intraBits st plane (dc :: t)).2, rest) := by
  have last : (t.length + 1) % 2 ^ 7 = t.length + 1 := Nat.mod_eq_of_lt (by omega)
  rw [intraBits_cons st plane dc size, List.append_assoc, List.append_assoc, readBlock, readBits_bitsBE, last]
  have dcBack : wrap32 (st.preds.getD plane 0 + (dc - st.preds.getD plane 0)) = dc := by
    rw [show st.preds.getD plane 0 + (dc - st.preds.getD plane 0) = dc by omega, wrap32_of_range dcRange.1 dcRange.2]
  simp only [Option.bind_eq_bind, Option.bind_some, if_neg (Nat.not_lt.mpr (Nat.succ_le_of_lt size)), if_true, if_neg (Nat.succ_ne_zero _),
    readRice_riceBits st.kd _ diff.1 diff.2, Nat.add_sub_cancel, readLevels_levelsBits st.ka rest range, dcBack]
  rfl

theorem readBlock_inter {lv : List Int} (size : lv.length ≤ 64) (range : ∀ v ∈ lv, -(2 ^ 31) ≤ v ∧ v < 2 ^ 31) :
    readBlock st false plane ((interBits st lv).1 ++ rest) = some (lv, (interBits st lv).2, rest) := by
  have last : lv.length % 2 ^ 7 = lv.length := Nat.mod_eq_of_lt (by omega)
  rw [interBits_eq st size, List.append_assoc, readBlock, readBits_bitsBE, last]
  simp [readLevels_levelsBits st.ka rest range, Nat.not_lt.mpr size]

end

/-! ### End padding (R216) -/

/-- A 1 bit, then zeros to the byte boundary. -/
def endPadding (n : Nat) : List Bool := true :: List.replicate ((8 - (n + 1) % 8) % 8) false

theorem paddingOk_endPadding (n : Nat) : paddingOk (endPadding n) = true := by
  simp [paddingOk, endPadding]
  omega

theorem bitsBE_byte {g : List Bool} (size : g.length = 8) : bitsBE 8 (BitVec.ofNat 8 (ofBits g)).toNat = g := by
  rw [BitVec.toNat_ofNat, bitsBE_mod, ← size, bitsBE_ofBits]

/-- The bytes of whole groups of 8 bits hold these bits. -/
theorem byteBits_payloadBytes (bits : List Bool) : byteBits (payloadBytes bits) = bits ++ endPadding bits.length := by
  have padded : bits ++ [true] ++ List.replicate ((8 - (bits ++ [true]).length % 8) % 8) false = bits ++ endPadding bits.length := by
    simp [endPadding]
  have whole : (bits ++ endPadding bits.length).length = (bits.length / 8 + 1) * 8 := by
    simp [endPadding]
    omega
  obtain ⟨gs, joined, -, sizes⟩ := exists_groups _ _ whole
  rw [payloadBytes, padded, ← joined, groupsOf_flatten (by decide) sizes (by rw [length_flatten_groups sizes]; omega), byteBits,
    List.flatMap_map, flatMap_eq_flatten fun g mem => bitsBE_byte (sizes g mem)]

/-- Settles O20: each reader meets exactly what the writer of its part put down, and small values stay within 32 bits. -/
theorem codedBlocksReadBack : Obligations.CodedBlocksReadBack := by
  refine ⟨fun k v rest low high => readRice_riceBits k rest low high, fun st plane lv rest full size small smallPred => ?_,
    readBlock_intra_empty, fun st plane lv rest size small => ?_, fun bits => ?_⟩
  · obtain ⟨dc, t, rfl⟩ := List.exists_cons_of_ne_nil full
    obtain ⟨smallDc, small⟩ := List.forall_mem_cons.mp small
    exact readBlock_intra st plane rest dc size (by omega) (by omega) fun v mem => by have := small v mem; omega
  · exact readBlock_inter st plane rest size fun v mem => by have := small v mem; omega
  · exact ⟨_, byteBits_payloadBytes bits, paddingOk_endPadding _⟩

end Sys2Proof.Machine
end

section
/-!
SUPPORT. The slice table (R229) and the ordered codes of FP16 patterns (R207), and the proofs about them.
-/
namespace Sys2Proof.Machine

/-! ### The slice table (R229) -/

@[simp] theorem length_le (n v : Nat) : (le n v).length = n := by
  induction n generalizing v with
  | zero => rfl
  | succ n ih => simp [le, ih]

theorem unle_le (n v : Nat) : unle (le n v) = v % 256 ^ n := by
  induction n generalizing v with
  | zero => simp [le, unle, Nat.mod_one]
  | succ n ih =>
    rw [le, unle, ih, Nat.pow_succ', Nat.mod_mul]
    simp

/-- An entry of the slice table: FLOOR, Q, LENGTH and OFFSET of a slice that begins `off` bytes behind the frame header. -/
def sliceEntry (x : SliceInfo) (off : Nat) : Nat := (if x.floor then 2 ^ 63 else 0) + x.q * 2 ^ 56 + x.length * 2 ^ 32 + off

/-- The entries of slices that follow one another from `off` on. -/
def sliceEntries : Nat → List SliceInfo → List (List Byte)
  | _, [] => []
  | off, x :: t => le 8 (sliceEntry x off) :: sliceEntries (off + x.length) t

theorem sliceTable_foldl (l : List SliceInfo) (acc : List Byte) (off : Nat) :
    (l.foldl (fun (acc : List Byte × Nat) x =>
      (acc.1 ++ le 8 ((if x.floor then 2 ^ 63 else 0) + x.q * 2 ^ 56 + x.length * 2 ^ 32 + acc.2), acc.2 + x.length)) (acc, off)).1 =
      acc ++ (sliceEntries off l).flatten := by
  induction l generalizing acc off with
  | nil => simp [sliceEntries]
  | cons x t ih =>
    rw [List.foldl_cons, ih, sliceEntries, List.flatten_cons, List.append_assoc]
    rfl

theorem sliceTable_eq (c : Coding) : sliceTable c = (sliceEntries 24 c.slices).flatten := sliceTable_foldl c.slices [] 24

@[simp] theorem length_sliceEntries (off : Nat) (l : List SliceInfo) : (sliceEntries off l).length = l.length := by
  induction l generalizing off with
  | nil => rfl
  | cons x t ih => simp [sliceEntries, ih]

theorem getElem?_sliceEntries (off : Nat) {l : List SliceInfo} {i : Nat} {x : SliceInfo} (at_ : l[i]? = some x) :
    (sliceEntries off l)[i]? = some (le 8 (sliceEntry x (off + ((l.take i).map (·.length)).sum))) := by
  induction l generalizing off i with
  | nil => simp at at_
  | cons y t ih =>
    cases i with
    | zero =>
      obtain rfl : y = x := by simpa using at_
      simp [sliceEntries]
    | succ i => simpa [sliceEntries, Nat.add_assoc] using ih (off + y.length) (by simpa using at_)

theorem sliceEntries_sizes (off : Nat) (l : List SliceInfo) : ∀ e ∈ sliceEntries off l, e.length = 8 := by
  induction l generalizing off with
  | nil => simp [sliceEntries]
  | cons x t ih => exact List.forall_mem_cons.mpr ⟨length_le 8 _, ih _⟩

/-- The fields of an entry whose parts are within their widths. -/
theorem sliceEntry_fields {x : SliceInfo} {off : Nat} (q : x.q < 128) (length : x.length < 2 ^ 24) (place : off < 2 ^ 32) :
    sliceEntry x off < 256 ^ 8 ∧
    bitsOf (sliceEntry x off) 63 63 = (if x.floor then 1 else 0) ∧ bitsOf (sliceEntry x off) 62 56 = x.q ∧
      bitsOf (sliceEntry x off) 55 32 = x.length ∧ bitsOf (sliceEntry x off) 31 0 = off := by
  unfold bitsOf sliceEntry
  split <;> omega

/-- Settles O21: an entry is a word of 8 bytes, and its offset is the sum of the lengths before it. -/
theorem sliceTableEntries : Obligations.SliceTableEntries := by
  intro c fit total
  have sizes := sliceEntries_sizes 24 c.slices
  rw [sliceTable_eq]
  refine ⟨by rw [length_flatten_groups sizes, length_sliceEntries, Nat.mul_comm], fun i x at_ => ?_⟩
  have before : 24 + ((c.slices.take i).map (·.length)).sum < 2 ^ 32 := by
    have whole := congrArg List.sum (congrArg (List.map (·.length)) (List.take_append_drop i c.slices))
    rw [List.map_append, List.sum_append] at whole
    omega
  obtain ⟨q, length⟩ := fit x (List.mem_of_getElem? at_)
  obtain ⟨word, fields⟩ := sliceEntry_fields q length before
  rw [slice_flatten sizes (getElem?_sliceEntries 24 at_), unle_le, Nat.mod_eq_of_lt word]
  exact fields

/-! ### Ordered FP16 (R207) -/

theorem orderedFp16_orderedCode {h : Nat} (pattern : h < 65536) :
    orderedFp16 (orderedCode h) = h / 0x8000 * 0x8000 + min (h % 0x8000) 0x7BFF := by
  unfold orderedFp16 orderedCode
  split <;> split <;> omega

/-- The clamp keeps the exponent below 31: neither infinity nor NaN. -/
theorem orderedFp16_finite (c : Nat) : orderedFp16 c < 65536 ∧ orderedFp16 c / 1024 % 32 ≠ 31 := by
  unfold orderedFp16
  split <;> omega

/-- The value of a pattern in units of its magnitude bits, negative from 0x8000 on. -/
def patternValue (h : Nat) : Int := if h < 0x8000 then (h : Int) else -((h : Int) - 0x8000)

theorem orderedCode_rises {g h : Nat} (pattern : g < 65536) (less : patternValue g < patternValue h) :
    orderedCode g ≤ orderedCode h := by
  by_cases gPositive : g < 0x8000 <;> by_cases hPositive : h < 0x8000
  all_goals
    simp only [patternValue, gPositive, hPositive, if_true, if_false] at less
    simp only [orderedCode, gPositive, hPositive, if_true, if_false]
    omega

/-- Settles O18: sign and clamped magnitude survive the mapping, and codes of negative values fall as the magnitude rises. -/
theorem orderedCodesInvert : Obligations.OrderedCodesInvert :=
  ⟨fun _ _ => rfl, fun _ => orderedFp16_orderedCode, fun c _ => orderedFp16_finite c, fun _ hg _ _ => orderedCode_rises hg⟩

end Sys2Proof.Machine
end

section
/-!
SUPPORT. What safe state stops: preparing and starting a take, formatting a magazine (R444), and the proofs about it.
-/
namespace Sys2Proof.Machine

section
variable {s : State} (safe : s.safe = true)
include safe

theorem pktMedTakePrepare_safe (stream primary secondary : Nat) (id text : List Byte) (n : Nat) :
    (pktMedTakePrepare stream primary secondary id text).checks n s = .SAFE_STATE := if_pos safe

theorem pktMedMagFormat_safe (mag : Nat) (spare : Option Nat) (n : Nat) :
    (pktMedMagFormat mag spare).checks n s = .SAFE_STATE := if_pos safe

theorem State.startStatus_safe (t : Nat) : s.startStatus t = .SAFE_STATE := if_pos safe

/-- A handle that passed its parameter check names a take, so MED_BAD_HANDLE cannot come before SAFE_STATE. -/
theorem pktMedTakeStart_safe {handle : Nat} (params : (pktMedTakeStart handle).params s = .DONE) (n : Nat) :
    (pktMedTakeStart handle).checks n s = .SAFE_STATE := by
  have known : (s.takeOf handle).isSome = true := (need_done Status.noConfusion).mp params
  obtain ⟨t, take⟩ := Option.isSome_iff_exists.mp known
  simp [pktMedTakeStart, take, State.startStatus_safe safe]

/-- A TAKE_START launch opens no take, whatever its handle names. -/
theorem evTakeStart_safe (mag : Fin 4) (stream : Fin 8) (handle : BitVec 32) :
    evTakeStart mag stream handle s = .next s.medNotReady := by
  unfold evTakeStart
  cases s.takeOf handle.toNat with
  | none => rfl
  | some t => simp [State.startStatus_safe safe]

/-- A TAKE_START launch in any safe state, however that state came about. -/
theorem takeStart_safe (mag : Fin 4) (stream : Fin 8) (handle : BitVec 32) :
    Leaves (.takeStart mag stream handle) s (s.raise .MED_EVT_NOT_READY) := answer_eq (evTakeStart_safe safe mag stream handle)

end

/-- Settles O15: each of the three packets fails check 11 of R65 with SAFE_STATE, and a launch finds no start it may make. -/
theorem safeStateRefusesTakes : Obligations.SafeStateRefusesTakes := by
  rintro was _ sender h rfl safe
  refine ⟨fun m passes unheld served judged => ⟨?_, ?_, ?_⟩, takeStart_safe safe⟩
  · rintro stream primary secondary id text rfl
    exact packet_badState passes unheld judged served (pktMedTakePrepare_safe safe ..) nofun rfl rfl
  · rintro handle rfl
    have ⟨_, _, _, params, _⟩ := passes
    exact packet_badState passes unheld judged served (pktMedTakeStart_safe safe params _) nofun rfl rfl
  · rintro mag spare rfl
    exact packet_badState passes unheld judged served (pktMedMagFormat_safe safe ..) nofun rfl rfl

end Sys2Proof.Machine
end

section
/-!
SUPPORT. The registers, the hosts and the pins right after a reset (R457), and the proof about the state a reset leaves.
-/
namespace Sys2Proof.Machine

/-- The register file lists nothing after a reset, so a register reads as its reset value. -/
@[simp] theorem State.rd_reset (r : Reg) (i j : Nat) : State.reset.rd r i j = r.resetVal i j % 2 ^ 32 := BitVec.toNat_ofNat _ 32

@[simp] theorem State.get_reset (f : Fld) (i j : Nat) :
    State.reset.get f i j = bitsOf (f.reg.resetVal i j % 2 ^ 32) f.hi f.lo := by rw [State.get, State.rd_reset]

/-- CPI_SLOT_STATE resets to FREE in every slot. -/
@[simp] theorem State.attached_reset (n : Nat) : State.reset.attached n = false := by
  have free : Fld.CPI_SLOT_STATE_STATE.reg.resetVal n 0 = 0 := rfl
  rw [State.attached, State.get_reset, free]
  rfl

/-- MEM_STATUS.PHASE resets to a phase other than FROZEN. -/
theorem State.frozen_reset : State.reset.frozen = false := by
  have phase : Fld.MEM_STATUS_PHASE.reg.resetVal 0 0 = 0 := rfl
  rw [State.frozen, State.get_reset, phase]
  rfl

/-- With no slot attached, no endpoint has one. -/
theorem State.slotAt_reset (e : Endpoint) : State.reset.slotAt e = none := by simp [State.slotAt]

theorem State.spiIrq_reset (p : Nat) : State.reset.spiIrq p = false := by rw [State.spiIrq, State.slotAt_reset]

/-- Start-up begins in a phase in which READY stays low (R457). -/
theorem State.readyHigh_reset : State.reset.readyHigh = false := Bool.and_false _

theorem State.reset_shows : PinsShow State.reset := by
  simp only [PinsShow, State.readyHigh_reset, State.spiIrq_reset]
  exact ⟨rfl, rfl, rfl⟩

/-- Settles O5: registers, slots and pins by the lemmas above; owners, queues and takes stand in tables that are empty. -/
theorem resetState : Obligations.ResetState :=
  ⟨rfl, State.reset_shows, rfl, rfl, .nil, State.rd_reset, fun n _ => State.attached_reset n, fun _ => rfl, fun _ => rfl,
    State.frozen_reset, rfl⟩

end Sys2Proof.Machine
end

section
/-!
SUPPORT. What a step runs (log 1), that every command answers, and that none touches the queue.
-/
namespace Sys2Proof.Machine

/-- Settles O1: the three cases of `step`, and of the tick it runs on an empty queue. -/
theorem stepRunsFrontCommand : Obligations.StepRunsFrontCommand := by
  refine ⟨fun c rest s => rfl, fun s empty => ?_, fun s empty still => ?_⟩
  · rw [step, empty]
  · rw [step, empty]
    exact congrArg Host.Outcome.next (if_neg (Bool.eq_false_iff.mp still))

/-- A pass that is due and none that is: KAT_PASS leaves a state (R141). -/
theorem evKatPass_next (pipOk colOk : Bool) (s : State) : ∃ t, evKatPass pipOk colOk s = .next t := by
  unfold evKatPass
  split
  next => exact ⟨_, rfl⟩
  next => exact ⟨_, rfl⟩

/-- A detection that a mechanism reported, and one that it did not: FAULT_RECORD leaves a state (R438, R446). -/
theorem evFaultRecord_next (code detail0 detail1 : Nat) (s : State) : ∃ t, evFaultRecord code detail0 detail1 s = .next t := by
  unfold evFaultRecord
  split
  next => exact ⟨_, rfl⟩
  next => exact ⟨_, rfl⟩

/-- PACKET_EXEC takes a packet that has launched, or one whose entry has not, or finds none under its name (R54; log 4). -/
theorem evPacketExec_outcome (slot : Fin 8) (seq : BitVec 32) (s : State) :
    (∃ t, evPacketExec slot seq s = .next t) ∨ evPacketExec slot seq s = .fault .noLaunchedPacket := by
  unfold evPacketExec
  dsimp only
  split
  next => exact .inl ⟨_, rfl⟩
  next =>
    split
    next => exact .inl ⟨_, rfl⟩
    next => exact .inr rfl

/-- A command answers a next state where its own meaning does. -/
theorem answer_next_of {s : State} {o : Out'} (done : ∃ u, o = .next u) : ∃ t, s.answer o = .next t :=
  done.imp' s.shown fun _ => answer_eq

/-- Settles O2: packets end in a delivery and events in a state; of the three commands that look before they answer, only PACKET_EXEC finds
nothing to answer with. -/
theorem everyCommandAnswers : Obligations.EveryCommandAnswers := by
  refine ⟨fun c s named => ?_, fun slot seq s => ?_⟩
  · cases c with
    | katPass pipOk colOk => exact answer_next_of (evKatPass_next pipOk colOk s)
    | faultRecord code detail0 detail1 => exact answer_next_of (evFaultRecord_next code detail0 detail1 s)
    | packetExec slot seq => exact absurd rfl (named slot seq)
    | _ => exact ⟨_, rfl⟩
  · rcases evPacketExec_outcome slot seq s with done | fault
    · exact .inl (answer_next_of done)
    · exact .inr (congrArg s.answer fault)

/-- Settles O3: an answer's state is shown with the queue it was given. -/
theorem commandsKeepTheQueue : Obligations.CommandsKeepTheQueue := by
  intro c s t answers
  obtain ⟨o, dispatch⟩ := exec_answers c s
  obtain ⟨u, -, rfl⟩ := State.answer_next (dispatch.symm.trans answers)
  exact s.shown_pending u

end Sys2Proof.Machine
end

section
/-!
SUPPORT. What taking a packet and replying to it leave alone (R67, R82, R89), and the proofs of what packets that report, and packets that
set one register, leave as it was.
-/
namespace Sys2Proof.Machine

/-! ### Registers that stay as they were -/

/-- `t` differs from `s` only in front of the hosts: of its registers at the addresses `but` alone. -/
structure FrontOnly (but : List Nat) (s t : State) : Prop where
  behind : t.behindHosts = s.behindHosts
  regs : SameRegs s t but

namespace FrontOnly

variable {but : List Nat} {s t u : State}

theorem refl (but : List Nat) (s : State) : FrontOnly but s s := ⟨rfl, fun _ _ _ _ => rfl⟩

theorem trans (a : FrontOnly but s t) (b : FrontOnly but t u) : FrontOnly but s u :=
  ⟨b.behind.trans a.behind, fun r i j h => (b.regs r i j h).trans (a.regs r i j h)⟩

theorem units (a : FrontOnly but s t) : SameUnits s t := by
  rw [← sameUnits_behindHosts, a.behind]
  simp [SameUnits]

theorem owners (a : FrontOnly but s t) : t.cpi.owners = s.cpi.owners := congrArg (·.cpi.owners) a.behind

theorem setHost (s : State) (n : Nat) (h : HostSlot) : FrontOnly but s (s.setHost n h) := ⟨rfl, fun _ _ _ _ => rfl⟩

theorem wr (s : State) (r : Reg) (v i j : Nat) (named : r.addr i j ∈ but) : FrontOnly but s (s.wr r v i j) :=
  ⟨rfl, fun _ _ _ other => s.rd_wr_ne r _ v i j _ _ (ne_of_mem_of_not_mem named other).symm⟩

theorem set (s : State) (f : Fld) (v i j : Nat) (named : f.reg.addr i j ∈ but) : FrontOnly but s (s.set f v i j) :=
  wr s f.reg _ i j named

/-- A word written to a register without shadowed fields takes effect there alone (R12). -/
theorem writeWord (s : State) (o : Option CUnit) (r : Reg) (v i j : Nat) (unshadowed : r.mask (· = .rws) = 0)
    (named : r.addr i j ∈ but) : FrontOnly but s (s.writeWord o r v i j) := by
  have written := wr s r (r.written (s.rd r i j) v (s.raisedBits (r.addr i j))) i j named
  unfold State.writeWord
  dsimp only
  rw [if_pos unshadowed]
  exact written

end FrontOnly

/-! ### Packets and replies -/

theorem State.shown_rd (s t : State) (r : Reg) (i j : Nat) : (s.shown t).rd r i j = t.rd r i j := rfl

theorem State.shown_host (s t : State) (n : Nat) : (s.shown t).host n = t.host n := rfl

section
variable {but : List Nat} (s e : State) (n : Fin 8) (rings : ringRegs n.val ⊆ but)
include rings

/-- Taking a packet moves its ring's indices and renews the lease (R67, R82). -/
theorem FrontOnly.taken : FrontOnly but s (s.taken n) := by
  refine ⟨s.taken_behindHosts n, ?_⟩
  have rung : FrontOnly but s ((s.implyDoorbell n.val).getD s) := by
    unfold State.implyDoorbell
    dsimp only
    split
    next => exact .refl _ _
    next =>
      split
      next => exact .refl _ _
      next => exact .set _ _ _ _ _ (rings (by simp [ringRegs, Fld.CPI_SLOT_SQ_TAIL_INDEX]))
  exact (rung.trans (.set _ .CPI_SLOT_SQ_HEAD_INDEX _ n.val 0 (rings (by simp [ringRegs, Fld.CPI_SLOT_SQ_HEAD_INDEX])))).regs

theorem FrontOnly.ringReply (v : Nat) (r : Reply) : FrontOnly but s (s.ringReply n.val v r) := by
  refine ⟨s.ringReply_behindHosts n.val v r, ?_⟩
  have moved := FrontOnly.set (but := but) s .CPI_SLOT_RQ_TAIL_INDEX (s.get .CPI_SLOT_RQ_TAIL_INDEX n + 1) n.val 0
    (rings (by simp [ringRegs, Fld.CPI_SLOT_RQ_TAIL_INDEX]))
  unfold State.ringReply
  dsimp only
  split
  next => exact fun _ _ _ _ => rfl
  next =>
    split
    next => exact moved.regs
    next => exact moved.regs

/-- A final reply moves its ring's tail and the count of refusals (R67, R89). -/
theorem FrontOnly.finalReply (seq : BitVec 32) (o : Nat) (quiet : Bool) (t : Status) (b : Body) :
    FrontOnly but s (s.finalReply (.ring n) seq o quiet t b) := by
  have counted : FrontOnly but s (if t.isRefusal then s.bump .CPI_SLOT_STAT_REFUSED n.val else s) := by
    split
    next => exact ⟨rfl, (FrontOnly.set s .CPI_SLOT_STAT_REFUSED _ n.val 0 (rings (by simp [ringRegs, Fld.CPI_SLOT_STAT_REFUSED]))).regs⟩
    next => exact .refl _ _
  unfold State.finalReply
  dsimp only
  split
  next => exact counted
  next => exact counted.trans (.ringReply _ n rings 0 _)

/-- A packet that ends leaves what its effect leaves, but for its sender's ring. -/
theorem FrontOnly.replied {h : Hdr} (via : h.via = .ring n) (o : Nat) (t : Status) (b : Body)
    (effect : FrontOnly but (s.taken n) e) : FrontOnly but s (s.replied h o t b e) := by
  have answered := ((FrontOnly.taken s n rings).trans effect).trans (.finalReply e n rings h.seq o (quietOf h) t b)
  rw [State.replied, via]
  exact ⟨(s.shown_behindHosts _).trans answered.behind, fun r i j other => (s.shown_rd _ r i j).trans (answered.regs r i j other)⟩

end

section
variable (s : State) (n : Fin 8) {m : Nat} (other : m ≠ n.val)
include other

/-- Exchanges with one host leave every other slot. -/
theorem State.taken_host : (s.taken n).host m = s.host m := by
  have rung : ((s.implyDoorbell n.val).getD s).host m = s.host m := by
    unfold State.implyDoorbell
    dsimp only
    split
    next => rfl
    next =>
      split
      next => rfl
      next => rfl
  exact (State.host_setHost_ne _ _ other).trans rung

theorem State.ringReply_host (v : Nat) (r : Reply) : (s.ringReply n.val v r).host m = s.host m := by
  unfold State.ringReply
  dsimp only
  split
  next => exact State.host_setHost_ne _ _ other
  next =>
    split
    next => exact State.host_setHost_ne (s.set .CPI_SLOT_RQ_TAIL_INDEX _ n.val) _ other
    next => exact State.host_setHost_ne (s.set .CPI_SLOT_RQ_TAIL_INDEX _ n.val) _ other

theorem State.finalReply_host (seq : BitVec 32) (o : Nat) (quiet : Bool) (t : Status) (b : Body) :
    (s.finalReply (.ring n) seq o quiet t b).host m = s.host m := by
  have counted : (if t.isRefusal then s.bump .CPI_SLOT_STAT_REFUSED n.val else s).host m = s.host m := by
    split
    next => rfl
    next => rfl
  unfold State.finalReply
  dsimp only
  split
  next => exact counted
  next => exact (State.ringReply_host _ n other 0 _).trans counted

end

/-! ### Packets that report -/

/-- A packet that reports: it ends with a body and the state as it was taken. -/
structure Reports (h : Hdr) (n : Fin 8) (x : Instr × Packet) : Prop where
  carried : packetOf x.1 = some (h, x.2)
  ends : ∀ s, ∃ b, x.2.run (.ring n) s = .done b s

/-- A packet that reports leaves all but its sender's ring. -/
theorem Reports.changes_nothing {was : State} {sender : Fin 8} {h : Hdr} {x : Instr × Packet} (reports : Reports h sender x)
    (b : Begins was sender h x.2) :
    ∃ t, exec x.1 was = .next t ∧ SameUnits was t ∧ SameRegs was t (ringRegs sender.val) ∧ t.cpi.owners = was.cpi.owners ∧
      ∀ n, n ≠ sender.val → t.host n = was.host n := by
  obtain ⟨carried, ends⟩ := reports
  obtain ⟨body, runs⟩ := ends (was.taken sender)
  have via : h.via = .ring sender := b.1.1.1
  have front := FrontOnly.replied was _ sender (List.Subset.refl _) via x.2.opcode .DONE body (.refl _ (was.taken sender))
  refine ⟨_, packet_done b carried rfl runs, front.units, front.regs, front.owners, fun n other => ?_⟩
  rw [State.replied, State.shown_host, via, State.finalReply_host _ sender other, State.taken_host was sender other]

/-- Settles O23: each of the packets named ends with the state it was taken in. -/
theorem reportingPacketsChangeNothing : Obligations.ReportingPacketsChangeNothing := by
  intro was sender hdr a b c k ids x named
  suffices reports : Reports hdr sender x from reports.changes_nothing
  revert x
  simp only [List.cons_append, List.nil_append, List.forall_mem_cons, List.not_mem_nil, false_implies, implies_true, and_true]
  and_intros
  all_goals exact ⟨rfl, fun s => ⟨_, rfl⟩⟩

/-! ### Packets that set one register -/

/-- A packet that ends with an effect in front of the hosts leaves the rest. -/
theorem leaves_others {was : State} {sender : Fin 8} {h : Hdr} {c : Instr} {m : Packet} {but : List Nat} {d : Body} {e : State}
    (b : Begins was sender h m) (carried : packetOf c = some (h, m)) (runs : m.run (.ring sender) (was.taken sender) = .done d e)
    (effect : FrontOnly (ringRegs sender.val ++ but) (was.taken sender) e) :
    ∃ t, exec c was = .next t ∧ SameUnits was t ∧ SameRegs was t (ringRegs sender.val ++ but) ∧ t.cpi.owners = was.cpi.owners := by
  have front := effect.replied was _ sender (List.subset_append_left _ _) b.1.1.1 m.opcode .DONE d
  exact ⟨_, packet_done b carried rfl runs, front.units, front.regs, front.owners⟩

/-- A configuration of a sensor control bus writes its own register, and that of the odd bus it takes (R108). -/
theorem State.applyScbCfg_front {but : List Nat} (s : State) (bus cfg : Nat) (own : Reg.addr .SNS_SCB_CFG bus 0 ∈ but)
    (next : Reg.addr .SNS_SCB_CFG (bus + 1) 0 ∈ but) : FrontOnly but s (s.applyScbCfg bus cfg) := by
  have written : FrontOnly but s (s.writeWord none .SNS_SCB_CFG cfg bus 0) := .writeWord s none _ _ _ _ (by decide) own
  unfold State.applyScbCfg
  dsimp only
  split
  next => exact written.trans (.set _ .SNS_SCB_CFG_MODE _ _ _ next)
  next => exact written

/-- Settles O24: the effect of each packet is a write to a slot or to the registers named. -/
theorem settingPacketsLeaveOthers : Obligations.SettingPacketsLeaveOthers := by
  intro was sender hdr a b c w
  simp only [List.forall_mem_cons, List.not_mem_nil, false_implies, implies_true, and_true]
  exact ⟨fun begins => leaves_others begins rfl rfl (.setHost _ _ _),
    fun begins => leaves_others begins rfl rfl (.setHost _ _ _),
    fun begins => leaves_others begins rfl rfl (.setHost _ _ _),
    fun begins => leaves_others begins rfl rfl (.writeWord _ _ .DCK_PORT_CTRL _ _ _ (by decide) (by simp)),
    fun begins => leaves_others begins rfl rfl (State.applyScbCfg_front _ a w.toNat (by simp) (by simp)),
    fun begins => leaves_others begins rfl rfl (.set _ .MLS_S_CFG_HANDLE _ _ _ (by simp [Fld.MLS_S_CFG_HANDLE])),
    fun begins => leaves_others begins rfl rfl (.wr _ .EVF_STORM _ _ _ (by simp)),
    fun begins => leaves_others begins rfl rfl
      (((FrontOnly.set _ .VAL_MON_CFG_TAP _ _ _ (by simp [Fld.VAL_MON_CFG_TAP])).trans
        (.set _ .VAL_MON_CFG_SHIFT _ _ _ (by simp [Fld.VAL_MON_CFG_SHIFT]))).trans (.wr _ .VAL_MON_BASE _ _ _ (by simp)))⟩

end Sys2Proof.Machine
end

section
/-!
SUPPORT. What the instructions of the test access port, the reference pins, an SPI status read, a patrol error, a cross-check and the loss
of LTC leave alone, and the proof.
-/
namespace Sys2Proof.Machine

/-- The state but for its registers in effect, the free values drawn, the pins and the queue of commands. -/
def State.behindRegs (s : State) : State := { s with regs := [], fresh := 0, raised := [], pins := {}, pending := [] }

/-- Of the units and the control processor interface `t` differs from `s` in nothing, of the registers at the addresses `but` alone. -/
structure RegsOnly (but : List Nat) (s t : State) : Prop where
  behind : t.behindRegs = s.behindRegs
  regs : SameRegs s t but

namespace RegsOnly

variable {but : List Nat} {s t u : State}

theorem trans (a : RegsOnly but s t) (b : RegsOnly but t u) : RegsOnly but s u :=
  ⟨b.behind.trans a.behind, fun r i j h => (b.regs r i j h).trans (a.regs r i j h)⟩

theorem units (a : RegsOnly but s t) : SameUnits s t := by
  show SameUnits s.behindRegs t.behindRegs
  rw [a.behind]
  simp [SameUnits]

theorem cpi (a : RegsOnly but s t) : t.cpi = s.cpi := congrArg (·.cpi) a.behind

theorem wr (s : State) (r : Reg) (v i j : Nat) (named : r.addr i j ∈ but) : RegsOnly but s (s.wr r v i j) :=
  ⟨rfl, fun _ _ _ other => s.rd_wr_ne r _ v i j _ _ (ne_of_mem_of_not_mem named other).symm⟩

theorem set (s : State) (f : Fld) (v i j : Nat) (named : f.reg.addr i j ∈ but) : RegsOnly but s (s.set f v i j) :=
  wr s f.reg _ i j named

theorem bump (s : State) (f : Fld) (i k j : Nat) (named : f.reg.addr i j ∈ but) : RegsOnly but s (s.bump f i k j) :=
  ⟨rfl, (set s f _ i j named).regs⟩

theorem raise (s : State) (f : Fld) (b i : Nat) (named : f.reg.addr i 0 ∈ but) : RegsOnly but s (s.raise f b i) := by
  unfold State.raise
  dsimp only
  split
  next => exact ⟨rfl, fun _ _ _ _ => rfl⟩
  next => exact ⟨rfl, (set s f _ i 0 named).regs⟩

/-- Showing what a command has come to writes no register. -/
theorem shown (a : RegsOnly but s t) : RegsOnly but s (s.shown t) := ⟨Eq.trans rfl a.behind, a.regs⟩

theorem modDck (a : RegsOnly but s t) (f : Dck → Dck) : RegsOnly but { s with dck := f t.dck } (t.modDck f) :=
  ⟨congrArg (fun x : State => { x with dck := f t.dck }) a.behind, a.regs⟩

theorem withInteg (a : RegsOnly but s t) (k : Integ) : RegsOnly but { s with integ := k } { t with integ := k } :=
  ⟨congrArg (fun x : State => { x with integ := k }) a.behind, a.regs⟩

end RegsOnly

/-- An instruction of the test access port moves the port and the pins (R477, R478). -/
theorem State.tapLoad_frame (s : State) (i : TapInstr) : RegsOnly [] { s with tap := (s.tapLoad i).tap } (s.tapLoad i) :=
  ⟨rfl, fun _ _ _ _ => rfl⟩

/-- The state `e` an instruction leaves, answered and shown. -/
theorem leaves_tap {s e : State} {c : Instr} (leaves : Leaves c s e) (frame : RegsOnly [] { s with tap := e.tap } e) :
    ∃ t, exec c s = .next t ∧ SameUnits { s with tap := t.tap } t ∧ SameRegs s t [] ∧ t.cpi = s.cpi :=
  ⟨_, leaves, frame.shown.units, frame.shown.regs, frame.shown.cpi⟩

/-- SAMPLE/PRELOAD takes the boundary bits where the port takes the instruction (R478). -/
def State.preloaded (s : State) (bits : List Bool) : State :=
  let t := s.tapLoad .samplePreload
  if t.tap.loaded == .samplePreload then { t with tap := { t.tap with preload := bits } } else t

theorem State.preloaded_frame (s : State) (bits : List Bool) :
    RegsOnly [] { s with tap := (s.preloaded bits).tap } (s.preloaded bits) := by
  unfold State.preloaded
  dsimp only
  split
  next => exact ⟨rfl, fun _ _ _ _ => rfl⟩
  next => exact s.tapLoad_frame _

/-- Instructions of the test access port, and its reset (R477, R478). -/
theorem tapInstructions_leave (s : State) (bits : List Bool) : ∀ c ∈ ([.bypass, .idcode, .samplePreload bits, .extest,
    .extestPulse, .extestTrain, .clamp, .highz, .trstNAssert] : List Instr),
    ∃ t, exec c s = .next t ∧ SameUnits { s with tap := t.tap } t ∧ SameRegs s t [] ∧ t.cpi = s.cpi := by
  simp only [List.forall_mem_cons, List.not_mem_nil, false_implies, implies_true, and_true]
  exact ⟨leaves_tap (answer_eq rfl) (s.tapLoad_frame .bypass), leaves_tap (answer_eq rfl) (s.tapLoad_frame .idcode),
    leaves_tap (answer_eq rfl) (s.preloaded_frame bits), leaves_tap (answer_eq rfl) (s.tapLoad_frame .extest),
    leaves_tap (answer_eq rfl) (s.tapLoad_frame .extestPulse), leaves_tap (answer_eq rfl) (s.tapLoad_frame .extestTrain),
    leaves_tap (answer_eq rfl) (s.tapLoad_frame .clamp), leaves_tap (answer_eq rfl) (s.tapLoad_frame .highz),
    leaves_tap (answer_eq rfl) ⟨rfl, fun _ _ _ _ => rfl⟩⟩

/-- The reference pins are records of the clock (R39). -/
theorem referencePins_leave (s : State) (w : BitVec 32) : ∀ c ∈ ([.ppsPulse w, .wclkStart w, .wclkStop] : List Instr),
    ∃ t, exec c s = .next t ∧ SameUnits { s with dck := t.dck } t ∧ SameRegs s t [] ∧ t.cpi = s.cpi ∧ t.dck.queues = s.dck.queues := by
  have leaves : ∀ {c : Instr} (f : Dck → Dck), (f s.dck).queues = s.dck.queues → Leaves c s (s.modDck f) →
      ∃ t, exec c s = .next t ∧ SameUnits { s with dck := t.dck } t ∧ SameRegs s t [] ∧ t.cpi = s.cpi ∧ t.dck.queues = s.dck.queues :=
    fun f queues leaves =>
      have frame : RegsOnly [] { s with dck := f s.dck } (s.shown (s.modDck f)) := ⟨rfl, fun _ _ _ _ => rfl⟩
      ⟨_, leaves, frame.units, frame.regs, frame.cpi, queues⟩
  simp only [List.forall_mem_cons, List.not_mem_nil, false_implies, implies_true, and_true]
  exact ⟨leaves _ rfl (answer_eq rfl), leaves _ rfl (answer_eq rfl), leaves _ rfl (answer_eq rfl)⟩

/-- The STATUS read goes out on the port's data line (R69). -/
theorem spiStatus_leaves (s : State) (port : Fin 2) : ∃ t, exec (.spiStatus port) s = .next t ∧ SameUnits s t ∧ SameRegs s t [] := by
  obtain ⟨out, leaves⟩ : ∃ out, Leaves (.spiStatus port) s { s with cpi := { s.cpi with spiOut := out } } := by
    by_cases serves : s.spiServes = true
    · exact ⟨_, answer_eq (congrArg Host.Outcome.next (if_pos serves))⟩
    · exact ⟨_, answer_eq (congrArg Host.Outcome.next (if_neg serves))⟩
  exact ⟨_, leaves, by simp [SameUnits, State.shown, State.settle, State.showPins], fun _ _ _ _ => rfl⟩

/-- An error that a patrol read found and corrected is counted, placed and raised (R320). -/
theorem patrolCorrected_leaves (s : State) (addr n : Nat) : ∃ t, exec (.patrolScrub addr 0 n) s = .next t ∧ SameUnits s t ∧
    t.cpi = s.cpi ∧ SameRegs s t [Reg.addr .MEM_ECC 0 0, Reg.addr .MEM_ECC_ADDR_LO 0 0, Reg.addr .MEM_ECC_ADDR_HI 0 0, Reg.addr .MEM_EVT 0 0] := by
  have only : RegsOnly [Reg.addr .MEM_ECC 0 0, Reg.addr .MEM_ECC_ADDR_LO 0 0, Reg.addr .MEM_ECC_ADDR_HI 0 0, Reg.addr .MEM_EVT 0 0] s
      (((s.bump .MEM_ECC_CORRECTED).wr64 .MEM_ECC_ADDR_LO .MEM_ECC_ADDR_HI addr).raise .MEM_EVT_CORRECTED) :=
    (((RegsOnly.bump s .MEM_ECC_CORRECTED 0 1 0 (by decide)).trans (.wr _ .MEM_ECC_ADDR_LO _ 0 0 (by decide))).trans
      (.wr _ .MEM_ECC_ADDR_HI _ 0 0 (by decide))).trans (.raise _ .MEM_EVT_CORRECTED 0 0 (by decide))
  exact ⟨_, answer_eq rfl, only.shown.units, only.shown.cpi, only.shown.regs⟩

/-- An error that a patrol read cleared is counted (R320). -/
theorem patrolCleared_leaves (s : State) (addr n : Nat) : ∃ t, exec (.patrolScrub addr 1 n) s = .next t ∧ SameUnits s t ∧
    t.cpi = s.cpi ∧ SameRegs s t [Reg.addr .MEM_ECC 0 0] :=
  have only := RegsOnly.bump s .MEM_ECC_SCRUB_CLEARED 0 1 0 (but := [Reg.addr .MEM_ECC 0 0]) (by decide)
  ⟨_, answer_eq rfl, only.shown.units, only.shown.cpi, only.shown.regs⟩

/-- A passing check is a record of the integrity manager (R448). -/
theorem State.passed_eq (s : State) (code : Nat) : ∃ integ, s.passed code = { s with integ := integ } := by
  unfold State.passed
  split
  next => exact ⟨_, rfl⟩
  next => exact ⟨s.integ, rfl⟩

/-- A cross-check within its bounds shows in DCK_STATUS (R38). -/
theorem xchkWindow_leaves (s : State) (count : Nat) (low : 297000 ≤ count) (high : count ≤ 303000) :
    ∃ t, exec (.xchkWindow count) s = .next t ∧ SameUnits { s with integ := t.integ } t ∧ t.cpi = s.cpi ∧
      SameRegs s t [Reg.addr .DCK_STATUS 0 0] := by
  have leaves : Leaves (.xchkWindow count) s ((s.set .DCK_STATUS_XCHK_OK 1).passed 0x0D) :=
    answer_eq (congrArg Host.Outcome.next (if_pos ⟨low, high⟩))
  obtain ⟨integ, passed⟩ := (s.set .DCK_STATUS_XCHK_OK 1).passed_eq 0x0D
  rw [passed] at leaves
  have only : RegsOnly [Reg.addr .DCK_STATUS 0 0] { s with integ := integ } { s.set .DCK_STATUS_XCHK_OK 1 with integ := integ } :=
    (RegsOnly.set s .DCK_STATUS_XCHK_OK 1 0 0 (by decide)).withInteg integ
  exact ⟨_, leaves, only.shown.units, only.shown.cpi, only.shown.regs⟩

/-- The loss of LTC shows in the clock's STATUS and events, and in its record of LTC (R44). -/
theorem ltcLoss_leaves (s : State) : ∃ t, exec .ltcLoss s = .next t ∧ SameUnits { s with dck := t.dck } t ∧ t.cpi = s.cpi ∧
    t.dck.queues = s.dck.queues ∧ SameRegs s t [Reg.addr .DCK_STATUS 0 0, Reg.addr .DCK_EVT 0 0] := by
  by_cases idle : (!s.flag .DCK_TC_CFG_LTC_IN_EN || s.dck.ltcLost) = true
  · have leaves : Leaves .ltcLoss s s := answer_eq (congrArg Host.Outcome.next (if_pos idle))
    have only : RegsOnly [Reg.addr .DCK_STATUS 0 0, Reg.addr .DCK_EVT 0 0] s s := ⟨rfl, fun _ _ _ _ => rfl⟩
    exact ⟨_, leaves, only.shown.units, only.shown.cpi, rfl, only.shown.regs⟩
  · have leaves : Leaves .ltcLoss s (((s.raise .DCK_EVT_LTC_LOST).set .DCK_STATUS_LTC_PRESENT 0).modDck fun d => { d with ltcLost := true }) :=
      answer_eq (congrArg Host.Outcome.next (if_neg idle))
    have only : RegsOnly [Reg.addr .DCK_STATUS 0 0, Reg.addr .DCK_EVT 0 0] s ((s.raise .DCK_EVT_LTC_LOST).set .DCK_STATUS_LTC_PRESENT 0) :=
      (RegsOnly.raise s .DCK_EVT_LTC_LOST 0 0 (by decide)).trans (.set _ .DCK_STATUS_LTC_PRESENT 0 0 0 (by decide))
    have lost := only.modDck fun d => { d with ltcLost := true }
    exact ⟨_, leaves, lost.shown.units, lost.shown.cpi, congrArg (·.dck.queues) only.behind, lost.shown.regs⟩

/-- Settles O25: each clause is what its event's own lemma says of the state it leaves. -/
theorem eventsLeaveOthers : Obligations.EventsLeaveOthers :=
  ⟨tapInstructions_leave, referencePins_leave, spiStatus_leaves, patrolCorrected_leaves, patrolCleared_leaves, xchkWindow_leaves,
    ltcLoss_leaves⟩

end Sys2Proof.Machine
end

section
/-!
SUPPORT. What the packets of the system, the sessions, the deal clock, the sensors, the pipeline, colour, statistics and the engines do.
-/
namespace Sys2Proof.Machine

/-- A Boolean that holds is not denied. -/
theorem not_denied {b : Bool} (holds : b = true) : ¬(!b) = true := by simp [holds]

/-- Settles O26: REG_READ and REG_MODIFY end as the register file answers them, SYS_SHUTDOWN and FW_COMMIT wait for their events, and the
others' runs are one delivery each. -/
theorem systemPacketsDo : Obligations.SystemPacketsDo := by
  rintro was _ sender hdr rfl
  exact ⟨fun begins => packet_done begins rfl rfl rfl,  -- SYS_IDENTITY
    fun begins => packet_done begins rfl rfl rfl,  -- SYS_STATUS
    fun _ _ begins _ _ read => packet_done begins rfl rfl (by simp only [pktRegRead, slotOf, read]),  -- REG_READ
    fun _ _ _ begins => packet_done begins rfl rfl rfl,  -- REG_WRITE
    fun _ _ _ begins _ _ modified => packet_done begins rfl rfl (by simp only [pktRegModify, slotOf, modified]),  -- REG_MODIFY
    fun _ begins => packet_done begins rfl rfl rfl,  -- SYS_RESET
    fun begins => packet_waits begins rfl rfl,  -- SYS_SHUTDOWN
    fun _ begins => packet_done begins rfl rfl rfl,  -- FW_BEGIN
    fun _ _ begins => packet_done begins rfl rfl rfl,  -- FW_DATA
    fun begins => packet_waits begins rfl rfl,  -- FW_COMMIT
    fun _ begins => packet_done begins rfl rfl rfl,  -- SYS_SUBSCRIBE
    fun _ _ begins => packet_done begins rfl rfl rfl⟩  -- SYS_BOOT_SET

/-- Settles O27: the run of each session packet is one delivery, with no case to tell apart. -/
theorem sessionPacketsDo : Obligations.SessionPacketsDo := by
  rintro was _ sender hdr rfl
  exact ⟨fun begins => packet_done begins rfl rfl rfl,  -- HOST_DETACH
    fun begins => packet_done begins rfl rfl rfl,  -- HOST_HEARTBEAT
    fun begins => packet_done begins rfl rfl rfl,  -- HOST_LIST
    fun _ _ begins => packet_done begins rfl rfl rfl,  -- LEASE_SET
    fun _ _ begins => packet_done begins rfl rfl rfl,  -- RES_ASSIGN
    fun _ begins => packet_done begins rfl rfl rfl,  -- RES_RELEASE
    fun _ begins => packet_done begins rfl rfl rfl,  -- RES_QUERY
    fun _ _ _ begins => packet_done begins rfl rfl rfl⟩  -- PART_SET

/-- Settles O28: the run of each packet is one delivery; DEAL_CANCEL reports the count that `cancelPort` found. -/
theorem dealClockPacketsDo : Obligations.DealClockPacketsDo := by
  rintro was _ sender hdr rfl
  exact ⟨fun begins => packet_done begins rfl rfl rfl,  -- DCK_INFO
    fun _ _ _ begins => packet_done begins rfl rfl rfl,  -- DCK_SOURCE_SET
    fun _ begins => packet_done begins rfl rfl rfl,  -- DCK_STEP
    fun _ begins => packet_done begins rfl rfl rfl,  -- DEAL_QUEUE
    fun _ _ begins _ _ cancelled => packet_done begins rfl rfl (by simp only [pktDealCancel, cancelled]),  -- DEAL_CANCEL
    fun _ _ begins => packet_done begins rfl rfl rfl,  -- DEAL_PORT_SET
    fun _ _ _ _ _ begins => packet_done begins rfl rfl rfl,  -- TC_SET
    fun _ begins => packet_done begins rfl rfl rfl⟩  -- DEAL_LIST

/-- Settles O29: SNS_PORT_CONFIG is split by whether the context is enabled, SNS_CTX_DISABLE by whether it is enabled, before the packet
and after; SNS_SCB_XFER waits for its run. -/
theorem sensorPacketsDo : Obligations.SensorPacketsDo := by
  rintro was _ sender hdr rfl
  exact ⟨fun _ begins => packet_done begins rfl rfl rfl,  -- SNS_INFO
    fun _ _ _ _ begins enabled => packet_done begins rfl rfl (if_pos enabled),  -- SNS_PORT_CONFIG
    fun _ _ _ _ begins disabled => packet_done begins rfl rfl (if_neg disabled),
    fun _ _ _ _ _ _ begins => packet_done begins rfl rfl rfl,  -- SNS_CTX_CONFIG
    fun _ begins => packet_done begins rfl rfl rfl,  -- SNS_CTX_ENABLE
    fun _ begins disabled => packet_done begins rfl rfl (if_pos disabled),  -- SNS_CTX_DISABLE
    fun _ begins enabled draining => packet_waits begins rfl ((if_neg (not_denied enabled)).trans (if_pos draining)),
    fun _ begins enabled stopped => packet_both begins rfl rfl ((if_neg (not_denied enabled)).trans (if_neg stopped)),
    fun _ _ begins => packet_done begins rfl rfl rfl,  -- SNS_SCB_CONFIG
    fun _ _ _ begins => packet_done begins rfl rfl rfl,  -- SNS_SCB_LIST_LOAD
    fun _ _ begins => packet_waits begins rfl rfl,  -- SNS_SCB_XFER
    fun _ _ begins _ _ _ result => packet_done begins rfl rfl (by simp only [pktSnsScbResult, result])⟩  -- SNS_SCB_RESULT

/-- Settles O30: PIP_INLINE_SET is split by what `inlineSwitch` answered (refused, made or put off), and PIP_BANK_SWAP waits for its
boundary. -/
theorem pipelinePacketsDo : Obligations.PipelinePacketsDo := by
  rintro was _ sender hdr rfl
  exact ⟨fun _ begins => packet_done begins rfl rfl rfl,  -- PIP_INFO
    fun _ _ _ begins => packet_done begins rfl rfl rfl,  -- PIP_CTX_CONFIG
    fun _ _ begins => packet_done begins rfl rfl rfl,  -- PIP_PARAM_SET
    fun _ _ _ _ _ _ begins => packet_done begins rfl rfl rfl,  -- PIP_DEFECT_LOAD
    fun _ _ _ _ _ _ begins => packet_done begins rfl rfl rfl,  -- PIP_SHADE_LOAD
    fun _ _ begins => packet_done begins rfl rfl rfl,  -- PIP_TAP_CONFIG
    fun _ begins _ refused => packet_refused begins rfl rfl (by simp only [pktPipInlineSet, refused]),  -- PIP_INLINE_SET
    fun _ begins _ switched => packet_done begins rfl rfl (by simp only [pktPipInlineSet, switched]),
    fun _ begins _ pending => packet_waits begins rfl (by simp only [pktPipInlineSet, pending]),
    fun _ _ begins => packet_waits begins rfl rfl,  -- PIP_BANK_SWAP
    fun _ begins => packet_done begins rfl rfl rfl⟩  -- PIP_DROP_LOG

/-- Settles O31: a seal is split by its checksum first and by the bank's content then, a look swap by whether the output runs. -/
theorem colourAndStatisticsPacketsDo : Obligations.ColourAndStatisticsPacketsDo := by
  rintro was _ sender hdr rfl
  exact ⟨fun _ _ begins => packet_done begins rfl rfl rfl,  -- COL_INFO
    fun _ _ _ begins => packet_done begins rfl rfl rfl,  -- COL_CTX_CONFIG
    fun _ _ _ _ _ _ begins _ _ _ located => packet_done begins rfl rfl (by simp only [pktColCalLoad, located]),  -- COL_CAL_LOAD
    fun _ _ _ begins wrong => packet_refused begins rfl rfl (if_pos wrong),  -- COL_CAL_SEAL
    fun _ _ _ begins sealed invalid =>
      packet_refused begins rfl rfl (by simp only [pktColCalSeal, if_neg (not_not_intro sealed), if_pos invalid]),
    fun _ _ _ begins sealed valid => packet_done begins rfl rfl ((if_neg (not_not_intro sealed)).trans (if_neg (not_denied valid))),
    fun _ _ begins => packet_waits begins rfl rfl,  -- COL_CAL_SWAP
    fun _ _ _ _ begins => packet_done begins rfl rfl rfl,  -- COL_LOOK_CONFIG
    fun _ _ _ _ _ _ begins => packet_done begins rfl rfl rfl,  -- COL_LOOK_LOAD
    fun _ _ _ begins wrong => packet_refused begins rfl rfl (if_pos wrong),  -- COL_LOOK_SEAL
    fun _ _ _ begins sealed invalid =>
      packet_refused begins rfl rfl (by simp only [pktColLookSeal, if_neg (not_not_intro sealed), if_pos invalid]),
    fun _ _ _ begins sealed valid => packet_done begins rfl rfl ((if_neg (not_not_intro sealed)).trans (if_neg (not_denied valid))),
    fun _ _ begins running => packet_waits begins rfl (if_pos running),  -- COL_LOOK_SWAP
    fun _ _ begins stopped => packet_done begins rfl rfl (if_neg stopped),
    fun _ _ _ _ _ _ begins => packet_done begins rfl rfl rfl,  -- COL_LOOK_PARAM
    fun _ begins => packet_done begins rfl rfl rfl,  -- STA_INFO
    fun _ _ _ begins => packet_done begins rfl rfl rfl,  -- STA_CTX_CONFIG
    fun _ _ _ begins => packet_done begins rfl rfl rfl,  -- STA_CFG_SET
    fun _ _ begins => packet_waits begins rfl rfl,  -- STA_CFG_SWAP
    fun _ _ begins _ held => packet_done begins rfl rfl (by simp only [pktStaRead, held]),  -- STA_READ
    fun _ _ _ begins => packet_done begins rfl rfl rfl⟩  -- STA_DELIVER

/-- Settles O32: each packet acts on the kernel that its handle names, and ENG_KERNEL_CREATE on the slot found free. -/
theorem enginePacketsDo : Obligations.EnginePacketsDo := by
  rintro was _ sender hdr rfl
  exact ⟨fun _ _ begins => packet_done begins rfl rfl rfl,  -- ENG_INFO
    fun _ _ begins _ free => packet_done begins rfl rfl (by simp only [pktEngKernelCreate, slotOf, free]),  -- ENG_KERNEL_CREATE
    fun _ _ _ begins _ kernel => packet_done begins rfl rfl (by simp only [pktEngKernelData, kernel]),  -- ENG_KERNEL_DATA
    fun _ begins _ kernel => packet_done begins rfl rfl (by simp only [pktEngKernelSeal, kernel]),  -- ENG_KERNEL_SEAL
    fun _ _ _ _ _ _ _ _ begins _ kernel => packet_done begins rfl rfl (by simp only [pktEngInputAttach, kernel]),  -- ENG_INPUT_ATTACH
    fun _ _ _ _ begins _ kernel => packet_done begins rfl rfl (by simp only [pktEngOutputConfig, kernel]),  -- ENG_OUTPUT_CONFIG
    fun _ begins _ kernel => packet_done begins rfl rfl (by simp only [pktEngKernelStart, kernel]),  -- ENG_KERNEL_START
    fun _ begins _ kernel => packet_waits begins rfl (by simp only [pktEngKernelStop, kernel]),  -- ENG_KERNEL_STOP
    fun _ begins _ kernel => packet_done begins rfl rfl (by simp only [pktEngKernelFree, kernel]),  -- ENG_KERNEL_FREE
    fun _ _ _ begins _ held => packet_done begins rfl rfl (by simp only [pktEngResultRead, held])⟩  -- ENG_RESULT_READ

end Sys2Proof.Machine
end

section
/-!
SUPPORT. What the packets of the encoder, the decoder, recording, the media channel, memory and the links do.
-/
namespace Sys2Proof.Machine

/-- Settles O33: each packet acts on the codec context that its handle names; a start by MLS_CTX_RUN waits, and a stop only while frames
are in the coder. -/
theorem encoderPacketsDo : Obligations.EncoderPacketsDo := by
  rintro was _ sender hdr rfl
  exact ⟨fun _ _ begins => packet_done begins rfl rfl rfl,  -- MLS_INFO
    fun _ _ _ _ _ _ _ _ _ _ begins _ free => packet_done begins rfl rfl (by simp only [pktMlsCtxCreate, free]),  -- MLS_CTX_CREATE
    fun _ _ _ _ _ _ begins _ codec => packet_done begins rfl rfl (by simp only [pktMlsCtxSet, codec]),  -- MLS_CTX_SET
    fun _ begins _ codec => packet_done begins rfl rfl (by simp only [pktMlsCtxDelete, codec]),  -- MLS_CTX_DELETE
    fun _ _ begins => packet_done begins rfl rfl rfl,  -- MLS_STREAM_BIND
    fun _ begins _ bound => packet_waits begins rfl (by simp only [pktMlsStreamStart, bound]),  -- MLS_STREAM_START
    fun _ _ begins _ codec => packet_waits begins rfl (by simp only [pktMlsSwitch, codec]),  -- MLS_SWITCH
    fun _ _ _ begins _ codec => packet_done begins rfl rfl (by simp only [pktMlsPlanSet, codec]),  -- MLS_PLAN_SET
    fun _ _ begins _ codec _ held => packet_done begins rfl rfl (by simp only [pktMlsRecordRead, codec, held]),  -- MLS_RECORD_READ
    fun _ _ begins _ codec starts => packet_waits begins rfl (by simp only [pktMlsCtxRun, codec, if_pos starts]),  -- MLS_CTX_RUN
    fun _ _ begins _ codec stops idle => packet_both begins rfl rfl (by simp only [pktMlsCtxRun, codec, if_neg stops, if_pos idle]),
    fun _ _ begins _ codec stops coding => packet_waits begins rfl (by simp only [pktMlsCtxRun, codec, if_neg stops, if_neg coding])⟩

/-- Settles O34: each packet acts on the session that its handle names. MLS_DEC_CREATE is rewritten step by step, since `simp` would
evaluate the powers of two in its configuration word. -/
theorem decoderPacketsDo : Obligations.DecoderPacketsDo := by
  rintro was _ sender hdr rfl
  exact ⟨fun _ begins => packet_done begins rfl rfl rfl,  -- MLS_DEC_INFO
    fun _ _ _ _ _ _ _ _ _ _ _ _ begins _ free => packet_done begins rfl rfl
      (by unfold pktMlsDecCreate; dsimp only; rw [free]),  -- MLS_DEC_CREATE
    fun _ begins _ found => packet_done begins rfl rfl (by simp only [pktMlsDecStart, found]),  -- MLS_DEC_START
    fun _ begins _ found => packet_both begins rfl rfl (by simp only [pktMlsDecStop, found]),  -- MLS_DEC_STOP
    fun _ begins _ found => packet_done begins rfl rfl (by simp only [pktMlsDecDelete, found]),  -- MLS_DEC_DELETE
    fun _ _ _ _ begins _ found => packet_done begins rfl rfl (by simp only [pktMlsDecFeed, found]),  -- MLS_DEC_FEED
    fun _ _ begins _ found _ held => packet_done begins rfl rfl (by simp only [pktMlsDecRead, decRead, found, held]),  -- MLS_DEC_READ
    fun _ _ begins _ found _ held => packet_done begins rfl rfl
      (by simp only [pktMlsDecRecordRead, decRead, found, held]),  -- MLS_DEC_RECORD_READ
    fun _ _ _ begins _ found => packet_done begins rfl rfl (by simp only [pktMlsDecSet, found])⟩  -- MLS_DEC_SET

/-- MED_TAKE_READ ends with the bytes fetched, and with MED_READ_ERROR where a codeword of the stripe read failed its code. -/
theorem medTakeRead_ends {was after : State} {sender : Fin 8} {hdr : Hdr} {mag entry seq off len n : Nat} {bs : List Byte} {bad : Bool}
    (begins : Begins was sender hdr (pktMedTakeRead mag entry seq off len)) (drawn : (was.taken sender).draw = (n, after))
    (fetched : (after.magz mag).fetch n ((after.magz mag).sequence entry seq).1 off len = (bs, bad)) :
    EndsWith was hdr (.medTakeRead hdr mag entry seq off len) 0x0A09 (if bad then .MED_READ_ERROR else .DONE) (.bytes bs) after := by
  cases bad with
  | true => exact packet_failed begins rfl rfl (by simp only [pktMedTakeRead, drawn, fetched]; rfl)
  | false => exact packet_done begins rfl rfl (by simp only [pktMedTakeRead, drawn, fetched]; rfl)

/-- Settles O35: each packet acts on the take, the stream or the magazine it names; a stop and an eject are split by whether there is
anything to wait for. -/
theorem recordingPacketsDo : Obligations.RecordingPacketsDo := by
  rintro was _ sender hdr rfl
  exact ⟨fun _ begins running => packet_waits begins rfl (if_pos running),  -- MLS_STREAM_STOP
    fun _ begins stopped => packet_both begins rfl rfl (if_neg stopped),
    fun _ _ begins => packet_done begins rfl rfl rfl,  -- MED_INFO
    fun _ _ begins => packet_waits begins rfl rfl,  -- MED_MAG_FORMAT
    fun _ begins quiet => packet_both begins rfl rfl (if_pos quiet),  -- MED_MAG_EJECT
    fun _ begins busy => packet_waits begins rfl (if_neg busy),
    fun _ _ _ _ _ begins _ free => packet_done begins rfl rfl (by simp only [pktMedTakePrepare, free]),  -- MED_TAKE_PREPARE
    fun _ begins _ take => packet_waits begins rfl (by simp only [pktMedTakeStart, take]),  -- MED_TAKE_START
    fun _ begins _ take => packet_waits begins rfl (by simp only [pktMedTakeStop, take]),  -- MED_TAKE_STOP
    fun _ _ begins _ take => packet_done begins rfl rfl (by simp only [pktMedTakeMark, take]),  -- MED_TAKE_MARK
    fun _ _ _ begins => packet_done begins rfl rfl rfl,  -- MED_TAKE_LIST
    fun _ _ _ _ _ begins _ _ _ bad drawn fetched => medTakeRead_ends begins drawn fetched,  -- MED_TAKE_READ
    fun _ _ begins _ _ drawn => packet_done begins rfl rfl (by simp only [pktMedTakeDelete, drawn]),  -- MED_TAKE_DELETE
    fun _ _ begins => packet_done begins rfl rfl rfl,  -- MED_CEIL_SET
    fun _ _ _ _ begins _ found => packet_done begins rfl rfl (by simp only [pktMedPlay, found])⟩  -- MED_PLAY

/-- What MED_TASK answers once the channel has taken its task or turned it down. -/
def taskVerdict (n : Nat) : Status × State → Verdict
  | (answered, t) =>
    if answered ≠ .DONE then .refuse answered t
    else if t.flag .MED_T_STAT_BUSY n then .wait (.taskAccept n) t
    else .done (.values [t.now]) t

/-- MED_TASK writes its five words to the sender's task registers and answers by what submitting them came to. -/
theorem medTask_run {cmd lba count bufLo bufHi : BitVec 32} {sender : Fin 8} {s t : State} {answered : Status}
    (submitted : (([.MED_T_CMD, .MED_T_LBA, .MED_T_COUNT, .MED_T_BUF_LO, .MED_T_BUF_HI].zip [cmd, lba, count, bufLo, bufHi]).foldl
      (fun s (r, w) => s.writeWord none r w.toNat sender.val 0) s).submit sender.val = (answered, t)) :
    (pktMedTask cmd lba count bufLo bufHi).run (.ring sender) s = taskVerdict sender.val (answered, t) :=
  congrArg (taskVerdict sender.val) submitted

/-- Settles O36: MED_TASK is split by what submitting it came to (`medTask_run`). -/
theorem mediaChannelPacketsDo : Obligations.MediaChannelPacketsDo := by
  rintro was _ sender hdr rfl
  exact ⟨fun _ _ _ _ _ begins _ _ submitted refused => packet_refused begins rfl rfl
      ((medTask_run submitted).trans (if_pos refused)),  -- MED_TASK
    fun _ _ _ _ _ begins _ _ submitted accepted busy => packet_waits begins rfl
      ((medTask_run submitted).trans ((if_neg (not_not_intro accepted)).trans (if_pos busy))),
    fun _ _ _ _ _ begins _ _ submitted accepted idle => packet_done begins rfl rfl
      ((medTask_run submitted).trans ((if_neg (not_not_intro accepted)).trans (if_neg idle))),
    fun _ _ begins _ _ _ reset => packet_done begins rfl rfl (by simp only [pktMedQueueReset, slotOf, reset]),  -- MED_QUEUE_RESET
    fun _ begins => packet_done begins rfl rfl rfl,  -- MED_CQ_SET
    fun _ _ begins => packet_done begins rfl rfl rfl,  -- MED_MAG_TARGET
    fun _ begins => packet_done begins rfl rfl rfl⟩  -- MED_BUF_ALLOC

/-- Settles O37: the run of each packet is one delivery; MEM_MARGIN and MEM_TEST wait for their measurement. -/
theorem memoryPacketsDo : Obligations.MemoryPacketsDo := by
  rintro was _ sender hdr rfl
  exact ⟨fun begins => packet_done begins rfl rfl rfl,  -- MEM_INFO
    fun _ _ begins => packet_done begins rfl rfl rfl,  -- MEM_PORT_SET
    fun _ begins => packet_waits begins rfl rfl,  -- MEM_MARGIN
    fun _ begins => packet_done begins rfl rfl rfl,  -- MEM_MARGIN_READ
    fun _ begins => packet_done begins rfl rfl rfl,  -- MEM_TRAIN_READ
    fun _ begins => packet_done begins rfl rfl rfl,  -- MEM_ORDER_SET
    fun _ _ begins => packet_waits begins rfl rfl,  -- MEM_TEST
    fun _ _ _ _ begins _ _ drawn => packet_done begins rfl rfl (by simp only [pktMemDiagRead, drawn])⟩  -- MEM_DIAG_READ

/-- Settles O38: the run of each link packet is one delivery, with no case to tell apart. -/
theorem linkPacketsDo : Obligations.LinkPacketsDo := by
  rintro was _ sender hdr rfl
  exact ⟨fun _ _ begins => packet_done begins rfl rfl rfl,  -- LNK_INFO
    fun _ _ _ begins => packet_done begins rfl rfl rfl,  -- LNK_QUAD_CONFIG
    fun _ _ begins => packet_done begins rfl rfl rfl,  -- LNK_DRX_CONFIG
    fun _ _ begins => packet_done begins rfl rfl rfl,  -- LNK_ETH_CONFIG
    fun _ _ begins => packet_done begins rfl rfl rfl,  -- LNK_MAG_MAP
    fun _ begins => packet_done begins rfl rfl rfl,  -- LNK_PARTNER_READ
    fun _ _ _ begins => packet_done begins rfl rfl rfl,  -- LNK_PRBS
    fun _ begins => packet_done begins rfl rfl rfl,  -- LNK_FOM_READ
    fun _ begins => packet_done begins rfl rfl rfl⟩  -- LNK_LINK_RESET

end Sys2Proof.Machine
end

section
/-!
SUPPORT. What the packets of outputs, audio, the event fabric, the position trigger, the supervisor and integrity do.
-/
namespace Sys2Proof.Machine

/-- Settles O39: OUT_STOP is split by whether the output runs and shows a frame, OUT_SOURCE_SET by whether it runs. -/
theorem outputPacketsDo : Obligations.OutputPacketsDo := by
  rintro was _ sender hdr rfl
  exact ⟨fun _ begins => packet_done begins rfl rfl rfl,  -- OUT_INFO
    fun _ _ _ begins => packet_done begins rfl rfl rfl,  -- OUT_CONFIG
    fun _ begins => packet_done begins rfl rfl rfl,  -- OUT_START
    fun _ begins stopped => packet_both begins rfl rfl (if_pos stopped),  -- OUT_STOP
    fun _ begins running idle => packet_both begins rfl rfl ((if_neg (not_denied running)).trans (if_pos idle)),
    fun _ begins running shown => packet_waits begins rfl ((if_neg (not_denied running)).trans (if_neg shown)),
    fun _ _ begins running => packet_waits begins rfl (if_pos running),  -- OUT_SOURCE_SET
    fun _ _ begins stopped => packet_done begins rfl rfl (if_neg stopped),
    fun _ _ _ _ _ _ begins => packet_done begins rfl rfl rfl,  -- OUT_SCALE_SET
    fun _ _ _ _ begins => packet_done begins rfl rfl rfl,  -- OUT_OVERLAY_SET
    fun _ _ _ begins => packet_done begins rfl rfl rfl,  -- OUT_TEXT_SET
    fun _ _ _ begins => packet_done begins rfl rfl rfl,  -- OUT_AUDIO_SET
    fun _ _ begins => packet_done begins rfl rfl rfl,  -- OUT_IP_SET
    fun _ begins => packet_done begins rfl rfl rfl⟩  -- OUT_SDP_READ

/-- Settles O40: AUD_MASK_SET is split by whether the port has stopped, AUD_STOP by whether any port it names is live. -/
theorem audioPacketsDo : Obligations.AudioPacketsDo := by
  rintro was _ sender hdr rfl
  exact ⟨fun _ begins => packet_done begins rfl rfl rfl,  -- AUD_INFO
    fun _ _ _ _ _ begins => packet_done begins rfl rfl rfl,  -- AUD_CONFIG
    fun _ _ _ _ _ begins stopped => packet_done begins rfl rfl (if_pos stopped),  -- AUD_MASK_SET
    fun _ _ _ _ _ begins running => packet_waits begins rfl (if_neg running),
    fun _ _ begins => packet_done begins rfl rfl rfl,  -- AUD_START
    fun _ begins silent => packet_both begins rfl rfl (if_pos silent),  -- AUD_STOP
    fun _ begins live => packet_waits begins rfl (if_neg live),
    fun _ _ _ begins => packet_done begins rfl rfl rfl,  -- AUD_READ
    fun _ _ _ begins => packet_done begins rfl rfl rfl⟩  -- AUD_WRITE

/-- Settles O41: EVF_SOURCE_SET and EVF_SOURCE_CLEAR are split by whether the source has a slot already. -/
theorem eventFabricPacketsDo : Obligations.EventFabricPacketsDo := by
  rintro was _ sender hdr rfl
  exact ⟨fun _ _ begins => packet_done begins rfl rfl rfl,  -- EVF_INFO
    fun _ _ _ _ begins => packet_done begins rfl rfl rfl,  -- EVF_CHANNEL_SET
    fun _ _ _ begins => packet_done begins rfl rfl rfl,  -- EVF_ENABLE_SET
    fun _ _ _ begins => packet_done begins rfl rfl rfl,  -- EVF_CELL_SET
    fun _ _ begins => packet_done begins rfl rfl rfl,  -- EVF_PIN_SET
    fun _ begins _ mapped => packet_done begins rfl rfl (by simp only [pktEvfSourceSet, mapped]),  -- EVF_SOURCE_SET
    fun _ begins unmapped _ free => packet_done begins rfl rfl (by simp only [pktEvfSourceSet, unmapped, free]),
    fun _ begins unmapped => packet_done begins rfl rfl (by simp only [pktEvfSourceClear, unmapped]),  -- EVF_SOURCE_CLEAR
    fun _ begins _ mapped => packet_done begins rfl rfl (by simp only [pktEvfSourceClear, mapped]),
    fun _ begins => packet_done begins rfl rfl rfl,  -- EVF_UNQUENCH
    fun _ begins => packet_done begins rfl rfl rfl⟩  -- EVF_STORM_SET

/-- Settles O42: the table packets act on the table that their handle names; a seal is split by its checksum first and by the table's
content then. -/
theorem positionTriggerPacketsDo : Obligations.PositionTriggerPacketsDo := by
  rintro was _ sender hdr rfl
  exact ⟨fun _ _ begins => packet_done begins rfl rfl rfl,  -- PTU_INFO
    fun _ _ begins => packet_done begins rfl rfl rfl,  -- PTU_ENC_CONFIG
    fun _ _ _ begins => packet_done begins rfl rfl rfl,  -- PTU_ENGINE_CONFIG
    fun _ _ begins => packet_done begins rfl rfl rfl,  -- PTU_STROBE_CONFIG
    fun _ _ _ _ _ _ _ _ _ begins _ free => packet_done begins rfl rfl (by simp only [pktPtuTableCreate, free]),  -- PTU_TABLE_CREATE
    fun _ _ _ _ begins _ table => packet_done begins rfl rfl (by simp only [pktPtuTableLoad, table]),  -- PTU_TABLE_LOAD
    fun _ _ begins _ table wrong =>
      packet_refused begins rfl rfl (by simp only [pktPtuTableSeal, table, if_pos wrong]),  -- PTU_TABLE_SEAL
    fun _ _ begins _ table sealed invalid =>
      packet_refused begins rfl rfl (by simp only [pktPtuTableSeal, table, if_neg (not_not_intro sealed), if_pos invalid]),
    fun _ _ begins _ table sealed valid => packet_done begins rfl rfl
      (by simp only [pktPtuTableSeal, table, if_neg (not_not_intro sealed), if_neg (not_denied valid)]),
    fun _ begins _ table => packet_done begins rfl rfl (by simp only [pktPtuTableArm, table]),  -- PTU_TABLE_ARM
    fun _ begins => packet_done begins rfl rfl rfl,  -- PTU_TABLE_DISARM
    fun _ _ begins => packet_done begins rfl rfl rfl,  -- PTU_STROBE_FIRE
    fun _ _ begins => packet_done begins rfl rfl rfl,  -- PTU_STROBE_RESET
    fun _ begins _ table => packet_done begins rfl rfl (by simp only [pktPtuTableFree, table])⟩  -- PTU_TABLE_FREE

/-- Settles O43: the run of each packet is one delivery, but VAL_REPLAN, which waits for its re-plan. -/
theorem supervisorPacketsDo : Obligations.SupervisorPacketsDo := by
  rintro was _ sender hdr rfl
  exact ⟨fun begins => packet_done begins rfl rfl rfl,  -- VAL_INFO
    fun _ begins => packet_done begins rfl rfl rfl,  -- VAL_CONFIG
    fun begins => packet_done begins rfl rfl rfl,  -- VAL_THERMAL_EVAL
    fun begins => packet_done begins rfl rfl rfl,  -- VAL_THERMAL_READ
    fun begins => packet_waits begins rfl rfl,  -- VAL_REPLAN
    fun _ begins _ _ _ record => packet_done begins rfl rfl (by simp only [pktValRecordRead, record]),  -- VAL_RECORD_READ
    fun _ _ _ _ begins => packet_done begins rfl rfl rfl,  -- VAL_MON_CONFIG
    fun _ _ begins => packet_done begins rfl rfl rfl,  -- VAL_MON_START
    fun _ begins => packet_done begins rfl rfl rfl,  -- VAL_MON_READ
    fun begins => packet_done begins rfl rfl rfl⟩  -- VAL_SNAPSHOT

/-- Settles O44: INT_SAFE_ENTER waits while an entry is due or under way; INT_KEY_READ is split by whether a certificate or slot 2 is
read. -/
theorem integrityPacketsDo : Obligations.IntegrityPacketsDo := by
  rintro was _ sender hdr rfl
  exact ⟨fun begins => packet_done begins rfl rfl rfl,  -- INT_INFO
    fun _ begins _ record => packet_done begins rfl rfl (by simp only [pktIntFaultRead, record]),  -- INT_FAULT_READ
    fun _ begins => packet_done begins rfl rfl rfl,  -- INT_CLEAR
    fun begins entering => packet_waits begins rfl (if_pos entering),  -- INT_SAFE_ENTER
    fun begins standing => packet_both begins rfl rfl (if_neg standing),
    fun _ begins => packet_done begins rfl rfl rfl,  -- INT_INJECT
    fun _ _ _ begins certified => packet_done begins rfl rfl (if_pos certified),  -- INT_KEY_READ
    fun _ _ _ begins plain => packet_done begins rfl rfl (if_neg plain),
    fun _ begins _ _ drawn => packet_done begins rfl rfl (by simp only [pktIntAttest, drawn])⟩  -- INT_ATTEST

end Sys2Proof.Machine
end

section
/-!
SUPPORT. What the events of the control interface, the deal clock, the sensors, the pipeline, colour and statistics do.
-/
namespace Sys2Proof.Machine

/-- What a command leaves, from the outcome its dispatch in `exec` answers. -/
theorem event_leaves {c : Instr} {s e : State} (o : Out') (dispatch : exec c s = s.answer o) (leaves : o = .next e) : Leaves c s e :=
  dispatch.trans (answer_eq leaves)

/-- An event whose state is a case distinction leaves the first case where its condition holds. -/
theorem next_pos {c : Prop} [Decidable c] {a b : State} (h : c) : (Host.Outcome.next (if c then a else b) : Out') = .next a :=
  congrArg _ (if_pos h)

/-- An event whose state is a case distinction leaves the other case where its condition fails. -/
theorem next_neg {c : Prop} [Decidable c] {a b : State} (h : ¬c) : (Host.Outcome.next (if c then a else b) : Out') = .next b :=
  congrArg _ (if_neg h)

/-- A word that a function with a slot writes outside the mailbox is denied, written and denied, or written, as its register says. -/
theorem bar0Write_attached {pf : Fin 4} {addr bytes : Nat} {value : BitVec 32} {s : State} {n : Nat} (serves : s.barServes pf.val)
    (outside : ¬inMailbox addr) (aligned : ¬(bytes ≠ 4 ∨ addr % 4 ≠ 0 ∨ 0x10000000 ≤ addr))
    (attached : s.slotAt ⟨.pcie, pf.val⟩ = some n) :
    evBar0Write pf addr bytes value s = .next
      (if s.barStatus n addr value.toNat ≠ .DONE then s.barDenied pf.val addr
      else if s.barIgnored addr value.toNat then (s.writeReg n addr value.toNat).barDenied pf.val addr
      else s.writeReg n addr value.toNat) := by
  simp only [evBar0Write, if_neg (not_denied serves), if_neg outside, if_neg aligned, attached]

/-- A packet that neither launched nor waits in its slot's queue has nothing PACKET_EXEC could run (log 4). -/
theorem packetExec_faults {slot : Fin 8} {seq : BitVec 32} {s : State}
    (notLaunched : s.cpi.launched.find? (fun (d : Taken) => slotOf d.via == slot.val && d.seq == seq) = none)
    (notQueued : ((s.queue (87 + slot.val)).findSome? fun e => e.packet.filter fun d => slotOf d.via == slot.val && d.seq == seq) = none) :
    evPacketExec slot seq s = .fault .noLaunchedPacket := by
  simp only [evPacketExec, notLaunched, notQueued]

/-- Settles O45: the doorbells are split by whether the ring serves and the index is valid, BAR0_WRITE by where the write lands;
`packetExec_faults` is the one clause that ends in no state. -/
theorem controlEventsDo : Obligations.ControlEventsDo := by
  intro s
  exact ⟨fun _ => answer_eq rfl,  -- LEASE_EXPIRY
    fun _ _ _ unserved => answer_eq (next_pos unserved),  -- SQ_TAIL_DOORBELL
    fun slot index images served valid => event_leaves (evSqTailDoorbell slot index images s) rfl
      (by simp [evSqTailDoorbell, State.ringTail, served, valid]),
    fun slot index images served invalid => event_leaves (evSqTailDoorbell slot index images s) rfl
      (by simp [evSqTailDoorbell, State.ringTail, served, invalid]),
    fun _ _ unserved => answer_eq (next_pos unserved),  -- RQ_HEAD_ADVANCE
    fun slot index served valid => event_leaves (evRqHeadAdvance slot index s) rfl
      (by simp [evRqHeadAdvance, State.ringHead, served, valid]),
    fun slot index served invalid => event_leaves (evRqHeadAdvance slot index s) rfl
      (by simp [evRqHeadAdvance, State.ringHead, served, invalid]),
    fun _ => answer_eq rfl,  -- HELD_REPLY_WRITE
    fun _ serves => answer_eq (next_pos serves),  -- SPI_STATUS
    fun _ silent => answer_eq (next_neg silent),
    fun _ _ _ _ silent => answer_eq (next_pos silent),  -- BAR0_WRITE
    fun _ _ _ _ serves mailbox request => answer_eq ((next_neg (not_denied serves)).trans ((next_pos mailbox).trans (next_pos request))),
    fun _ _ _ _ serves mailbox reply => answer_eq ((next_neg (not_denied serves)).trans ((next_pos mailbox).trans (next_neg reply))),
    fun _ _ _ _ serves outside unaligned =>
      answer_eq ((next_neg (not_denied serves)).trans ((next_neg outside).trans (next_pos unaligned))),
    fun pf addr bytes value serves outside aligned detached =>
      event_leaves (evBar0Write pf addr bytes value s) rfl
        (by simp only [evBar0Write, if_neg (not_denied serves), if_neg outside, if_neg aligned, detached]),
    fun pf addr bytes value serves outside aligned _ attached passes heeded => event_leaves (evBar0Write pf addr bytes value s) rfl
      ((bar0Write_attached serves outside aligned attached).trans ((next_neg (not_not_intro passes)).trans (next_neg heeded))),
    fun pf addr bytes value serves outside aligned _ attached passes ignored => event_leaves (evBar0Write pf addr bytes value s) rfl
      ((bar0Write_attached serves outside aligned attached).trans ((next_neg (not_not_intro passes)).trans (next_pos ignored))),
    fun pf addr bytes value serves outside aligned _ attached fails => event_leaves (evBar0Write pf addr bytes value s) rfl
      ((bar0Write_attached serves outside aligned attached).trans (next_pos fails)),
    fun slot seq _ launched => event_leaves (evPacketExec slot seq s) rfl (by simp only [evPacketExec, launched]),  -- PACKET_EXEC
    fun slot seq _ notLaunched queued => event_leaves (evPacketExec slot seq s) rfl (by simp only [evPacketExec, notLaunched, queued]),
    fun _ _ notLaunched notQueued => congrArg s.answer (packetExec_faults notLaunched notQueued),
    fun ok absent => event_leaves (evFwCommitComplete ok s) rfl (by simp only [evFwCommitComplete, absent]),  -- FW_COMMIT_COMPLETE
    fun ok _ image loading => event_leaves (evFwCommitComplete ok s) rfl (by simp only [evFwCommitComplete, image, if_pos loading]),
    fun ok _ image committing =>
      event_leaves (evFwCommitComplete ok s) rfl (by simp only [evFwCommitComplete, image, if_neg (not_denied committing)])⟩

/-- Settles O46: each event looks at one condition of the clock, and SWITCH_DELAY_EXPIRY at the sources that are usable as well. -/
theorem dealClockEventsDo : Obligations.DealClockEventsDo := by
  intro s
  exact ⟨fun _ _ => answer_eq rfl,  -- DCK_PUSH
    fun _ _ _ other => answer_eq (next_pos other),  -- LOCK_GAINED
    fun _ _ _ acquiring => answer_eq (next_neg acquiring),
    fun unlocked => answer_eq (next_pos unlocked),  -- LOCK_LOST
    fun following => answer_eq (next_neg following),
    fun stays => answer_eq (next_pos stays),  -- SWITCH_DELAY_EXPIRY
    fun falls _ usable => event_leaves (evSwitchDelayExpiry s) rfl (by simp only [evSwitchDelayExpiry, if_neg falls, usable]),
    fun falls absent => event_leaves (evSwitchDelayExpiry s) rfl (by simp only [evSwitchDelayExpiry, if_neg falls, absent]),
    fun _ listed => answer_eq (next_pos listed),  -- SOURCE_RETURN
    fun _ unlisted => answer_eq (next_neg unlisted),
    fun _ within => answer_eq (next_pos within),  -- XCHK_WINDOW
    fun _ outside => answer_eq (next_neg outside),
    fun _ _ _ disabled => answer_eq (next_pos disabled),  -- LTC_FRAME_DECODED
    fun _ _ _ enabled => answer_eq (next_neg (not_denied enabled)),
    fun idle => answer_eq (next_pos idle),  -- LTC_LOSS
    fun live => answer_eq (next_neg live),
    fun idle => answer_eq (next_pos idle),  -- JAM_TIMEOUT
    fun jamming => answer_eq (next_neg jamming),
    answer_eq rfl,  -- TC_FRAME_BOUNDARY
    fun _ stopped => answer_eq (next_pos stopped),  -- DEAL_MISSED
    fun _ running => answer_eq (next_neg running),
    answer_eq rfl,  -- TC_JAM
    fun _ valid => answer_eq (next_pos valid),  -- TC_ANCHOR
    fun _ invalid => answer_eq (next_neg invalid),
    fun _ => answer_eq rfl,  -- PPS_PULSE
    fun _ => answer_eq rfl,  -- WCLK_START
    answer_eq rfl,  -- WCLK_STOP
    fun _ listed => answer_eq (next_pos listed),  -- SOURCE_PRESENT
    fun _ unlisted => answer_eq (next_neg unlisted)⟩

/-- A run on a bus that firmware has claimed, or with one run under way and one waiting, is dropped. -/
theorem scbRun_drops {bus : Fin 32} {list : Fin 16} {s : State}
    (dropped : s.scbClaimed bus.val ∨ (¬(s.scb bus.val).running.isNone ∧ ¬(s.scb bus.val).waitingList.isNone)) :
    evScbRun bus list s = .next (s.scbDrop bus.val) := by
  by_cases claimed : s.scbClaimed bus.val
  · exact next_pos claimed
  · obtain ⟨running, full⟩ := dropped.resolve_left claimed
    exact (next_neg claimed).trans ((next_neg running).trans (next_neg full))

/-- Settles O47: SCB_RUN follows its bus (claimed, idle, with room, full; the two ways to drop a run meet in `scbRun_drops`), the port
events the port's enable bit and its deskew. -/
theorem sensorEventsDo : Obligations.SensorEventsDo := by
  intro s
  exact ⟨fun _ => answer_eq rfl,  -- FRAME_START
    fun _ ready => answer_eq (next_pos ready),  -- CONTEXT_ENABLE
    fun _ unready => answer_eq (next_neg unready),
    fun _ => answer_eq rfl,  -- CONTEXT_DISABLE
    fun _ _ => answer_eq rfl,  -- EXPOSE_START
    fun _ _ => answer_eq rfl,  -- EXPOSE_END
    fun _ _ unclaimed idle => answer_eq ((next_neg unclaimed).trans (next_pos idle)),  -- SCB_RUN
    fun _ _ unclaimed running room => answer_eq ((next_neg unclaimed).trans ((next_neg running).trans (next_pos room))),
    fun bus list dropped => event_leaves (evScbRun bus list s) rfl (scbRun_drops dropped),
    fun _ _ _ _ => answer_eq rfl,  -- SCB_LIST_END
    fun _ _ _ => answer_eq rfl,  -- SCB_OP_TIMEOUT
    fun _ _ _ off => answer_eq (next_pos off),  -- PORT_LOCK
    fun _ _ _ on skewed => answer_eq ((next_neg (not_denied on)).trans (next_pos skewed)),
    fun _ _ _ on aligned => answer_eq ((next_neg (not_denied on)).trans (next_neg aligned)),
    fun _ _ _ _ off => answer_eq (next_pos off),  -- PORT_LOCK_LOST
    fun port deskew skew lanes on => event_leaves (evPortLockLost port deskew skew lanes s) rfl
      (by simp only [evPortLockLost, State.unlock, on]; rfl),
    fun _ => answer_eq rfl,  -- FRAME_START_MARKER
    fun _ _ => answer_eq rfl,  -- LINE_ARRIVAL
    fun _ receiving => answer_eq (next_pos receiving),  -- TRAILER
    fun _ idle => answer_eq (next_neg idle),
    fun _ => answer_eq rfl,  -- TRAILER_WAIT_EXPIRY
    fun _ latched => answer_eq (next_pos latched),  -- TRIG_WINDOW_EXPIRY
    fun _ unlatched => answer_eq (next_neg unlatched),
    fun ctx absent => event_leaves (evFrameLeavesColour ctx s) rfl (by simp only [evFrameLeavesColour, absent]),  -- FRAME_LEAVES_COLOUR
    fun ctx _ waiting early => event_leaves (evFrameLeavesColour ctx s) rfl (by simp only [evFrameLeavesColour, waiting, if_pos early]),
    fun ctx _ waiting whole => event_leaves (evFrameLeavesColour ctx s) rfl (by simp only [evFrameLeavesColour, waiting, if_neg whole])⟩

/-- Settles O48: a swap is made when its bank is ready, and the events of frames act on the first frame that waits. -/
theorem pipelineColourAndStatisticsEventsDo : Obligations.PipelineColourAndStatisticsEventsDo := by
  intro s
  exact ⟨fun _ => answer_eq rfl,  -- INLINE_SWITCH
    fun _ _ ready => answer_eq (next_pos ready),  -- PIPE_TABLE_SWAP
    fun _ _ unready => answer_eq (next_neg unready),
    fun _ _ ready => answer_eq (next_pos ready),  -- LOOK_SWAP
    fun _ _ unready => answer_eq (next_neg unready),
    fun _ _ ready => answer_eq (next_pos ready),  -- CAL_SWAP
    fun _ _ unready => answer_eq (next_neg unready),
    fun _ _ inRange => answer_eq (next_pos inRange),  -- STATS_CONFIG_SWAP
    fun _ _ outOfRange => answer_eq (next_neg outOfRange),
    answer_eq rfl,  -- PIPELINE_ARBITRATION
    fun ctx absent =>
      event_leaves (evFrameLeavesDemosaic ctx s) rfl (by simp only [evFrameLeavesDemosaic, absent]),  -- FRAME_LEAVES_DEMOSAIC
    fun ctx _ waiting => event_leaves (evFrameLeavesDemosaic ctx s) rfl (by simp only [evFrameLeavesDemosaic, waiting]),
    fun pipOk colOk absent => event_leaves (evKatPass pipOk colOk s) rfl (by simp only [evKatPass, absent]),  -- KAT_PASS
    fun pipOk colOk _ _ _ due passed => event_leaves (evKatPass pipOk colOk s) rfl (by simp only [evKatPass, due, if_pos passed]),
    fun pipOk colOk _ _ _ due failed => event_leaves (evKatPass pipOk colOk s) rfl (by simp only [evKatPass, due, if_neg failed]),
    fun ctx absent => event_leaves (evStatsPublish ctx s) rfl (by simp only [evStatsPublish, absent]),  -- STATS_PUBLISH
    fun ctx _ waiting held => event_leaves (evStatsPublish ctx s) rfl (by simp only [evStatsPublish, waiting, if_pos held]),
    fun ctx _ waiting publishes => event_leaves (evStatsPublish ctx s) rfl (by simp only [evStatsPublish, waiting, if_neg publishes])⟩

end Sys2Proof.Machine
end

section
/-!
SUPPORT. What the events of the engines, the codecs, recording, the media channel and memory do.
-/
namespace Sys2Proof.Machine

/-- A live kernel's result is rejected when its output is not configured, its frame is not the kernel's to answer, or it is too long. -/
theorem resultPublish_rejects {slot : Fin 32} {output input : Fin 4} {frame : Nat} {data : List Byte} {s : State} {e : Kernel}
    (kernel : s.kernel slot.val = some e) (alive : ¬((s.kState slot.val ≠ 3 ∧ s.kState slot.val ≠ 4) ∨ s.frozen))
    (rejected : tget e.outputs output.val = none ∨ e.deliveryOf input.val frame = none ∨
      (tget e.outputs output.val).any fun out => out.slotBytes < data.length) :
    evResultPublish slot output input frame data s = .next (s.rejectResult slot.val output.val) := by
  simp only [evResultPublish, kernel, if_neg alive]
  cases configured : tget e.outputs output.val with
  | none => rfl
  | some out =>
    cases delivered : e.deliveryOf input.val frame with
    | none => rfl
    | some d =>
      have long : out.slotBytes < data.length := by simpa [configured, delivered] using rejected
      exact next_pos long

section
variable {slot : Fin 32} {output input : Fin 4} {frame : Nat} {data : List Byte} {s : State} {e : Kernel} {out : KOutput} {d : Delivered}
  (kernel : s.kernel slot.val = some e) (alive : ¬((s.kState slot.val ≠ 3 ∧ s.kState slot.val ≠ 4) ∨ s.frozen))
  (configured : tget e.outputs output.val = some out) (delivered : e.deliveryOf input.val frame = some d)
  (fits : data.length ≤ out.slotBytes)
include kernel alive configured delivered fits

/-- A result for a frame whose trailer has not come waits until the frame closes. -/
theorem resultPublish_defers (pending : d.status = none) : evResultPublish slot output input frame data s =
    .next (s.setKernel slot.val { e with due := e.due ++ [⟨output.val, input.val, d.id, data⟩] }) := by
  simp only [evResultPublish, kernel, if_neg alive, configured, delivered, if_neg (Nat.not_lt.mpr fits)]
  exact next_pos (Option.isNone_iff_eq_none.mpr pending)

/-- A result for a closed frame is placed in its output's ring. -/
theorem resultPublish_places (closed : d.status ≠ none) :
    evResultPublish slot output input frame data s = .next (s.placeResult slot.val output.val out d data) := by
  simp only [evResultPublish, kernel, if_neg alive, configured, delivered, if_neg (Nat.not_lt.mpr fits)]
  exact next_neg (mt Option.isNone_iff_eq_none.mp closed)

end

/-- Settles O49: the kernel's state tells the cases apart; RESULT_PUBLISH of a kernel that is alive has the three cases above. -/
theorem engineEventsDo : Obligations.EngineEventsDo := by
  intro s
  exact ⟨fun handle unknown => event_leaves (evKernelStart handle s) rfl (by simp only [evKernelStart, unknown]),  -- KERNEL_START
    fun handle _ kernel sealed => event_leaves (evKernelStart handle s) rfl (by simp only [evKernelStart, kernel, if_pos sealed]),
    fun handle _ kernel unsealed => event_leaves (evKernelStart handle s) rfl (by simp only [evKernelStart, kernel, if_neg unsealed]),
    fun handle unknown => event_leaves (evKernelStop handle s) rfl (by simp only [evKernelStop, unknown]),  -- KERNEL_STOP
    fun handle _ kernel running => event_leaves (evKernelStop handle s) rfl (by simp only [evKernelStop, kernel, if_pos running]),
    fun handle _ kernel stopped => event_leaves (evKernelStop handle s) rfl (by simp only [evKernelStop, kernel, if_neg stopped]),
    fun slot output input frame data absent =>
      event_leaves (evResultPublish slot output input frame data s) rfl (by simp only [evResultPublish, absent]),  -- RESULT_PUBLISH
    fun slot output input frame data _ kernel barred =>
      event_leaves (evResultPublish slot output input frame data s) rfl (by simp only [evResultPublish, kernel, if_pos barred]),
    fun slot output input frame data _ kernel alive rejected => event_leaves (evResultPublish slot output input frame data s) rfl
      (resultPublish_rejects kernel alive rejected),
    fun slot output input frame data _ kernel alive _ _ configured delivered fits pending =>
      event_leaves (evResultPublish slot output input frame data s) rfl
        (resultPublish_defers kernel alive configured delivered fits pending),
    fun slot output input frame data _ kernel alive _ _ configured delivered fits closed =>
      event_leaves (evResultPublish slot output input frame data s) rfl
        (resultPublish_places kernel alive configured delivered fits closed),
    fun _ stopping => answer_eq (next_pos stopping),  -- KERNEL_DONE_WORD
    fun _ other => answer_eq (next_neg other),
    fun _ draining => answer_eq (next_pos draining),  -- DRAIN_EXPIRY
    fun _ undrained stopping => answer_eq ((next_neg undrained).trans (next_pos stopping)),
    fun _ undrained other => answer_eq ((next_neg undrained).trans (next_neg other)),
    fun _ _ _ _ _ idle => answer_eq (next_pos idle),  -- KERNEL_FAULT
    fun _ _ _ _ _ alive => answer_eq (next_neg alive),
    fun _ => answer_eq rfl,  -- KERNEL_DOORBELL
    fun _ _ _ idle => answer_eq (next_pos idle),  -- READ_COUNT_ADVANCE
    fun _ _ _ alive => answer_eq (next_neg (not_denied alive)),
    fun slot input absent => event_leaves (evFrameAcquire slot input s) rfl (by simp only [evFrameAcquire, absent]),  -- FRAME_ACQUIRE
    fun slot input _ attached barred =>
      event_leaves (evFrameAcquire slot input s) rfl (by simp only [evFrameAcquire, attached, if_pos barred]),
    fun slot input _ attached acquires =>
      event_leaves (evFrameAcquire slot input s) rfl (by simp only [evFrameAcquire, attached, if_neg acquires]),
    fun _ _ idle => answer_eq (next_pos idle),  -- FRAME_RELEASE
    fun _ _ alive => answer_eq (next_neg (not_denied alive))⟩

/-- A switch that names an unbound stream or an unknown codec context only raises the event. -/
theorem codecSwitch_unknown {stream : Fin 8} {handle : BitVec 32} {s : State}
    (unknown : s.bound stream.val = none ∨ s.codecOf handle.toNat = none) :
    evCodecSwitch stream handle s = .next (s.raise .MLS_EVT_NOT_READY) := by
  rcases unknown with unbound | unknown
  · simp [evCodecSwitch, unbound]
  · simp [evCodecSwitch, unknown]

/-- Settles O50: each event looks up the stream or codec it names and acts when there is something due. -/
theorem encoderEventsDo : Obligations.EncoderEventsDo := by
  intro s
  exact ⟨fun stream handle unknown => event_leaves (evCodecSwitch stream handle s) rfl (codecSwitch_unknown unknown),  -- CODEC_SWITCH
    fun stream handle _ _ bound codec => event_leaves (evCodecSwitch stream handle s) rfl (by simp only [evCodecSwitch, bound, codec]),
    fun stream unbound => event_leaves (evStreamStart stream s) rfl (by simp only [evStreamStart, unbound]),  -- STREAM_START
    fun stream _ bound running => event_leaves (evStreamStart stream s) rfl (by simp only [evStreamStart, bound, if_pos running]),
    fun stream _ bound stopped granted =>
      event_leaves (evStreamStart stream s) rfl (by simp only [evStreamStart, bound, if_neg stopped, if_pos granted]),
    fun stream _ bound stopped refused =>
      event_leaves (evStreamStart stream s) rfl (by simp only [evStreamStart, bound, if_neg stopped, if_neg refused]),
    fun _ stays => answer_eq (next_pos stays),  -- CONTEXT_SPILL
    fun _ spills room => answer_eq ((next_neg spills).trans (next_pos room)),
    fun idx spills full _ idle =>
      event_leaves (evContextSpill idx s) rfl (by simp only [evContextSpill, if_neg spills, if_neg full, idle]),
    fun idx spills full absent =>
      event_leaves (evContextSpill idx s) rfl (by simp only [evContextSpill, if_neg spills, if_neg full, absent]),
    fun idx absent => event_leaves (evPlanQueue idx s) rfl (by simp only [evPlanQueue, absent]),  -- PLAN_QUEUE
    fun idx _ _ _ due => event_leaves (evPlanQueue idx s) rfl (by simp only [evPlanQueue, due]),
    fun idx ok absent => event_leaves (evRoundTripCheck idx ok s) rfl (by simp only [evRoundTripCheck, absent]),  -- ROUND_TRIP_CHECK
    fun idx ok _ due => event_leaves (evRoundTripCheck idx ok s) rfl (by simp only [evRoundTripCheck, due]),
    fun _ _ passed => answer_eq (next_pos passed),  -- KNOWN_ANSWER_SLICE
    fun _ _ failed => answer_eq (next_neg failed)⟩

/-- Settles O51: only DEC_FRAME_HEADER has two cases: it is barred while the session stands still and within a frame. -/
theorem decoderEventsDo : Obligations.DecoderEventsDo := by
  intro s
  exact ⟨fun _ barred => answer_eq (next_pos (by simpa using barred)),  -- DEC_FRAME_HEADER
    fun _ running between => answer_eq (next_neg (by simp [running, between])),
    fun _ => answer_eq rfl,  -- DEC_SLOT_FREED
    fun _ => answer_eq rfl⟩  -- DEC_SLICE

/-- While records are frozen, and where the codec holds no frame ready, no frame record is published. -/
theorem frameRecordPublish_idle {idx : Fin 64} {s : State} (silent : s.frozen ∨ s.publishRec idx.val = none) :
    evFrameRecordPublish idx s = .next s := by
  by_cases frozen : s.frozen
  · exact next_pos frozen
  · simp only [evFrameRecordPublish, if_neg frozen, silent.resolve_left frozen]

/-- A labelled magazine on which no checkpoint can be read mounts as faulted. -/
theorem mount_faults {mag : Fin 4} {found : Option MountFound} {s : State} (mounting : s.magState mag.val = magMounting)
    (labelled : (found.elim (s.magz mag.val) (s.magz mag.val).found).label ≠ none)
    (lost : (found.elim (s.magz mag.val) (s.magz mag.val).found).newestCheckpoint = none) :
    evMount mag found s = .next ((s.setMag mag.val (found.elim (s.magz mag.val) (s.magz mag.val).found)).set .MED_M_STATE_STATE
      magFaulted mag.val) := by
  obtain ⟨_, label⟩ := Option.ne_none_iff_exists'.mp labelled
  simp only [evMount, if_neg (not_not_intro mounting), label, lost]

/-- Settles O52: takes and frames are looked up first; MOUNT follows the magazine's state, its label and its checkpoint in this order. -/
theorem recordingEventsDo : Obligations.RecordingEventsDo := by
  intro s
  exact ⟨fun _ unbound => answer_eq (next_pos unbound),  -- STREAM_STOP
    fun _ bound running => answer_eq ((next_neg bound).trans (next_pos running)),
    fun _ bound stopped => answer_eq ((next_neg bound).trans (next_neg stopped)),
    fun mag stream handle unknown =>
      event_leaves (evTakeStart mag stream handle s) rfl (by simp only [evTakeStart, unknown]),  -- TAKE_START
    fun mag stream handle _ take ready =>
      event_leaves (evTakeStart mag stream handle s) rfl (by simp only [evTakeStart, take, if_pos ready]),
    fun mag stream handle _ take unready =>
      event_leaves (evTakeStart mag stream handle s) rfl (by simp only [evTakeStart, take, if_neg unready]),
    fun mag stream unknown => event_leaves (evTakeStop mag stream s) rfl (by simp only [evTakeStop, unknown]),  -- TAKE_STOP
    fun mag stream _ take => event_leaves (evTakeStop mag stream s) rfl (by simp only [evTakeStop, take]),
    fun mag stream code unknown => event_leaves (evTakeMark mag stream code s) rfl (by simp only [evTakeMark, unknown]),  -- TAKE_MARK
    fun mag stream code _ take => event_leaves (evTakeMark mag stream code s) rfl (by simp only [evTakeMark, take]),
    fun _ barred => answer_eq (next_pos barred),  -- ENCODE_BOUNDARY
    fun idx allowed absent =>
      event_leaves (evEncodeBoundary idx s) rfl (by simp only [evEncodeBoundary, if_neg (not_denied allowed), absent]),
    fun idx allowed _ next =>
      event_leaves (evEncodeBoundary idx s) rfl (by simp only [evEncodeBoundary, if_neg (not_denied allowed), next]),
    fun _ => answer_eq rfl,  -- SLICE_EMIT
    fun idx silent => event_leaves (evFrameRecordPublish idx s) rfl (frameRecordPublish_idle silent),  -- FRAME_RECORD_PUBLISH
    fun idx running _ _ _ published =>
      event_leaves (evFrameRecordPublish idx s) rfl (by simp only [evFrameRecordPublish, if_neg running, published]),
    fun _ _ other => answer_eq (next_pos other),  -- MOUNT
    fun mag found mounting blank =>
      event_leaves (evMount mag found s) rfl (by simp only [evMount, if_neg (not_not_intro mounting), blank]),
    fun mag found mounting labelled lost => event_leaves (evMount mag found s) rfl (mount_faults mounting labelled lost),
    fun mag found mounting _ _ labelled checkpoint => event_leaves (evMount mag found s) rfl
      (by simp only [evMount, if_neg (not_not_intro mounting), labelled, checkpoint]; rfl),
    fun mag chan frame writes absent =>
      event_leaves (evStripeProgrammed mag chan frame s) rfl
        (by simp only [evStripeProgrammed, if_pos writes, absent]),  -- STRIPE_PROGRAMMED
    fun mag chan frame writes _ next =>
      event_leaves (evStripeProgrammed mag chan frame s) rfl (by simp only [evStripeProgrammed, if_pos writes, next]),
    fun mag chan frame marks absent =>
      event_leaves (evStripeProgrammed mag chan frame s) rfl (by simp only [evStripeProgrammed, if_neg marks, absent]),
    fun mag chan frame marks _ next =>
      event_leaves (evStripeProgrammed mag chan frame s) rfl (by simp only [evStripeProgrammed, if_neg marks, next]),
    fun _ empty => answer_eq (next_pos empty),  -- JOURNAL_PAGE_PROGRAMMED
    fun _ full => answer_eq (next_neg full),
    fun _ _ _ _ _ other => answer_eq (next_pos other),  -- PROGRAM_FAILURE
    fun _ _ _ _ _ ready retires => answer_eq ((next_neg (not_not_intro ready)).trans (next_pos retires)),
    fun _ _ _ _ _ ready replaces => answer_eq ((next_neg (not_not_intro ready)).trans (next_neg replaces)),
    answer_eq rfl,  -- FABRIC_CYCLE
    fun mag bad idle => event_leaves (evFormatComplete mag bad s) rfl (by simp only [evFormatComplete, idle]),  -- FORMAT_COMPLETE
    fun mag bad _ formatting => event_leaves (evFormatComplete mag bad s) rfl (by simp only [evFormatComplete, formatting])⟩

/-- Settles O53: each event looks up its task, which may be absent; the power-state events look then at what stands before it. -/
theorem mediaChannelEventsDo : Obligations.MediaChannelEventsDo := by
  intro s
  exact ⟨fun slot mag tag absent => event_leaves (evRead slot mag tag s) rfl (by simp only [evRead, absent]),  -- READ
    fun slot mag tag _ task => event_leaves (evRead slot mag tag s) rfl (by simp only [evRead, task]),
    fun slot mag tag data absent => event_leaves (evWrite slot mag tag data s) rfl (by simp only [evWrite, absent]),  -- WRITE
    fun slot mag tag data _ task => event_leaves (evWrite slot mag tag data s) rfl (by simp only [evWrite, task]),
    fun slot mag tag absent => event_leaves (evFlush slot mag tag s) rfl (by simp only [evFlush, absent]),  -- FLUSH
    fun slot mag tag _ task => event_leaves (evFlush slot mag tag s) rfl (by simp only [evFlush, task]),
    fun slot mag tag absent => event_leaves (evTrim slot mag tag s) rfl (by simp only [evTrim, absent]),  -- TRIM
    fun slot mag tag _ task => event_leaves (evTrim slot mag tag s) rfl (by simp only [evTrim, task]),
    fun slot mag tag absent => event_leaves (evIdentify slot mag tag s) rfl (by simp only [evIdentify, absent]),  -- IDENTIFY
    fun slot mag tag _ task => event_leaves (evIdentify slot mag tag s) rfl (by simp only [evIdentify, task]),
    fun slot mag tag absent => event_leaves (evPowerState slot mag tag s) rfl (by simp only [evPowerState, absent]),  -- POWER_STATE
    fun slot mag tag _ task behind => event_leaves (evPowerState slot mag tag s) rfl (by simp only [evPowerState, task, if_pos behind]),
    fun slot mag tag _ task first => event_leaves (evPowerState slot mag tag s) rfl
      (by simp only [evPowerState, task]; rw [if_neg first]),
    fun _ => answer_eq rfl,  -- TASK_ACCEPT
    fun slot mag tag absent => event_leaves (evTaskComplete slot mag tag s) rfl (by simp only [evTaskComplete, absent]),  -- TASK_COMPLETE
    fun slot mag tag _ task => event_leaves (evTaskComplete slot mag tag s) rfl (by simp only [evTaskComplete, task]),
    fun _ _ denied => answer_eq (next_pos denied),  -- QUEUE_RESET
    fun _ _ allowed => answer_eq (next_neg allowed),
    fun slot absent => event_leaves (evResetRecord slot s) rfl (by simp only [evResetRecord, absent]),  -- RESET_RECORD
    fun slot _ due => event_leaves (evResetRecord slot s) rfl (by simp only [evResetRecord, due]),
    fun mag absent => event_leaves (evPowerStateReached mag s) rfl (by simp only [evPowerStateReached, absent]),  -- POWER_STATE_REACHED
    fun mag _ task waits => event_leaves (evPowerStateReached mag s) rfl (by simp only [evPowerStateReached, task, if_pos waits]),
    fun mag _ task reached => event_leaves (evPowerStateReached mag s) rfl
      (by simp only [evPowerStateReached, task]; rw [if_neg reached])⟩

/-- A memory that is frozen or has failed takes no note of a patrol error that no code corrects. -/
theorem patrolScrub_stopped {addr syndrome : Nat} {result : Fin 3} {s : State} (uncorrected : result = 2)
    (stopped : s.memPhase = memFrozen ∨ s.memPhase = memFailed) : evPatrolScrub addr result syndrome s = .next s := by
  subst uncorrected
  have outside : s.memPhase ≠ memService := by rcases stopped with frozen | failed <;> simp [*, memFrozen, memFailed, memService]
  exact (next_neg outside).trans (next_pos stopped)

/-- Settles O54: PATROL_SCRUB follows its result and the memory's phase, HBM_FREEZE its cause and the phase, TRAINING_COMPLETE whether
every lane found its eye. -/
theorem memoryEventsDo : Obligations.MemoryEventsDo := by
  intro s
  exact ⟨fun _ busy => answer_eq (next_pos busy),  -- MARGIN_MEASURE
    fun _ idle => answer_eq (next_neg idle),
    fun _ _ idle => answer_eq (next_pos idle),  -- MARGIN_DONE
    fun stack widths measuring _ _ least => event_leaves (evMarginDone stack widths s) rfl
      (by simp only [evMarginDone, if_neg (not_denied measuring), least]),
    fun addr result syndrome kind =>
      event_leaves (evPatrolScrub addr result syndrome s) rfl (by simp [evPatrolScrub, kind]),  -- PATROL_SCRUB
    fun addr result syndrome kind => event_leaves (evPatrolScrub addr result syndrome s) rfl (by simp [evPatrolScrub, kind]),
    fun addr result syndrome kind serving =>
      event_leaves (evPatrolScrub addr result syndrome s) rfl (by simp only [evPatrolScrub, kind, if_pos serving]),
    fun addr result syndrome uncorrected stopped => event_leaves (evPatrolScrub addr result syndrome s) rfl
      (patrolScrub_stopped uncorrected stopped),
    fun addr result syndrome kind outside thawed working =>
      event_leaves (evPatrolScrub addr result syndrome s) rfl (by simp [evPatrolScrub, kind, outside, thawed, working]),
    fun _ _ _ _ ignored => answer_eq (next_pos ignored),  -- HBM_FREEZE
    fun _ _ _ _ heeded serving => answer_eq ((next_neg heeded).trans (next_pos serving)),
    fun _ _ _ _ heeded outside calibration => answer_eq ((next_neg heeded).trans ((next_neg outside).trans (next_pos calibration))),
    fun _ _ _ _ heeded outside other => answer_eq ((next_neg heeded).trans ((next_neg outside).trans (next_neg other))),
    fun _ _ idle => answer_eq (next_pos idle),  -- PARITY_REPLAY
    fun _ _ training => answer_eq (next_neg training),
    fun _ _ _ _ _ idle => answer_eq (next_pos idle),  -- TRAINING_COMPLETE
    fun ok sweeps0 sweeps1 again0 again1 _ training passed trained =>
      event_leaves (evTrainingComplete ok sweeps0 sweeps1 again0 again1 s) rfl
        (by simp only [evTrainingComplete, if_neg training, if_pos passed, trained]),
    fun ok sweeps0 sweeps1 again0 again1 training failed =>
      event_leaves (evTrainingComplete ok sweeps0 sweeps1 again0 again1 s) rfl
        (by rw [evTrainingComplete, if_neg training, ite_eq_right_iff.mpr failed]),
    fun _ idle => answer_eq (next_pos idle),  -- MEM_TEST_COMPLETE
    fun _ testing => answer_eq (next_neg (not_not_intro testing))⟩

end Sys2Proof.Machine
end

section
/-!
SUPPORT. What the events of the links, outputs, audio, the fabric, the position trigger, the supervisor, safe state, reset and the TAP do.
-/
namespace Sys2Proof.Machine

/-- Settles O55: the checks of the link's state, the cell's checksum and its content are followed in the order the event makes them. -/
theorem linkEventsDo : Obligations.LinkEventsDo := by
  intro s
  exact ⟨fun _ => answer_eq rfl,  -- FOM_SAMPLE
    fun _ _ allowed => answer_eq (next_pos allowed),  -- PRBS_START
    fun _ _ denied => answer_eq (next_neg denied),
    fun _ allowed => answer_eq (next_pos allowed),  -- PRBS_STOP
    fun _ denied => answer_eq (next_neg denied),
    fun _ _ _ other => answer_eq (next_pos other),  -- ALIGN_FOUND
    fun _ _ _ aligning missing => answer_eq ((next_neg (not_not_intro aligning)).trans (next_pos missing)),
    fun _ _ _ aligning locked skewed =>
      answer_eq ((next_neg (not_not_intro aligning)).trans ((next_neg (not_not_intro locked)).trans (next_pos skewed))),
    fun _ _ _ aligning locked aligned =>
      answer_eq ((next_neg (not_not_intro aligning)).trans ((next_neg (not_not_intro locked)).trans (next_neg aligned))),
    fun _ _ _ _ damaged talking => answer_eq ((next_pos damaged).trans (next_pos talking)),  -- DISCOVER_PAGE
    fun _ _ _ _ damaged silent => answer_eq ((next_pos damaged).trans (next_neg silent)),
    fun _ _ _ _ sound other => answer_eq ((next_neg (not_denied sound)).trans (next_pos other)),
    fun _ _ _ _ sound enumerating acknowledges =>
      answer_eq ((next_neg (not_denied sound)).trans ((next_neg (not_not_intro enumerating)).trans (next_pos acknowledges))),
    fun _ _ _ _ sound enumerating page =>
      answer_eq ((next_neg (not_denied sound)).trans ((next_neg (not_not_intro enumerating)).trans (next_neg page))),
    fun _ _ incomplete => answer_eq (next_pos incomplete),  -- ENUMERATION_COMPLETE
    fun _ _ complete => answer_eq (next_neg complete),
    fun _ repeats => answer_eq (next_pos repeats),  -- DISCOVER_REPEAT
    fun _ stays => answer_eq (next_neg stays),
    fun _ other => answer_eq (next_pos other),  -- LINK_RETRY
    fun _ down => answer_eq (next_neg (not_not_intro down)),
    fun _ => answer_eq rfl,  -- DRAXA_LINK_LOSS
    fun _ _ _ _ _ down => answer_eq (next_pos down),  -- DATA_CELL
    fun _ _ _ _ _ up damaged => answer_eq ((next_neg (not_not_intro up)).trans (next_pos damaged)),
    fun _ _ _ _ _ up sound fed => answer_eq ((next_neg (not_not_intro up)).trans ((next_neg (not_denied sound)).trans (next_pos fed))),
    fun _ _ _ _ _ up sound unfed =>
      answer_eq ((next_neg (not_not_intro up)).trans ((next_neg (not_denied sound)).trans (next_neg unfed))),
    fun _ _ _ down => answer_eq (next_pos down),  -- FLOW_CELL
    fun _ _ _ up damaged => answer_eq ((next_neg (not_not_intro up)).trans (next_pos damaged)),
    fun _ _ _ up sound => answer_eq ((next_neg (not_not_intro up)).trans (next_neg (not_denied sound))),
    fun _ _ _ _ down => answer_eq (next_pos down),  -- ECHO
    fun _ _ _ _ up answers => answer_eq ((next_neg up).trans (next_pos answers)),
    fun _ _ _ _ up asks => answer_eq ((next_neg up).trans (next_neg asks)),
    fun _ _ _ _ _ _ unserved up => answer_eq ((next_pos unserved).trans (next_pos up)),  -- CPI_SEG
    fun _ _ _ _ _ _ unserved down => answer_eq ((next_pos unserved).trans (next_neg down)),
    fun link channel first last index data served absent =>
      event_leaves (evCpiSeg link channel first last index data s) rfl (by simp only [evCpiSeg, if_neg served, absent]),
    fun link channel first last index data served _ _ pending broken =>
      event_leaves (evCpiSeg link channel first last index data s) rfl (by simp only [evCpiSeg, if_neg served, pending, if_pos broken]),
    fun link channel first last index data served _ _ pending follows more =>
      event_leaves (evCpiSeg link channel first last index data s) rfl
        (by simp only [evCpiSeg, pending, if_neg served, if_neg follows, if_pos more]),
    fun link channel first last index data served _ _ pending follows complete =>
      event_leaves (evCpiSeg link channel first last index data s) rfl
        (by simp only [evCpiSeg, pending, if_neg served, if_neg follows, if_neg (not_denied complete)]),
    fun _ _ _ other => answer_eq (next_pos other),  -- PCIE_CHANGE
    fun _ _ _ pcie => answer_eq (next_neg (not_not_intro pcie)),
    fun _ locking => answer_eq (next_pos locking),  -- LINK_SIGNAL_PRESENT
    fun _ other => answer_eq (next_neg other),
    fun _ _ off => answer_eq (next_pos off),  -- CELL_ALIGNMENT_LOSS
    fun _ _ up => answer_eq (next_neg up)⟩

/-- Settles O56: each event follows the state of its output, port or session; OUT_FRAME_START is early or due against the last reference
point. -/
theorem outputAndAudioEventsDo : Obligations.OutputAndAudioEventsDo := by
  intro s
  exact ⟨fun _ stopped => answer_eq (next_pos stopped),  -- OUT_FRAME_START
    fun out running _ last early =>
      event_leaves (evOutFrameStart out s) rfl (by simp only [evOutFrameStart, if_neg running, last, if_pos early]),
    fun out running _ last due =>
      event_leaves (evOutFrameStart out s) rfl (by simp only [evOutFrameStart, if_neg running, last, if_neg due]),
    fun out running first => event_leaves (evOutFrameStart out s) rfl (by simp only [evOutFrameStart, if_neg running, first]),
    fun out path => event_leaves (evOutSourceSwitch out path s) rfl rfl,  -- OUT_SOURCE_SWITCH
    fun _ other => answer_eq (next_pos other),  -- AUD_CLOCK_START
    fun _ stopped => answer_eq (next_neg (not_not_intro stopped)),
    fun _ other => answer_eq (next_pos other),  -- AUD_DATA_START
    fun _ clocked => answer_eq (next_neg (not_not_intro clocked)),
    fun _ other => answer_eq (next_pos other),  -- AUD_DATA_STOP
    fun _ running => answer_eq (next_neg (not_not_intro running)),
    fun _ other => answer_eq (next_pos other),  -- AUD_CLOCK_STOP
    fun _ clocked => answer_eq (next_neg (not_not_intro clocked)),
    fun session absent => event_leaves (evDecFramePublish session s) rfl (by simp only [evDecFramePublish, absent]),  -- DEC_FRAME_PUBLISH
    fun session _ ended _ _ published =>
      event_leaves (evDecFramePublish session s) rfl (by simp only [evDecFramePublish, ended, published]),
    fun session late _ _ published =>
      event_leaves (evDecFrameTimeout session s) rfl
        (by simp only [evDecFrameTimeout, if_neg (not_denied late), published]),  -- DEC_FRAME_TIMEOUT
    fun _ onTime => answer_eq (next_pos onTime),
    fun _ early => answer_eq (next_pos early),  -- OUTPUT_SELF_START
    fun _ due stops => answer_eq ((next_neg due).trans (next_pos stops)),
    fun _ due continues => answer_eq ((next_neg due).trans (next_neg continues)),
    fun out idle => event_leaves (evScalerFrameComplete out s) rfl (by simp only [evScalerFrameComplete, idle]),  -- SCALER_FRAME_COMPLETE
    fun out _ writing waits =>
      event_leaves (evScalerFrameComplete out s) rfl (by simp only [evScalerFrameComplete, writing, if_pos waits]),
    fun out _ writing complete =>
      event_leaves (evScalerFrameComplete out s) rfl (by simp only [evScalerFrameComplete, writing, if_neg complete]),
    fun _ _ ignored => answer_eq (next_pos ignored),  -- LATE_LINE
    fun _ _ late => answer_eq (next_neg late),
    fun _ _ => answer_eq rfl⟩  -- AUDIO_FRAME_SYNC

/-- Settles O57: most events are one effect of the model; the four with cases look at one condition each. -/
theorem fabricAndPositionEventsDo : Obligations.FabricAndPositionEventsDo := by
  intro s
  exact ⟨fun _ => answer_eq rfl,  -- EVENT_PULSE
    fun _ => answer_eq rfl,  -- CELL_RESET
    fun _ _ => answer_eq rfl,  -- TABLE_ARM
    fun _ => answer_eq rfl,  -- TABLE_DISARM
    fun _ _ => answer_eq rfl,  -- STROBE_FIRE
    fun _ _ ignored => answer_eq (next_pos ignored),  -- EVIO_INPUT_EDGE
    fun _ _ changes => answer_eq (next_neg changes),
    fun _ => answer_eq rfl,  -- FRAME_TRIGGER_TASK
    fun _ => answer_eq rfl,  -- TAKE_MARK_TASK
    fun _ => answer_eq rfl,  -- EVIO_OUTPUT_TASK
    fun _ => answer_eq rfl,  -- CELL_CLEAR_TASK
    fun _ _ flushing => answer_eq (next_pos flushing),  -- ENCODER_COUNT_CHANGE
    fun _ _ running => answer_eq (next_neg running),
    fun _ zeroes => answer_eq (next_pos zeroes),  -- INDEX_EDGE
    fun _ keeps => answer_eq (next_neg keeps),
    fun _ disabled => answer_eq (next_pos disabled),  -- STROBE_READBACK_MISS
    fun _ enabled => answer_eq (next_neg (not_denied enabled)),
    fun _ => answer_eq rfl⟩  -- QUADRATURE_ERROR

/-- Settles O58: each event looks at one condition of the supervisor at most. -/
theorem supervisorEventsDo : Obligations.SupervisorEventsDo := by
  intro s
  exact ⟨answer_eq rfl,  -- THERMAL_EVAL
    answer_eq rfl,  -- TELEMETRY_SNAPSHOT
    fun _ _ running => answer_eq (next_pos running),  -- MONITOR_WINDOW
    fun _ _ idle => answer_eq (next_neg idle),
    fun _ => answer_eq rfl,  -- TELEMETRY_SAMPLE
    fun _ => answer_eq rfl,  -- VIN_DROP
    answer_eq rfl,  -- POWER_FAIL_DECLARED
    fun _ declared => answer_eq (next_pos declared),  -- VIN_DIP
    fun _ undeclared => answer_eq (next_neg undeclared),
    answer_eq rfl,  -- HOLDUP_WINDOW_END
    fun _ => answer_eq rfl,  -- BANK_AT_40V
    answer_eq rfl,  -- HOLDUP_READY
    fun above => answer_eq (next_pos above),  -- CHARGE_TIMEOUT
    fun below => answer_eq (next_neg below),
    answer_eq rfl,  -- THERMAL_STALE
    answer_eq rfl,  -- FLUSH_EVALUATION
    fun absent => answer_eq (next_pos absent),  -- SHUTDOWN_RAILS_OFF
    fun due => answer_eq (next_neg due),
    fun _ _ _ _ _ idle => answer_eq (next_neg idle),  -- MARGIN_REPLAN
    fun _ _ _ _ _ recording => answer_eq (next_pos recording),
    fun due => answer_eq (next_pos due),  -- DEFERRED_REPLAN_START
    fun waits => answer_eq (next_neg waits),
    fun _ idle => answer_eq (next_pos idle),  -- MONITOR_WINDOW_END
    fun _ running => answer_eq (next_neg (not_denied running))⟩

/-- Settles O59: the events of safe state, reset and the TAP look at one condition at most; FAULT_RECORD looks for a mechanism that
reported. -/
theorem integrityResetAndTapEventsDo : Obligations.IntegrityResetAndTapEventsDo := by
  intro s
  exact ⟨fun restarts => answer_eq (next_pos restarts),  -- AUTO_RESTART
    fun stays => answer_eq (next_neg stays),
    answer_eq rfl,  -- SAFE_STATE_ENTRY
    fun code detail0 detail1 _ reported =>
      event_leaves (evFaultRecord code detail0 detail1 s) rfl (by simp only [evFaultRecord, reported]),  -- FAULT_RECORD
    fun code detail0 detail1 unreported =>
      event_leaves (evFaultRecord code detail0 detail1 s) rfl (by simp only [evFaultRecord, unreported]),
    answer_eq rfl,  -- SAFE_ENTRY_COMPLETE
    fun _ _ supervisor => answer_eq (next_pos supervisor),  -- LOCKSTEP_MISMATCH
    fun _ _ other => answer_eq (next_neg other),
    fun _ => answer_eq rfl,  -- WATCHDOG_TIMEOUT
    fun _ low => answer_eq (next_pos low),  -- START_UP
    fun _ high => answer_eq (next_neg high),
    answer_eq rfl,  -- RESET_N_ASSERT
    answer_eq rfl,  -- RESET_N_RELEASE
    answer_eq rfl,  -- RESET_PROPER
    answer_eq rfl,  -- BYPASS
    answer_eq rfl,  -- IDCODE
    fun _ loaded => answer_eq (next_pos loaded),  -- SAMPLE_PRELOAD
    fun _ bypassed => answer_eq (next_neg bypassed),
    answer_eq rfl,  -- EXTEST
    answer_eq rfl,  -- EXTEST_PULSE
    answer_eq rfl,  -- EXTEST_TRAIN
    answer_eq rfl,  -- CLAMP
    answer_eq rfl,  -- HIGHZ
    answer_eq rfl,  -- TRST_N_ASSERT
    fun powered => answer_eq (next_pos powered),  -- VALTU_BOOT
    fun unpowered => answer_eq (next_neg (not_denied unpowered))⟩

end Sys2Proof.Machine
end
